-- ==== Sys2Proof/Word.lean ====
section
/-! DEFINITION. The machine words of the Military Intel386 (spec/00_scope.md R14): a byte is 8 bits, a word
16 bits, a doubleword 32 bits, and bit 0 is the least significant. Plain names only: every operation on
them that a test could show wrong stands in Decode.lean or in Machine/. -/

namespace Sys2Proof

/-- A byte: 8 bits (R14). -/
abbrev Byte := BitVec 8

/-- A word: 16 bits (R14). -/
abbrev Word := BitVec 16

/-- A doubleword: 32 bits (R14). -/
abbrev Dword := BitVec 32

end Sys2Proof
end

