-- ==== Sys2Proof/Config.lean ====
section
/-! DEFINITION. What the spec leaves to the platform (spec/00_scope.md R12, spec/92_eei_decisions.md D2 to
D7) and the free values: constants without a body, of which nothing can be proved, so that what is proved
of the machine holds for every value of them (00_scope.md R18, "a draw, never a fixed constant"). -/

namespace Sys2Proof.Config

/-- The external numeric coprocessor: the parameter `COPROCESSOR` (R12, D4). -/
inductive Coprocessor where
  /-- no coprocessor is fitted -/
  | none
  /-- an M80287: 16-bit protocol, `CR0.ET` = 0 after reset -/
  | m80287
  /-- an M387: 32-bit protocol, `CR0.ET` = 1 after reset -/
  | m387
  deriving DecidableEq, Repr

/-- What answers at a range of physical addresses (R148, D6). -/
inductive RegionKind where
  /-- read/write memory -/
  | ram
  /-- memory that a write does not change -/
  | rom
  /-- a device: what a read takes is a free value, and a write is put on record -/
  | device
  deriving DecidableEq, Repr

/-- A range of physical addresses, both ends included. -/
structure Region where
  first : Nat
  last : Nat
  kind : RegionKind
  deriving DecidableEq, Repr

/-- The physical memory map (R12, D6): the first region that holds an address says what answers there; where none does,
nothing answers. -/
abbrev MemoryMap := List Region

/-- The memory map that `State.reset` assumes: 4 Gbyte of read/write memory (DESIGN CHOICE, log entry 4). State holds the
map as data, so a statement can speak of any other. -/
def memoryMap : MemoryMap := [{ first := 0, last := 0xFFFFFFFF, kind := .ram }]

/-- The parameters of the platform that a reset reads (R12). -/
structure Platform where
  /-- `STEPPING_ID`: what DL holds after reset (D2) -/
  steppingId : Byte
  /-- `SELFTEST_REQUESTED`: BUSY# was low at the falling edge of RESET (D3) -/
  selfTestRequested : Bool
  /-- `COPROCESSOR` (D4) -/
  coprocessor : Coprocessor
  deriving DecidableEq, Repr

/-- The platform that `State.reset` assumes: stepping 0 and no self-test, the defaults of D2 and D3, and an
M387 (DESIGN CHOICE, log entry 3). State holds the platform as data, so a statement can speak of any other. -/
def platform : Platform :=
  { steppingId := 0, selfTestRequested := false, coprocessor := .m387 }

/-- The free values: the `n`-th undefined value the machine draws (R18, 93_implementation_defined.md part A).
A flag or a narrower field takes low bits of a draw. -/
opaque freeValue : Nat → Dword

/-- A free choice: whether a translation is cached, and whether a cached one that hits is still held when it is looked up
(log entries 18 and 19): both are left open (20_memory.md R216). -/
opaque freeChoice : Nat → Bool

/-- What a read takes at an address where a device or nothing answers, as the memory's `epoch` counts the instructions
(R148, D6, U26; log entry 45). -/
opaque openByte : Nat → Nat → Byte

end Sys2Proof.Config
end

