-- ==== Sys2Proof/Syntax.lean ====
section
/-! DEFINITION. The instructions of the Military Intel386, one constructor for each row of the opcode table
(spec/opcode_table.json, the source's Table 8-1), and the operands they carry
(spec/30_encoding.md). A prefix byte is a row of its own: its constructor carries the instruction that the
prefix precedes. -/

namespace Sys2Proof

/-- The eight general registers, by the numbers of R270. In an 8-bit operation the numbers 0 to 7 name AL, CL,
DL, BL, AH, CH, DH, BH. -/
inductive Reg where
  | eax | ecx | edx | ebx | esp | ebp | esi | edi
  deriving DecidableEq, Repr

/-- The six segment registers, by the numbers of the `sreg3` field (R272). -/
inductive Seg where
  | es | cs | ss | ds | fs | gs
  deriving DecidableEq, Repr

/-- The control registers that `eee` can name (R288). -/
inductive CReg where
  | cr0 | cr2 | cr3
  deriving DecidableEq, Repr

/-- The debug registers that `eee` can name (R288). -/
inductive DReg where
  | dr0 | dr1 | dr2 | dr3 | dr6 | dr7
  deriving DecidableEq, Repr

/-- The test registers that `eee` can name (R288). -/
inductive TReg where
  | tr6 | tr7
  deriving DecidableEq, Repr

/-- The base and index registers of a 16-bit address, in the order of the r/m field (R275). -/
inductive Base16 where
  | bxSi | bxDi | bpSi | bpDi | si | di | bp | bx
  deriving DecidableEq, Repr

/-- The displacement after a 16-bit address: mod 00, 01, 10 (R275). -/
inductive Disp16 where
  | none
  | d8 (d : BitVec 8)
  | d16 (d : BitVec 16)
  deriving DecidableEq, Repr

/-- The displacement after a 32-bit address: mod 00, 01, 10 (R276, R277). -/
inductive Disp32 where
  | none
  | d8 (d : BitVec 8)
  | d32 (d : BitVec 32)
  deriving DecidableEq, Repr

/-- The scale factor `ss` of an index register (R278). -/
inductive Scale where
  | x1 | x2 | x4 | x8
  deriving DecidableEq, Repr

/-- A memory operand: the forms of the mod r/m and s-i-b bytes with mod 00, 01 or 10 (R275 to R278). -/
inductive Mem where
  /-- 16-bit addressing, mod 00 r/m 110: a displacement alone -/
  | direct16 (d : BitVec 16)
  /-- 16-bit addressing: base and index registers and a displacement -/
  | based16 (base : Base16) (disp : Disp16)
  /-- 32-bit addressing, mod 00 r/m 101: a displacement alone -/
  | direct32 (d : BitVec 32)
  /-- 32-bit addressing without s-i-b: a base register and a displacement -/
  | based32 (base : Reg) (disp : Disp32)
  /-- 32-bit addressing with s-i-b: base, scaled index (`none` is the index field 100) and displacement -/
  | sib (scale : Scale) (index : Option Reg) (base : Reg) (disp : Disp32)
  /-- 32-bit addressing with s-i-b, mod 00 base 101: scaled index and displacement without a base -/
  | sibDisp (scale : Scale) (index : Option Reg) (d : BitVec 32)
  deriving DecidableEq, Repr

/-- The operand of the mod and r/m fields: a general register (mod 11) or memory (R271, R275 to R277). -/
inductive RM where
  | reg (r : Reg)
  | mem (m : Mem)
  deriving DecidableEq, Repr

/-- Immediate data as it stands in the instruction: one, two or four bytes (R267, R282). -/
inductive Imm where
  | i8 (v : BitVec 8)
  | i16 (v : BitVec 16)
  | i32 (v : BitVec 32)
  deriving DecidableEq, Repr

/-- A full displacement or offset: 16 or 32 bits (R267). -/
inductive Full where
  | w16 (v : BitVec 16)
  | w32 (v : BitVec 32)
  deriving DecidableEq, Repr

/-- The operand of a direct intersegment transfer: an offset, then a selector (R267). -/
structure FarPtr where
  off : Full
  sel : BitVec 16
  deriving DecidableEq, Repr

/-- The instructions: one constructor for each row of spec/opcode_table.json: first the rows with
operand fields, in the table's order, then those without (Lean's runtime numbers at most 244 constructors that carry
fields, so these come first). The docstring of a constructor names the table's mnemonic, the bit pattern (Table 8-1) and the rule that gives its meaning. The
fields `d`, `w` and `s` are those of R281 to R283. -/
inductive Instr where
  /-- ADD, `000000dw mod reg r/m` (R430) -/
  | addRmReg (d w : Bool) (rm : RM) (r : Reg)
  /-- ADD, `100000sw mod 000 r/m imm` (R430) -/
  | addRmImm (s w : Bool) (rm : RM) (imm : Imm)
  /-- ADD, `0000010w imm` (R430) -/
  | addAccImm (w : Bool) (imm : Imm)
  /-- OR, `000010dw mod reg r/m` (R486) -/
  | orRmReg (d w : Bool) (rm : RM) (r : Reg)
  /-- OR, `100000sw mod 001 r/m imm` (R486) -/
  | orRmImm (s w : Bool) (rm : RM) (imm : Imm)
  /-- OR, `0000110w imm` (R486) -/
  | orAccImm (w : Bool) (imm : Imm)
  /-- ADC, `000100dw mod reg r/m` (R431) -/
  | adcRmReg (d w : Bool) (rm : RM) (r : Reg)
  /-- ADC, `100000sw mod 010 r/m imm` (R431) -/
  | adcRmImm (s w : Bool) (rm : RM) (imm : Imm)
  /-- ADC, `0001010w imm` (R431) -/
  | adcAccImm (w : Bool) (imm : Imm)
  /-- SBB, `000110dw mod reg r/m` (R434) -/
  | sbbRmReg (d w : Bool) (rm : RM) (r : Reg)
  /-- SBB, `100000sw mod 011 r/m imm` (R434) -/
  | sbbRmImm (s w : Bool) (rm : RM) (imm : Imm)
  /-- SBB, `0001110w imm` (R434) -/
  | sbbAccImm (w : Bool) (imm : Imm)
  /-- AND, `001000dw mod reg r/m` (R484) -/
  | andRmReg (d w : Bool) (rm : RM) (r : Reg)
  /-- AND, `100000sw mod 100 r/m imm` (R484) -/
  | andRmImm (s w : Bool) (rm : RM) (imm : Imm)
  /-- AND, `0010010w imm` (R484) -/
  | andAccImm (w : Bool) (imm : Imm)
  /-- SUB, `001010dw mod reg r/m` (R433) -/
  | subRmReg (d w : Bool) (rm : RM) (r : Reg)
  /-- SUB, `100000sw mod 101 r/m imm` (R433) -/
  | subRmImm (s w : Bool) (rm : RM) (imm : Imm)
  /-- SUB, `0010110w imm` (R433) -/
  | subAccImm (w : Bool) (imm : Imm)
  /-- XOR, `001100dw mod reg r/m` (R487) -/
  | xorRmReg (d w : Bool) (rm : RM) (r : Reg)
  /-- XOR, `100000sw mod 110 r/m imm` (R487) -/
  | xorRmImm (s w : Bool) (rm : RM) (imm : Imm)
  /-- XOR, `0011010w imm` (R487) -/
  | xorAccImm (w : Bool) (imm : Imm)
  /-- CMP, `001110dw mod reg r/m` (R436) -/
  | cmpRmReg (d w : Bool) (rm : RM) (r : Reg)
  /-- CMP, `100000sw mod 111 r/m imm` (R436) -/
  | cmpRmImm (s w : Bool) (rm : RM) (imm : Imm)
  /-- CMP, `0011110w imm` (R436) -/
  | cmpAccImm (w : Bool) (imm : Imm)
  /-- TEST, `1000010w mod reg r/m` (R485) -/
  | testRmReg (w : Bool) (rm : RM) (r : Reg)
  /-- TEST, `1111011w mod 000 r/m imm` (R485) -/
  | testRmImm (w : Bool) (rm : RM) (imm : Imm)
  /-- TEST, `1010100w imm` (R485) -/
  | testAccImm (w : Bool) (imm : Imm)
  /-- NOT, `1111011w mod 010 r/m` (R488) -/
  | notRm (w : Bool) (rm : RM)
  /-- NEG, `1111011w mod 011 r/m` (R437) -/
  | negRm (w : Bool) (rm : RM)
  /-- MUL, `1111011w mod 100 r/m` (R442) -/
  | mulRm (w : Bool) (rm : RM)
  /-- IMUL, `1111011w mod 101 r/m` (R443) -/
  | imulRm (w : Bool) (rm : RM)
  /-- IMUL, `00001111 10101111 mod reg r/m` (R444) -/
  | imulRegRm (r : Reg) (rm : RM)
  /-- IMUL, `011010s1 mod reg r/m imm` (R445) -/
  | imulRegRmImm (s : Bool) (r : Reg) (rm : RM) (imm : Imm)
  /-- DIV, `1111011w mod 110 r/m` (R446) -/
  | divRm (w : Bool) (rm : RM)
  /-- IDIV, `1111011w mod 111 r/m` (R447) -/
  | idivRm (w : Bool) (rm : RM)
  /-- INC, `1111111w mod 000 r/m` (R432) -/
  | incRm (w : Bool) (rm : RM)
  /-- INC, `01000 reg` (R432) -/
  | incReg (r : Reg)
  /-- DEC, `1111111w mod 001 r/m` (R435) -/
  | decRm (w : Bool) (rm : RM)
  /-- DEC, `01001 reg` (R435) -/
  | decReg (r : Reg)
  /-- MOV, `1000100w mod reg r/m` (R330) -/
  | movRmReg (w : Bool) (rm : RM) (r : Reg)
  /-- MOV, `1000101w mod reg r/m` (R330) -/
  | movRegRm (w : Bool) (r : Reg) (rm : RM)
  /-- MOV, `1100011w mod 000 r/m imm` (R331) -/
  | movRmImm (w : Bool) (rm : RM) (imm : Imm)
  /-- MOV, `1011 w reg imm` (R332) -/
  | movRegImm (w : Bool) (r : Reg) (imm : Imm)
  /-- MOV, `1010000w full displacement` (R333) -/
  | movAccMoffs (w : Bool) (off : Full)
  /-- MOV, `1010001w full displacement` (R333) -/
  | movMoffsAcc (w : Bool) (off : Full)
  /-- MOV, `10001110 mod sreg3 r/m` (R334) -/
  | movSegRm (sg : Seg) (rm : RM)
  /-- MOV, `10001100 mod sreg3 r/m` (R335) -/
  | movRmSeg (rm : RM) (sg : Seg)
  /-- MOVSX, `00001111 1011111w mod reg r/m` (R336) -/
  | movsx (w : Bool) (r : Reg) (rm : RM)
  /-- MOVZX, `00001111 1011011w mod reg r/m` (R337) -/
  | movzx (w : Bool) (r : Reg) (rm : RM)
  /-- PUSH, `11111111 mod 110 r/m` (R352) -/
  | pushRm (rm : RM)
  /-- PUSH, `01010 reg` (R352) -/
  | pushReg (r : Reg)
  /-- PUSH, `011010s0 imm` (R354) -/
  | pushImm (s : Bool) (imm : Imm)
  /-- PUSH, `000 sreg2 110` (R356) -/
  | pushSeg (sg : Seg)
  /-- POP, `10001111 mod 000 r/m` (R353) -/
  | popRm (rm : RM)
  /-- POP, `01011 reg` (R353) -/
  | popReg (r : Reg)
  /-- XCHG, `1000011w mod reg r/m` (R360) -/
  | xchgRmReg (w : Bool) (rm : RM) (r : Reg)
  /-- XCHG, `10010 reg` (reg 000 is `nop`) (R361) -/
  | xchgAcc (r : Reg)
  /-- IN, `1110010w port` (R364) -/
  | inImm (w : Bool) (port : BitVec 8)
  /-- IN, `1110110w` (R365) -/
  | inDx (w : Bool)
  /-- OUT, `1110011w port` (R366) -/
  | outImm (w : Bool) (port : BitVec 8)
  /-- OUT, `1110111w` (R367) -/
  | outDx (w : Bool)
  /-- LEA, `10001101 mod reg r/m` (R368) -/
  | lea (r : Reg) (m : Mem)
  /-- LDS, `11000101 mod reg r/m` (R380) -/
  | lds (r : Reg) (m : Mem)
  /-- LES, `11000100 mod reg r/m` (R381) -/
  | les (r : Reg) (m : Mem)
  /-- LFS, `00001111 10110100 mod reg r/m` (R382) -/
  | lfs (r : Reg) (m : Mem)
  /-- LGS, `00001111 10110101 mod reg r/m` (R383) -/
  | lgs (r : Reg) (m : Mem)
  /-- LSS, `00001111 10110010 mod reg r/m` (R384) -/
  | lss (r : Reg) (m : Mem)
  /-- ROL, `1101000w mod 000 r/m` (R471) -/
  | rolOne (w : Bool) (rm : RM)
  /-- ROL, `1101001w mod 000 r/m` (R471) -/
  | rolCl (w : Bool) (rm : RM)
  /-- ROL, `1100000w mod 000 r/m imm8` (R471) -/
  | rolImm (w : Bool) (rm : RM) (n : BitVec 8)
  /-- ROR, `1101000w mod 001 r/m` (R472) -/
  | rorOne (w : Bool) (rm : RM)
  /-- ROR, `1101001w mod 001 r/m` (R472) -/
  | rorCl (w : Bool) (rm : RM)
  /-- ROR, `1100000w mod 001 r/m imm8` (R472) -/
  | rorImm (w : Bool) (rm : RM) (n : BitVec 8)
  /-- RCL, `1101000w mod 010 r/m` (R473) -/
  | rclOne (w : Bool) (rm : RM)
  /-- RCL, `1101001w mod 010 r/m` (R473) -/
  | rclCl (w : Bool) (rm : RM)
  /-- RCL, `1100000w mod 010 r/m imm8` (R473) -/
  | rclImm (w : Bool) (rm : RM) (n : BitVec 8)
  /-- RCR, `1101000w mod 011 r/m` (R474) -/
  | rcrOne (w : Bool) (rm : RM)
  /-- RCR, `1101001w mod 011 r/m` (R474) -/
  | rcrCl (w : Bool) (rm : RM)
  /-- RCR, `1100000w mod 011 r/m imm8` (R474) -/
  | rcrImm (w : Bool) (rm : RM) (n : BitVec 8)
  /-- SHL_SAL, `1101000w mod 100 r/m` (R475) -/
  | shlOne (w : Bool) (rm : RM)
  /-- SHL_SAL, `1101001w mod 100 r/m` (R475) -/
  | shlCl (w : Bool) (rm : RM)
  /-- SHL_SAL, `1100000w mod 100 r/m imm8` (R475) -/
  | shlImm (w : Bool) (rm : RM) (n : BitVec 8)
  /-- SHR, `1101000w mod 101 r/m` (R476) -/
  | shrOne (w : Bool) (rm : RM)
  /-- SHR, `1101001w mod 101 r/m` (R476) -/
  | shrCl (w : Bool) (rm : RM)
  /-- SHR, `1100000w mod 101 r/m imm8` (R476) -/
  | shrImm (w : Bool) (rm : RM) (n : BitVec 8)
  /-- SAR, `1101000w mod 111 r/m` (R477) -/
  | sarOne (w : Bool) (rm : RM)
  /-- SAR, `1101001w mod 111 r/m` (R477) -/
  | sarCl (w : Bool) (rm : RM)
  /-- SAR, `1100000w mod 111 r/m imm8` (R477) -/
  | sarImm (w : Bool) (rm : RM) (n : BitVec 8)
  /-- SHLD, `00001111 10100100 mod reg r/m imm8` (R480) -/
  | shldImm (rm : RM) (r : Reg) (n : BitVec 8)
  /-- SHLD, `00001111 10100101 mod reg r/m` (R480) -/
  | shldCl (rm : RM) (r : Reg)
  /-- SHRD, `00001111 10101100 mod reg r/m imm8` (R481) -/
  | shrdImm (rm : RM) (r : Reg) (n : BitVec 8)
  /-- SHRD, `00001111 10101101 mod reg r/m` (R481) -/
  | shrdCl (rm : RM) (r : Reg)
  /-- CMPS, `1010011w` (R513) -/
  | cmps (w : Bool)
  /-- INS, `0110110w` (R514) -/
  | ins (w : Bool)
  /-- LODS, `1010110w` (R515) -/
  | lods (w : Bool)
  /-- MOVS, `1010010w` (R516) -/
  | movs (w : Bool)
  /-- OUTS, `0110111w` (R517) -/
  | outs (w : Bool)
  /-- SCAS, `1010111w` (R518) -/
  | scas (w : Bool)
  /-- STOS, `1010101w` (R519) -/
  | stos (w : Bool)
  /-- REP_INS, `11110011 0110110w` (R512) -/
  | repInsF3 (w : Bool)
  /-- REP_INS, `11110010 0110110w` (R512) -/
  | repInsF2 (w : Bool)
  /-- REP_LODS, `11110011 1010110w` (R512) -/
  | repLodsF3 (w : Bool)
  /-- REP_LODS, `11110010 1010110w` (R512) -/
  | repLodsF2 (w : Bool)
  /-- REP_MOVS, `11110011 1010010w` (R512) -/
  | repMovsF3 (w : Bool)
  /-- REP_MOVS, `11110010 1010010w` (R512) -/
  | repMovsF2 (w : Bool)
  /-- REP_OUTS, `11110011 0110111w` (R512) -/
  | repOutsF3 (w : Bool)
  /-- REP_OUTS, `11110010 0110111w` (R512) -/
  | repOutsF2 (w : Bool)
  /-- REP_STOS, `11110011 1010101w` (R512) -/
  | repStosF3 (w : Bool)
  /-- REP_STOS, `11110010 1010101w` (R512) -/
  | repStosF2 (w : Bool)
  /-- REPE_REPZ_CMPS, `11110011 1010011w` (R512) -/
  | repeCmps (w : Bool)
  /-- REPNE_REPNZ_CMPS, `11110010 1010011w` (R512) -/
  | repneCmps (w : Bool)
  /-- REPE_REPZ_SCAS, `11110011 1010111w` (R512) -/
  | repeScas (w : Bool)
  /-- REPNE_REPNZ_SCAS, `11110010 1010111w` (R512) -/
  | repneScas (w : Bool)
  /-- BSF, `00001111 10111100 mod reg r/m` (R540) -/
  | bsf (r : Reg) (rm : RM)
  /-- BSR, `00001111 10111101 mod reg r/m` (R541) -/
  | bsr (r : Reg) (rm : RM)
  /-- BT, `00001111 10111010 mod 100 r/m imm8` (R542) -/
  | btImm (rm : RM) (n : BitVec 8)
  /-- BT, `00001111 10100011 mod reg r/m` (R542) -/
  | btReg (rm : RM) (r : Reg)
  /-- BTC, `00001111 10111010 mod 111 r/m imm8` (R543) -/
  | btcImm (rm : RM) (n : BitVec 8)
  /-- BTC, `00001111 10111011 mod reg r/m` (R543) -/
  | btcReg (rm : RM) (r : Reg)
  /-- BTR, `00001111 10111010 mod 110 r/m imm8` (R544) -/
  | btrImm (rm : RM) (n : BitVec 8)
  /-- BTR, `00001111 10110011 mod reg r/m` (R544) -/
  | btrReg (rm : RM) (r : Reg)
  /-- BTS, `00001111 10111010 mod 101 r/m imm8` (R545) -/
  | btsImm (rm : RM) (n : BitVec 8)
  /-- BTS, `00001111 10101011 mod reg r/m` (R545) -/
  | btsReg (rm : RM) (r : Reg)
  /-- JMP, `11101011 disp8` (R562) -/
  | jmpShort (disp : BitVec 8)
  /-- JMP, `11101001 full displacement` (R563) -/
  | jmpNear (disp : Full)
  /-- JMP, `11111111 mod 100 r/m` (R564) -/
  | jmpRm (rm : RM)
  /-- JMP, `11101010 offset, selector` (R575) -/
  | jmpFar (p : FarPtr)
  /-- JMP, `11111111 mod 101 r/m` (R576) -/
  | jmpFarMem (m : Mem)
  /-- CALL, `11101000 full displacement` (R571) -/
  | callNear (disp : Full)
  /-- CALL, `11111111 mod 010 r/m` (R573) -/
  | callRm (rm : RM)
  /-- CALL, `10011010 offset, selector` (R577) -/
  | callFar (p : FarPtr)
  /-- CALL, `11111111 mod 011 r/m` (R578) -/
  | callFarMem (m : Mem)
  /-- RET, `11000010 imm16` (R572) -/
  | retNearImm (n : BitVec 16)
  /-- RET, `11001010 imm16` (R580) -/
  | retFarImm (n : BitVec 16)
  /-- JO, `01110000 disp8` (R566) -/
  | joShort (disp : BitVec 8)
  /-- JO, `00001111 10000000 full displacement` (R566) -/
  | joNear (disp : Full)
  /-- JNO, `01110001 disp8` (R566) -/
  | jnoShort (disp : BitVec 8)
  /-- JNO, `00001111 10000001 full displacement` (R566) -/
  | jnoNear (disp : Full)
  /-- JB_JNAE, `01110010 disp8` (R566) -/
  | jbShort (disp : BitVec 8)
  /-- JB_JNAE, `00001111 10000010 full displacement` (R566) -/
  | jbNear (disp : Full)
  /-- JNB_JAE, `01110011 disp8` (R566) -/
  | jnbShort (disp : BitVec 8)
  /-- JNB_JAE, `00001111 10000011 full displacement` (R566) -/
  | jnbNear (disp : Full)
  /-- JE_JZ, `01110100 disp8` (R566) -/
  | jeShort (disp : BitVec 8)
  /-- JE_JZ, `00001111 10000100 full displacement` (R566) -/
  | jeNear (disp : Full)
  /-- JNE_JNZ, `01110101 disp8` (R566) -/
  | jneShort (disp : BitVec 8)
  /-- JNE_JNZ, `00001111 10000101 full displacement` (R566) -/
  | jneNear (disp : Full)
  /-- JBE_JNA, `01110110 disp8` (R566) -/
  | jbeShort (disp : BitVec 8)
  /-- JBE_JNA, `00001111 10000110 full displacement` (R566) -/
  | jbeNear (disp : Full)
  /-- JNBE_JA, `01110111 disp8` (R566) -/
  | jnbeShort (disp : BitVec 8)
  /-- JNBE_JA, `00001111 10000111 full displacement` (R566) -/
  | jnbeNear (disp : Full)
  /-- JS, `01111000 disp8` (R566) -/
  | jsShort (disp : BitVec 8)
  /-- JS, `00001111 10001000 full displacement` (R566) -/
  | jsNear (disp : Full)
  /-- JNS, `01111001 disp8` (R566) -/
  | jnsShort (disp : BitVec 8)
  /-- JNS, `00001111 10001001 full displacement` (R566) -/
  | jnsNear (disp : Full)
  /-- JP_JPE, `01111010 disp8` (R566) -/
  | jpShort (disp : BitVec 8)
  /-- JP_JPE, `00001111 10001010 full displacement` (R566) -/
  | jpNear (disp : Full)
  /-- JNP_JPO, `01111011 disp8` (R566) -/
  | jnpShort (disp : BitVec 8)
  /-- JNP_JPO, `00001111 10001011 full displacement` (R566) -/
  | jnpNear (disp : Full)
  /-- JL_JNGE, `01111100 disp8` (R566) -/
  | jlShort (disp : BitVec 8)
  /-- JL_JNGE, `00001111 10001100 full displacement` (R566) -/
  | jlNear (disp : Full)
  /-- JNL_JGE, `01111101 disp8` (R566) -/
  | jnlShort (disp : BitVec 8)
  /-- JNL_JGE, `00001111 10001101 full displacement` (R566) -/
  | jnlNear (disp : Full)
  /-- JLE_JNG, `01111110 disp8` (R566) -/
  | jleShort (disp : BitVec 8)
  /-- JLE_JNG, `00001111 10001110 full displacement` (R566) -/
  | jleNear (disp : Full)
  /-- JNLE_JG, `01111111 disp8` (R566) -/
  | jnleShort (disp : BitVec 8)
  /-- JNLE_JG, `00001111 10001111 full displacement` (R566) -/
  | jnleNear (disp : Full)
  /-- SETO, `00001111 10010000 mod 000 r/m` (R620) -/
  | seto (rm : RM)
  /-- SETNO, `00001111 10010001 mod 000 r/m` (R620) -/
  | setno (rm : RM)
  /-- SETB_SETNAE, `00001111 10010010 mod 000 r/m` (R620) -/
  | setb (rm : RM)
  /-- SETNB_SETAE, `00001111 10010011 mod 000 r/m` (R620) -/
  | setnb (rm : RM)
  /-- SETE_SETZ, `00001111 10010100 mod 000 r/m` (R620) -/
  | sete (rm : RM)
  /-- SETNE_SETNZ, `00001111 10010101 mod 000 r/m` (R620) -/
  | setne (rm : RM)
  /-- SETBE_SETNA, `00001111 10010110 mod 000 r/m` (R620) -/
  | setbe (rm : RM)
  /-- SETNBE_SETA, `00001111 10010111 mod 000 r/m` (R620) -/
  | setnbe (rm : RM)
  /-- SETS, `00001111 10011000 mod 000 r/m` (R620) -/
  | sets (rm : RM)
  /-- SETNS, `00001111 10011001 mod 000 r/m` (R620) -/
  | setns (rm : RM)
  /-- SETP_SETPE, `00001111 10011010 mod 000 r/m` (R620) -/
  | setp (rm : RM)
  /-- SETNP_SETPO, `00001111 10011011 mod 000 r/m` (R620) -/
  | setnp (rm : RM)
  /-- SETL_SETNGE, `00001111 10011100 mod 000 r/m` (R620) -/
  | setl (rm : RM)
  /-- SETNL_SETGE, `00001111 10011101 mod 000 r/m` (R620) -/
  | setnl (rm : RM)
  /-- SETLE_SETNG, `00001111 10011110 mod 000 r/m` (R620) -/
  | setle (rm : RM)
  /-- SETNLE_SETG, `00001111 10011111 mod 000 r/m` (R620) -/
  | setnle (rm : RM)
  /-- JCXZ_JECXZ, `11100011 disp8` (R567) -/
  | jcxz (disp : BitVec 8)
  /-- LOOP, `11100010 disp8` (R568) -/
  | loop (disp : BitVec 8)
  /-- LOOPZ_LOOPE, `11100001 disp8` (R569) -/
  | loopz (disp : BitVec 8)
  /-- LOOPNZ_LOOPNE, `11100000 disp8` (R570) -/
  | loopnz (disp : BitVec 8)
  /-- ENTER, `11001000 imm16, level8` (R622) -/
  | enter (n : BitVec 16) (level : BitVec 8)
  /-- INT, `11001101 type` (R640) -/
  | int (n : BitVec 8)
  /-- BOUND, `01100010 mod reg r/m` (R646) -/
  | bound (r : Reg) (m : Mem)
  /-- MOV, `00001111 00100010 11 eee reg` (R664) -/
  | movCrReg (x : CReg) (r : Reg)
  /-- MOV, `00001111 00100000 11 eee reg` (R665) -/
  | movRegCr (r : Reg) (x : CReg)
  /-- MOV, `00001111 00100011 11 eee reg` (R667) -/
  | movDrReg (x : DReg) (r : Reg)
  /-- MOV, `00001111 00100001 11 eee reg` (R668) -/
  | movRegDr (r : Reg) (x : DReg)
  /-- MOV, `00001111 00100110 11 eee reg` (R669) -/
  | movTrReg (x : TReg) (r : Reg)
  /-- MOV, `00001111 00100100 11 eee reg` (R670) -/
  | movRegTr (r : Reg) (x : TReg)
  /-- ESC, `11011TTT mod LLL r/m` (R676) -/
  | esc (op sub : BitVec 3) (rm : RM)
  /-- ARPL, `01100011 mod reg r/m` (R690) -/
  | arpl (rm : RM) (r : Reg)
  /-- LAR, `00001111 00000010 mod reg r/m` (R691) -/
  | lar (r : Reg) (rm : RM)
  /-- LSL, `00001111 00000011 mod reg r/m` (R696) -/
  | lsl (r : Reg) (rm : RM)
  /-- SLDT, `00001111 00000000 mod 000 r/m` (R704) -/
  | sldt (rm : RM)
  /-- STR, `00001111 00000000 mod 001 r/m` (R706) -/
  | str (rm : RM)
  /-- LLDT, `00001111 00000000 mod 010 r/m` (R694) -/
  | lldt (rm : RM)
  /-- LTR, `00001111 00000000 mod 011 r/m` (R697) -/
  | ltr (rm : RM)
  /-- VERR, `00001111 00000000 mod 100 r/m` (R707) -/
  | verr (rm : RM)
  /-- VERW, `00001111 00000000 mod 101 r/m` (R708) -/
  | verw (rm : RM)
  /-- SGDT, `00001111 00000001 mod 000 r/m` (R702) -/
  | sgdt (m : Mem)
  /-- SIDT, `00001111 00000001 mod 001 r/m` (R703) -/
  | sidt (m : Mem)
  /-- LGDT, `00001111 00000001 mod 010 r/m` (R692) -/
  | lgdt (m : Mem)
  /-- LIDT, `00001111 00000001 mod 011 r/m` (R693) -/
  | lidt (m : Mem)
  /-- SMSW, `00001111 00000001 mod 100 r/m` (R705) -/
  | smsw (rm : RM)
  /-- LMSW, `00001111 00000001 mod 110 r/m` (R695) -/
  | lmsw (rm : RM)
  /-- CS:, `00101110` and the instruction it precedes (R252) -/
  | csPrefix (inner : Instr)
  /-- DS:, `00111110` and the instruction it precedes (R252) -/
  | dsPrefix (inner : Instr)
  /-- ES:, `00100110` and the instruction it precedes (R252) -/
  | esPrefix (inner : Instr)
  /-- FS:, `01100100` and the instruction it precedes (R252) -/
  | fsPrefix (inner : Instr)
  /-- GS:, `01100101` and the instruction it precedes (R252) -/
  | gsPrefix (inner : Instr)
  /-- SS:, `00110110` and the instruction it precedes (R252) -/
  | ssPrefix (inner : Instr)
  /-- operand_size_prefix, `01100110` and the instruction it precedes (R252) -/
  | opSizePrefix (inner : Instr)
  /-- address_size_prefix, `01100111` and the instruction it precedes (R252) -/
  | addrSizePrefix (inner : Instr)
  /-- LOCK, `11110000` and the instruction it precedes (R252) -/
  | lockPrefix (inner : Instr)
  /-- REP_REPE_REPZ, `11110011` and the instruction it precedes, which is no bare string instruction (those are the REP rows) (R252) -/
  | repPrefix (inner : Instr)
  /-- REPNE_REPNZ, `11110010` and the instruction it precedes, which is no bare string instruction (those are the REP rows) (R252) -/
  | repnePrefix (inner : Instr)
  /-- AAA, `00110111` (R438) -/
  | aaa
  /-- AAS, `00111111` (R439) -/
  | aas
  /-- DAA, `00100111` (R440) -/
  | daa
  /-- DAS, `00101111` (R441) -/
  | das
  /-- AAD, `11010101 00001010` (R450) -/
  | aad
  /-- AAM, `11010100 00001010` (R451) -/
  | aam
  /-- CBW_CWDE, `10011000` (R452) -/
  | cbw
  /-- CWD_CDQ, `10011001` (R453) -/
  | cwd
  /-- PUSH, `00001111 10100000` (R356) -/
  | pushFs
  /-- PUSH, `00001111 10101000` (R356) -/
  | pushGs
  /-- POP, `00000111` (R357) -/
  | popEs
  /-- POP, `00010111` (R357) -/
  | popSs
  /-- POP, `00011111` (R357) -/
  | popDs
  /-- POP, `00001111 10100001` (R357) -/
  | popFs
  /-- POP, `00001111 10101001` (R357) -/
  | popGs
  /-- PUSHA_PUSHAD, `01100000` (R358) -/
  | pusha
  /-- POPA_POPAD, `01100001` (R359) -/
  | popa
  /-- CLC, `11111000` (R385) -/
  | clc
  /-- CLD, `11111100` (R386) -/
  | cld
  /-- CLI, `11111010` (R387) -/
  | cli
  /-- CMC, `11110101` (R389) -/
  | cmc
  /-- LAHF, `10011111` (R390) -/
  | lahf
  /-- PUSHF_PUSHFD, `10011100` (R391) -/
  | pushf
  /-- POPF_POPFD, `10011101` (R392) -/
  | popf
  /-- SAHF, `10011110` (R393) -/
  | sahf
  /-- STC, `11111001` (R394) -/
  | stc
  /-- STD, `11111101` (R395) -/
  | std
  /-- STI, `11111011` (R396) -/
  | sti
  /-- CLTS, `00001111 00000110` (R388) -/
  | clts
  /-- XLAT, `11010111` (R520) -/
  | xlat
  /-- RET, `11000011` (R572) -/
  | retNear
  /-- RET, `11001011` (R580) -/
  | retFar
  /-- LEAVE, `11001001` (R623) -/
  | leave
  /-- INT_3, `11001100` (R641) -/
  | int3
  /-- INTO, `11001110` (R642) -/
  | into
  /-- IRET_IRETD, `11001111` (R648) -/
  | iret
  /-- HLT, `11110100` (R660) -/
  | hlt
  /-- NOP, `10010000` (R672) -/
  | nop
  /-- WAIT, `10011011` (R673) -/
  | wait
  deriving DecidableEq, Repr

end Sys2Proof
end

