-- ==== Sys2Proof/Machine/State.lean ====
section
/-! DEFINITION. The state of the Military Intel386 as plain data (spec/10_state.md), the reasons a step can stop,
and the state after reset (spec/10_state.md R100 to R106). Every field names the rule that gives it; the fields
that are the model's own say so. -/

namespace Sys2Proof.Machine

open Sys2Proof.Config (Platform Coprocessor MemoryMap)

/-- The eight general registers (R31). -/
structure Regs where
  eax : Dword
  ecx : Dword
  edx : Dword
  ebx : Dword
  esp : Dword
  ebp : Dword
  esi : Dword
  edi : Dword
  deriving DecidableEq, Repr

/-- The defined bits of EFLAGS (R38). The reserved bits hold no state: bit 1 reads 1, bits 3, 5, 15 and 31:18 read
0 and writes to them are ignored (R39). -/
structure Flags where
  /-- bit 0, carry -/
  cf : Bool
  /-- bit 2, parity -/
  pf : Bool
  /-- bit 4, auxiliary carry -/
  af : Bool
  /-- bit 6, zero -/
  zf : Bool
  /-- bit 7, sign -/
  sf : Bool
  /-- bit 8, trap enable -/
  tf : Bool
  /-- bit 9, INTR enable (IF) -/
  ie : Bool
  /-- bit 10, direction -/
  df : Bool
  /-- bit 11, overflow (OF) -/
  ov : Bool
  /-- bits 13:12, I/O privilege level -/
  iopl : BitVec 2
  /-- bit 14, nested task -/
  nt : Bool
  /-- bit 16, resume -/
  rf : Bool
  /-- bit 17, virtual M8086 mode -/
  vm : Bool
  deriving DecidableEq, Repr

/-- The attributes of a descriptor as a descriptor register keeps them (R48, R172, R173, R176). -/
structure Attr where
  /-- present -/
  p : Bool
  /-- descriptor privilege level -/
  dpl : BitVec 2
  /-- 1: code or data segment; 0: system segment or gate -/
  s : Bool
  /-- byte 5 bits 3:0: E, ED/C, W/R, A of a code or data segment (R173); the type of a system descriptor (R176) -/
  typ : BitVec 4
  /-- granularity (R174) -/
  g : Bool
  /-- the D bit of code, the B bit of a stack or data segment (R175) -/
  db : Bool
  deriving DecidableEq, Repr

/-- A segment register: the visible selector and its descriptor register (R47, R48). -/
structure SegReg where
  sel : Word
  base : Dword
  /-- byte granular, already scaled (R48) -/
  limit : Dword
  attr : Attr
  /-- false after a null selector was loaded in protected mode (R48) -/
  valid : Bool
  deriving DecidableEq, Repr

/-- The six segment registers (R47). -/
structure SegRegs where
  es : SegReg
  cs : SegReg
  ss : SegReg
  ds : SegReg
  fs : SegReg
  gs : SegReg
  deriving DecidableEq, Repr

/-- GDTR or IDTR: a linear base and a 16-bit limit (R58). -/
structure TableReg where
  base : Dword
  limit : Word
  deriving DecidableEq, Repr

/-- The control and system address registers (R51 to R59) and the current privilege level (R65, R840). -/
structure SysRegs where
  /-- all 32 bits; the reserved ones are stored and read back (R53) -/
  cr0 : Dword
  /-- page-fault linear address (R56) -/
  cr2 : Dword
  /-- page-directory base; bits 11:0 are stored as 0 (R57) -/
  cr3 : Dword
  gdtr : TableReg
  idtr : TableReg
  ldtr : SegReg
  tr : SegReg
  cpl : BitVec 2
  deriving DecidableEq, Repr

/-- The debug registers (R60 to R63). -/
structure DebugRegs where
  dr0 : Dword
  dr1 : Dword
  dr2 : Dword
  dr3 : Dword
  dr6 : Dword
  dr7 : Dword
  deriving DecidableEq, Repr

/-- One entry of the TLB (R65, R216). -/
structure TlbEntry where
  /-- V -/
  valid : Bool
  /-- linear address bits 31:12 -/
  tag : BitVec 20
  /-- physical address bits 31:12 -/
  phys : BitVec 20
  /-- D -/
  dirty : Bool
  /-- U: level 3 may use the page -/
  user : Bool
  /-- W: level 3 may write the page -/
  writable : Bool
  deriving DecidableEq, Repr

/-- The paging unit: the TLB, 32 entries of which entry `4 * set + way` is way `way` of set `set` (R216), and the
test registers (R64). -/
structure PagingUnit where
  tlb : List TlbEntry
  tr6 : Dword
  tr7 : Dword
  deriving DecidableEq, Repr

/-- The interrupt inhibit for one instruction (R65, R735). -/
inductive Inhibit where
  | off
  /-- after STI: no INTR at the next boundary -/
  | intr
  /-- after MOV SS and POP SS: no INTR, NMI or debug trap at the next boundary -/
  | all
  deriving DecidableEq, Repr

/-- Running, halted (R850) or shut down (R854). -/
inductive Activity where
  | running
  | halted
  | shutdown
  deriving DecidableEq, Repr

/-- Whether the instruction at CS:EIP has begun: in the interrupt window of a REP string instruction (R512), or
waiting for the coprocessor (R673, R814). -/
inductive Begun where
  | no
  | rep
  | wait
  deriving DecidableEq, Repr

/-- The debug traps that the instruction just completed has raised and that no delivery has reported (R741 step 1). -/
structure DebugTraps where
  /-- breakpoint conditions B3..B0 (R822) -/
  b : BitVec 4
  /-- single step (R824) -/
  bs : Bool
  /-- task switch into a task with T = 1 (R825) -/
  bt : Bool
  deriving DecidableEq, Repr

/-- What the processor remembers of interrupts and debug events between instructions (R65, R733, R735, R850). -/
structure Events where
  /-- one remembered rising edge on NMI; the outside world sets it (R733) -/
  nmiPending : Bool
  nmiInService : Bool
  inhibit : Inhibit
  activity : Activity
  begun : Begun
  /-- the instruction that has begun, as it was decoded, and its length: it goes on without being fetched again (R512,
  D22) -/
  held : Option (Instr × Nat)
  traps : DebugTraps
  deriving DecidableEq, Repr

/-- What a reset leaves in the registers, and in the parts of registers, that the spec calls undefined: the parameter
`UNDEF_RESET` (R12, R100, D5). Of `regs` EAX counts without a self-test alone, and of EDX the upper half; of `cr0` bits
30:5; of `cr3` bits 31:12; of DR7 bits 31:14 and 12:10. -/
structure UndefReset where
  regs : Regs
  cr0 : Dword
  cr2 : Dword
  cr3 : Dword
  gdtr : TableReg
  ldtr : SegReg
  tr : SegReg
  dregs : DebugRegs
  tr6 : Dword
  tr7 : Dword
  deriving DecidableEq, Repr

/-- One operand transfer that the coprocessor requests by PEREQ (R811): a doubleword if `wide`, else a word. -/
inductive OperandRequest where
  /-- memory to coprocessor -/
  | fromMemory (wide : Bool)
  /-- coprocessor to memory: what it sends -/
  | toMemory (wide : Bool) (v : Dword)
  deriving DecidableEq, Repr

/-- The inputs of the processor: the pins and the agents behind them (R13, R65, R730). The model's own field: the
outside world sets it between steps; of it the processor changes only `requests`. -/
structure External where
  /-- RESET is asserted (R856, R860) -/
  reset : Bool
  /-- the INTR level (R731) -/
  intr : Bool
  /-- the vector that the interrupt controller answers an acknowledge with (R731) -/
  intVector : Byte
  /-- BUSY# asserted (R814) -/
  busy : Bool
  /-- ERROR# asserted (R813) -/
  error : Bool
  /-- the operand transfers for which the coprocessor will assert PEREQ during its next opcode (R811) -/
  requests : List OperandRequest
  platform : Platform
  undefReset : UndefReset
  deriving DecidableEq, Repr

/-- What the processor puts on the bus besides memory cycles (R893, D1, D7). -/
inductive BusEvent where
  /-- an I/O read of `bytes` bytes that took the value -/
  | ioRead (port : Word) (bytes : Nat) (v : Dword)
  | ioWrite (port : Word) (bytes : Nat) (v : Dword)
  /-- the two interrupt acknowledge cycles (R731) -/
  | intAck (vector : Byte)
  /-- the halt indication cycle (R893) -/
  | haltIndication
  /-- the shutdown indication cycle (R893) -/
  | shutdownIndication
  /-- a write of the opcode register 800000F8h (R811): bits 10:0 of the ESC opcode, and the segment and offset of its
  memory operand (R676) -/
  | coprocOpcode (v : BitVec 11) (operand : Option (Seg × Dword))
  /-- a write of the operand register 800000FCh (R811) -/
  | coprocWrite (bytes : Nat) (v : Dword)
  /-- a read of the operand register 800000FCh (R811) -/
  | coprocRead (bytes : Nat) (v : Dword)
  deriving DecidableEq, Repr

/-- The repeat prefix in effect (R512). -/
inductive Rep where
  | off
  /-- F3h -/
  | rep
  /-- F2h -/
  | repne
  deriving DecidableEq, Repr

/-- How an instruction ends, as far as it has run. -/
inductive Ending where
  /-- it completes -/
  | completed
  /-- it completes and has loaded RF from an image (R41) -/
  | rfLoaded
  /-- it stops between two iterations or while it waits (R512, R673) -/
  | unfinished (b : Begun)
  /-- it ends in the delivery of an interrupt or exception (R824) -/
  | vectored
  deriving DecidableEq, Repr

/-- The instruction in progress: what its prefixes say and what it has found out. The model's own field; between
instructions it is `Context.idle`. -/
structure Context where
  /-- the segment override (R252, R280) -/
  seg : Option Seg
  /-- the full operand size is 32 bits (R262) -/
  op32 : Bool
  /-- the address size is 32 bits (R263) -/
  addr32 : Bool
  rep : Rep
  /-- where execution goes on after the instruction: `next_eip` (R36) until a transfer changes it -/
  nextEip : Dword
  ending : Ending
  /-- the inhibit that this instruction sets (R735) -/
  inhibitNext : Inhibit
  /-- the instruction as it was decoded, and its length -/
  code : Option (Instr × Nat)
  deriving DecidableEq, Repr

/-- The context between instructions. -/
def Context.idle : Context :=
  { seg := none, op32 := false, addr32 := false, rep := .off, nextEip := 0,
    ending := .completed, inhibitNext := .off, code := none }

/-- Physical memory (R133, R148): what its addresses hold, and what answers at them. -/
structure Memory where
  /-- what read/write and read-only memory hold: addresses rise strictly, and no entry holds the 0 that an unlisted address
  reads as -/
  cells : List Host.Cell
  /-- what answers at each address (D6) -/
  map : MemoryMap
  /-- the bytes written to devices, the latest first (the model's own) -/
  posted : List Host.Cell
  /-- how many instructions have begun: what a read takes where a device or nothing answers depends on it (the model's
  own) -/
  epoch : Nat
  deriving DecidableEq, Repr

/-- The state of the machine. -/
structure State where
  regs : Regs
  /-- the offset of the next instruction (R35) -/
  eip : Dword
  flags : Flags
  segs : SegRegs
  sys : SysRegs
  dregs : DebugRegs
  paging : PagingUnit
  events : Events
  ext : External
  /-- the instruction in progress (the model's own) -/
  ctx : Context
  /-- what the processor has put on the bus, the latest first (the model's own) -/
  bus : List BusEvent
  /-- how many free values have been drawn (the model's own) -/
  draws : Nat
  mem : Memory
  deriving DecidableEq, Repr

/-- The machine stops with a fault. -/
inductive Fault where
  /-- A word or doubleword I/O access whose ports run past FFFFh, raised by IN, OUT, INS and OUTS: the spec says
  nothing of what happens and puts the access outside the model (40_data_transfer.md R367, D8, U51). Safe: the
  model stops where the hardware goes on. -/
  | ioPortWrap
  deriving DecidableEq, Repr

/-- The machine has no meaning for an instruction. -/
inductive Refusal where
  /-- An instruction whose meaning is not written, raised by `exec` alone, by mnemonic. Safe. -/
  | notModelled (mnemonic : String)
  /-- A coprocessor opcode that is none of the five presence-test opcodes, raised by ESC with no coprocessor fitted
  and `CR0.EM` = 0: the spec refuses it (49_processor_control.md R676, D27, U40). Safe. -/
  | noCoprocessor
  deriving DecidableEq, Repr

/-! ## Reset (R100 to R106) -/

/-- The attributes of a real-mode segment: present, usable for every access, level 0 (R101, R150). -/
def Attr.real : Attr := { p := true, dpl := 0, s := true, typ := 0b0011, g := false, db := false }

/-- The attributes of a descriptor register that holds nothing. -/
def Attr.none : Attr := { p := false, dpl := 0, s := false, typ := 0, g := false, db := false }

/-- A data or stack segment register after reset (R101). -/
def SegReg.real0 : SegReg := { sel := 0, base := 0, limit := 0xFFFF, attr := Attr.real, valid := true }

/-- CS after reset: the base makes the first fetch come from FFFFFFF0h (R100, R102). -/
def SegReg.csReset : SegReg :=
  { sel := 0xF000, base := 0xFFFF0000, limit := 0xFFFF, attr := Attr.real, valid := true }

/-- LDTR and TR after reset: undefined (R100), here empty (log entry 1). -/
def SegReg.empty : SegReg := { sel := 0, base := 0, limit := 0, attr := Attr.none, valid := false }

/-- All defined flags 0 (R100). -/
def Flags.reset : Flags :=
  { cf := false, pf := false, af := false, zf := false, sf := false, tf := false, ie := false, df := false,
    ov := false, iopl := 0, nt := false, rf := false, vm := false }

/-- Every undefined register 0, LDTR and TR empty (DESIGN CHOICE, log entry 1). -/
def UndefReset.zero : UndefReset :=
  { regs := { eax := 0, ecx := 0, edx := 0, ebx := 0, esp := 0, ebp := 0, esi := 0, edi := 0 }, cr0 := 0, cr2 := 0, cr3 := 0
    gdtr := { base := 0, limit := 0 }, ldtr := SegReg.empty, tr := SegReg.empty
    dregs := { dr0 := 0, dr1 := 0, dr2 := 0, dr3 := 0, dr6 := 0, dr7 := 0 }, tr6 := 0, tr7 := 0 }

/-- The general registers after reset: DX holds the component and stepping identifier (R863), EAX the signature 0 of a
self-test that was requested (R862); the rest is undefined. -/
def Regs.reset (p : Platform) (u : UndefReset) : Regs :=
  { u.regs with
    eax := if p.selfTestRequested then 0 else u.regs.eax
    edx := (u.regs.edx &&& 0xFFFF0000) ||| 0x300 ||| p.steppingId.setWidth 32 }

/-- The control and system registers after reset: ET tells an M387 (R100, R864), IDTR the real-mode table (R103). -/
def SysRegs.reset (p : Platform) (u : UndefReset) : SysRegs :=
  { cr0 := (u.cr0 &&& 0x7FFFFFE0) ||| (if p.coprocessor = .m387 then 0x10 else 0), cr2 := u.cr2, cr3 := u.cr3 &&& 0xFFFFF000
    gdtr := u.gdtr, idtr := { base := 0, limit := 0x3FF }, ldtr := u.ldtr, tr := u.tr, cpl := 0 }

/-- A TLB entry that holds no translation. That its tag, physical address, D, U and W are 0 is DESIGN CHOICE, log entry 19:
D15 and U15 leave the contents of the TLB at reset any value, and a TR6 lookup with V = 0 sees them (R223). -/
def TlbEntry.empty : TlbEntry :=
  { valid := false, tag := 0, phys := 0, dirty := false, user := false, writable := false }

/-- The TLB after reset: every entry invalid, as D15 allows (DESIGN CHOICE, log entry 19). -/
def tlbEmpty : List TlbEntry := List.replicate 32 TlbEntry.empty

/-- No debug trap is pending. -/
def DebugTraps.none : DebugTraps := { b := 0, bs := false, bt := false }

/-- The hidden state after reset (R105). -/
def Events.reset : Events :=
  { nmiPending := false, nmiInService := false, inhibit := .off, activity := .running, begun := .no
    held := none, traps := DebugTraps.none }

/-- The inputs with nothing asserted. -/
def External.quiet (p : Platform) (u : UndefReset) : External :=
  { reset := false, intr := false, intVector := 0, busy := false, error := false, requests := [], platform := p
    undefReset := u }

/-- The segment registers after reset (R100, R101). -/
def SegRegs.reset : SegRegs :=
  { es := SegReg.real0, cs := SegReg.csReset, ss := SegReg.real0, ds := SegReg.real0, fs := SegReg.real0
    gs := SegReg.real0 }

/-- The debug registers after reset: no breakpoint enabled, GD clear, the rest undefined (R104). -/
def DebugRegs.reset (u : UndefReset) : DebugRegs := { u.dregs with dr7 := u.dregs.dr7 &&& 0xFFFFDC00 }

/-- The paging unit after reset (R105). -/
def PagingUnit.reset (u : UndefReset) : PagingUnit := { tlb := tlbEmpty, tr6 := u.tr6, tr7 := u.tr7 }

/-- Read/write memory in all of the 4 Gbyte that holds the given cells. -/
def Memory.ram (cells : List Host.Cell) : Memory := { cells := cells, map := Config.memoryMap, posted := [], epoch := 0 }

/-- What RESET makes of a state (R106, R856, R860): every register as R100 to R105 say; memory, the inputs, and what
the model itself records stay. -/
def State.toReset (s : State) : State :=
  { s with
    regs := Regs.reset s.ext.platform s.ext.undefReset
    eip := 0xFFF0
    flags := Flags.reset
    segs := SegRegs.reset
    sys := SysRegs.reset s.ext.platform s.ext.undefReset
    dregs := DebugRegs.reset s.ext.undefReset
    paging := PagingUnit.reset s.ext.undefReset
    events := Events.reset
    ctx := Context.idle }

/-- The machine right after reset on the platform and with the memory map of Config.lean, with nothing in memory. -/
def State.reset : State :=
  { regs := Regs.reset Config.platform UndefReset.zero
    eip := 0xFFF0
    flags := Flags.reset
    segs := SegRegs.reset
    sys := SysRegs.reset Config.platform UndefReset.zero
    dregs := DebugRegs.reset UndefReset.zero
    paging := PagingUnit.reset UndefReset.zero
    events := Events.reset
    ext := External.quiet Config.platform UndefReset.zero
    ctx := Context.idle
    bus := []
    draws := 0
    mem := Memory.ram [] }

end Sys2Proof.Machine
end

