-- ==== Sys2Proof/Machine/Memory.lean ====
section
/-! DEFINITION. Physical memory: the 4 Gbyte of byte addresses 00000000h to FFFFFFFFh (spec/20_memory.md R133). The memory
map says what answers at each (R148, D6): read/write memory, read-only memory, a device, or nothing. What memory holds is
a list of address and byte pairs in one canonical form; words and doublewords are little-endian (R130). -/

namespace Sys2Proof.Machine

/-! ## Cells -/

/-- What an address that no entry lists holds (DESIGN CHOICE, log entry 2). -/
def Memory.unlisted : Byte := 0

/-- The byte that the cells hold at an address. -/
def cellAt (l : List Host.Cell) (a : Nat) : Byte :=
  match l with
  | [] => Memory.unlisted
  | (k, v) :: rest => if k = a then v else cellAt rest a

/-- A cell put before the first with a greater address. -/
def insertCell (l : List Host.Cell) (a : Nat) (v : Byte) : List Host.Cell :=
  match l with
  | [] => [(a, v)]
  | (k, x) :: rest => if a < k then (a, v) :: (k, x) :: rest else (k, x) :: insertCell rest a v

/-- The cells without that of an address. -/
def eraseCell (l : List Host.Cell) (a : Nat) : List Host.Cell := l.filter fun c => c.1 != a

/-- A byte put at an address: the value that an unlisted address holds removes the cell. -/
def setCell (l : List Host.Cell) (a : Nat) (v : Byte) : List Host.Cell :=
  if v = Memory.unlisted then eraseCell l a else insertCell (eraseCell l a) a v

/-- The canonical form of cells: addresses rise strictly and are below 2^32, and no cell holds what an unlisted address
holds. -/
def cellsOk (l : List Host.Cell) : Bool :=
  match l with
  | [] => true
  | (k, v) :: rest => decide (k < 2 ^ 32) && v != Memory.unlisted && rest.all (fun c => decide (k < c.1)) && cellsOk rest

/-! ## Memory -/

/-- What answers at an address: that of the first region that holds it, or nothing (D6). -/
def Memory.kindAt (m : Memory) (a : Nat) : Option Config.RegionKind :=
  (m.map.find? fun r => decide (r.first ≤ a) && decide (a ≤ r.last)).map fun r => r.kind

/-- An address that holds a byte: read/write or read-only memory. -/
def Memory.holds (m : Memory) (a : Nat) : Bool :=
  match m.kindAt a with
  | some .ram | some .rom => true
  | some .device | none => false

/-- The byte that a read at an address takes; where a device or nothing answers it is a free value (R148, D6, U26). -/
def Memory.read (m : Memory) (a : Nat) : Byte := if m.holds a then cellAt m.cells a else Config.openByte m.epoch a

/-- A byte written: into read/write memory; a device takes it; elsewhere it is dropped (D6). -/
def Memory.write (m : Memory) (a : Nat) (v : Byte) : Memory :=
  match m.kindAt a with
  | some .ram => { m with cells := setCell m.cells a v }
  | some .device => { m with posted := (a, v) :: m.posted }
  | some .rom | none => m

/-- A byte placed from outside the machine where read/write or read-only memory answers. -/
def Memory.poke (m : Memory) (a : Nat) (v : Byte) : Memory :=
  if m.holds a then { m with cells := setCell m.cells a v } else m

/-- An instruction begins: what a device or nothing answers may be another value from now on. -/
def Memory.tick (m : Memory) : Memory := { m with epoch := m.epoch + 1 }

/-- The canonical form: that of the cells, which lie where memory answers. -/
def Memory.wf (m : Memory) : Bool := cellsOk m.cells && m.cells.all fun c => m.holds c.1

/-- The little-endian value at the given byte addresses, the first the lowest (R130); of more than four bytes the
first four count. -/
def Memory.load (m : Memory) : List Nat → Dword
  | [] => 0
  | a :: rest => (Memory.load m rest <<< 8) ||| (Memory.read m a).setWidth 32

/-- A value stored little-endian at the given byte addresses (R130). -/
def Memory.store (m : Memory) : List Nat → Dword → Memory
  | [], _ => m
  | a :: rest, v => Memory.store (Memory.write m a (v.setWidth 8)) rest (v >>> 8)

end Sys2Proof.Machine
end

