-- ==== Sys2Proof/Machine/Exec.lean ====
section
/-! DEFINITION. How the meaning of an instruction is written: a computation that reads and updates the state and
may stop, and the ways it can stop (spec/00_scope.md R15 "raise", spec/60_exceptions.md R722, R723). -/

namespace Sys2Proof.Machine

/-- An exception: its vector, and its error code where it has one (R724). -/
structure Exc where
  vector : Byte
  code : Option Word
  deriving DecidableEq, Repr

/-- #0, divide error. -/
def Exc.divide : Exc := { vector := 0, code := none }

/-- #1, debug exception. -/
def Exc.debug : Exc := { vector := 1, code := none }

/-- #5, array bounds check. -/
def Exc.bounds : Exc := { vector := 5, code := none }

/-- #6, invalid opcode. -/
def Exc.invalidOpcode : Exc := { vector := 6, code := none }

/-- #7, device not available. -/
def Exc.notAvailable : Exc := { vector := 7, code := none }

/-- #8, double fault (error code 0). -/
def Exc.doubleFault : Exc := { vector := 8, code := some 0 }

/-- #10, invalid TSS. -/
def Exc.invalidTss (code : Word) : Exc := { vector := 10, code := some code }

/-- #11, segment not present. -/
def Exc.notPresent (code : Word) : Exc := { vector := 11, code := some code }

/-- #12, stack fault. -/
def Exc.stack (code : Word) : Exc := { vector := 12, code := some code }

/-- #13, general protection fault. -/
def Exc.protection (code : Word) : Exc := { vector := 13, code := some code }

/-- #14, page fault. -/
def Exc.page (code : Word) : Exc := { vector := 14, code := some code }

/-- #16, coprocessor error. -/
def Exc.coprocessor : Exc := { vector := 16, code := none }

/-- Why a computation does not go on. -/
inductive Stop where
  /-- an exception with the state of the instruction's start to go back to (R723) -/
  | exc (e : Exc)
  /-- an exception after the commit point of a task switch, taken in the new task (R795) -/
  | excInNewTask (e : Exc)
  /-- the processor shuts down (R853, R855) -/
  | shutdown
  /-- the machine stops -/
  | fault (f : Fault)
  /-- the model has no meaning for this -/
  | refuse (r : Refusal)
  deriving DecidableEq, Repr

/-- A computation over the state that may stop. -/
abbrev Exec (α : Type) := EStateM Stop State α

/-- The state. -/
def getState : Exec State := fun s => .ok s s

/-- The state replaced by what a function makes of it. -/
def update (f : State → State) : Exec Unit := fun s => .ok () (f s)

/-- Stop. -/
def stopWith {α : Type} (x : Stop) : Exec α := fun s => .error x s

/-- Raise an exception (R15). -/
def raise {α : Type} (e : Exc) : Exec α := stopWith (.exc e)

/-- Raise an exception unless a condition holds. -/
def require (ok : Bool) (e : Exc) : Exec Unit := fun s => if ok then .ok () s else .error (.exc e) s

/-- A computation done only where a condition holds. -/
def when_ (c : Bool) (x : Exec Unit) : Exec Unit := fun s => if c then x s else .ok () s

/-- A computation with another reason to stop. -/
def mapStop {α : Type} (f : Stop → Stop) (x : Exec α) : Exec α := fun s =>
  match x s with
  | .ok a s' => .ok a s'
  | .error e s' => .error (f e) s'

/-- A free value (00_scope.md R18): the next draw. -/
def draw : Exec Dword := fun s => .ok (Config.freeValue s.draws) { s with draws := s.draws + 1 }

/-- A free bit: the low bit of the next draw. -/
def drawBit : Exec Bool := do
  let v ← draw
  pure (v.getLsbD 0)

/-- A free choice (20_memory.md R216). -/
def drawChoice : Exec Bool := fun s => .ok (Config.freeChoice s.draws) { s with draws := s.draws + 1 }

/-- A computation for each element of a list, in order. -/
def eachDo {α : Type} (l : List α) (f : α → Exec Unit) : Exec Unit :=
  match l with
  | [] => pure ()
  | a :: rest => do
    f a
    eachDo rest f

/-- The results of a computation for each element of a list, in order. -/
def eachGet {α β : Type} (l : List α) (f : α → Exec β) : Exec (List β) :=
  match l with
  | [] => pure []
  | a :: rest => do
    let b ← f a
    let bs ← eachGet rest f
    pure (b :: bs)

/-- Something put on the bus (R893). -/
def emit (e : BusEvent) : Exec Unit := update fun s => { s with bus := e :: s.bus }

/-- The value at physical byte addresses. -/
def loadSpan (sp : List Nat) : Exec Dword := fun s => .ok (Memory.load s.mem sp) s

/-- A value stored at physical byte addresses. -/
def storeSpan (sp : List Nat) (v : Dword) : Exec Unit := update fun s => { s with mem := Memory.store s.mem sp v }

end Sys2Proof.Machine
end

