-- ==== Sys2Proof/Machine/Registers.lean ====
section
/-! DEFINITION. Reading and writing the registers: the 8-, 16- and 32-bit names of the general registers
(spec/10_state.md R31, R32), the segment registers (R47), the flags register as a word (R38, R39), and the mode
(spec/60_exceptions.md R840, R841). -/

namespace Sys2Proof.Machine

/-- An operand size: byte, word or doubleword (R262). -/
inductive Size where
  | b
  | w
  | d
  deriving DecidableEq, Repr

/-- The bits of an operand. -/
@[reducible] def Size.bits : Size → Nat
  | .b => 8
  | .w => 16
  | .d => 32

/-- The bytes of an operand. -/
def Size.bytes : Size → Nat
  | .b => 1
  | .w => 2
  | .d => 4

/-! ## General registers -/

/-- A general register (R31). -/
def Regs.get (g : Regs) : Reg → Dword
  | .eax => g.eax
  | .ecx => g.ecx
  | .edx => g.edx
  | .ebx => g.ebx
  | .esp => g.esp
  | .ebp => g.ebp
  | .esi => g.esi
  | .edi => g.edi

/-- A general register written. -/
def Regs.set (g : Regs) (r : Reg) (v : Dword) : Regs :=
  match r with
  | .eax => { g with eax := v }
  | .ecx => { g with ecx := v }
  | .edx => { g with edx := v }
  | .ebx => { g with ebx := v }
  | .esp => { g with esp := v }
  | .ebp => { g with ebp := v }
  | .esi => { g with esi := v }
  | .edi => { g with edi := v }

/-- Bits 15:0 replaced, the upper half kept (R32, R266). -/
def putLow16 (old : Dword) (v : Word) : Dword := old.extractLsb' 16 16 ++ v

/-- Bits 7:0 replaced (R32). -/
def putLow8 (old : Dword) (v : Byte) : Dword := old.extractLsb' 8 24 ++ v

/-- Bits 15:8 replaced (R32). -/
def putHigh8 (old : Dword) (v : Byte) : Dword := old.extractLsb' 16 16 ++ v ++ old.extractLsb' 0 8

/-- The general register that holds the byte register of a number (R270). -/
def byteHome : Reg → Reg
  | .eax | .esp => .eax
  | .ecx | .ebp => .ecx
  | .edx | .esi => .edx
  | .ebx | .edi => .ebx

/-- The byte register of a number is bits 15:8 of its home: AH, CH, DH, BH (R270). -/
def byteIsHigh : Reg → Bool
  | .eax | .ecx | .edx | .ebx => false
  | .esp | .ebp | .esi | .edi => true

/-- A byte register (R32, R270). -/
def Regs.get8 (g : Regs) (r : Reg) : Byte :=
  (g.get (byteHome r)).extractLsb' (if byteIsHigh r then 8 else 0) 8

/-- A byte register written: the other 24 bits keep their value (R266). -/
def Regs.set8 (g : Regs) (r : Reg) (v : Byte) : Regs :=
  let old := g.get (byteHome r)
  g.set (byteHome r) (if byteIsHigh r then putHigh8 old v else putLow8 old v)

/-- A general register as an operand of a size (R270). -/
def Regs.read (g : Regs) (sz : Size) (r : Reg) : BitVec sz.bits :=
  match sz with
  | .b => g.get8 r
  | .w => (g.get r).setWidth 16
  | .d => g.get r

/-- A general register written as an operand of a size: bits outside the operand keep their value (R32, R266). -/
def Regs.write (g : Regs) (sz : Size) (r : Reg) (v : BitVec sz.bits) : Regs :=
  match sz with
  | .b => g.set8 r v
  | .w => g.set r (putLow16 (g.get r) v)
  | .d => g.set r v

/-- The value of a general register. -/
def readReg (sz : Size) (r : Reg) : Exec (BitVec sz.bits) := fun s => .ok (s.regs.read sz r) s

/-- A general register written. -/
def writeReg (sz : Size) (r : Reg) (v : BitVec sz.bits) : Exec Unit :=
  update fun s => { s with regs := s.regs.write sz r v }

/-! ## Segment registers -/

/-- A segment register (R47). -/
def SegRegs.get (g : SegRegs) : Seg → SegReg
  | .es => g.es
  | .cs => g.cs
  | .ss => g.ss
  | .ds => g.ds
  | .fs => g.fs
  | .gs => g.gs

/-- A segment register written. -/
def SegRegs.set (g : SegRegs) (sg : Seg) (v : SegReg) : SegRegs :=
  match sg with
  | .es => { g with es := v }
  | .cs => { g with cs := v }
  | .ss => { g with ss := v }
  | .ds => { g with ds := v }
  | .fs => { g with fs := v }
  | .gs => { g with gs := v }

/-- A segment register written. -/
def setSeg (sg : Seg) (v : SegReg) : Exec Unit := update fun s => { s with segs := s.segs.set sg v }

/-! ## The flags register as a word (R38, R39) -/

/-- A bit in its place in a doubleword. -/
def bitAt (b : Bool) (place : Nat) : Dword := (BitVec.ofBool b).setWidth 32 <<< place

/-- The 32 bits of EFLAGS: bit 1 reads 1, bits 3, 5, 15 and 31:18 read 0 (R39). -/
def Flags.image (f : Flags) : Dword :=
  bitAt f.cf 0 ||| bitAt true 1 ||| bitAt f.pf 2 ||| bitAt f.af 4 ||| bitAt f.zf 6 ||| bitAt f.sf 7 |||
  bitAt f.tf 8 ||| bitAt f.ie 9 ||| bitAt f.df 10 ||| bitAt f.ov 11 ||| (f.iopl.setWidth 32 <<< 12) |||
  bitAt f.nt 14 ||| bitAt f.rf 16 ||| bitAt f.vm 17

/-- The flags that an image of EFLAGS holds: writes to the reserved bits are ignored (R39). -/
def Flags.ofImage (v : Dword) : Flags :=
  { cf := v.getLsbD 0, pf := v.getLsbD 2, af := v.getLsbD 4, zf := v.getLsbD 6, sf := v.getLsbD 7
    tf := v.getLsbD 8, ie := v.getLsbD 9, df := v.getLsbD 10, ov := v.getLsbD 11, iopl := v.extractLsb' 12 2
    nt := v.getLsbD 14, rf := v.getLsbD 16, vm := v.getLsbD 17 }

/-- The flags register changed. -/
def updateFlags (f : Flags → Flags) : Exec Unit := update fun s => { s with flags := f s.flags }

/-! ## Modes (R841, R52) -/

/-- Protection is enabled: CR0.PE = 1. -/
def State.pe (s : State) : Bool := s.sys.cr0.getLsbD 0

/-- Paging is enabled: CR0.PG = 1. -/
def State.pg (s : State) : Bool := s.sys.cr0.getLsbD 31

/-- CR0.MP. -/
def State.mp (s : State) : Bool := s.sys.cr0.getLsbD 1

/-- CR0.EM. -/
def State.em (s : State) : Bool := s.sys.cr0.getLsbD 2

/-- CR0.TS. -/
def State.ts (s : State) : Bool := s.sys.cr0.getLsbD 3

/-- Virtual M8086 mode: PE = 1 and VM = 1 (R841). -/
def State.v86 (s : State) : Bool := s.pe && s.flags.vm

/-- Protected mode proper: PE = 1 and VM = 0 (R841). -/
def State.prot (s : State) : Bool := s.pe && !s.flags.vm

/-- The default operand and address size is 32 bits: the D bit of CS, 0 in real and virtual M8086 mode (R262). -/
def State.default32 (s : State) : Bool := s.prot && s.segs.cs.attr.db

/-- The stack address size is 32 bits: the B bit of SS, 0 in real and virtual M8086 mode (R264). -/
def State.stack32 (s : State) : Bool := s.prot && s.segs.ss.attr.db

/-- The full operand size of the instruction in progress (R262). -/
def State.opSize (s : State) : Size := if s.ctx.op32 then .d else .w

/-- The operand size that a w field selects (R262). -/
def State.sizeOf (s : State) (w : Bool) : Size := if w then s.opSize else .b

/-- The address size of the instruction in progress (R263). -/
def State.addrSize (s : State) : Size := if s.ctx.addr32 then .d else .w

/-- The privileged instructions run at level 0 alone: in real mode, and in protected mode with CPL = 0 (R840, R842). -/
def State.privileged (s : State) : Bool := !s.pe || (!s.flags.vm && s.sys.cpl = 0)

/-- I/O-sensitive instructions run without further check where CPL <= IOPL; CPL is 0 in real mode and 3 in virtual
M8086 mode (R842, R387). -/
def State.ioAllowed (s : State) : Bool :=
  !s.pe || (if s.flags.vm then s.flags.iopl = 3 else s.sys.cpl.toNat ≤ s.flags.iopl.toNat)

/-- In virtual M8086 mode with IOPL < 3 the IOPL-sensitive instructions raise #13 (R788). -/
def State.v86Trapped (s : State) : Bool := s.v86 && s.flags.iopl != 3

/-- Where execution goes on after this instruction. -/
def setNext (eip : Dword) : Exec Unit := update fun s => { s with ctx := { s.ctx with nextEip := eip } }

/-- How this instruction ends. -/
def setEnding (e : Ending) : Exec Unit := update fun s => { s with ctx := { s.ctx with ending := e } }

end Sys2Proof.Machine
end

