-- ==== Sys2Proof/Machine/Flags.lean ====
section
/-! DEFINITION. Every flag computation of the spec: the results and flags of addition and subtraction
(spec/42_arithmetic.md R420 to R422), of the logical operations (spec/43_logic_shift.md R483), of the shifts and
rotates (R470 to R477, R480, R481), the sixteen conditions (spec/30_encoding.md R285), the flags image that POPF
and IRET load (spec/41_segment_flag_control.md R392), and the flags a rule leaves undefined. -/

namespace Sys2Proof.Machine

/-! ## Addition, subtraction, logic -/

/-- The number of 1 bits of a byte is even (R420). -/
def evenParity (b : Byte) : Bool :=
  !(b.getLsbD 0 ^^ b.getLsbD 1 ^^ b.getLsbD 2 ^^ b.getLsbD 3 ^^ b.getLsbD 4 ^^ b.getLsbD 5 ^^ b.getLsbD 6 ^^
    b.getLsbD 7)

/-- `SZP(r, N)`: SF, ZF and PF of a result (R422). -/
def Flags.szp {n : Nat} (f : Flags) (r : BitVec n) : Flags :=
  { f with sf := r.msb, zf := r == 0, pf := evenParity (r.setWidth 8) }

/-- `trunc_N(a + b + cin)` (R420). -/
def addResult {n : Nat} (a b : BitVec n) (cin : Bool) : BitVec n := BitVec.ofNat n (a.toNat + b.toNat + cin.toNat)

/-- `AddFlags(a, b, cin, N)` (R420). -/
def Flags.add {n : Nat} (f : Flags) (a b : BitVec n) (cin : Bool) : Flags :=
  let r := addResult a b cin
  { f.szp r with
    cf := decide (2 ^ n ≤ a.toNat + b.toNat + cin.toNat)
    af := decide (16 ≤ a.toNat % 16 + b.toNat % 16 + cin.toNat)
    ov := a.msb == b.msb && r.msb != a.msb }

/-- `trunc_N(a - b - bin)` (R421). -/
def subResult {n : Nat} (a b : BitVec n) (bin : Bool) : BitVec n := a - b - BitVec.ofNat n bin.toNat

/-- `SubFlags(a, b, bin, N)` (R421). -/
def Flags.sub {n : Nat} (f : Flags) (a b : BitVec n) (bin : Bool) : Flags :=
  let r := subResult a b bin
  { f.szp r with
    cf := decide (a.toNat < b.toNat + bin.toNat)
    af := decide (a.toNat % 16 < b.toNat % 16 + bin.toNat)
    ov := a.msb != b.msb && r.msb != a.msb }

/-- The flags that a logical operation defines: CF and OF 0, and SZP; AF is undefined (R483). -/
def Flags.logic {n : Nat} (f : Flags) (r : BitVec n) : Flags := { f.szp r with cf := false, ov := false }

/-! ## Undefined flags (R18, U27) -/

/-- A status flag (R45). -/
inductive StatusFlag where
  | cf | pf | af | zf | sf | ov
  deriving DecidableEq, Repr

/-- A status flag set to a value. -/
def Flags.put (f : Flags) (k : StatusFlag) (b : Bool) : Flags :=
  match k with
  | .cf => { f with cf := b }
  | .pf => { f with pf := b }
  | .af => { f with af := b }
  | .zf => { f with zf := b }
  | .sf => { f with sf := b }
  | .ov => { f with ov := b }

/-- Flags that a rule leaves undefined: each takes a free value of its own. -/
def undefined (l : List StatusFlag) : Exec Unit :=
  eachDo l fun k => do
    let b ← drawBit
    updateFlags fun f => f.put k b

/-- All six status flags: undefined after DIV and IDIV (R446, R447) and after MOV to or from a special register
(R663). -/
def allStatus : List StatusFlag := [.ov, .sf, .zf, .af, .pf, .cf]

/-! ## Shifts and rotates -/

/-- The seven operations of the TTT field (R286). -/
inductive ShiftOp where
  | rol | ror | rcl | rcr | shl | shr | sar
  deriving DecidableEq, Repr

/-- The operation is a rotate: it changes CF and OF alone (R470). -/
def ShiftOp.isRotate : ShiftOp → Bool
  | .rol | .ror | .rcl | .rcr => true
  | .shl | .shr | .sar => false

/-- What a shift or rotate by a count other than 0 makes: the result, CF where the rule defines it, and OF as the
rule defines it for a count of 1. -/
structure Shifted (n : Nat) where
  value : BitVec n
  cf : Option Bool
  ov : Bool

/-- CF and the operand rotated left one place (R473). -/
def rclStep {n : Nat} (p : Bool × BitVec n) : Bool × BitVec n :=
  (p.2.msb, (p.2 <<< 1) ||| (BitVec.ofBool p.1).setWidth n)

/-- CF and the operand rotated right one place (R474). -/
def rcrStep {n : Nat} (p : Bool × BitVec n) : Bool × BitVec n :=
  (p.2.getLsbD 0, (p.2 >>> 1) ||| ((BitVec.ofBool p.1).setWidth n <<< (n - 1)))

/-- A function applied a number of times. -/
def repeatTimes {α : Type} (f : α → α) : Nat → α → α
  | 0, a => a
  | k + 1, a => repeatTimes f k (f a)

/-- The result of a shift or rotate by `c`, 1 to 31 (R471 to R477). -/
def shifted {n : Nat} (op : ShiftOp) (x : BitVec n) (cf : Bool) (c : Nat) : Shifted n :=
  match op with
  | .rol =>
    let k := c % n
    let r := (x <<< k) ||| (x >>> (n - k))
    { value := r, cf := some (r.getLsbD 0), ov := r.msb ^^ r.getLsbD 0 }
  | .ror =>
    let k := c % n
    let r := (x >>> k) ||| (x <<< (n - k))
    { value := r, cf := some r.msb, ov := r.msb ^^ r.getLsbD (n - 2) }
  | .rcl =>
    let p := repeatTimes rclStep (c % (n + 1)) (cf, x)
    { value := p.2, cf := some p.1, ov := p.2.msb ^^ p.1 }
  | .rcr =>
    let p := repeatTimes rcrStep (c % (n + 1)) (cf, x)
    { value := p.2, cf := some p.1, ov := p.2.msb ^^ p.2.getLsbD (n - 2) }
  | .shl =>
    let r := x <<< c
    { value := r, cf := if c ≤ n then some (x.getLsbD (n - c)) else none, ov := r.msb ^^ x.getLsbD (n - c) }
  | .shr =>
    { value := x >>> c, cf := if c ≤ n then some (x.getLsbD (c - 1)) else none, ov := x.msb }
  | .sar =>
    { value := x.sshiftRight c, cf := some (if c ≤ n then x.getLsbD (c - 1) else x.msb), ov := false }

/-- The flags after a shift or rotate by `c`, 1 to 31: CF and OF, an undefined one free; the shifts also write SZP
and leave AF undefined (R470). -/
def shiftFlags {n : Nat} (op : ShiftOp) (c : Nat) (r : Shifted n) : Exec Unit := do
  when_ (!op.isRotate) (updateFlags fun f => f.szp r.value)
  match r.cf with
  | some b => updateFlags fun f => { f with cf := b }
  | none => undefined [.cf]
  if c = 1 then updateFlags fun f => { f with ov := r.ov } else undefined [.ov]
  when_ (!op.isRotate) (undefined [.af])

/-- The result of SHLD by `c`, 1 to the width (R480). -/
def shldResult {n : Nat} (x y : BitVec n) (c : Nat) : BitVec n := (x <<< c) ||| (y >>> (n - c))

/-- The result of SHRD by `c`, 1 to the width (R481). -/
def shrdResult {n : Nat} (x y : BitVec n) (c : Nat) : BitVec n := (x >>> c) ||| (y <<< (n - c))

/-! ## Conditions (R285) -/

/-- The sixteen conditions of the `tttn` field. -/
inductive Cond where
  | o | no | b | nb | e | ne | be | nbe | s | ns | p | np | l | nl | le | nle
  deriving DecidableEq, Repr

/-- `Cond(tttn)` (R285). -/
def Cond.holds (c : Cond) (f : Flags) : Bool :=
  match c with
  | .o => f.ov
  | .no => !f.ov
  | .b => f.cf
  | .nb => !f.cf
  | .e => f.zf
  | .ne => !f.zf
  | .be => f.cf || f.zf
  | .nbe => !f.cf && !f.zf
  | .s => f.sf
  | .ns => !f.sf
  | .p => f.pf
  | .np => !f.pf
  | .l => f.sf != f.ov
  | .nl => f.sf == f.ov
  | .le => f.zf || f.sf != f.ov
  | .nle => !f.zf && f.sf == f.ov

/-! ## Flags from an image -/

/-- `LoadFlags`: what POPF and IRET load of an image (R392, R650). `cpl` is the level the load is made at, `wide` a
32-bit image, which also loads RF; VM is never loaded here. -/
def Flags.load (f : Flags) (img : Dword) (cpl : Nat) (wide : Bool) : Flags :=
  let g := Flags.ofImage img
  { g with
    ie := if cpl ≤ f.iopl.toNat then g.ie else f.ie
    iopl := if cpl = 0 then g.iopl else f.iopl
    rf := if wide then g.rf else f.rf
    vm := f.vm }

/-- The flags that SAHF loads from AH (R393). -/
def Flags.loadAh (f : Flags) (v : Byte) : Flags :=
  { f with sf := v.getLsbD 7, zf := v.getLsbD 6, af := v.getLsbD 4, pf := v.getLsbD 2, cf := v.getLsbD 0 }

end Sys2Proof.Machine
end

