-- ==== Sys2Proof/Machine/Paging.lean ====
section
/-! DEFINITION. The paging unit (spec/20_memory.md sections 8 and 9): page walks, the TLB, page faults, the TLB test
operations, and accesses by linear address. -/

namespace Sys2Proof.Machine

/-! ## The TLB (R216) -/

/-- The first entry of the set that a linear page belongs to: the set is the low three bits of the page number
(PRESUMED, log entry 17). -/
def tlbBase (tag : BitVec 20) : Nat := 4 * (tag.toNat % 8)

/-- Entry `k` of the TLB. -/
def tlbEntry (tlb : List TlbEntry) (k : Nat) : TlbEntry := tlb.getD k TlbEntry.empty

/-- The ways 0 to 3. -/
def tlbWays : List Nat := [0, 1, 2, 3]

/-- The way of its set that holds a valid translation of a page. TR6 writes can leave a page in two ways of its set, of which
R200 and R222 do not say which one is used: the lowest (DESIGN CHOICE, log entry 52). -/
def tlbFind (tlb : List TlbEntry) (tag : BitVec 20) : Option Nat :=
  tlbWays.find? fun w => (tlbEntry tlb (tlbBase tag + w)).valid && (tlbEntry tlb (tlbBase tag + w)).tag == tag

/-- Entry `k` replaced. -/
def setTlb (k : Nat) (e : TlbEntry) : Exec Unit :=
  update fun s => { s with paging := { s.paging with tlb := s.paging.tlb.set k e } }

/-- The way that a new translation of a page takes: the one that holds the page, else the replacement choice, which is
left open (R216). -/
def tlbVictim (tag : BitVec 20) : Exec Nat := do
  let s ← getState
  match tlbFind s.paging.tlb tag with
  | some w => pure w
  | none => do
    let v ← draw
    pure (v.toNat % 4)

/-- A new translation: whether it is cached at all is left open (R216). -/
def tlbInsert (e : TlbEntry) : Exec Unit := do
  let cached ← drawChoice
  let w ← tlbVictim e.tag
  when_ cached (setTlb (tlbBase e.tag + w) e)

/-- A TLB entry whose valid bit is cleared (R218). -/
def TlbEntry.invalid (e : TlbEntry) : TlbEntry := { e with valid := false }

/-- Every valid bit of the TLB cleared (R218). -/
def tlbFlush : Exec Unit := update fun s =>
  { s with paging := { s.paging with tlb := s.paging.tlb.map TlbEntry.invalid } }

/-! ## Page walks (R191, R192, R200) -/

/-- The four byte addresses of a table entry. -/
def entrySpan (a : Dword) : List Nat := [a.toNat, a.toNat + 1, a.toNat + 2, a.toNat + 3]

/-- The physical address of the page-directory entry of a linear address (R191). -/
def pdeAddr (cr3 lin : Dword) : Dword := (cr3 &&& 0xFFFFF000) ||| ((lin >>> 22) <<< 2)

/-- The physical address of the page-table entry that a directory entry leads to (R191). -/
def pteAddr (pde lin : Dword) : Dword := (pde &&& 0xFFFFF000) ||| (((lin >>> 12) &&& 0x3FF) <<< 2)

/-- The U/S and R/W bits of an entry as a number (R203). -/
def entryRights (e : Dword) : Nat := (e.extractLsb' 1 2).toNat

/-- The numerically smaller of the rights of the two levels (R203). -/
def pageRights (pde pte : Dword) : Nat := min (entryRights pde) (entryRights pte)

/-- An access with the given rights is allowed: supervisor accesses are, user accesses need U/S = 1, and R/W = 1 to
write (R202, R204). -/
def rightsAllow (rights : Nat) (write user : Bool) : Bool :=
  !user || (2 ≤ rights && (!write || rights == 3))

/-- The error code of a page fault: P, W/R, U/S, and zeros (R212). -/
def pageFaultCode (present write user : Bool) : Word :=
  (BitVec.ofBool present).setWidth 16 ||| ((BitVec.ofBool write).setWidth 16 <<< 1) |||
  ((BitVec.ofBool user).setWidth 16 <<< 2)

/-- A page fault: CR2 takes the linear address (R212). -/
def pageFault {α : Type} (lin : Dword) (present write user : Bool) : Exec α := do
  update fun s => { s with sys := { s.sys with cr2 := lin } }
  raise (.page (pageFaultCode present write user))

/-- A page-table entry updated in memory unless it holds the value already (R201). -/
def updateEntry (a old new : Dword) : Exec Unit := when_ (old != new) (storeSpan (entrySpan a) new)

/-- The accessed bit of a directory or table entry (R192). -/
def bitA : Dword := 0x20

/-- The dirty bit of a table entry (R192). -/
def bitDirty : Dword := 0x40

/-- The walk of the two levels of tables, and the translation put into the TLB (R200). -/
def walk (lin : Dword) (write user : Bool) : Exec TlbEntry := do
  let s ← getState
  let pa := pdeAddr s.sys.cr3 lin
  let pde ← loadSpan (entrySpan pa)
  if pde.getLsbD 0 then
    updateEntry pa pde (pde ||| bitA)
    let ta := pteAddr pde lin
    let pte ← loadSpan (entrySpan ta)
    if pte.getLsbD 0 then
      let rights := pageRights pde pte
      if rightsAllow rights write user then
        let pte' := pte ||| bitA ||| (if write then bitDirty else 0)
        updateEntry ta pte pte'
        let e : TlbEntry :=
          { valid := true, tag := lin.extractLsb' 12 20, phys := pte.extractLsb' 12 20, dirty := pte'.getLsbD 6
            user := decide (2 ≤ rights), writable := rights % 2 == 1 }
        tlbInsert e
        pure e
      else pageFault lin true write user
    else pageFault lin false write user
  else pageFault lin false write user

/-- What the walk would read if it changed nothing: the two entries, where both are present. -/
def walkEntries (s : State) (lin : Dword) : Option (Dword × Dword) :=
  let pde := Memory.load s.mem (entrySpan (pdeAddr s.sys.cr3 lin))
  let pte := Memory.load s.mem (entrySpan (pteAddr pde lin))
  if pde.getLsbD 0 && pte.getLsbD 0 then some (pde, pte) else none

/-- A cached translation says what the tables in memory say, and the walk would update neither of them: whether it is
still cached makes no difference. -/
def tlbFresh (s : State) (e : TlbEntry) (lin : Dword) : Bool :=
  match walkEntries s lin with
  | some (pde, pte) =>
    pte.extractLsb' 12 20 == e.phys && pde.getLsbD 5 && pte.getLsbD 5 && pte.getLsbD 6 == e.dirty &&
    decide (2 ≤ pageRights pde pte) == e.user && (pageRights pde pte % 2 == 1) == e.writable
  | none => false

/-- A cached translation permits an access (R200). -/
def tlbPermits (e : TlbEntry) (write user : Bool) : Bool :=
  (!user || (e.user && (!write || e.writable))) && (!write || e.dirty)

/-- The physical address of a linear address in a translated page. -/
def framed (e : TlbEntry) (lin : Dword) : Dword := e.phys ++ lin.extractLsb' 0 12

/-- `Translate(lin, write, user)` (R200). A cached translation that permits the access is used; where the tables in
memory no longer say the same it may be used (R217): whether it is still cached is a free choice. -/
def translate (lin : Dword) (write user : Bool) : Exec Dword := do
  let s ← getState
  if s.pe && s.pg then
    let tag := lin.extractLsb' 12 20
    match tlbFind s.paging.tlb tag with
    | some w =>
      let k := tlbBase tag + w
      let e := tlbEntry s.paging.tlb k
      if tlbPermits e write user then
        if tlbFresh s e lin then pure (framed e lin)
        else do
          let held ← drawChoice
          if held then pure (framed e lin)
          else do
            setTlb k e.invalid
            let e' ← walk lin write user
            pure (framed e' lin)
      else do
        let e' ← walk lin write user
        pure (framed e' lin)
    | none => do
      let e' ← walk lin write user
      pure (framed e' lin)
  else pure lin

/-! ## Accesses by linear address -/

/-- The physical byte addresses of `n` bytes from a linear address: each page is translated, in ascending order,
before any byte is transferred (R165, D16); linear addresses wrap at 4 Gbyte (R164). -/
def linSpan (lin : Dword) (n : Nat) (write user : Bool) : Exec (List Nat) := do
  let p ← translate lin write user
  let room := 4096 - lin.toNat % 4096
  if n ≤ room then pure ((List.range n).map fun k => p.toNat + k)
  else do
    let q ← translate (lin + BitVec.ofNat 32 room) write user
    pure ((List.range room).map (fun k => p.toNat + k) ++ (List.range (n - room)).map fun k => q.toNat + k)

/-- `LinRead(lin, n)` of up to four bytes at supervisor level (R15, R163). -/
def linRead (lin : Dword) (n : Nat) : Exec Dword := do
  let sp ← linSpan lin n false false
  loadSpan sp

/-! ## The TLB test operations (R222, R223) -/

/-- An attribute bit written from its pair in TR6: 01 is 0, 10 is 1, else it is undefined (R222). -/
def testAttr (x nx : Bool) : Exec Bool := if x == nx then drawBit else pure x

/-- The match of an attribute bit against its pair in TR6 (R223). -/
def testMatch (x nx b : Bool) : Bool := if b then x else nx

/-- A TLB entry matches the lookup in TR6 (R223). -/
def tr6Matches (tr6 : Dword) (e : TlbEntry) : Bool :=
  e.tag == tr6.extractLsb' 12 20 && e.valid == tr6.getLsbD 11 &&
  testMatch (tr6.getLsbD 10) (tr6.getLsbD 9) e.dirty && testMatch (tr6.getLsbD 8) (tr6.getLsbD 7) e.user &&
  testMatch (tr6.getLsbD 6) (tr6.getLsbD 5) e.writable

/-- The TLB write of a TR6 with C = 0 (R222): TR7 names the physical page, and with PL = 1 the way. -/
def tlbTestWrite (tr6 tr7 : Dword) : Exec Unit := do
  let d ← testAttr (tr6.getLsbD 10) (tr6.getLsbD 9)
  let u ← testAttr (tr6.getLsbD 8) (tr6.getLsbD 7)
  let w ← testAttr (tr6.getLsbD 6) (tr6.getLsbD 5)
  let way ← if tr7.getLsbD 4 then pure (tr7.extractLsb' 2 2).toNat else (do let v ← draw; pure (v.toNat % 4))
  let tag := tr6.extractLsb' 12 20
  setTlb (tlbBase tag + way)
    { valid := tr6.getLsbD 11, tag := tag, phys := tr7.extractLsb' 12 20, dirty := d, user := u, writable := w }

/-- TR6 as a matching entry sets it (R223); C stays 1, and the reserved bits 4:1 are those of a free value (U10). -/
def tr6Hit (e : TlbEntry) (free : Dword) : Dword :=
  (e.tag.setWidth 32 <<< 12) ||| bitAt e.valid 11 ||| bitAt e.dirty 10 ||| bitAt (!e.dirty) 9 ||| bitAt e.user 8 |||
  bitAt (!e.user) 7 ||| bitAt e.writable 6 ||| bitAt (!e.writable) 5 ||| (free &&& 0x1E) ||| 1

/-- TR7 after a hit in a way: PL = 1 and REP the way (R223); the reserved bits 11:5 and 1:0 are those of a free value
(U10). -/
def tr7Hit (e : TlbEntry) (way : Nat) (free : Dword) : Dword :=
  (e.phys.setWidth 32 <<< 12) ||| (free &&& 0xFE3) ||| 0x10 ||| (BitVec.ofNat 32 (way % 4) <<< 2)

/-- The TLB lookup of a TR6 with C = 1 (R223): exactly one match is a hit; otherwise PL is 0 and every other value of
TR6 and TR7 is indeterminate. -/
def tlbTestLookup (tr6 : Dword) : Exec Unit := do
  let s ← getState
  let base := tlbBase (tr6.extractLsb' 12 20)
  match tlbWays.filter fun w => tr6Matches tr6 (tlbEntry s.paging.tlb (base + w)) with
  | [w] => do
    let e := tlbEntry s.paging.tlb (base + w)
    let a ← draw
    let b ← draw
    update fun s => { s with paging := { s.paging with tr6 := tr6Hit e a, tr7 := tr7Hit e w b } }
  | [] => do
    let a ← draw
    let b ← draw
    update fun s => { s with paging := { s.paging with tr6 := a, tr7 := b &&& 0xFFFFFFEF } }
  | _ => do
    let a ← draw
    let b ← draw
    update fun s => { s with paging := { s.paging with tr6 := a, tr7 := b } }

end Sys2Proof.Machine
end

