-- ==== Sys2Proof/Machine/Segments.lean ====
section
/-! DEFINITION. Segmentation (spec/20_memory.md sections 5 and 7): descriptors, the checks of an access through a
segment register, data breakpoints on it (spec/60_exceptions.md R822), and the loads of the segment registers. -/

namespace Sys2Proof.Machine

/-! ## Descriptors (R172 to R178) -/

/-- A descriptor as its two little-endian doublewords (R172). -/
structure Desc where
  lo : Dword
  hi : Dword
  deriving DecidableEq, Repr

/-- The attributes of a descriptor (R172). -/
def Desc.attr (d : Desc) : Attr :=
  { p := d.hi.getLsbD 15, dpl := d.hi.extractLsb' 13 2, s := d.hi.getLsbD 12, typ := d.hi.extractLsb' 8 4
    g := d.hi.getLsbD 23, db := d.hi.getLsbD 22 }

/-- The base of a segment (R172). -/
def Desc.base (d : Desc) : Dword := d.hi.extractLsb' 24 8 ++ d.hi.extractLsb' 0 8 ++ d.lo.extractLsb' 16 16

/-- The limit of a segment in bytes: scaled by G, with twelve low 1 bits (R174). -/
def Desc.limit (d : Desc) : Dword :=
  let l : Dword := (d.hi.extractLsb' 16 4 ++ d.lo.extractLsb' 0 16).setWidth 32
  if d.attr.g then (l <<< 12) ||| 0xFFF else l

/-- The selector of a gate (R177). -/
def Desc.gateSel (d : Desc) : Word := d.lo.extractLsb' 16 16

/-- The offset of a gate: 32 bits of a 386 gate, 16 of a 286 gate (R177, R590). -/
def Desc.gateOffset (d : Desc) (wide : Bool) : Dword :=
  if wide then d.hi.extractLsb' 16 16 ++ d.lo.extractLsb' 0 16 else (d.lo.extractLsb' 0 16).setWidth 32

/-- The word count of a call gate (R177). -/
def Desc.wordCount (d : Desc) : Nat := (d.hi.extractLsb' 0 5).toNat

/-- A code segment: S = 1, E = 1 (R173). -/
def Attr.isCode (a : Attr) : Bool := a.s && a.typ.getLsbD 3

/-- A data segment: S = 1, E = 0 (R173). -/
def Attr.isData (a : Attr) : Bool := a.s && !a.typ.getLsbD 3

/-- A conforming code segment (R173). -/
def Attr.conforming (a : Attr) : Bool := a.isCode && a.typ.getLsbD 2

/-- An expand-down data segment (R173). -/
def Attr.expandDown (a : Attr) : Bool := a.isData && a.typ.getLsbD 2

/-- A data segment, or a code segment with R = 1 (R168). -/
def Attr.readable (a : Attr) : Bool := a.isData || (a.isCode && a.typ.getLsbD 1)

/-- A data segment with W = 1 (R168). -/
def Attr.writable (a : Attr) : Bool := a.isData && a.typ.getLsbD 1

/-- The descriptor is a 386 one of its pair: TYPE bit 3 (R176). -/
def Attr.is386 (a : Attr) : Bool := a.typ.getLsbD 3

/-- An available TSS: TYPE 1 or 9 (R176). -/
def Attr.availableTss (a : Attr) : Bool := !a.s && (a.typ == 0x1 || a.typ == 0x9)

/-- A busy TSS: TYPE 3 or B (R176). -/
def Attr.busyTss (a : Attr) : Bool := !a.s && (a.typ == 0x3 || a.typ == 0xB)

/-- An LDT: TYPE 2 (R176). -/
def Attr.isLdt (a : Attr) : Bool := !a.s && a.typ == 0x2

/-- A call gate: TYPE 4 or C (R176). -/
def Attr.callGate (a : Attr) : Bool := !a.s && (a.typ == 0x4 || a.typ == 0xC)

/-- A task gate: TYPE 5 (R176). -/
def Attr.taskGate (a : Attr) : Bool := !a.s && a.typ == 0x5

/-- The index part of a selector's error code: the selector without its RPL (R183). -/
def selCode (sel : Word) : Word := sel &&& 0xFFFC

/-- The null selector: INDEX = 0 and TI = 0 (R160). -/
def isNull (sel : Word) : Bool := selCode sel == 0

/-- The RPL of a selector (R160). -/
def rpl (sel : Word) : Nat := (sel.extractLsb' 0 2).toNat

/-- The TI bit: 1 is the LDT (R160). -/
def inLdt (sel : Word) : Bool := sel.getLsbD 2

/-- A selector with another RPL. -/
def withRpl (sel : Word) (l : BitVec 2) : Word := selCode sel ||| l.setWidth 16

/-- The two doublewords at a linear address, read at supervisor level (R163). -/
def readDescAt (lin : Dword) : Exec Desc := do
  let sp ← linSpan lin 8 false false
  let lo ← loadSpan (sp.take 4)
  let hi ← loadSpan (sp.drop 4)
  pure { lo := lo, hi := hi }

/-- The linear address of the descriptor of a selector, if its table has it (R161, R163). -/
def descAddr (s : State) (sel : Word) : Option Dword :=
  let off := (sel &&& 0xFFF8).toNat
  if inLdt sel then
    if s.sys.ldtr.valid && decide (off + 7 ≤ s.sys.ldtr.limit.toNat) then
      some (s.sys.ldtr.base + BitVec.ofNat 32 off)
    else none
  else if off + 7 ≤ s.sys.gdtr.limit.toNat then some (s.sys.gdtr.base + BitVec.ofNat 32 off)
  else none

/-- `ReadDescriptor(sel)` (R163); outside its table the given exception. -/
def readDesc (sel : Word) (bad : Exc) : Exec Desc := do
  let s ← getState
  match descAddr s sel with
  | some a => readDescAt a
  | none => raise bad

/-- The access-rights byte of a descriptor in memory changed at supervisor level (R184, R186, R795). -/
def writeRights (sel : Word) (f : Byte → Byte) : Exec Unit := do
  let s ← getState
  match descAddr s sel with
  | some a => do
    let sp ← linSpan (a + 5) 1 true false
    let v ← loadSpan sp
    storeSpan sp ((f (v.setWidth 8)).setWidth 32)
  | none => pure ()

/-- The accessed bit of a code or data descriptor set in memory if it was 0 (R184). -/
def setAccessed (sel : Word) (d : Desc) : Exec Unit :=
  when_ (d.attr.s && !d.attr.typ.getLsbD 0) (writeRights sel fun b => b ||| 1)

/-- A segment register with the descriptor of a selector (R48, R180); the accessed bit is then 1. -/
def segOfDesc (sel : Word) (d : Desc) : SegReg :=
  { sel := sel, base := d.base, limit := d.limit, attr := { d.attr with typ := d.attr.typ ||| 1 }, valid := true }

/-- LDTR or TR with the descriptor of a selector (R59). -/
def systemOfDesc (sel : Word) (d : Desc) : SegReg :=
  { sel := sel, base := d.base, limit := d.limit, attr := d.attr, valid := true }

/-- The base of a real-mode or V86 segment: sixteen times the selector (R150, R152). -/
def realBase (sel : Word) : Dword := sel.setWidth 32 <<< 4

/-- The attributes of a V86 segment (R152). -/
def Attr.v86 : Attr := { p := true, dpl := 3, s := true, typ := 0b0011, g := false, db := false }

/-- A segment register loaded as an M8086 segment in V86 mode (R152). -/
def segV86 (sel : Word) : SegReg :=
  { sel := sel, base := realBase sel, limit := 0xFFFF, attr := Attr.v86, valid := true }

/-- A segment register loaded in real mode: limit and attributes are not touched (R150). -/
def segReal (old : SegReg) (sel : Word) : SegReg := { old with sel := sel, base := realBase sel, valid := true }

/-- A segment register with a null selector: any access through it faults (R180). -/
def segNull (old : SegReg) (sel : Word) : SegReg := { old with sel := sel, valid := false }

/-! ## Accesses through a segment register (R164 to R168) -/

/-- The limit check of `n` bytes from an offset, without wrap (R166, R167); in real and V86 mode every segment expands
up (R150, R152). Bytes past offset FFFFFFFFh of a 4 Gbyte segment violate the limit, as R166 says; D8 has them wrap (DESIGN
CHOICE, log entry 48: R166 for data, D8 for the fetch). -/
def limitOk (prot : Bool) (r : SegReg) (off : Dword) (n : Nat) : Bool :=
  if prot && r.attr.expandDown then
    decide (r.limit.toNat < off.toNat) &&
    decide (off.toNat + n ≤ (if r.attr.db then 2 ^ 32 else 2 ^ 16))
  else decide (off.toNat + n ≤ r.limit.toNat + 1)

/-- The type check of an access (R168); in real and V86 mode every segment may be read and written. -/
def accessOk (prot : Bool) (r : SegReg) (write : Bool) : Bool :=
  !prot || (r.valid && (if write then r.attr.writable else r.attr.readable))

/-- The exception of a segmentation violation: 12 through SS, else 13, with error code 0 (R165). -/
def segFault (sg : Seg) : Exc := if sg = .ss then .stack 0 else .protection 0

/-- The segmentation checks of an access of `n` bytes (R165), and its linear address (R164). -/
def segLinear (sg : Seg) (off : Dword) (n : Nat) (write : Bool) : Exec Dword := do
  let s ← getState
  let r := s.segs.get sg
  require (accessOk s.prot r write && limitOk s.prot r off n) (segFault sg)
  pure (r.base + off)

/-! ## Data breakpoints (R821, R822, R823) -/

/-- The four breakpoint addresses by number. -/
def DebugRegs.addr (d : DebugRegs) (i : Nat) : Dword :=
  match i with
  | 0 => d.dr0
  | 1 => d.dr1
  | 2 => d.dr2
  | _ => d.dr3

/-- `RWi` (R62). -/
def DebugRegs.rw (d : DebugRegs) (i : Nat) : Nat := (d.dr7.extractLsb' (16 + 4 * i) 2).toNat

/-- `LENi` (R62). -/
def DebugRegs.len (d : DebugRegs) (i : Nat) : Nat := (d.dr7.extractLsb' (18 + 4 * i) 2).toNat

/-- Breakpoint i is enabled: Li or Gi is set (R62). -/
def DebugRegs.enabled (d : DebugRegs) (i : Nat) : Bool := d.dr7.getLsbD (2 * i) || d.dr7.getLsbD (2 * i + 1)

/-- The first and the number of bytes of a data breakpoint's field; LEN = 10 is undefined and never matches (R822,
R828). -/
def DebugRegs.field (d : DebugRegs) (i : Nat) : Option (Nat × Nat) :=
  match d.len i with
  | 0 => some ((d.addr i).toNat, 1)
  | 1 => some ((d.addr i &&& 0xFFFFFFFE).toNat, 2)
  | 3 => some ((d.addr i &&& 0xFFFFFFFC).toNat, 4)
  | _ => none

/-- The condition of data breakpoint i holds for an access of `n` bytes at a linear address (R822); RW = 10 never
matches (R828). -/
def dataMatch (d : DebugRegs) (i : Nat) (lin : Dword) (n : Nat) (write : Bool) : Bool :=
  ((d.rw i == 1 && write) || d.rw i == 3) &&
  match d.field i with
  | some (a, len) => (List.range n).any fun k =>
      decide (a ≤ (lin.toNat + k) % 2 ^ 32) && decide ((lin.toNat + k) % 2 ^ 32 < a + len)
  | none => false

/-- The condition of instruction breakpoint i holds at a linear address (R821). -/
def codeMatch (d : DebugRegs) (i : Nat) (lin : Dword) : Bool := d.rw i == 0 && d.len i == 0 && d.addr i == lin

/-- The Bi bits of the conditions that hold, if an enabled one is among them (R823). -/
def breakpointBits (d : DebugRegs) (hit : Nat → Bool) : BitVec 4 :=
  if (hit 0 && d.enabled 0) || (hit 1 && d.enabled 1) || (hit 2 && d.enabled 2) || (hit 3 && d.enabled 3) then
    BitVec.ofBool (hit 3) ++ BitVec.ofBool (hit 2) ++ BitVec.ofBool (hit 1) ++ BitVec.ofBool (hit 0)
  else 0

/-- An operand access is compared with the data breakpoints; a match is reported after the instruction (R822). -/
def noteAccess (lin : Dword) (n : Nat) (write : Bool) : Exec Unit := update fun s =>
  let b := breakpointBits s.dregs fun i => dataMatch s.dregs i lin n write
  { s with events := { s.events with traps := { s.events.traps with b := s.events.traps.b ||| b } } }

/-- The physical byte addresses of an operand access of `n` bytes: every check of R165, before any byte moves. A write
stands for a read-modify-write too: its checks include the read's (R326). -/
def segSpan (sg : Seg) (off : Dword) (n : Nat) (write : Bool) : Exec (List Nat) := do
  let lin ← segLinear sg off n write
  let s ← getState
  let sp ← linSpan lin n write (s.sys.cpl = 3)
  noteAccess lin n write
  pure sp

/-- `MemRead(seg, off, n)` of up to four bytes (R15, R130). -/
def memRead (sg : Seg) (off : Dword) (n : Nat) : Exec Dword := do
  let sp ← segSpan sg off n false
  loadSpan sp

/-! ## Loading the segment registers (R180, R181, R150, R152) -/

/-- `LoadDataSeg(seg, sel)` in protected mode (R180). Type and privilege violations raise `bad`, which is #13 but for a
task switch (R795 step 7). -/
def loadDataSeg (sg : Seg) (sel : Word) (bad : Word → Exc) : Exec Unit := do
  let s ← getState
  if isNull sel then setSeg sg (segNull (s.segs.get sg) sel)
  else do
    let d ← readDesc sel (bad (selCode sel))
    let a := d.attr
    require a.readable (bad (selCode sel))
    require (a.conforming || decide (max s.sys.cpl.toNat (rpl sel) ≤ a.dpl.toNat)) (bad (selCode sel))
    require a.p (.notPresent (selCode sel))
    setAccessed sel d
    setSeg sg (segOfDesc sel d)

/-- The checks of `LoadSS(sel)` in protected mode for privilege level `l` (R181, R592). A null selector raises `badNull`,
the other violations `bad`. -/
def checkStackSeg (sel : Word) (l : BitVec 2) (badNull : Exc) (bad : Word → Exc) : Exec Desc := do
  require (!isNull sel) badNull
  let d ← readDesc sel (bad (selCode sel))
  let a := d.attr
  require (decide (rpl sel = l.toNat)) (bad (selCode sel))
  require a.writable (bad (selCode sel))
  require (decide (a.dpl = l)) (bad (selCode sel))
  require a.p (.stack (selCode sel))
  pure d

/-- `LoadSS(sel)` in protected mode for privilege level `l` (R181, R592). -/
def loadStackSeg (sel : Word) (l : BitVec 2) (badNull : Exc) (bad : Word → Exc) : Exec Unit := do
  let d ← checkStackSeg sel l badNull bad
  setAccessed sel d
  setSeg .ss (segOfDesc sel d)

/-- A segment register loaded by MOV, POP or a far-pointer load: by the mode (R334). -/
def loadSeg (sg : Seg) (sel : Word) : Exec Unit := do
  let s ← getState
  if s.v86 then setSeg sg (segV86 sel)
  else if s.pe then
    if sg = .ss then loadStackSeg sel s.sys.cpl (.protection 0) .protection
    else loadDataSeg sg sel .protection
  else setSeg sg (segReal (s.segs.get sg) sel)

/-- On a return to an outer level, a data segment register that the outer level may not use is nulled (R596). -/
def nullIfInner (cpl : BitVec 2) (r : SegReg) : SegReg :=
  if r.valid && (r.attr.isData || (r.attr.isCode && !r.attr.conforming)) && decide (r.attr.dpl.toNat < cpl.toNat)
  then segNull r 0 else r

/-- ES, DS, FS and GS checked for an outer level (R596, R650). -/
def nullInnerSegs (cpl : BitVec 2) : Exec Unit := update fun s =>
  { s with segs := { s.segs with es := nullIfInner cpl s.segs.es, ds := nullIfInner cpl s.segs.ds
                                 fs := nullIfInner cpl s.segs.fs, gs := nullIfInner cpl s.segs.gs } }

end Sys2Proof.Machine
end

