-- ==== Sys2Proof/Machine/Operands.lean ====
section
/-! DEFINITION. Operands: immediate data and displacements (spec/30_encoding.md R256, R267), effective addresses
(R274 to R280), the r/m operand (R326), and the stack (spec/40_data_transfer.md R350, R351). -/

namespace Sys2Proof.Machine

/-! ## Immediate data and displacements -/

/-- Immediate data as an operand of a size, sign-extended where it is shorter (R267, R282). -/
def immValue (sz : Size) : Imm → BitVec sz.bits
  | .i8 v => v.signExtend sz.bits
  | .i16 v => v.signExtend sz.bits
  | .i32 v => v.signExtend sz.bits

/-- A full displacement as an unsigned offset (R267). -/
def fullOffset : Full → Dword
  | .w16 v => v.setWidth 32
  | .w32 v => v

/-- A full displacement as a signed distance (R267). -/
def fullDistance : Full → Dword
  | .w16 v => v.signExtend 32
  | .w32 v => v

/-! ## Effective addresses (R275 to R280) -/

/-- A displacement of a 16-bit address; `d8` is sign-extended (R256, R275). -/
def disp16Value : Disp16 → Word
  | .none => 0
  | .d8 d => d.signExtend 16
  | .d16 d => d

/-- A displacement of a 32-bit address; `d8` is sign-extended (R256, R276). -/
def disp32Value : Disp32 → Dword
  | .none => 0
  | .d8 d => d.signExtend 32
  | .d32 d => d

/-- The 16-bit half of a register. -/
def low16 (v : Dword) : Word := v.setWidth 16

/-- The sum of the registers of a 16-bit base (R275). -/
def base16Value (g : Regs) : Base16 → Word
  | .bxSi => low16 g.ebx + low16 g.esi
  | .bxDi => low16 g.ebx + low16 g.edi
  | .bpSi => low16 g.ebp + low16 g.esi
  | .bpDi => low16 g.ebp + low16 g.edi
  | .si => low16 g.esi
  | .di => low16 g.edi
  | .bp => low16 g.ebp
  | .bx => low16 g.ebx

/-- The factor of a scale field (R278). -/
def scaleShift : Scale → Nat
  | .x1 => 0
  | .x2 => 1
  | .x4 => 2
  | .x8 => 3

/-- The scaled index; without an index register it is 0 (R278). -/
def indexValue (g : Regs) (sc : Scale) : Option Reg → Dword
  | none => 0
  | some r => g.get r <<< scaleShift sc

/-- Without an index register the scale must be 1, or the effective address is undefined (R278). -/
def eaUndefined : Mem → Bool
  | .sib sc none _ _ => sc != .x1
  | .sibDisp sc none _ => sc != .x1
  | _ => false

/-- The offset of a memory operand (R279); an undefined one is the next free value (R278). -/
def eaOffset (s : State) (m : Mem) : Dword :=
  if eaUndefined m then Config.freeValue s.draws
  else
    match m with
    | .direct16 d => d.setWidth 32
    | .based16 b d => (base16Value s.regs b + disp16Value d).setWidth 32
    | .direct32 d => d
    | .based32 b d => s.regs.get b + disp32Value d
    | .sib sc i b d => s.regs.get b + indexValue s.regs sc i + disp32Value d
    | .sibDisp sc i d => indexValue s.regs sc i + d

/-- The default segment: SS where the base register is BP, EBP or ESP, else DS (R280). -/
def eaDefaultSeg : Mem → Seg
  | .based16 .bpSi _ | .based16 .bpDi _ | .based16 .bp _ => .ss
  | .based32 .ebp _ | .based32 .esp _ => .ss
  | .sib _ _ .ebp _ | .sib _ _ .esp _ => .ss
  | _ => .ds

/-- A segment unless a prefix overrides it (R280). -/
def overridden (s : State) (sg : Seg) : Seg := s.ctx.seg.getD sg

/-- `EA(...)`: the segment and offset of a memory operand (R279, R280). -/
def effAddr (m : Mem) : Exec (Seg × Dword) := do
  let s ← getState
  when_ (eaUndefined m) (update fun s => { s with draws := s.draws + 1 })
  pure (overridden s (eaDefaultSeg m), eaOffset s m)

/-! ## The r/m operand (R326) -/

/-- Where an operand is: a general register, or physical memory that has passed every check. -/
inductive Place where
  | reg (r : Reg)
  | mem (sp : List Nat)
  deriving DecidableEq, Repr

/-- The place of an r/m operand; `write` checks that it may be written, which a read-modify-write does before it reads
(R326). -/
def place (sz : Size) (rm : RM) (write : Bool) : Exec Place :=
  match rm with
  | .reg r => pure (.reg r)
  | .mem m => do
    let p ← effAddr m
    let sp ← segSpan p.1 p.2 sz.bytes write
    pure (.mem sp)

/-- The value at a place. -/
def readPlace (sz : Size) : Place → Exec (BitVec sz.bits)
  | .reg r => readReg sz r
  | .mem sp => do
    let v ← loadSpan sp
    pure (v.setWidth sz.bits)

/-- A value written to a place. -/
def writePlace (sz : Size) (p : Place) (v : BitVec sz.bits) : Exec Unit :=
  match p with
  | .reg r => writeReg sz r v
  | .mem sp => storeSpan sp (v.setWidth 32)

/-- `RM_read(n)` (R326). -/
def readRM (sz : Size) (rm : RM) : Exec (BitVec sz.bits) := do
  let p ← place sz rm false
  readPlace sz p

/-- `RM_write(n, v)` (R326). -/
def writeRM (sz : Size) (rm : RM) (v : BitVec sz.bits) : Exec Unit := do
  let p ← place sz rm true
  writePlace sz p v

/-! ## The count register (R512, R567, R568) -/

/-- CX or ECX, by the address size. -/
def countReg (s : State) : Dword := if s.ctx.addr32 then s.regs.ecx else (low16 s.regs.ecx).setWidth 32

/-- The count register one less; of CX the upper half of ECX is unchanged. -/
def countDown : Exec Unit := update fun s =>
  { s with regs := { s.regs with
      ecx := if s.ctx.addr32 then s.regs.ecx - 1 else putLow16 s.regs.ecx (low16 s.regs.ecx - 1) } }

/-! ## The stack (R264, R350, R351) -/

/-- The offset that the stack pointer names: ESP or SP (R264). -/
def stackPtr (s : State) : Dword := if s.stack32 then s.regs.esp else (low16 s.regs.esp).setWidth 32

/-- The stack pointer moved up; with a 16-bit stack only SP changes and wraps (R350, R351). -/
def ptrUp (wide : Bool) (ptr : Dword) (n : Nat) : Dword :=
  if wide then ptr + BitVec.ofNat 32 n else (low16 ptr + BitVec.ofNat 16 n).setWidth 32

/-- The stack pointer moved down (R350). -/
def ptrDown (wide : Bool) (ptr : Dword) (n : Nat) : Dword :=
  if wide then ptr - BitVec.ofNat 32 n else (low16 ptr - BitVec.ofNat 16 n).setWidth 32

/-- ESP or SP written (R350). -/
def setStackPtr (v : Dword) : Exec Unit := update fun s =>
  { s with regs := { s.regs with esp := if s.stack32 then v else putLow16 s.regs.esp (low16 v) } }

/-- The stack pointer after a push of `n` bytes; a 16-bit push that would run across offset FFFFh shuts a real-mode
processor down and raises #12 in the other modes (R350, R853). -/
def pushPtr (ptr : Dword) (n : Nat) : Exec Dword := do
  let s ← getState
  if !s.stack32 && decide (0 < ptr.toNat) && decide (ptr.toNat < n) then
    if s.pe then raise (.stack 0) else stopWith .shutdown
  else pure (ptrDown s.stack32 ptr n)

/-- Room for `count` pushes of `n` bytes below a stack pointer: the segment checks of all of them, made as the pushes
would make them (R350, R358, R753). Pushes between two of which the stack pointer is 0 have room where each of them has,
on both sides of the wrap (DESIGN CHOICE, log entry 58: R584, R590 and R591 can also mean that the bytes below the stack
pointer are there without a wrap). -/
def checkPushes (count n : Nat) (ptr : Dword) : Exec Unit :=
  match count with
  | 0 => pure ()
  | k + 1 => do
    let new ← pushPtr ptr n
    let _ ← segLinear .ss new n true
    checkPushes k n new

/-- A stack slot of `n` bytes claimed: the checks of its write are made and the stack pointer moves; what is stored
there comes after every check of the instruction. -/
def claimSlot (n : Nat) : Exec (List Nat) := do
  let s ← getState
  let new ← pushPtr (stackPtr s) n
  let sp ← segSpan .ss new n true
  setStackPtr new
  pure sp

/-- Slots for a list of values of `n` bytes, in push order. -/
def claimSlots (n : Nat) : List Dword → Exec (List (List Nat))
  | [] => pure []
  | _ :: rest => do
    let sp ← claimSlot n
    let sps ← claimSlots n rest
    pure (sp :: sps)

/-- Values stored into their slots. -/
def fillSlots : List (List Nat) → List Dword → Exec Unit
  | sp :: sps, v :: vs => do
    storeSpan sp v
    fillSlots sps vs
  | _, _ => pure ()

/-- `push_N(v)` (R350). -/
def push (sz : Size) (v : Dword) : Exec Unit := do
  let sp ← claimSlot sz.bytes
  storeSpan sp v

/-- The first offset beyond the stack: a 16-bit stack ends at FFFFh whatever the limit of SS (R175, R351). -/
def stackEnd (s : State) : Nat := if s.stack32 then 2 ^ 32 else 2 ^ 16

/-- `n` bytes from `delta` bytes above the stack top lie below the end of the stack, the offset reckoned without wrap
(R15, R351, R595); else #12. -/
def requireStack (delta n : Nat) : Exec Unit := do
  let s ← getState
  require (decide ((stackPtr s).toNat + delta + n ≤ stackEnd s)) (.stack 0)

/-- `delta` bytes above the stack top, `n` bytes read, the stack pointer unchanged (R351, R581, R595). -/
def peek (delta n : Nat) : Exec Dword := do
  requireStack delta n
  let s ← getState
  memRead .ss (stackPtr s + BitVec.ofNat 32 delta) n

/-- `n` bytes of the stack read at an offset that is not the stack pointer's: they lie below the end of the stack, whatever
the limit of SS (R175, R351); else #12. -/
def stackRead (off : Dword) (n : Nat) : Exec Dword := do
  let s ← getState
  require (decide (off.toNat + n ≤ stackEnd s)) (.stack 0)
  memRead .ss off n

/-- The `n` bytes from the stack top lie within the stack segment and may be read (R595, R596, R649 to R651). -/
def checkFrame (n : Nat) : Exec Unit := do
  requireStack 0 n
  let s ← getState
  let _ ← segLinear .ss (stackPtr s) n false
  pure ()

/-- Bytes taken off the stack (R351). -/
def release (n : Nat) : Exec Unit := do
  let s ← getState
  setStackPtr (ptrUp s.stack32 (stackPtr s) n)

/-- The segment checks of `count` pops of `n` bytes from a stack pointer, which wraps between them (R359). -/
def checkPops (count n : Nat) (ptr : Dword) : Exec Unit :=
  match count with
  | 0 => pure ()
  | k + 1 => do
    let s ← getState
    require (decide (ptr.toNat + n ≤ stackEnd s)) (.stack 0)
    let _ ← segLinear .ss ptr n false
    checkPops k n (ptrUp s.stack32 ptr n)

/-- `pop_N()` (R351). -/
def pop (sz : Size) : Exec Dword := do
  let v ← peek 0 sz.bytes
  release sz.bytes
  pure v

/-- A selector as a stack slot: in a 32-bit slot the upper 16 bits are undefined (R356, R753, U20). -/
def selectorSlot (sz : Size) (sel : Word) : Exec Dword :=
  match sz with
  | .d => do
    let v ← draw
    pure (v.extractLsb' 16 16 ++ sel)
  | _ => pure (sel.setWidth 32)

end Sys2Proof.Machine
end

