-- ==== Sys2Proof/Machine/Tasks.lean ====
section
/-! DEFINITION. The task state segment (spec/60_exceptions.md R795, R796): the stacks of the inner levels
(spec/46_control_transfer.md R592) and the task switch. -/

namespace Sys2Proof.Machine

/-- The stack of privilege level `l` in the current TSS: selector and pointer (R592). -/
def tssStack (l : BitVec 2) : Exec (Word × Dword) := do
  let s ← getState
  let tr := s.sys.tr
  let n := l.toNat
  if tr.attr.is386 then
    require (decide (8 * n + 11 ≤ tr.limit.toNat)) (.invalidTss (selCode tr.sel))
    let esp ← linRead (tr.base + BitVec.ofNat 32 (4 + 8 * n)) 4
    let ss ← linRead (tr.base + BitVec.ofNat 32 (8 + 8 * n)) 2
    pure (low16 ss, esp)
  else
    require (decide (4 * n + 5 ≤ tr.limit.toNat)) (.invalidTss (selCode tr.sel))
    let sp ← linRead (tr.base + BitVec.ofNat 32 (2 + 4 * n)) 2
    let ss ← linRead (tr.base + BitVec.ofNat 32 (4 + 4 * n)) 2
    pure (low16 ss, sp)

/-- The privilege level changed, with the stack of the new level: SS, and ESP or SP by the new stack's size (R591,
R754). From V86 mode too a stack with B = 0 takes SP alone, and ESP[31:16] is kept (DESIGN CHOICE, log entry 64: step (2)
of R790 writes ESP, R754 SP alone). The selector and the descriptor of the stack are answered: its accessed bit is set
once every other check of the transfer has passed. -/
def enterInnerStack (l : BitVec 2) : Exec (Word × Desc) := do
  let st ← tssStack l
  let d ← checkStackSeg st.1 l (.invalidTss 0) .invalidTss
  setSeg .ss (segOfDesc st.1 d)
  update fun s => { s with sys := { s.sys with cpl := l } }
  setStackPtr st.2
  pure (st.1, d)

/-! ## The task switch (R795, R796) -/

/-- What causes a task switch. -/
inductive SwitchKind where
  | jmp
  | call
  | int
  | iret
  deriving DecidableEq, Repr

/-- The new task is nested in the old one (R797). -/
def SwitchKind.nests : SwitchKind → Bool
  | .call | .int => true
  | .jmp | .iret => false

/-- `n` bytes at an offset of a span. -/
def field (sp : List Nat) (off n : Nat) : List Nat := (sp.drop off).take n

/-- The byte addresses of the access-rights byte of a descriptor whose busy bit changes, if its table has it; a
descriptor that stays as it is is not accessed for a write (R652, R795 steps 2 and 3, log entry 30). Where the GDT does not
reach the old descriptor, because GDTR has changed since LTR, nothing is written and nothing raised (DESIGN CHOICE, log
entry 66: R795 does not name the case). -/
def rightsSpan (changes : Bool) (sel : Word) : Exec (List Nat) := do
  let s ← getState
  match descAddr s sel with
  | some a => if changes then linSpan (a + 5) 1 true false else pure []
  | none => pure []

/-- The busy bit of a TSS descriptor written (R795). -/
def writeBusy (sp : List Nat) (busy : Bool) : Exec Unit := do
  let v ← loadSpan sp
  storeSpan sp (if busy then v ||| 2 else v &&& 0xFD)

/-- The general registers in the order of a TSS (R795, R796). -/
def tssRegs : List Reg := [.eax, .ecx, .edx, .ebx, .esp, .ebp, .esi, .edi]

/-- The segment registers in the order of a 386 TSS (R795). -/
def tssSegs : List Seg := [.es, .cs, .ss, .ds, .fs, .gs]

/-- The segment registers in the order of a 286 TSS (R796). -/
def tssSegs16 : List Seg := [.es, .cs, .ss, .ds]

/-- The dynamic fields of a 386 TSS written: 20h to 5Fh (R795). -/
def saveTask32 (sp : List Nat) (eip flags : Dword) : Exec Unit := do
  let s ← getState
  storeSpan (field sp 0 4) eip
  storeSpan (field sp 4 4) flags
  eachDo tssRegs.zipIdx fun p => storeSpan (field sp (8 + 4 * p.2) 4) (s.regs.get p.1)
  eachDo tssSegs.zipIdx fun p => storeSpan (field sp (0x28 + 4 * p.2) 2) ((s.segs.get p.1).sel.setWidth 32)

/-- The dynamic fields of a 286 TSS written: 0Eh to 29h (R796). -/
def saveTask16 (sp : List Nat) (eip flags : Dword) : Exec Unit := do
  let s ← getState
  storeSpan (field sp 0 2) eip
  storeSpan (field sp 2 2) flags
  eachDo tssRegs.zipIdx fun p => storeSpan (field sp (4 + 2 * p.2) 2) (s.regs.get p.1)
  eachDo tssSegs16.zipIdx fun p => storeSpan (field sp (0x14 + 2 * p.2) 2) ((s.segs.get p.1).sel.setWidth 32)

/-- What a TSS holds for a task to be resumed; of a 286 TSS the registers are 16 bits, FS and GS null, and there is
no CR3 and no T bit (R796). -/
structure TaskImage where
  cr3 : Option Dword
  eip : Dword
  flags : Dword
  regs : List Dword
  segs : List Word
  ldt : Word
  t : Bool
  deriving DecidableEq, Repr

/-- The image in a 386 TSS (R795). -/
def loadImage32 (sp : List Nat) : Exec TaskImage := do
  let cr3 ← loadSpan (field sp 0x1C 4)
  let eip ← loadSpan (field sp 0x20 4)
  let flags ← loadSpan (field sp 0x24 4)
  let regs ← eachGet [0, 1, 2, 3, 4, 5, 6, 7] fun k => loadSpan (field sp (0x28 + 4 * k) 4)
  let segs ← eachGet [0, 1, 2, 3, 4, 5] fun k => loadSpan (field sp (0x48 + 4 * k) 2)
  let ldt ← loadSpan (field sp 0x60 2)
  let t ← loadSpan (field sp 0x64 1)
  pure { cr3 := some cr3, eip := eip, flags := flags, regs := regs, segs := segs.map low16, ldt := low16 ldt
         t := t.getLsbD 0 }

/-- The image in a 286 TSS (R796). -/
def loadImage16 (sp : List Nat) : Exec TaskImage := do
  let eip ← loadSpan (field sp 0x0E 2)
  let flags ← loadSpan (field sp 0x10 2)
  let regs ← eachGet [0, 1, 2, 3, 4, 5, 6, 7] fun k => loadSpan (field sp (0x12 + 2 * k) 2)
  let segs ← eachGet [0, 1, 2, 3] fun k => loadSpan (field sp (0x22 + 2 * k) 2)
  let ldt ← loadSpan (field sp 0x2A 2)
  pure { cr3 := none, eip := eip, flags := flags, regs := regs, segs := segs.map low16 ++ [0, 0], ldt := low16 ldt
         t := false }

/-- The general registers of an image loaded; from a 286 TSS the upper halves are unchanged (R796, U24). -/
def imageRegs (g : Regs) (wide : Bool) (l : List Dword) : Regs :=
  (tssRegs.zip l).foldl (fun g p => if wide then g.set p.1 p.2 else g.set p.1 (putLow16 (g.get p.1) (low16 p.2))) g

/-- The segment registers with the selectors of an image and no valid descriptor yet (R795 step 5). -/
def imageSels (g : SegRegs) (l : List Word) : SegRegs :=
  (tssSegs.zip l).foldl (fun g p => g.set p.1 (segNull (g.get p.1) p.2)) g

/-- DR7 after a task switch: every Li and LE cleared (R795, R827). -/
def clearLocal (dr7 : Dword) : Dword := dr7 &&& 0xFFFFFEAA

/-- LDTR loaded from a TSS: violations raise #10 (R185, R795 step 6). -/
def loadTaskLdt (sel : Word) : Exec Unit := do
  if isNull sel then pure ()
  else do
    require (!inLdt sel) (.invalidTss (selCode sel))
    let d ← readDesc sel (.invalidTss (selCode sel))
    require (d.attr.isLdt && d.attr.p) (.invalidTss (selCode sel))
    update fun s => { s with sys := { s.sys with ldtr := systemOfDesc sel d } }

/-- CS loaded in a task switch: CPL becomes the selector's RPL (R795 step 7). -/
def loadTaskCode (sel : Word) : Exec Unit := do
  let l := sel.extractLsb' 0 2
  update fun s => { s with sys := { s.sys with cpl := l } }
  require (!isNull sel) (.invalidTss (selCode sel))
  let d ← readDesc sel (.invalidTss (selCode sel))
  let a := d.attr
  require a.isCode (.invalidTss (selCode sel))
  require (if a.conforming then decide (a.dpl.toNat ≤ l.toNat) else decide (a.dpl = l)) (.invalidTss (selCode sel))
  require a.p (.notPresent (selCode sel))
  setAccessed sel d
  setSeg .cs (segOfDesc sel d)

/-- The six segment registers loaded as M8086 segments, and CPL 3 (R795 step 7, R787). -/
def loadV86Segs (l : List Word) : Exec Unit := do
  eachDo (tssSegs.zip l) fun p => setSeg p.1 (segV86 p.2)
  update fun s => { s with sys := { s.sys with cpl := 3 } }

/-- The part of a task switch after the commit point (R795 steps 5 to 8). Where the flags of the new task set VM, CPL is 3
from then on (R840, DEDUCED). -/
def resumeTask (img : TaskImage) (wide : Bool) (kind : SwitchKind) : Exec Unit := do
  let s ← getState
  match img.cr3 with
  | some v => do
    let new := v &&& 0xFFFFF000
    when_ (new != s.sys.cr3) tlbFlush
    update fun s => { s with sys := { s.sys with cr3 := new } }
  | none => pure ()
  let flags := Flags.ofImage (if wide then img.flags else img.flags &&& 0xFFFF)
  update fun s =>
    { s with
      eip := img.eip
      flags := { flags with nt := flags.nt || kind.nests }
      regs := imageRegs s.regs wide img.regs
      segs := imageSels s.segs img.segs
      sys := { s.sys with ldtr := segNull s.sys.ldtr img.ldt, cpl := if flags.vm then 3 else s.sys.cpl }
      dregs := { s.dregs with dr7 := clearLocal s.dregs.dr7 } }
  setNext img.eip
  loadTaskLdt img.ldt
  if flags.vm then loadV86Segs img.segs
  else do
    loadTaskCode (img.segs.getD 1 0)
    let s' ← getState
    loadStackSeg (img.segs.getD 2 0) s'.sys.cpl (.invalidTss (selCode (img.segs.getD 2 0))) .invalidTss
    loadDataSeg .ds (img.segs.getD 3 0) .invalidTss
    loadDataSeg .es (img.segs.getD 0 0) .invalidTss
    loadDataSeg .fs (img.segs.getD 4 0) .invalidTss
    loadDataSeg .gs (img.segs.getD 5 0) .invalidTss
  when_ img.t (update fun s => { s with events := { s.events with traps := { s.events.traps with bt := true } } })

/-- An exception after the commit point is taken in the new task (R795). -/
def inNewTask : Stop → Stop
  | .exc e => .excInNewTask e
  | x => x

/-- `TaskSwitch(tsel, t, kind)` (R795): the old task is saved to resume at `retEip`. Every page that the saving, the
back link and the reading of the new TSS touch is translated before anything is stored, so a page fault there is
taken in the old task (log entry 30). The old descriptor stays busy in a nesting switch, and the new one is busy already
for an IRET: neither is then written, nor its page translated for a write. -/
def taskSwitch (tsel : Word) (t : Desc) (kind : SwitchKind) (retEip : Dword) : Exec Unit := do
  let s ← getState
  let old := s.sys.tr
  let oldWide := old.attr.is386
  let newWide := t.attr.is386
  require (decide ((if newWide then 0x65 else 0x2B) ≤ t.limit.toNat)) (.invalidTss (selCode tsel))
  let oldSpan ← linSpan (old.base + (if oldWide then 0x20 else 0x0E)) (if oldWide then 0x40 else 0x1C) true false
  let linkSpan ← linSpan t.base 2 kind.nests false
  let newSpan ← linSpan t.base (if newWide then 0x66 else 0x2C) false false
  let oldRights ← rightsSpan (!kind.nests) old.sel
  let newRights ← rightsSpan (kind != SwitchKind.iret) tsel
  let flags := { s.flags with nt := s.flags.nt && kind != SwitchKind.iret }
  if oldWide then saveTask32 oldSpan retEip flags.image else saveTask16 oldSpan retEip flags.image
  if kind.nests then storeSpan linkSpan (old.sel.setWidth 32) else writeBusy oldRights false
  when_ (kind != SwitchKind.iret) (writeBusy newRights true)
  let busy := { systemOfDesc tsel t with attr := { t.attr with typ := t.attr.typ ||| 2 } }
  update fun s => { s with sys := { s.sys with tr := busy, cr0 := s.sys.cr0 ||| 8 } }
  let img ← if newWide then loadImage32 newSpan else loadImage16 newSpan
  mapStop inNewTask (resumeTask img newWide kind)

/-- The task gate's TSS selector and its descriptor, checked (R593, R758): it must be in the GDT and name an available
TSS that is present. -/
def readTaskTarget (tsel : Word) : Exec Desc := do
  require (!inLdt tsel && !isNull tsel) (.protection (selCode tsel))
  let t ← readDesc tsel (.protection (selCode tsel))
  require t.attr.availableTss (.protection (selCode tsel))
  require t.attr.p (.notPresent (selCode tsel))
  pure t

/-- After a switch the new EIP must lie within the new code segment (R593, R652, R758). Where it does not and the new task
has T = 1, the #13 is delivered first and the task-switch trap is taken at its handler's first instruction (DESIGN CHOICE,
log entry 42: R825 does not say which comes first). -/
def checkNewTask : Exec Unit := do
  let s ← getState
  mapStop inNewTask (require (decide (s.eip.toNat ≤ s.segs.cs.limit.toNat)) (.protection 0))

end Sys2Proof.Machine
end

