-- ==== Sys2Proof/Machine/Ops.lean ====
section
/-! DEFINITION. Taking an interrupt or exception (spec/60_exceptions.md R740 to R758, R780, R790) and returning from
one (spec/48_interrupt_instructions.md R648 to R652), the loads of CS that far transfers share
(spec/46_control_transfer.md R560, R583, R595, R596), and how an instruction runs and ends (R722, R723, R741). -/

namespace Sys2Proof.Machine

/-! ## Loading CS (R182, R560, R583) -/

/-- A target offset must lie within the limit of the code segment (R560). -/
def checkTarget (limit off : Dword) (e : Exc) : Exec Unit := require (decide (off.toNat ≤ limit.toNat)) e

/-- CS loaded with a descriptor and an RPL; the accessed bit is set in memory (R184). -/
def loadCode (sel : Word) (l : BitVec 2) (d : Desc) : Exec Unit := do
  setAccessed sel d
  setSeg .cs (segOfDesc (withRpl sel l) d)

/-- CS loaded in real or V86 mode (R581): in real mode limit and attributes are not touched, in V86 mode it is a V86
segment (R152). -/
def loadCodeReal (sel : Word) : Exec Unit := do
  let s ← getState
  setSeg .cs (if s.v86 then segV86 sel else segReal s.segs.cs sel)

/-! ## Taking an interrupt or exception -/

/-- Where an interrupt comes from (R740). -/
inductive Source where
  /-- INT n, INT 3, INTO -/
  | software
  /-- INTR, NMI -/
  | ext
  /-- every processor-detected fault, trap and abort -/
  | exception
  deriving DecidableEq, Repr

/-- What is to be delivered (R740). -/
structure Event where
  vector : Byte
  code : Option Word
  source : Source
  /-- the EIP to save -/
  retEip : Dword
  /-- RF in the saved image (R755) -/
  rf : Bool
  /-- the NMI, whose delivery clears IF whatever the gate (R733) -/
  nmi : Bool
  deriving DecidableEq, Repr

/-- Delivery in real mode (R746). Beyond the interrupt table the double fault is raised, or the processor shuts down if
that is what is delivered, or a #13 raised by a delivery (`nested`) (R853). The handler's offset is not checked against the
limit of CS, which can be below FFFFh after protected mode (DESIGN CHOICE, log entry 62: R560 names INT, R746 lists no such
check), so that the #13 comes from the fetch there. -/
def deliverReal (nested : Bool) (ev : Event) : Exec Unit := do
  let s ← getState
  if s.sys.idtr.limit.toNat < 4 * ev.vector.toNat + 3 then
    if decide (ev.vector = 8) || (nested && decide (ev.vector = 13)) then stopWith .shutdown
    else raise .doubleFault
  else do
    let entry ← linRead (s.sys.idtr.base + BitVec.ofNat 32 (4 * ev.vector.toNat)) 4
    checkPushes 3 2 (stackPtr s)
    let vals := [({ s.flags with rf := ev.rf } : Flags).image, s.segs.cs.sel.setWidth 32, ev.retEip]
    let slots ← claimSlots 2 vals
    fillSlots slots vals
    updateFlags fun f => { f with ie := false, tf := false, rf := false }
    loadCodeReal (entry.extractLsb' 16 16)
    setNext (entry.extractLsb' 0 16 |>.setWidth 32)

/-- The width of a gate's pushes (R752, R590). -/
def gateSize (a : Attr) : Size := if a.is386 then .d else .w

/-- The error code as the last value of a frame. -/
def codeValues (code : Option Word) (sz : Size) : Exec (List Dword) :=
  match code with
  | none => pure []
  | some c => do
    let v ← selectorSlot sz c
    pure [v]

/-- The values that leaving V86 mode pushes first: GS, FS, DS, ES (R790). -/
def v86Values (s : State) (sz : Size) : Exec (List Dword) :=
  eachGet [s.segs.gs.sel, s.segs.fs.sel, s.segs.ds.sel, s.segs.es.sel] (selectorSlot sz)

/-- DS, ES, FS and GS made null on leaving V86 mode (R790). -/
def nullDataSegs : Exec Unit := update fun s =>
  { s with segs := { s.segs with es := segNull s.segs.es 0, ds := segNull s.segs.ds 0, fs := segNull s.segs.fs 0
                                 gs := segNull s.segs.gs 0 } }

/-- Delivery through an interrupt or trap gate (R752 to R755, R790). From V86 mode the gate must be a 386 gate to a
non-conforming segment of level 0; a 286 gate is refused as U47 says (DESIGN CHOICE, log entry 24: R790 leaves what
follows such a gate outside its guarantee). The error code of that #13 has EXT as every exception raised in a delivery
(DESIGN CHOICE, log entry 65: `deliver` adds it by R756, while R752 and R790 write this code without it). -/
def deliverGate (ev : Event) (g : Desc) : Exec Unit := do
  let s ← getState
  let sz := gateSize g.attr
  let sel := g.gateSel
  let off := g.gateOffset g.attr.is386
  require (!isNull sel) (.protection 0)
  let d ← readDesc sel (.protection (selCode sel))
  let a := d.attr
  require (a.isCode && decide (a.dpl.toNat ≤ s.sys.cpl.toNat)) (.protection (selCode sel))
  require a.p (.notPresent (selCode sel))
  let inner := !a.conforming && decide (a.dpl.toNat < s.sys.cpl.toNat)
  require (!s.v86 || (inner && decide (a.dpl = 0) && g.attr.is386)) (.protection (selCode sel))
  let image := ({ s.flags with rf := ev.rf } : Flags).image
  let csSlot ← selectorSlot sz s.segs.cs.sel
  let code ← codeValues ev.code sz
  if inner then do
    updateFlags fun f => { f with vm := false }
    let st ← enterInnerStack a.dpl
    let data ← if s.v86 then v86Values s sz else pure []
    let ssSlot ← selectorSlot sz s.segs.ss.sel
    let vals := data ++ [ssSlot, s.regs.esp, image, csSlot, ev.retEip] ++ code
    let s' ← getState
    checkPushes vals.length sz.bytes (stackPtr s')
    checkTarget d.limit off (.protection 0)
    let slots ← claimSlots sz.bytes vals
    setAccessed st.1 st.2
    loadCode sel a.dpl d
    fillSlots slots vals
    when_ s.v86 nullDataSegs
  else do
    let vals := [image, csSlot, ev.retEip] ++ code
    checkPushes vals.length sz.bytes (stackPtr s)
    checkTarget d.limit off (.protection 0)
    let slots ← claimSlots sz.bytes vals
    loadCode sel s.sys.cpl d
    fillSlots slots vals
  let clearIe := !g.attr.typ.getLsbD 0 || ev.nmi
  updateFlags fun f => { f with tf := false, nt := false, rf := false, vm := false, ie := f.ie && !clearIe }
  setNext off

/-- Delivery through a task gate (R758): the error code goes on the new task's stack. -/
def deliverTask (ev : Event) (g : Desc) : Exec Unit := do
  let tsel := g.gateSel
  let t ← readTaskTarget tsel
  updateFlags fun f => { f with rf := ev.rf }
  taskSwitch tsel t .int ev.retEip
  when_ ev.nmi (updateFlags fun f => { f with ie := false })
  let vals ← codeValues ev.code (gateSize t.attr)
  mapStop inNewTask do
    let slots ← claimSlots (gateSize t.attr).bytes vals
    fillSlots slots vals
  checkNewTask

/-- The types that the IDT may hold (R750). -/
def idtType (a : Attr) : Bool :=
  !a.s && (a.typ == 0x5 || a.typ == 0x6 || a.typ == 0x7 || a.typ == 0xE || a.typ == 0xF)

/-- Delivery in protected and V86 mode: the IDT entry and its checks (R750, R751). -/
def deliverProtected (ev : Event) : Exec Unit := do
  let s ← getState
  let index := 8 * ev.vector.toNat
  let code := BitVec.ofNat 16 (index + 2)
  require (decide (index + 7 ≤ s.sys.idtr.limit.toNat)) (.protection code)
  let g ← readDescAt (s.sys.idtr.base + BitVec.ofNat 32 index)
  require (idtType g.attr) (.protection code)
  require (decide (ev.source ≠ .software) || decide (s.sys.cpl.toNat ≤ g.attr.dpl.toNat)) (.protection code)
  require g.attr.p (.notPresent code)
  if g.attr.taskGate then deliverTask ev g else deliverGate ev g

/-- The EXT bit in a selector-form error code (R183, R756): set in an exception raised during a delivery, unless a
software interrupt is delivered. -/
def withExt (src : Source) (e : Exc) : Exc :=
  if decide (src ≠ .software) && decide (10 ≤ e.vector.toNat) && decide (e.vector.toNat ≤ 13) then
    { e with code := e.code.map fun c => c ||| 1 }
  else e

/-- The EXT bit on whatever stops a delivery. -/
def addExt (src : Source) : Stop → Stop
  | .exc e => .exc (withExt src e)
  | .excInNewTask e => .excInNewTask (withExt src e)
  | x => x

/-- The state with the data breakpoints that another state has met. -/
def State.withMatches (t s : State) : State :=
  { t with events := { t.events with traps := { t.events.traps with b := s.events.traps.b } } }

/-- A computation whose accesses match no data breakpoint, whether it completes or stops (R822, D32). -/
def unmatched {α : Type} (x : Exec α) : Exec α := fun s =>
  match x s with
  | .ok a t => .ok a (t.withMatches s)
  | .error e t => .error e (t.withMatches s)

/-- `Deliver(vector, source, error code, return EIP)` (R740): the one way control reaches a handler. The pushes and
reads of a delivery are no operand accesses. -/
def deliver (nested : Bool) (ev : Event) : Exec Unit := do
  let s ← getState
  unmatched (mapStop (addExt ev.source) (if s.pe then deliverProtected ev else deliverReal nested ev))
  setEnding .vectored

/-! ## Exceptions during delivery (R780) -/

/-- A segment exception, 10 to 13 (R780). -/
def contributory (v : Byte) : Bool := decide (10 ≤ v.toNat) && decide (v.toNat ≤ 13)

/-- What is delivered after an exception was raised while `ev` was delivered, or `none` for shutdown; `again` says
that a page fault has already been delivered for the second time (R780). -/
def secondException (ev : Event) (e : Exc) (again : Bool) : Option Exc :=
  if ev.source = .exception then
    if ev.vector = 8 then none
    else if ev.vector = 14 then (if again then none else if e.vector = 14 then some e else some .doubleFault)
    else if contributory ev.vector then (if e.vector = 14 then some e else some .doubleFault)
    else some e
  else some e

/-- The event of a processor-detected exception: it saves the EIP of the state, which is that of the faulting
instruction; the saved RF is 1 for a fault (R722, R755), not for the abort 8. -/
def exceptionEvent (s : State) (e : Exc) : Event :=
  { vector := e.vector, code := e.code, source := .exception, retEip := s.eip
    rf := if e.vector = 8 then s.flags.rf else true, nmi := false }

/-- What stays changed although an instruction or a delivery did not complete: memory (accessed, dirty and busy bits,
and what a rule lets stand), the TLB, CR2, the debug registers, and what the model records (R723). -/
def rollback (s0 s : State) : State :=
  { s0 with
    mem := s.mem
    paging := s.paging
    sys := { s0.sys with cr2 := s.sys.cr2 }
    dregs := s.dregs
    bus := s.bus
    draws := s.draws }

/-- The processor shuts down: the indication cycle, and the state is kept (R854). -/
def enterShutdown (s : State) : State :=
  { s with
    events := { s.events with activity := .shutdown, inhibit := .off, begun := .no, held := none }
    ctx := Context.idle
    bus := .shutdownIndication :: s.bus }

/-- The pending single-step trap dropped: none is taken on entry to a handler (R824, D31). -/
def Events.withoutStep (e : Events) : Events := { e with traps := { e.traps with bs := false } }

/-- The state after a completed delivery: running at the handler's first instruction, with no single-step trap pending,
not even one that the inhibit of MOV SS has held back (R824, D31). An interrupt inhibit ends with the delivery (DESIGN
CHOICE, log entry 49: R735 has it last until the next instruction completes, D25 for the next boundary alone). -/
def settle (s : State) : State :=
  { s with
    eip := s.ctx.nextEip
    events := { s.events.withoutStep with activity := .running, inhibit := .off, begun := .no, held := none }
    ctx := Context.idle }

/-- A delivery, and what follows if it raises an exception itself (R780). A chain of exceptions has at most five
deliveries; `fuel` counts them down. -/
def deliverChain (fuel : Nat) (nested again : Bool) (ev : Event) (s : State) : Host.Outcome State Fault Refusal :=
  match fuel with
  | 0 => .next (enterShutdown s)
  | k + 1 =>
    match deliver nested ev s with
    | .ok _ t => .next (settle t)
    | .error (.exc e) t =>
      let r := rollback s t
      match secondException ev e again with
      | some e' => deliverChain k true (decide (ev.vector = 14 ∧ ev.source = .exception)) (exceptionEvent r e') r
      | none => .next (enterShutdown r)
    | .error (.excInNewTask e) t =>
      match secondException ev e again with
      | some e' => deliverChain k true (decide (ev.vector = 14 ∧ ev.source = .exception)) (exceptionEvent t e') t
      | none => .next (enterShutdown t)
    | .error .shutdown t => .next (enterShutdown (rollback s t))
    | .error (.fault f) _ => .fault f
    | .error (.refuse r) _ => .refused r

/-- The deliveries that a chain can have. -/
def chainLength : Nat := 8

/-- TAKING AN EXCEPTION: an interrupt or exception delivered from a state between instructions, or from the state that
a faulting instruction goes back to. -/
def takeEvent (ev : Event) (s : State) : Host.Outcome State Fault Refusal := deliverChain chainLength false false ev s

/-! ## How an instruction ends -/

/-- The state after an instruction that ran: EIP moves on, one that has not finished is held as it was decoded (R512, D22),
RF is reset unless an image set it (R41), the inhibit of R735 is renewed, and with TF set at its start a single-step trap
is pending; after one that delivered none is, not even one held back since MOV SS (R824, D31). The inhibit lasts until the
instruction is over: through the iterations of a REP string instruction, and through the wait of WAIT or ESC for BUSY#,
in which what it holds off stays held off (DESIGN CHOICE, log entry 60: R673 and R814 take an NMI or INTR while it waits,
D25 holds off one boundary, R735 the whole instruction). -/
def retire (tf : Bool) (s : State) : State :=
  let e := s.ctx.ending
  { s with
    eip := s.ctx.nextEip
    flags := if e = .completed then { s.flags with rf := false } else s.flags
    events :=
      { s.events with
        inhibit :=
          match e with
          | .unfinished _ => s.events.inhibit
          | .vectored => .off
          | _ => s.ctx.inhibitNext
        begun :=
          match e with
          | .unfinished b => b
          | _ => .no
        held :=
          match e with
          | .unfinished _ => s.ctx.code
          | _ => none
        traps := { s.events.traps with
          bs := e != .vectored && (s.events.traps.bs || (tf && e != .unfinished .wait)) } }
    ctx := Context.idle }

/-- What follows an instruction of state `s` that stopped at `t`: its exception is taken in the state it began with (R722,
R723), or the machine stops. A shutdown too keeps the state that the instruction began with, but for what it had stored
(DESIGN CHOICE, log entry 63: R853 and R854 do not say whether an earlier push of the instruction stands). -/
def afterStop (s : State) (x : Stop) (t : State) : Host.Outcome State Fault Refusal :=
  match x with
  | .exc e => takeEvent (exceptionEvent (rollback s t) e) (rollback s t)
  | .excInNewTask e => takeEvent (exceptionEvent t e) t
  | .shutdown => .next (enterShutdown (rollback s t))
  | .fault f => .fault f
  | .refuse r => .refused r

/-- The meaning of an instruction run from a state. -/
def runInstr (body : Exec Unit) (s : State) : Host.Outcome State Fault Refusal :=
  match body s with
  | .ok _ t => .next (retire s.flags.tf t)
  | .error x t => afterStop s x t

/-- The delivery of a software interrupt (R640 to R642): it saves the EIP of the next instruction and the current RF
(R755). -/
def softwareInterrupt (vector : Byte) : Exec Unit := do
  let s ← getState
  deliver false
    { vector := vector, code := none, source := .software, retEip := s.ctx.nextEip, rf := s.flags.rf, nmi := false }

/-! ## Return to a code segment (R595, R596, R650) -/

/-- The code segment that a far RET or an IRET returns to, with the checks of R595. -/
def returnTarget (sel : Word) : Exec Desc := do
  let s ← getState
  let e := Exc.protection (selCode sel)
  require (!isNull sel) (.protection 0)
  let d ← readDesc sel e
  let a := d.attr
  require a.isCode e
  require (decide (s.sys.cpl.toNat ≤ rpl sel)) e
  require (if a.conforming then decide (a.dpl.toNat ≤ rpl sel) else decide (a.dpl.toNat = rpl sel)) e
  require a.p (.notPresent (selCode sel))
  pure d

/-- SS and the stack pointer of the outer level, the pointer written by the operand size (R596, R650). -/
def loadOuterStack (sz : Size) (sel : Word) (d : Desc) (ptr : Dword) : Exec Unit := do
  setAccessed sel d
  setSeg .ss (segOfDesc sel d)
  update fun s =>
    { s with regs := { s.regs with esp := if sz = .d then ptr else putLow16 s.regs.esp (low16 ptr) } }

/-! ## Returning from an interrupt (R648 to R652) -/

/-- IRET in real mode, and in V86 mode with IOPL = 3 (R649). -/
def iretReal : Exec Unit := do
  let s ← getState
  let n := s.opSize.bytes
  checkFrame (3 * n)
  let off ← peek 0 n
  let sel ← peek n 2
  let img ← peek (2 * n) n
  checkTarget s.segs.cs.limit off (.protection 0)
  release (3 * n)
  loadCodeReal (low16 sel)
  updateFlags fun f => f.load img (if s.pe then s.sys.cpl.toNat else 0) s.ctx.op32
  setNext off

/-- IRET to virtual M8086 mode: a nine-doubleword frame (R651), read in the order of its addresses (DESIGN CHOICE, log entry
67: R651 names the parts of the frame and not the order of the reads, which decides CR2 where two pages of it fault). -/
def iretToV86 (off img : Dword) (sel : Word) : Exec Unit := do
  checkFrame 36
  let esp ← peek 12 4
  let ss ← peek 16 2
  let es ← peek 20 2
  let ds ← peek 24 2
  let fs ← peek 28 2
  let gs ← peek 32 2
  let eip := off &&& 0xFFFF
  loadV86Segs [low16 es, sel, low16 ss, low16 ds, low16 fs, low16 gs]
  update fun s => { s with flags := Flags.ofImage img, regs := { s.regs with esp := esp } }
  setNext eip

/-- IRET in protected mode within the task (R650). -/
def iretProtected : Exec Unit := do
  let s ← getState
  let sz := s.opSize
  let n := sz.bytes
  checkFrame (3 * n)
  let off ← peek 0 n
  let selv ← peek n 2
  let img ← peek (2 * n) n
  let sel := low16 selv
  if s.ctx.op32 && img.getLsbD 17 && decide (s.sys.cpl = 0) then iretToV86 off img sel
  else do
    let d ← returnTarget sel
    let l := sel.extractLsb' 0 2
    if l = s.sys.cpl then do
      checkTarget d.limit off (.protection 0)
      loadCode sel l d
      updateFlags fun f => f.load img s.sys.cpl.toNat s.ctx.op32
      release (3 * n)
    else do
      checkFrame (5 * n)
      let ptr ← peek (3 * n) n
      let ss ← peek (4 * n) 2
      let sd ← checkStackSeg (low16 ss) l (.protection 0) .protection
      checkTarget d.limit off (.protection 0)
      updateFlags fun f => f.load img s.sys.cpl.toNat s.ctx.op32
      update fun t => { t with sys := { t.sys with cpl := l } }
      loadCode sel l d
      loadOuterStack sz (low16 ss) sd ptr
      nullInnerSegs l
    setNext off

/-- IRET to the task that the back link names (R652). -/
def iretTask : Exec Unit := do
  let s ← getState
  let v ← linRead s.sys.tr.base 2
  let link := low16 v
  require (!inLdt link && !isNull link) (.invalidTss (selCode link))
  let t ← readDesc link (.invalidTss (selCode link))
  require t.attr.busyTss (.invalidTss (selCode link))
  require t.attr.p (.notPresent (selCode link))
  taskSwitch link t .iret s.ctx.nextEip
  checkNewTask

/-- RETURNING FROM AN INTERRUPT (R648): RF is as the image says, and NMI is no longer in service (R733). An IRET that has
switched the task and then faults in the new one has not completed: NMI stays in service (DESIGN CHOICE, log entry 51). -/
def interruptReturn : Exec Unit := do
  let s ← getState
  require (!s.v86Trapped) (.protection 0)
  if !s.pe || s.flags.vm then iretReal
  else if s.flags.nt then iretTask
  else iretProtected
  update fun s => { s with events := { s.events with nmiInService := false } }
  setEnding .rfLoaded

end Sys2Proof.Machine
end

