-- ==== Sys2Proof/Machine/Alu.lean ====
section
/-! DEFINITION. The operations that ADD, OR, ADC, SBB, AND, SUB, XOR and CMP share (spec/42_arithmetic.md R423,
spec/43_logic_shift.md R483), and the register/memory operations with one operand. -/

namespace Sys2Proof.Machine

/-- The eight operations of the `ooo` field (R423). -/
inductive AluOp where
  | add | or | adc | sbb | and | sub | xor | cmp
  deriving DecidableEq, Repr

/-- The result of an operation (R430 to R436, R484 to R487). -/
def AluOp.result {n : Nat} (op : AluOp) (cf : Bool) (a b : BitVec n) : BitVec n :=
  match op with
  | .add => addResult a b false
  | .or => a ||| b
  | .adc => addResult a b cf
  | .sbb => subResult a b cf
  | .and => a &&& b
  | .sub => subResult a b false
  | .xor => a ^^^ b
  | .cmp => subResult a b false

/-- The flags an operation defines (R430 to R436, R483). -/
def AluOp.flags {n : Nat} (op : AluOp) (f : Flags) (a b : BitVec n) : Flags :=
  match op with
  | .add => f.add a b false
  | .adc => f.add a b f.cf
  | .sbb => f.sub a b f.cf
  | .sub | .cmp => f.sub a b false
  | .or => f.logic (a ||| b)
  | .and => f.logic (a &&& b)
  | .xor => f.logic (a ^^^ b)

/-- A logical operation: it leaves AF undefined (R483). -/
def AluOp.logical : AluOp → Bool
  | .or | .and | .xor => true
  | .add | .adc | .sbb | .sub | .cmp => false

/-- The flags of an operation written. -/
def aluFlags {n : Nat} (op : AluOp) (a b : BitVec n) : Exec Unit := do
  updateFlags fun f => op.flags f a b
  when_ op.logical (undefined [.af])

/-- `dest <- dest op src` at a place (R423). -/
def aluPlace (op : AluOp) (sz : Size) (p : Place) (b : BitVec sz.bits) : Exec Unit := do
  let a ← readPlace sz p
  let s ← getState
  writePlace sz p (op.result s.flags.cf a b)
  aluFlags op a b

/-- The form `00 ooo 0dw mod reg r/m`: d = 0 writes the r/m operand, d = 1 the register (R281, R423). -/
def aluRmReg (op : AluOp) (d w : Bool) (rm : RM) (r : Reg) : Exec Unit := do
  let s ← getState
  let sz := s.sizeOf w
  if d then do
    let b ← readRM sz rm
    aluPlace op sz (.reg r) b
  else do
    let p ← place sz rm true
    let b ← readReg sz r
    aluPlace op sz p b

/-- The form `100000sw mod ooo r/m imm` (R423). -/
def aluRmImm (op : AluOp) (w : Bool) (rm : RM) (imm : Imm) : Exec Unit := do
  let s ← getState
  let sz := s.sizeOf w
  let p ← place sz rm true
  aluPlace op sz p (immValue sz imm)

/-- The form `00 ooo 10w imm` on the accumulator (R423). -/
def aluAccImm (op : AluOp) (w : Bool) (imm : Imm) : Exec Unit := do
  let s ← getState
  let sz := s.sizeOf w
  aluPlace op sz (.reg .eax) (immValue sz imm)

/-- CMP: the flags of `a - b`, nothing written; the first operand is the r/m operand or, with d = 1, the register
(R436). -/
def cmpRmReg (d w : Bool) (rm : RM) (r : Reg) : Exec Unit := do
  let s ← getState
  let sz := s.sizeOf w
  let x ← readRM sz rm
  let y ← readReg sz r
  if d then aluFlags .cmp y x else aluFlags .cmp x y

/-- CMP r/m, immediate (R436). -/
def cmpRmImm (w : Bool) (rm : RM) (imm : Imm) : Exec Unit := do
  let s ← getState
  let sz := s.sizeOf w
  let x ← readRM sz rm
  aluFlags .cmp x (immValue sz imm)

/-- CMP accumulator, immediate (R436). -/
def cmpAccImm (w : Bool) (imm : Imm) : Exec Unit := do
  let s ← getState
  let sz := s.sizeOf w
  let x ← readReg sz .eax
  aluFlags .cmp x (immValue sz imm)

/-- An r/m operand replaced by a function of it. -/
def modifyRM (w : Bool) (rm : RM) (f : {n : Nat} → BitVec n → BitVec n)
    (g : {n : Nat} → BitVec n → Flags → Flags) : Exec Unit := do
  let s ← getState
  let sz := s.sizeOf w
  let p ← place sz rm true
  let a ← readPlace sz p
  writePlace sz p (f a)
  updateFlags (g a)

/-- INC: CF is not written (R432). -/
def incFlags {n : Nat} (a : BitVec n) (f : Flags) : Flags := { f.add a 1 false with cf := f.cf }

/-- DEC: CF is not written (R435). -/
def decFlags {n : Nat} (a : BitVec n) (f : Flags) : Flags := { f.sub a 1 false with cf := f.cf }

end Sys2Proof.Machine
end

