-- ==== Sys2Proof/Machine/Arith.lean ====
section
/-! DEFINITION. Arithmetic (spec/42_arithmetic.md): ADD, ADC, INC, SUB, SBB, DEC, CMP, NEG, the decimal adjustments,
MUL, IMUL, DIV, IDIV, and the conversions. -/

namespace Sys2Proof.Machine

/-- ADD r/m, reg and reg, r/m (R430). -/
def execAddRmReg (d w : Bool) (rm : RM) (r : Reg) (s : State) : Host.Outcome State Fault Refusal :=
  runInstr (aluRmReg .add d w rm r) s

/-- ADD r/m, immediate (R430). -/
def execAddRmImm (_s w : Bool) (rm : RM) (imm : Imm) (s : State) : Host.Outcome State Fault Refusal :=
  runInstr (aluRmImm .add w rm imm) s

/-- ADD accumulator, immediate (R430). -/
def execAddAccImm (w : Bool) (imm : Imm) (s : State) : Host.Outcome State Fault Refusal :=
  runInstr (aluAccImm .add w imm) s

/-- ADC r/m, reg and reg, r/m (R431). -/
def execAdcRmReg (d w : Bool) (rm : RM) (r : Reg) (s : State) : Host.Outcome State Fault Refusal :=
  runInstr (aluRmReg .adc d w rm r) s

/-- ADC r/m, immediate (R431). -/
def execAdcRmImm (_s w : Bool) (rm : RM) (imm : Imm) (s : State) : Host.Outcome State Fault Refusal :=
  runInstr (aluRmImm .adc w rm imm) s

/-- ADC accumulator, immediate (R431). -/
def execAdcAccImm (w : Bool) (imm : Imm) (s : State) : Host.Outcome State Fault Refusal :=
  runInstr (aluAccImm .adc w imm) s

/-- SUB r/m, reg and reg, r/m (R433). -/
def execSubRmReg (d w : Bool) (rm : RM) (r : Reg) (s : State) : Host.Outcome State Fault Refusal :=
  runInstr (aluRmReg .sub d w rm r) s

/-- SUB r/m, immediate (R433). -/
def execSubRmImm (_s w : Bool) (rm : RM) (imm : Imm) (s : State) : Host.Outcome State Fault Refusal :=
  runInstr (aluRmImm .sub w rm imm) s

/-- SUB accumulator, immediate (R433). -/
def execSubAccImm (w : Bool) (imm : Imm) (s : State) : Host.Outcome State Fault Refusal :=
  runInstr (aluAccImm .sub w imm) s

/-- SBB r/m, reg and reg, r/m (R434). -/
def execSbbRmReg (d w : Bool) (rm : RM) (r : Reg) (s : State) : Host.Outcome State Fault Refusal :=
  runInstr (aluRmReg .sbb d w rm r) s

/-- SBB r/m, immediate (R434). -/
def execSbbRmImm (_s w : Bool) (rm : RM) (imm : Imm) (s : State) : Host.Outcome State Fault Refusal :=
  runInstr (aluRmImm .sbb w rm imm) s

/-- SBB accumulator, immediate (R434). -/
def execSbbAccImm (w : Bool) (imm : Imm) (s : State) : Host.Outcome State Fault Refusal :=
  runInstr (aluAccImm .sbb w imm) s

/-- CMP r/m, reg and reg, r/m (R436). -/
def execCmpRmReg (d w : Bool) (rm : RM) (r : Reg) (s : State) : Host.Outcome State Fault Refusal :=
  runInstr (cmpRmReg d w rm r) s

/-- CMP r/m, immediate (R436). -/
def execCmpRmImm (_s w : Bool) (rm : RM) (imm : Imm) (s : State) : Host.Outcome State Fault Refusal :=
  runInstr (cmpRmImm w rm imm) s

/-- CMP accumulator, immediate (R436). -/
def execCmpAccImm (w : Bool) (imm : Imm) (s : State) : Host.Outcome State Fault Refusal :=
  runInstr (cmpAccImm w imm) s

/-- INC r/m (R432). -/
def execIncRm (w : Bool) (rm : RM) (s : State) : Host.Outcome State Fault Refusal :=
  runInstr (modifyRM w rm (fun a => addResult a 1 false) fun a => incFlags a) s

/-- INC reg (R432). -/
def execIncReg (r : Reg) (s : State) : Host.Outcome State Fault Refusal :=
  runInstr (modifyRM true (.reg r) (fun a => addResult a 1 false) fun a => incFlags a) s

/-- DEC r/m (R435). -/
def execDecRm (w : Bool) (rm : RM) (s : State) : Host.Outcome State Fault Refusal :=
  runInstr (modifyRM w rm (fun a => subResult a 1 false) fun a => decFlags a) s

/-- DEC reg (R435). -/
def execDecReg (r : Reg) (s : State) : Host.Outcome State Fault Refusal :=
  runInstr (modifyRM true (.reg r) (fun a => subResult a 1 false) fun a => decFlags a) s

/-- NEG r/m (R437). -/
def execNegRm (w : Bool) (rm : RM) (s : State) : Host.Outcome State Fault Refusal :=
  runInstr (modifyRM w rm (fun a => subResult 0 a false) fun a f => f.sub 0 a false) s

/-! ## Decimal and ASCII adjustment (R438 to R441, R450, R451) -/

/-- The low digit of AL needs adjusting (R438 to R441). -/
def lowDigit (al : Byte) (af : Bool) : Bool := decide (9 < (al &&& 0x0F).toNat) || af

/-- AAA and AAS: AL and AH moved by 6 and 1 where the low digit needs it (R438, R439). -/
def asciiAdjust (f : Byte → Byte → Byte) : Exec Unit := do
  let s ← getState
  let al := s.regs.get8 .eax
  let ah := s.regs.get8 .esp
  let adj := lowDigit al s.flags.af
  writeReg .b .esp (if adj then f ah 1 else ah)
  writeReg .b .eax ((if adj then f al 6 else al) &&& 0x0F)
  updateFlags fun g => { g with af := adj, cf := adj }
  undefined [.ov, .sf, .zf, .pf]

/-- AAA (R438). -/
def execAaa (s : State) : Host.Outcome State Fault Refusal :=
  runInstr (asciiAdjust fun a b => a + b) s

/-- AAS (R439). -/
def execAas (s : State) : Host.Outcome State Fault Refusal :=
  runInstr (asciiAdjust fun a b => a - b) s

/-- DAA (R440). -/
def execDaa (s : State) : Host.Outcome State Fault Refusal :=
  runInstr (do
    let s ← getState
    let old := s.regs.get8 .eax
    let low := lowDigit old s.flags.af
    let high := decide (0x99 < old.toNat) || s.flags.cf
    let r := (if low then old + 6 else old) + (if high then 0x60 else 0)
    writeReg .b .eax r
    updateFlags fun f => { f.szp r with af := low, cf := high }
    undefined [.ov]) s

/-- DAS (R441). -/
def execDas (s : State) : Host.Outcome State Fault Refusal :=
  runInstr (do
    let s ← getState
    let old := s.regs.get8 .eax
    let low := lowDigit old s.flags.af
    let high := decide (0x99 < old.toNat) || s.flags.cf
    let borrow := low && (s.flags.cf || decide (old.toNat < 6))
    let r := (if low then old - 6 else old) - (if high then 0x60 else 0)
    writeReg .b .eax r
    updateFlags fun f => { f.szp r with af := low, cf := borrow || high }
    undefined [.ov]) s

/-- AAD (R450). -/
def execAad (s : State) : Host.Outcome State Fault Refusal :=
  runInstr (do
    let s ← getState
    let r := s.regs.get8 .esp * 10 + s.regs.get8 .eax
    writeReg .w .eax (r.setWidth 16)
    updateFlags fun f => f.szp r
    undefined [.ov, .af, .cf]) s

/-- AAM (R451). -/
def execAam (s : State) : Host.Outcome State Fault Refusal :=
  runInstr (do
    let s ← getState
    let al := s.regs.get8 .eax
    let r := al % 10
    writeReg .b .esp (al / 10)
    writeReg .b .eax r
    updateFlags fun f => f.szp r
    undefined [.ov, .af, .cf]) s

/-! ## Multiplication and division (R442 to R447) -/

/-- A double-width value into AX, DX:AX or EDX:EAX: the high and the low half (R442, R446). -/
def writeWide (sz : Size) (hi lo : BitVec sz.bits) : Exec Unit :=
  match sz with
  | .b => do
    writeReg .b .eax lo
    writeReg .b .esp hi
  | .w => do
    writeReg .w .eax lo
    writeReg .w .edx hi
  | .d => do
    writeReg .d .eax lo
    writeReg .d .edx hi

/-- The high half of the double-width accumulator: AH, DX or EDX (R446). -/
def readHigh (sz : Size) : Exec (BitVec sz.bits) :=
  match sz with
  | .b => readReg .b .esp
  | .w => readReg .w .edx
  | .d => readReg .d .edx

/-- CF and OF of a multiplication; SF, ZF, AF and PF are undefined (R442 to R445). -/
def mulFlags (ovf : Bool) : Exec Unit := do
  updateFlags fun f => { f with cf := ovf, ov := ovf }
  undefined [.sf, .zf, .af, .pf]

/-- A signed product does not fit in `n` signed bits (R443 to R445). -/
def signedOverflow (n : Nat) (p : Int) : Bool := decide ((BitVec.ofInt n p).toInt ≠ p)

/-- MUL (R442). -/
def execMulRm (w : Bool) (rm : RM) (s : State) : Host.Outcome State Fault Refusal :=
  runInstr (do
    let s ← getState
    let sz := s.sizeOf w
    let m ← readRM sz rm
    let a ← readReg sz .eax
    let p := a.toNat * m.toNat
    let hi := BitVec.ofNat sz.bits (p / 2 ^ sz.bits)
    writeWide sz hi (BitVec.ofNat sz.bits p)
    mulFlags (hi != 0)) s

/-- IMUL accumulator, r/m (R443). -/
def execImulRm (w : Bool) (rm : RM) (s : State) : Host.Outcome State Fault Refusal :=
  runInstr (do
    let s ← getState
    let sz := s.sizeOf w
    let m ← readRM sz rm
    let a ← readReg sz .eax
    let p := a.toInt * m.toInt
    writeWide sz (BitVec.ofInt sz.bits (p / 2 ^ sz.bits)) (BitVec.ofInt sz.bits p)
    mulFlags (signedOverflow sz.bits p)) s

/-- A signed product into a register (R444, R445). -/
def imulTo (sz : Size) (r : Reg) (a b : BitVec sz.bits) : Exec Unit := do
  let p := a.toInt * b.toInt
  writeReg sz r (BitVec.ofInt sz.bits p)
  mulFlags (signedOverflow sz.bits p)

/-- IMUL reg, r/m (R444). -/
def execImulRegRm (r : Reg) (rm : RM) (s : State) : Host.Outcome State Fault Refusal :=
  runInstr (do
    let s ← getState
    let sz := s.opSize
    let b ← readRM sz rm
    let a ← readReg sz r
    imulTo sz r a b) s

/-- IMUL reg, r/m, immediate (R445). -/
def execImulRegRmImm (_s : Bool) (r : Reg) (rm : RM) (imm : Imm) (s : State) : Host.Outcome State Fault Refusal :=
  runInstr (do
    let s ← getState
    let sz := s.opSize
    let a ← readRM sz rm
    imulTo sz r a (immValue sz imm)) s

/-- DIV: a zero divisor or a quotient that does not fit raises #0 (R446). -/
def execDivRm (w : Bool) (rm : RM) (s : State) : Host.Outcome State Fault Refusal :=
  runInstr (do
    let s ← getState
    let sz := s.sizeOf w
    let d ← readRM sz rm
    let lo ← readReg sz .eax
    let hi ← readHigh sz
    let n := hi.toNat * 2 ^ sz.bits + lo.toNat
    require (d != 0 && decide (n / d.toNat < 2 ^ sz.bits)) .divide
    writeWide sz (BitVec.ofNat sz.bits (n % d.toNat)) (BitVec.ofNat sz.bits (n / d.toNat))
    undefined allStatus) s

/-- IDIV: truncation toward zero, the remainder has the sign of the dividend (R447). -/
def execIdivRm (w : Bool) (rm : RM) (s : State) : Host.Outcome State Fault Refusal :=
  runInstr (do
    let s ← getState
    let sz := s.sizeOf w
    let d ← readRM sz rm
    let lo ← readReg sz .eax
    let hi ← readHigh sz
    let n := hi.toInt * 2 ^ sz.bits + lo.toNat
    let q := n.tdiv d.toInt
    require (d != 0 && !signedOverflow sz.bits q) .divide
    writeWide sz (BitVec.ofInt sz.bits (n.tmod d.toInt)) (BitVec.ofInt sz.bits q)
    undefined allStatus) s

/-! ## Conversions -/

/-- CBW, CWDE (R452). -/
def execCbw (s : State) : Host.Outcome State Fault Refusal :=
  runInstr (do
    let s ← getState
    if s.ctx.op32 then writeReg .d .eax ((low16 s.regs.eax).signExtend 32)
    else writeReg .w .eax ((s.regs.get8 .eax).signExtend 16)) s

/-- CWD, CDQ (R453). -/
def execCwd (s : State) : Host.Outcome State Fault Refusal :=
  runInstr (do
    let s ← getState
    if s.ctx.op32 then writeReg .d .edx (if s.regs.eax.getLsbD 31 then 0xFFFFFFFF else 0)
    else writeReg .w .edx (if s.regs.eax.getLsbD 15 then 0xFFFF else 0)) s

end Sys2Proof.Machine
end

