-- ==== Sys2Proof/Machine/Bit.lean ====
section
/-! DEFINITION. Bit manipulation (spec/45_bit.md). -/

namespace Sys2Proof.Machine

/-- The lowest 1 bit of a value (R540). -/
def lowestBit {n : Nat} (x : BitVec n) : Nat := ((List.range n).find? fun i => x.getLsbD i).getD 0

/-- The highest 1 bit of a value (R541). -/
def highestBit {n : Nat} (x : BitVec n) : Nat := ((List.range n).reverse.find? fun i => x.getLsbD i).getD 0

/-- BSF and BSR: ZF tells a zero operand, for which the destination is undefined; the other flags are undefined (R540,
R541). -/
def bitScan (r : Reg) (rm : RM) (index : {n : Nat} → BitVec n → Nat) : Exec Unit := do
  let s ← getState
  let sz := s.opSize
  let x ← readRM sz rm
  updateFlags fun f => { f with zf := x == 0 }
  if x = 0 then do
    let v ← draw
    writeReg sz r (v.setWidth sz.bits)
  else writeReg sz r (BitVec.ofNat sz.bits (index x))
  undefined [.cf, .ov, .sf, .af, .pf]

/-- BSF (R540). -/
def execBsf (r : Reg) (rm : RM) (s : State) : Host.Outcome State Fault Refusal :=
  runInstr (bitScan r rm fun x => lowestBit x) s

/-- BSR (R541). -/
def execBsr (r : Reg) (rm : RM) (s : State) : Host.Outcome State Fault Refusal :=
  runInstr (bitScan r rm fun x => highestBit x) s

/-- The bit string extends both ways from the operand address: the offset of the word or doubleword that holds bit `o`
of it, and the address wraps in the address size (R542). -/
def bitStringOffset (s : State) (off : Dword) (sz : Size) (o : Int) : Dword :=
  let d := (sz.bytes : Int) * o.fdiv sz.bits
  if s.ctx.addr32 then off + BitVec.ofInt 32 d else (low16 off + BitVec.ofInt 16 d).setWidth 32

/-- `BitSelect` with an offset in a register: the place of the word or doubleword, and the bit (R542). -/
def bitSelect (rm : RM) (r : Reg) (write : Bool) : Exec (Place × Nat) := do
  let s ← getState
  let sz := s.opSize
  let o ← readReg sz r
  match rm with
  | .reg x => pure (.reg x, o.toNat % sz.bits)
  | .mem m => do
    let p ← effAddr m
    let sp ← segSpan p.1 (bitStringOffset s p.2 sz o.toInt) sz.bytes write
    pure (.mem sp, (o.toInt.fmod sz.bits).toNat)

/-- `BitSelect` with an immediate offset (R542). -/
def bitSelectImm (rm : RM) (n : BitVec 8) (write : Bool) : Exec (Place × Nat) := do
  let s ← getState
  let p ← place s.opSize rm write
  pure (p, n.toNat % s.opSize.bits)

/-- The flags after BT, BTC, BTR and BTS: CF is the bit, the others are undefined (R542). -/
def bitFlags (b : Bool) : Exec Unit := do
  updateFlags fun f => { f with cf := b }
  undefined [.ov, .sf, .zf, .af, .pf]

/-- BT: CF is the selected bit (R542). -/
def bitTest (select : Exec (Place × Nat)) : Exec Unit := do
  let p ← select
  let s ← getState
  let x ← readPlace s.opSize p.1
  bitFlags (x.getLsbD p.2)

/-- A bit of a value replaced. -/
def setBit {n : Nat} (x : BitVec n) (i : Nat) (b : Bool) : BitVec n :=
  (x &&& ~~~(1#n <<< i)) ||| ((BitVec.ofBool b).setWidth n <<< i)

/-- BTC, BTR, BTS: CF is the selected bit, which is then replaced (R543 to R545). -/
def bitChange (select : Exec (Place × Nat)) (f : Bool → Bool) : Exec Unit := do
  let p ← select
  let s ← getState
  let x ← readPlace s.opSize p.1
  let b := x.getLsbD p.2
  writePlace s.opSize p.1 (setBit x p.2 (f b))
  bitFlags b

/-- BT r/m, immediate (R542). -/
def execBtImm (rm : RM) (n : BitVec 8) (s : State) : Host.Outcome State Fault Refusal :=
  runInstr (bitTest (bitSelectImm rm n false)) s

/-- BT r/m, reg (R542). -/
def execBtReg (rm : RM) (r : Reg) (s : State) : Host.Outcome State Fault Refusal :=
  runInstr (bitTest (bitSelect rm r false)) s

/-- BTC r/m, immediate (R543). -/
def execBtcImm (rm : RM) (n : BitVec 8) (s : State) : Host.Outcome State Fault Refusal :=
  runInstr (bitChange (bitSelectImm rm n true) fun b => !b) s

/-- BTC r/m, reg (R543). -/
def execBtcReg (rm : RM) (r : Reg) (s : State) : Host.Outcome State Fault Refusal :=
  runInstr (bitChange (bitSelect rm r true) fun b => !b) s

/-- BTR r/m, immediate (R544). -/
def execBtrImm (rm : RM) (n : BitVec 8) (s : State) : Host.Outcome State Fault Refusal :=
  runInstr (bitChange (bitSelectImm rm n true) fun _ => false) s

/-- BTR r/m, reg (R544). -/
def execBtrReg (rm : RM) (r : Reg) (s : State) : Host.Outcome State Fault Refusal :=
  runInstr (bitChange (bitSelect rm r true) fun _ => false) s

/-- BTS r/m, immediate (R545). -/
def execBtsImm (rm : RM) (n : BitVec 8) (s : State) : Host.Outcome State Fault Refusal :=
  runInstr (bitChange (bitSelectImm rm n true) fun _ => true) s

/-- BTS r/m, reg (R545). -/
def execBtsReg (rm : RM) (r : Reg) (s : State) : Host.Outcome State Fault Refusal :=
  runInstr (bitChange (bitSelect rm r true) fun _ => true) s

end Sys2Proof.Machine
end

