-- ==== Sys2Proof/Machine/Control.lean ====
section
/-! DEFINITION. Control transfer (spec/46_control_transfer.md): JMP, Jcc, JCXZ, LOOP, CALL, RET. -/

namespace Sys2Proof.Machine

/-! ## Transfers within the segment (R560 to R573) -/

/-- The target of a relative transfer; with a 16-bit operand size it is truncated (R561, R562). -/
def relTarget (s : State) (disp : Dword) : Dword :=
  if s.ctx.op32 then s.ctx.nextEip + disp else (s.ctx.nextEip + disp) &&& 0xFFFF

/-- A transfer within the segment: the target is checked (R560). -/
def jumpNear (t : Dword) : Exec Unit := do
  let s ← getState
  checkTarget s.segs.cs.limit t (.protection 0)
  setNext t

/-- A relative transfer (R562, R563). -/
def jumpRelative (disp : Dword) : Exec Unit := do
  let s ← getState
  jumpNear (relTarget s disp)

/-- A call within the segment: the target is checked, then the return address is pushed (R571, R573). -/
def callNear (t : Dword) : Exec Unit := do
  let s ← getState
  checkTarget s.segs.cs.limit t (.protection 0)
  push s.opSize s.ctx.nextEip
  setNext t

/-- A return within the segment, which releases `imm` bytes more (R572). -/
def returnNear (imm : Nat) : Exec Unit := do
  let s ← getState
  let t ← peek 0 s.opSize.bytes
  checkTarget s.segs.cs.limit t (.protection 0)
  release (s.opSize.bytes + imm)
  setNext t

/-- A conditional jump (R566). -/
def jumpIf (c : Cond) (disp : Dword) : Exec Unit := do
  let s ← getState
  when_ (c.holds s.flags) (jumpRelative disp)

/-- LOOP, LOOPZ, LOOPNZ: the count is decremented, and the jump is taken while it is not 0 and a condition holds (R568
to R570). -/
def loopWhile (more : Flags → Bool) (disp : BitVec 8) : Exec Unit := do
  countDown
  let s ← getState
  when_ (countReg s != 0 && more s.flags) (jumpRelative (disp.signExtend 32))

/-! ## Far transfers in real and V86 mode (R581) -/

/-- A far JMP in real or V86 mode (R581). -/
def farJumpReal (sel : Word) (off : Dword) : Exec Unit := do
  let s ← getState
  checkTarget s.segs.cs.limit off (.protection 0)
  loadCodeReal sel
  setNext off

/-- A far CALL in real or V86 mode (R581): one push after the other, each with all its checks, and both stored once both
have passed them (R723). Where the second push shuts the processor down, the first one does not stand (DESIGN CHOICE, log
entry 63). -/
def farCallReal (sel : Word) (off : Dword) : Exec Unit := do
  let s ← getState
  checkTarget s.segs.cs.limit off (.protection 0)
  let cs ← selectorSlot s.opSize s.segs.cs.sel
  let vals := [cs, s.ctx.nextEip]
  let slots ← claimSlots s.opSize.bytes vals
  fillSlots slots vals
  loadCodeReal sel
  setNext off

/-- A far RET in real or V86 mode (R581). -/
def farReturnReal (imm : Nat) : Exec Unit := do
  let s ← getState
  let b := s.opSize.bytes
  let off ← peek 0 b
  let sel ← peek b 2
  checkTarget s.segs.cs.limit off (.protection 0)
  release (2 * b + imm)
  loadCodeReal (low16 sel)
  setNext off

/-! ## Far transfers in protected mode (R582 to R593) -/

/-- The privilege and presence checks of a far transfer to a code segment (R583). -/
def checkCode (sel : Word) (d : Desc) : Exec Unit := do
  let s ← getState
  let a := d.attr
  require (if a.conforming then decide (a.dpl.toNat ≤ s.sys.cpl.toNat)
           else decide (rpl sel ≤ s.sys.cpl.toNat) && decide (a.dpl = s.sys.cpl)) (.protection (selCode sel))
  require a.p (.notPresent (selCode sel))

/-- A far JMP to a code segment (R583). -/
def farJumpCode (sel : Word) (d : Desc) (off : Dword) : Exec Unit := do
  let s ← getState
  checkCode sel d
  checkTarget d.limit off (.protection 0)
  loadCode sel s.sys.cpl d
  setNext off

/-- A far CALL to a code segment (R584). -/
def farCallCode (sel : Word) (d : Desc) (off : Dword) : Exec Unit := do
  let s ← getState
  checkCode sel d
  checkTarget d.limit off (.protection 0)
  let cs ← selectorSlot s.opSize s.segs.cs.sel
  let vals := [cs, s.ctx.nextEip]
  checkPushes 2 s.opSize.bytes (stackPtr s)
  let slots ← claimSlots s.opSize.bytes vals
  loadCode sel s.sys.cpl d
  fillSlots slots vals
  setNext off

/-- The code segment that a call gate names, with the checks on the gate and on it (R590). -/
def gateTarget (sel : Word) (g : Desc) : Exec Desc := do
  let s ← getState
  require (decide (s.sys.cpl.toNat ≤ g.attr.dpl.toNat) && decide (rpl sel ≤ g.attr.dpl.toNat))
    (.protection (selCode sel))
  require g.attr.p (.notPresent (selCode sel))
  let csel := g.gateSel
  require (!isNull csel) (.protection 0)
  let c ← readDesc csel (.protection (selCode csel))
  require c.attr.isCode (.protection (selCode csel))
  require (decide (c.attr.dpl.toNat ≤ s.sys.cpl.toNat)) (.protection (selCode csel))
  require c.attr.p (.notPresent (selCode csel))
  pure c

/-- The target of a gate is at the level of the caller: a conforming segment, or one with DPL = CPL (R590). -/
def sameLevel (s : State) (c : Desc) : Bool := c.attr.conforming || decide (c.attr.dpl = s.sys.cpl)

/-- A far JMP through a call gate: it never changes CPL (R590). -/
def farJumpGate (sel : Word) (g : Desc) : Exec Unit := do
  let s ← getState
  let c ← gateTarget sel g
  require (sameLevel s c) (.protection (selCode g.gateSel))
  let off := g.gateOffset g.attr.is386
  checkTarget c.limit off (.protection 0)
  loadCode g.gateSel s.sys.cpl c
  setNext off

/-- A computation made on the stack, and at the level, of an earlier state. -/
def onStackOf {α : Type} (s : State) (x : Exec α) : Exec α := do
  let t ← getState
  update fun u =>
    { u with regs := { u.regs with esp := s.regs.esp }, segs := { u.segs with ss := s.segs.ss }
             sys := { u.sys with cpl := s.sys.cpl } }
  let r ← x
  update fun u =>
    { u with regs := { u.regs with esp := t.regs.esp }, segs := { u.segs with ss := t.segs.ss }
             sys := { u.sys with cpl := t.sys.cpl } }
  pure r

/-- A far CALL through a call gate to the same level (R590). #13(0) for the offset of the gate comes before a page fault
of the pushes (DESIGN CHOICE, log entry 57: R590 writes the pushes before that check, R560 has a failed transfer push
nothing). -/
def farCallSame (g c : Desc) : Exec Unit := do
  let s ← getState
  let sz := gateSize g.attr
  let off := g.gateOffset g.attr.is386
  let cs ← selectorSlot sz s.segs.cs.sel
  let vals := [cs, s.ctx.nextEip]
  checkPushes 2 sz.bytes (stackPtr s)
  checkTarget c.limit off (.protection 0)
  let slots ← claimSlots sz.bytes vals
  loadCode g.gateSel s.sys.cpl c
  fillSlots slots vals
  setNext off

/-- A far CALL through a call gate to an inner level, with the parameters copied from the old stack (R591). On a 16-bit old
stack a parameter past offset FFFFh raises #12: the offset does not wrap (DEDUCED from R15 and R175, log entry 39). -/
def farCallInner (g c : Desc) : Exec Unit := do
  let s ← getState
  let sz := gateSize g.attr
  let n := g.wordCount
  let off := g.gateOffset g.attr.is386
  let st ← enterInnerStack c.attr.dpl
  let t ← getState
  checkPushes (4 + n) sz.bytes (stackPtr t)
  checkTarget c.limit off (.protection 0)
  let params ← onStackOf s (eachGet (List.range n) fun k => peek (k * sz.bytes) sz.bytes)
  let cs ← selectorSlot sz s.segs.cs.sel
  let vals := [s.segs.ss.sel.setWidth 32, s.regs.esp] ++ params.reverse ++ [cs, s.ctx.nextEip]
  let slots ← claimSlots sz.bytes vals
  setAccessed st.1 st.2
  loadCode g.gateSel c.attr.dpl c
  fillSlots slots vals
  setNext off

/-- A far CALL through a call gate (R590). -/
def farCallGate (sel : Word) (g : Desc) : Exec Unit := do
  let s ← getState
  let c ← gateTarget sel g
  if sameLevel s c then farCallSame g c else farCallInner g c

/-- A far JMP or CALL to a task, through its TSS or a task gate (R593). -/
def farTask (kind : SwitchKind) (sel : Word) (d : Desc) : Exec Unit := do
  let s ← getState
  require (decide (s.sys.cpl.toNat ≤ d.attr.dpl.toNat) && decide (rpl sel ≤ d.attr.dpl.toNat))
    (.protection (selCode sel))
  require d.attr.p (.notPresent (selCode sel))
  if d.attr.taskGate then do
    let t ← readTaskTarget d.gateSel
    taskSwitch d.gateSel t kind s.ctx.nextEip
  else do
    require (!inLdt sel) (.protection (selCode sel))
    taskSwitch sel d kind s.ctx.nextEip
  checkNewTask
  setEnding .rfLoaded

/-- The descriptor that a far JMP or CALL names (R582). -/
def farDescriptor (sel : Word) : Exec Desc := do
  require (!isNull sel) (.protection 0)
  readDesc sel (.protection (selCode sel))

/-- A far JMP (R575, R581, R582). -/
def farJump (sel : Word) (off : Dword) : Exec Unit := do
  let s ← getState
  if s.prot then do
    let d ← farDescriptor sel
    let a := d.attr
    if a.isCode then farJumpCode sel d off
    else if a.callGate then farJumpGate sel d
    else if a.taskGate || a.availableTss then farTask .jmp sel d
    else raise (.protection (selCode sel))
  else farJumpReal sel off

/-- A far CALL (R577, R581, R582). -/
def farCall (sel : Word) (off : Dword) : Exec Unit := do
  let s ← getState
  if s.prot then do
    let d ← farDescriptor sel
    let a := d.attr
    if a.isCode then farCallCode sel d off
    else if a.callGate then farCallGate sel d
    else if a.taskGate || a.availableTss then farTask .call sel d
    else raise (.protection (selCode sel))
  else farCallReal sel off

/-- A far pointer in memory: the offset at the lower address, the selector after it (R576, R397; DEDUCED, log entry 43:
where the sum reaches 2^32). -/
def readFarPointer (m : Mem) : Exec (Word × Dword) := do
  let s ← getState
  let b := s.opSize.bytes
  let p ← effAddr m
  let off ← memRead p.1 p.2 b
  let sel ← memRead p.1 (p.2 + BitVec.ofNat 32 b) 2
  pure (low16 sel, off)

/-! ## Far return in protected mode (R595, R596) -/

/-- A far RET to an outer level (R596). -/
def farReturnOuter (sel : Word) (off : Dword) (d : Desc) (imm : Nat) : Exec Unit := do
  let s ← getState
  let b := s.opSize.bytes
  let l := sel.extractLsb' 0 2
  checkFrame (4 * b + imm)
  let ptr ← peek (2 * b + imm) b
  let ss ← peek (3 * b + imm) 2
  let sd ← checkStackSeg (low16 ss) l (.protection 0) .protection
  checkTarget d.limit off (.protection 0)
  update fun t => { t with sys := { t.sys with cpl := l } }
  loadCode sel l d
  loadOuterStack s.opSize (low16 ss) sd ptr
  release imm
  nullInnerSegs l
  setNext off

/-- A far RET (R580, R581, R595). -/
def farReturn (imm : Nat) : Exec Unit := do
  let s ← getState
  if s.prot then do
    let b := s.opSize.bytes
    checkFrame (2 * b)
    let off ← peek 0 b
    let selv ← peek b 2
    let sel := low16 selv
    let d ← returnTarget sel
    if rpl sel = s.sys.cpl.toNat then do
      checkTarget d.limit off (.protection 0)
      loadCode sel s.sys.cpl d
      release (2 * b + imm)
      setNext off
    else farReturnOuter sel off d imm
  else farReturnReal imm

/-! ## The instructions -/

/-- JMP short (R562). -/
def execJmpShort (disp : BitVec 8) (s : State) : Host.Outcome State Fault Refusal :=
  runInstr (jumpRelative (disp.signExtend 32)) s

/-- JMP direct within segment (R563). -/
def execJmpNear (disp : Full) (s : State) : Host.Outcome State Fault Refusal :=
  runInstr (jumpRelative (fullDistance disp)) s

/-- JMP register/memory indirect within segment (R564). -/
def execJmpRm (rm : RM) (s : State) : Host.Outcome State Fault Refusal :=
  runInstr (do
    let s ← getState
    let t ← readRM s.opSize rm
    jumpNear (t.setWidth 32)) s

/-- JMP direct intersegment (R575). -/
def execJmpFar (p : FarPtr) (s : State) : Host.Outcome State Fault Refusal :=
  runInstr (farJump p.sel (fullOffset p.off)) s

/-- JMP indirect intersegment (R576). -/
def execJmpFarMem (m : Mem) (s : State) : Host.Outcome State Fault Refusal :=
  runInstr (do
    let p ← readFarPointer m
    farJump p.1 p.2) s

/-- CALL direct within segment (R571). -/
def execCallNear (disp : Full) (s : State) : Host.Outcome State Fault Refusal :=
  runInstr (do
    let s ← getState
    callNear (relTarget s (fullDistance disp))) s

/-- CALL register/memory indirect within segment (R573). -/
def execCallRm (rm : RM) (s : State) : Host.Outcome State Fault Refusal :=
  runInstr (do
    let s ← getState
    let t ← readRM s.opSize rm
    callNear (t.setWidth 32)) s

/-- CALL direct intersegment (R577). -/
def execCallFar (p : FarPtr) (s : State) : Host.Outcome State Fault Refusal :=
  runInstr (farCall p.sel (fullOffset p.off)) s

/-- CALL indirect intersegment (R578). -/
def execCallFarMem (m : Mem) (s : State) : Host.Outcome State Fault Refusal :=
  runInstr (do
    let p ← readFarPointer m
    farCall p.1 p.2) s

/-- RET within segment (R572). -/
def execRetNear (s : State) : Host.Outcome State Fault Refusal :=
  runInstr (returnNear 0) s

/-- RET within segment adding an immediate to SP (R572). -/
def execRetNearImm (n : BitVec 16) (s : State) : Host.Outcome State Fault Refusal :=
  runInstr (returnNear n.toNat) s

/-- RET intersegment (R580). -/
def execRetFar (s : State) : Host.Outcome State Fault Refusal :=
  runInstr (farReturn 0) s

/-- RET intersegment adding an immediate to SP (R580). -/
def execRetFarImm (n : BitVec 16) (s : State) : Host.Outcome State Fault Refusal :=
  runInstr (farReturn n.toNat) s

/-- JO with an 8-bit displacement (R566). -/
def execJoShort (disp : BitVec 8) (s : State) : Host.Outcome State Fault Refusal :=
  runInstr (jumpIf .o (disp.signExtend 32)) s

/-- JO with a full displacement (R566). -/
def execJoNear (disp : Full) (s : State) : Host.Outcome State Fault Refusal :=
  runInstr (jumpIf .o (fullDistance disp)) s

/-- JNO with an 8-bit displacement (R566). -/
def execJnoShort (disp : BitVec 8) (s : State) : Host.Outcome State Fault Refusal :=
  runInstr (jumpIf .no (disp.signExtend 32)) s

/-- JNO with a full displacement (R566). -/
def execJnoNear (disp : Full) (s : State) : Host.Outcome State Fault Refusal :=
  runInstr (jumpIf .no (fullDistance disp)) s

/-- JB, JNAE with an 8-bit displacement (R566). -/
def execJbShort (disp : BitVec 8) (s : State) : Host.Outcome State Fault Refusal :=
  runInstr (jumpIf .b (disp.signExtend 32)) s

/-- JB, JNAE with a full displacement (R566). -/
def execJbNear (disp : Full) (s : State) : Host.Outcome State Fault Refusal :=
  runInstr (jumpIf .b (fullDistance disp)) s

/-- JNB, JAE with an 8-bit displacement (R566). -/
def execJnbShort (disp : BitVec 8) (s : State) : Host.Outcome State Fault Refusal :=
  runInstr (jumpIf .nb (disp.signExtend 32)) s

/-- JNB, JAE with a full displacement (R566). -/
def execJnbNear (disp : Full) (s : State) : Host.Outcome State Fault Refusal :=
  runInstr (jumpIf .nb (fullDistance disp)) s

/-- JE, JZ with an 8-bit displacement (R566). -/
def execJeShort (disp : BitVec 8) (s : State) : Host.Outcome State Fault Refusal :=
  runInstr (jumpIf .e (disp.signExtend 32)) s

/-- JE, JZ with a full displacement (R566). -/
def execJeNear (disp : Full) (s : State) : Host.Outcome State Fault Refusal :=
  runInstr (jumpIf .e (fullDistance disp)) s

/-- JNE, JNZ with an 8-bit displacement (R566). -/
def execJneShort (disp : BitVec 8) (s : State) : Host.Outcome State Fault Refusal :=
  runInstr (jumpIf .ne (disp.signExtend 32)) s

/-- JNE, JNZ with a full displacement (R566). -/
def execJneNear (disp : Full) (s : State) : Host.Outcome State Fault Refusal :=
  runInstr (jumpIf .ne (fullDistance disp)) s

/-- JBE, JNA with an 8-bit displacement (R566). -/
def execJbeShort (disp : BitVec 8) (s : State) : Host.Outcome State Fault Refusal :=
  runInstr (jumpIf .be (disp.signExtend 32)) s

/-- JBE, JNA with a full displacement (R566). -/
def execJbeNear (disp : Full) (s : State) : Host.Outcome State Fault Refusal :=
  runInstr (jumpIf .be (fullDistance disp)) s

/-- JNBE, JA with an 8-bit displacement (R566). -/
def execJnbeShort (disp : BitVec 8) (s : State) : Host.Outcome State Fault Refusal :=
  runInstr (jumpIf .nbe (disp.signExtend 32)) s

/-- JNBE, JA with a full displacement (R566). -/
def execJnbeNear (disp : Full) (s : State) : Host.Outcome State Fault Refusal :=
  runInstr (jumpIf .nbe (fullDistance disp)) s

/-- JS with an 8-bit displacement (R566). -/
def execJsShort (disp : BitVec 8) (s : State) : Host.Outcome State Fault Refusal :=
  runInstr (jumpIf .s (disp.signExtend 32)) s

/-- JS with a full displacement (R566). -/
def execJsNear (disp : Full) (s : State) : Host.Outcome State Fault Refusal :=
  runInstr (jumpIf .s (fullDistance disp)) s

/-- JNS with an 8-bit displacement (R566). -/
def execJnsShort (disp : BitVec 8) (s : State) : Host.Outcome State Fault Refusal :=
  runInstr (jumpIf .ns (disp.signExtend 32)) s

/-- JNS with a full displacement (R566). -/
def execJnsNear (disp : Full) (s : State) : Host.Outcome State Fault Refusal :=
  runInstr (jumpIf .ns (fullDistance disp)) s

/-- JP, JPE with an 8-bit displacement (R566). -/
def execJpShort (disp : BitVec 8) (s : State) : Host.Outcome State Fault Refusal :=
  runInstr (jumpIf .p (disp.signExtend 32)) s

/-- JP, JPE with a full displacement (R566). -/
def execJpNear (disp : Full) (s : State) : Host.Outcome State Fault Refusal :=
  runInstr (jumpIf .p (fullDistance disp)) s

/-- JNP, JPO with an 8-bit displacement (R566). -/
def execJnpShort (disp : BitVec 8) (s : State) : Host.Outcome State Fault Refusal :=
  runInstr (jumpIf .np (disp.signExtend 32)) s

/-- JNP, JPO with a full displacement (R566). -/
def execJnpNear (disp : Full) (s : State) : Host.Outcome State Fault Refusal :=
  runInstr (jumpIf .np (fullDistance disp)) s

/-- JL, JNGE with an 8-bit displacement (R566). -/
def execJlShort (disp : BitVec 8) (s : State) : Host.Outcome State Fault Refusal :=
  runInstr (jumpIf .l (disp.signExtend 32)) s

/-- JL, JNGE with a full displacement (R566). -/
def execJlNear (disp : Full) (s : State) : Host.Outcome State Fault Refusal :=
  runInstr (jumpIf .l (fullDistance disp)) s

/-- JNL, JGE with an 8-bit displacement (R566). -/
def execJnlShort (disp : BitVec 8) (s : State) : Host.Outcome State Fault Refusal :=
  runInstr (jumpIf .nl (disp.signExtend 32)) s

/-- JNL, JGE with a full displacement (R566). -/
def execJnlNear (disp : Full) (s : State) : Host.Outcome State Fault Refusal :=
  runInstr (jumpIf .nl (fullDistance disp)) s

/-- JLE, JNG with an 8-bit displacement (R566). -/
def execJleShort (disp : BitVec 8) (s : State) : Host.Outcome State Fault Refusal :=
  runInstr (jumpIf .le (disp.signExtend 32)) s

/-- JLE, JNG with a full displacement (R566). -/
def execJleNear (disp : Full) (s : State) : Host.Outcome State Fault Refusal :=
  runInstr (jumpIf .le (fullDistance disp)) s

/-- JNLE, JG with an 8-bit displacement (R566). -/
def execJnleShort (disp : BitVec 8) (s : State) : Host.Outcome State Fault Refusal :=
  runInstr (jumpIf .nle (disp.signExtend 32)) s

/-- JNLE, JG with a full displacement (R566). -/
def execJnleNear (disp : Full) (s : State) : Host.Outcome State Fault Refusal :=
  runInstr (jumpIf .nle (fullDistance disp)) s

/-- JCXZ, JECXZ (R567). -/
def execJcxz (disp : BitVec 8) (s : State) : Host.Outcome State Fault Refusal :=
  runInstr (do
    let s ← getState
    when_ (countReg s == 0) (jumpRelative (disp.signExtend 32))) s

/-- LOOP (R568). -/
def execLoop (disp : BitVec 8) (s : State) : Host.Outcome State Fault Refusal :=
  runInstr (loopWhile (fun _ => true) disp) s

/-- LOOPZ, LOOPE (R569). -/
def execLoopz (disp : BitVec 8) (s : State) : Host.Outcome State Fault Refusal :=
  runInstr (loopWhile (fun f => f.zf) disp) s

/-- LOOPNZ, LOOPNE (R570). -/
def execLoopnz (disp : BitVec 8) (s : State) : Host.Outcome State Fault Refusal :=
  runInstr (loopWhile (fun f => !f.zf) disp) s

end Sys2Proof.Machine
end

