-- ==== Sys2Proof/Machine/Io.lean ====
section
/-! DEFINITION. I/O space (spec/20_memory.md R134, R226, R227; spec/40_data_transfer.md R363 to R367). -/

namespace Sys2Proof.Machine

/-- One port of an access is permitted by the I/O permission bitmap at `base` (R227). -/
def portPermitted (base port : Nat) : Exec Bool := do
  let s ← getState
  let off := base + port / 8
  if s.sys.tr.limit.toNat < off then pure false
  else do
    let b ← linRead (s.sys.tr.base + BitVec.ofNat 32 off) 1
    pure (!b.getLsbD (port % 8))

/-- The `n` ports from `port` are permitted, asked in order up to the first that is not (R227). -/
def portsPermitted (base port : Nat) : Nat → Exec Bool
  | 0 => pure true
  | n + 1 => do
    let ok ← portPermitted base port
    if ok then portsPermitted base (port + 1) n else pure false

/-- `IoPermitted(port, n)`: no port is under a 286 TSS; under a 386 TSS the bitmap says (R226, R227). -/
def ioPermitted (port : Word) (n : Nat) : Exec Bool := do
  let s ← getState
  let a := s.sys.tr.attr
  if !a.s && (a.typ == 0x1 || a.typ == 0x3) then pure false
  else do
    let base ← linRead (s.sys.tr.base + 0x66) 2
    portsPermitted base.toNat port.toNat n

/-- `IoCheck(port, n)` (R363): in real mode every port is permitted; in V86 mode, and where CPL > IOPL, the bitmap
decides. -/
def ioCheck (port : Word) (n : Nat) : Exec Unit := do
  let s ← getState
  if s.pe && (s.flags.vm || decide (s.flags.iopl.toNat < s.sys.cpl.toNat)) then do
    let ok ← ioPermitted port n
    require ok (.protection 0)
  else pure ()

/-- An access whose ports run past FFFFh is outside the model (R367, D8, U51). -/
def portRange (port : Word) (n : Nat) : Exec Unit :=
  if 0x10000 < port.toNat + n then stopWith (.fault .ioPortWrap) else pure ()

/-- `IoRead(port, n)`: what a device answers is a free value (log entry 6). -/
def ioRead (port : Word) (sz : Size) : Exec (BitVec sz.bits) := do
  portRange port sz.bytes
  let v ← draw
  let x : BitVec sz.bits := v.setWidth sz.bits
  emit (.ioRead port sz.bytes (x.setWidth 32))
  pure x

/-- `IoWrite(port, n, v)`. -/
def ioWrite (port : Word) (sz : Size) (v : BitVec sz.bits) : Exec Unit := do
  portRange port sz.bytes
  emit (.ioWrite port sz.bytes (v.setWidth 32))

end Sys2Proof.Machine
end

