-- ==== Sys2Proof/Machine/DataTransfer.lean ====
section
/-! DEFINITION. General data transfer (spec/40_data_transfer.md): MOV, MOVSX, MOVZX, PUSH, POP, PUSHA, POPA, XCHG,
IN, OUT, LEA. -/

namespace Sys2Proof.Machine

/-! ## MOV -/

/-- MOV r/m, reg (R330). -/
def execMovRmReg (w : Bool) (rm : RM) (r : Reg) (s : State) : Host.Outcome State Fault Refusal :=
  runInstr (do
    let s ← getState
    let sz := s.sizeOf w
    let p ← place sz rm true
    let v ← readReg sz r
    writePlace sz p v) s

/-- MOV reg, r/m (R330). -/
def execMovRegRm (w : Bool) (r : Reg) (rm : RM) (s : State) : Host.Outcome State Fault Refusal :=
  runInstr (do
    let s ← getState
    let sz := s.sizeOf w
    let v ← readRM sz rm
    writeReg sz r v) s

/-- MOV r/m, immediate (R331). -/
def execMovRmImm (w : Bool) (rm : RM) (imm : Imm) (s : State) : Host.Outcome State Fault Refusal :=
  runInstr (do
    let s ← getState
    let sz := s.sizeOf w
    writeRM sz rm (immValue sz imm)) s

/-- MOV reg, immediate (R332). -/
def execMovRegImm (w : Bool) (r : Reg) (imm : Imm) (s : State) : Host.Outcome State Fault Refusal :=
  runInstr (do
    let s ← getState
    let sz := s.sizeOf w
    writeReg sz r (immValue sz imm)) s

/-- MOV accumulator, memory (R333). -/
def execMovAccMoffs (w : Bool) (off : Full) (s : State) : Host.Outcome State Fault Refusal :=
  runInstr (do
    let s ← getState
    let sz := s.sizeOf w
    let v ← memRead (overridden s .ds) (fullOffset off) sz.bytes
    writeReg sz .eax (v.setWidth sz.bits)) s

/-- MOV memory, accumulator (R333). -/
def execMovMoffsAcc (w : Bool) (off : Full) (s : State) : Host.Outcome State Fault Refusal :=
  runInstr (do
    let s ← getState
    let sz := s.sizeOf w
    let sp ← segSpan (overridden s .ds) (fullOffset off) sz.bytes true
    let v ← readReg sz .eax
    storeSpan sp (v.setWidth 32)) s

/-- After MOV SS and POP SS interrupts and debug traps wait until after the next instruction (R334, R735). -/
def inhibitAfterSs (sg : Seg) : Exec Unit :=
  when_ (decide (sg = .ss)) (update fun s => { s with ctx := { s.ctx with inhibitNext := .all } })

/-- MOV sreg, r/m (R334). -/
def execMovSegRm (sg : Seg) (rm : RM) (s : State) : Host.Outcome State Fault Refusal :=
  runInstr (do
    let sel ← readRM .w rm
    require (decide (sg ≠ .cs)) .invalidOpcode
    loadSeg sg sel
    inhibitAfterSs sg) s

/-- A 16-bit system value stored to an r/m operand: two bytes of memory, or a register, of whose 32 bits the upper 16
are then undefined (R335, R704 to R706, U21). -/
def writeSystemWord (rm : RM) (v : Word) : Exec Unit :=
  match rm with
  | .mem _ => writeRM .w rm v
  | .reg r => do
    let s ← getState
    if s.ctx.op32 then do
      let x ← draw
      writeReg .d r (x.extractLsb' 16 16 ++ v)
    else writeReg .w r v

/-- MOV r/m, sreg (R335). -/
def execMovRmSeg (rm : RM) (sg : Seg) (s : State) : Host.Outcome State Fault Refusal :=
  runInstr (do
    let s ← getState
    writeSystemWord rm (s.segs.get sg).sel) s

/-- MOVSX: w gives the source size (R336). -/
def execMovsx (w : Bool) (r : Reg) (rm : RM) (s : State) : Host.Outcome State Fault Refusal :=
  runInstr (do
    let s ← getState
    let v ← readRM (if w then .w else .b) rm
    writeReg s.opSize r (v.signExtend s.opSize.bits)) s

/-- MOVZX: w gives the source size (R337). -/
def execMovzx (w : Bool) (r : Reg) (rm : RM) (s : State) : Host.Outcome State Fault Refusal :=
  runInstr (do
    let s ← getState
    let v ← readRM (if w then .w else .b) rm
    writeReg s.opSize r (v.setWidth s.opSize.bits)) s

/-! ## PUSH and POP -/

/-- PUSH r/m (R352). -/
def execPushRm (rm : RM) (s : State) : Host.Outcome State Fault Refusal :=
  runInstr (do
    let s ← getState
    let v ← readRM s.opSize rm
    push s.opSize (v.setWidth 32)) s

/-- PUSH reg: of the stack pointer the value before the instruction (R352). -/
def execPushReg (r : Reg) (s : State) : Host.Outcome State Fault Refusal :=
  runInstr (do
    let s ← getState
    let v ← readReg s.opSize r
    push s.opSize (v.setWidth 32)) s

/-- PUSH immediate, sign-extended where it has 8 bits (R354). -/
def execPushImm (_s : Bool) (imm : Imm) (s : State) : Host.Outcome State Fault Refusal :=
  runInstr (do
    let s ← getState
    push s.opSize ((immValue s.opSize imm).setWidth 32)) s

/-- A segment register pushed (R356). -/
def pushSegment (sg : Seg) : Exec Unit := do
  let s ← getState
  let v ← selectorSlot s.opSize (s.segs.get sg).sel
  push s.opSize v

/-- PUSH ES, CS, SS or DS (R356). -/
def execPushSeg (sg : Seg) (s : State) : Host.Outcome State Fault Refusal :=
  runInstr (pushSegment sg) s

/-- PUSH FS (R356). -/
def execPushFs (s : State) : Host.Outcome State Fault Refusal :=
  runInstr (pushSegment .fs) s

/-- PUSH GS (R356). -/
def execPushGs (s : State) : Host.Outcome State Fault Refusal :=
  runInstr (pushSegment .gs) s

/-- POP r/m: the address is computed with the incremented stack pointer (R353). -/
def execPopRm (rm : RM) (s : State) : Host.Outcome State Fault Refusal :=
  runInstr (do
    let s ← getState
    let v ← pop s.opSize
    writeRM s.opSize rm (v.setWidth s.opSize.bits)) s

/-- POP reg (R353). -/
def execPopReg (r : Reg) (s : State) : Host.Outcome State Fault Refusal :=
  runInstr (do
    let s ← getState
    let v ← pop s.opSize
    writeReg s.opSize r (v.setWidth s.opSize.bits)) s

/-- A segment register popped: the stack pointer moves after the load, by the stack size the pop began with (R357, log
entry 22). -/
def popSegment (sg : Seg) : Exec Unit := do
  let s ← getState
  let v ← peek 0 s.opSize.bytes
  loadSeg sg (low16 v)
  let new := ptrUp s.stack32 (stackPtr s) s.opSize.bytes
  update fun t =>
    { t with regs := { t.regs with esp := if s.stack32 then new else putLow16 t.regs.esp (low16 new) } }
  inhibitAfterSs sg

/-- POP ES (R357). -/
def execPopEs (s : State) : Host.Outcome State Fault Refusal :=
  runInstr (popSegment .es) s

/-- POP SS (R357). -/
def execPopSs (s : State) : Host.Outcome State Fault Refusal :=
  runInstr (popSegment .ss) s

/-- POP DS (R357). -/
def execPopDs (s : State) : Host.Outcome State Fault Refusal :=
  runInstr (popSegment .ds) s

/-- POP FS (R357). -/
def execPopFs (s : State) : Host.Outcome State Fault Refusal :=
  runInstr (popSegment .fs) s

/-- POP GS (R357). -/
def execPopGs (s : State) : Host.Outcome State Fault Refusal :=
  runInstr (popSegment .gs) s

/-- PUSHA: all eight registers, the stack pointer as it was before; every check comes before any write (R358). The
segment checks of all eight slots come before the first page is translated, so #12 of a later slot is raised rather than
#14 of an earlier one (DESIGN CHOICE, log entry 55: R741 step 10 goes by references). -/
def execPusha (s : State) : Host.Outcome State Fault Refusal :=
  runInstr (do
    let s ← getState
    let sz := s.opSize
    let g := s.regs
    let vals := [g.eax, g.ecx, g.edx, g.ebx, g.esp, g.ebp, g.esi, g.edi]
    checkPushes 8 sz.bytes (stackPtr s)
    let slots ← claimSlots sz.bytes vals
    fillSlots slots vals) s

/-- POPA: the stack-pointer image is skipped; all or nothing (R359). The segment checks of all eight slots come before the
first page is translated, as for PUSHA (DESIGN CHOICE, log entry 55). -/
def execPopa (s : State) : Host.Outcome State Fault Refusal :=
  runInstr (do
    let s ← getState
    let sz := s.opSize
    let n := sz.bytes
    checkPops 8 n (stackPtr s)
    let vals ← eachGet [0, 1, 2, 3, 4, 5, 6, 7] fun k => memRead .ss (ptrUp s.stack32 (stackPtr s) (k * n)) n
    eachDo ([Reg.edi, .esi, .ebp, .esp, .ebx, .edx, .ecx, .eax].zip vals) fun p =>
      when_ (decide (p.1 ≠ .esp)) (writeReg sz p.1 (p.2.setWidth sz.bits))
    release (8 * n)) s

/-! ## XCHG -/

/-- XCHG r/m, reg (R360). -/
def execXchgRmReg (w : Bool) (rm : RM) (r : Reg) (s : State) : Host.Outcome State Fault Refusal :=
  runInstr (do
    let s ← getState
    let sz := s.sizeOf w
    let p ← place sz rm true
    let a ← readPlace sz p
    let b ← readReg sz r
    writePlace sz p b
    writeReg sz r a) s

/-- XCHG accumulator, reg (R361). -/
def execXchgAcc (r : Reg) (s : State) : Host.Outcome State Fault Refusal :=
  runInstr (do
    let s ← getState
    let a ← readReg s.opSize .eax
    let b ← readReg s.opSize r
    writeReg s.opSize .eax b
    writeReg s.opSize r a) s

/-! ## IN, OUT, LEA -/

/-- A value read from a port into the accumulator (R364, R365). -/
def inputTo (sz : Size) (port : Word) : Exec Unit := do
  ioCheck port sz.bytes
  let v ← ioRead port sz
  writeReg sz .eax v

/-- The accumulator written to a port (R366, R367). -/
def outputFrom (sz : Size) (port : Word) : Exec Unit := do
  ioCheck port sz.bytes
  let v ← readReg sz .eax
  ioWrite port sz v

/-- IN accumulator, port (R364). -/
def execInImm (w : Bool) (port : BitVec 8) (s : State) : Host.Outcome State Fault Refusal :=
  runInstr (do let s ← getState; inputTo (s.sizeOf w) (port.setWidth 16)) s

/-- IN accumulator, DX (R365). -/
def execInDx (w : Bool) (s : State) : Host.Outcome State Fault Refusal :=
  runInstr (do let s ← getState; inputTo (s.sizeOf w) (low16 s.regs.edx)) s

/-- OUT port, accumulator (R366). -/
def execOutImm (w : Bool) (port : BitVec 8) (s : State) : Host.Outcome State Fault Refusal :=
  runInstr (do let s ← getState; outputFrom (s.sizeOf w) (port.setWidth 16)) s

/-- OUT DX, accumulator (R367). -/
def execOutDx (w : Bool) (s : State) : Host.Outcome State Fault Refusal :=
  runInstr (do let s ← getState; outputFrom (s.sizeOf w) (low16 s.regs.edx)) s

/-- LEA: the offset, without any access or check (R368). -/
def execLea (r : Reg) (m : Mem) (s : State) : Host.Outcome State Fault Refusal :=
  runInstr (do
    let p ← effAddr m
    let s ← getState
    writeReg s.opSize r (p.2.setWidth s.opSize.bits)) s

end Sys2Proof.Machine
end

