-- ==== Sys2Proof/Machine/SegFlag.lean ====
section
/-! DEFINITION. Segment control and flag control (spec/41_segment_flag_control.md): LDS, LES, LFS, LGS, LSS, and
the instructions on single flags and on the flags register. -/

namespace Sys2Proof.Machine

/-- `LoadFarPointer(seg)` (R397): the offset at the lower address, the selector after it (DEDUCED, log entry 43: where
the sum reaches 2^32). -/
def loadFarPointer (sg : Seg) (r : Reg) (m : Mem) : Exec Unit := do
  let s ← getState
  let sz := s.opSize
  let p ← effAddr m
  let off ← memRead p.1 p.2 sz.bytes
  let sel ← memRead p.1 (p.2 + BitVec.ofNat 32 sz.bytes) 2
  loadSeg sg (low16 sel)
  writeReg sz r (off.setWidth sz.bits)

/-- LDS (R380). -/
def execLds (r : Reg) (m : Mem) (s : State) : Host.Outcome State Fault Refusal :=
  runInstr (loadFarPointer .ds r m) s

/-- LES (R381). -/
def execLes (r : Reg) (m : Mem) (s : State) : Host.Outcome State Fault Refusal :=
  runInstr (loadFarPointer .es r m) s

/-- LFS (R382). -/
def execLfs (r : Reg) (m : Mem) (s : State) : Host.Outcome State Fault Refusal :=
  runInstr (loadFarPointer .fs r m) s

/-- LGS (R383). -/
def execLgs (r : Reg) (m : Mem) (s : State) : Host.Outcome State Fault Refusal :=
  runInstr (loadFarPointer .gs r m) s

/-- LSS: no inhibit follows (R384). -/
def execLss (r : Reg) (m : Mem) (s : State) : Host.Outcome State Fault Refusal :=
  runInstr (loadFarPointer .ss r m) s

/-- CLC (R385). -/
def execClc (s : State) : Host.Outcome State Fault Refusal :=
  runInstr (updateFlags fun f => { f with cf := false }) s

/-- CLD (R386). -/
def execCld (s : State) : Host.Outcome State Fault Refusal :=
  runInstr (updateFlags fun f => { f with df := false }) s

/-- CLI and STI need CPL <= IOPL, in V86 mode IOPL = 3 (R387). -/
def requireIo : Exec Unit := do
  let s ← getState
  require s.ioAllowed (.protection 0)

/-- A privileged instruction in a mode or at a level that may not run it raises #13(0) (R388, R660, R663, R689). -/
def requirePrivilege : Exec Unit := do
  let s ← getState
  require s.privileged (.protection 0)

/-- CLI (R387). -/
def execCli (s : State) : Host.Outcome State Fault Refusal :=
  runInstr (do
    requireIo
    updateFlags fun f => { f with ie := false }) s

/-- CLTS (R388). -/
def execClts (s : State) : Host.Outcome State Fault Refusal :=
  runInstr (do
    requirePrivilege
    update fun s => { s with sys := { s.sys with cr0 := s.sys.cr0 &&& 0xFFFFFFF7 } }) s

/-- CMC (R389). -/
def execCmc (s : State) : Host.Outcome State Fault Refusal :=
  runInstr (updateFlags fun f => { f with cf := !f.cf }) s

/-- LAHF: AH takes the low byte of the flags register (R390). -/
def execLahf (s : State) : Host.Outcome State Fault Refusal :=
  runInstr (do
    let s ← getState
    writeReg .b .esp (s.flags.image.setWidth 8)) s

/-- PUSHF, PUSHFD, POPF, POPFD and IRET in V86 mode need IOPL = 3 (R391, R392, R788). -/
def requireV86Iopl : Exec Unit := do
  let s ← getState
  require (!s.v86Trapped) (.protection 0)

/-- PUSHF, PUSHFD: VM and RF are pushed as 0 (R391). -/
def execPushf (s : State) : Host.Outcome State Fault Refusal :=
  runInstr (do
    requireV86Iopl
    let s ← getState
    push s.opSize (s.flags.image &&& 0x00FCFFFF)) s

/-- POPF, POPFD: only POPFD loads RF (R392, D10). -/
def execPopf (s : State) : Host.Outcome State Fault Refusal :=
  runInstr (do
    requireV86Iopl
    let s ← getState
    let img ← pop s.opSize
    updateFlags fun f => f.load img (if s.pe then s.sys.cpl.toNat else 0) s.ctx.op32
    when_ s.ctx.op32 (setEnding .rfLoaded)) s

/-- SAHF (R393). -/
def execSahf (s : State) : Host.Outcome State Fault Refusal :=
  runInstr (do
    let s ← getState
    updateFlags fun f => f.loadAh (s.regs.get8 .esp)) s

/-- STC (R394). -/
def execStc (s : State) : Host.Outcome State Fault Refusal :=
  runInstr (updateFlags fun f => { f with cf := true }) s

/-- STD (R395). -/
def execStd (s : State) : Host.Outcome State Fault Refusal :=
  runInstr (updateFlags fun f => { f with df := true }) s

/-- STI: if IF was 0, INTR waits until after the next instruction (R396, R735). -/
def execSti (s : State) : Host.Outcome State Fault Refusal :=
  runInstr (do
    requireIo
    let s ← getState
    when_ (!s.flags.ie) (update fun s => { s with ctx := { s.ctx with inhibitNext := .intr } })
    updateFlags fun f => { f with ie := true }) s

end Sys2Proof.Machine
end

