-- ==== Sys2Proof/Machine/IntInstr.lean ====
section
/-! DEFINITION. INT n, INT 3, INTO, BOUND, IRET (spec/48_interrupt_instructions.md). -/

namespace Sys2Proof.Machine

/-- INT n (R640). -/
def execInt (n : BitVec 8) (s : State) : Host.Outcome State Fault Refusal :=
  runInstr (do
    requireV86Iopl
    softwareInterrupt n) s

/-- INT 3: not IOPL-sensitive (R641). -/
def execInt3 (s : State) : Host.Outcome State Fault Refusal :=
  runInstr (softwareInterrupt 3) s

/-- INTO (R642). -/
def execInto (s : State) : Host.Outcome State Fault Refusal :=
  runInstr (do
    let s ← getState
    when_ s.flags.ov (softwareInterrupt 4)) s

/-- BOUND: outside the bounds it raises #5 (R646; the offset of the upper bound: DEDUCED, log entry 43). -/
def execBound (r : Reg) (m : Mem) (s : State) : Host.Outcome State Fault Refusal :=
  runInstr (do
    let s ← getState
    let sz := s.opSize
    let i ← readReg sz r
    let p ← effAddr m
    let lo ← memRead p.1 p.2 sz.bytes
    let hi ← memRead p.1 (p.2 + BitVec.ofNat 32 sz.bytes) sz.bytes
    let low : BitVec sz.bits := lo.setWidth sz.bits
    let high : BitVec sz.bits := hi.setWidth sz.bits
    require (decide (low.toInt ≤ i.toInt) && decide (i.toInt ≤ high.toInt)) .bounds) s

/-- IRET, IRETD (R648). -/
def execIret (s : State) : Host.Outcome State Fault Refusal :=
  runInstr interruptReturn s

end Sys2Proof.Machine
end

