-- ==== Sys2Proof/Machine/Logic.lean ====
section
/-! DEFINITION. Logic, shifts and rotates (spec/43_logic_shift.md). -/

namespace Sys2Proof.Machine

/-- A shift or rotate of an r/m operand by the low five bits of a count; a count of 0 changes no flag and no value, but
the operand is read and checked for a write (R470). Whether the unchanged value is then written back is left open: the
access counts as a write for the data breakpoints (DESIGN CHOICE, log entry 50; R822). -/
def shiftRM (op : ShiftOp) (w : Bool) (rm : RM) (count : Nat) : Exec Unit := do
  let s ← getState
  let sz := s.sizeOf w
  let p ← place sz rm true
  let x ← readPlace sz p
  let c := count % 32
  if c = 0 then pure ()
  else do
    let r := shifted op x s.flags.cf c
    writePlace sz p r.value
    shiftFlags op c r

/-- A shift or rotate by CL (R470). -/
def shiftRMCl (op : ShiftOp) (w : Bool) (rm : RM) : Exec Unit := do
  let s ← getState
  shiftRM op w rm (s.regs.get8 .ecx).toNat

/-- ROL r/m, 1 (R471). -/
def execRolOne (w : Bool) (rm : RM) (s : State) : Host.Outcome State Fault Refusal :=
  runInstr (shiftRM .rol w rm 1) s

/-- ROL r/m, CL (R471). -/
def execRolCl (w : Bool) (rm : RM) (s : State) : Host.Outcome State Fault Refusal :=
  runInstr (shiftRMCl .rol w rm) s

/-- ROL r/m, immediate (R471). -/
def execRolImm (w : Bool) (rm : RM) (n : BitVec 8) (s : State) : Host.Outcome State Fault Refusal :=
  runInstr (shiftRM .rol w rm n.toNat) s

/-- ROR r/m, 1 (R472). -/
def execRorOne (w : Bool) (rm : RM) (s : State) : Host.Outcome State Fault Refusal :=
  runInstr (shiftRM .ror w rm 1) s

/-- ROR r/m, CL (R472). -/
def execRorCl (w : Bool) (rm : RM) (s : State) : Host.Outcome State Fault Refusal :=
  runInstr (shiftRMCl .ror w rm) s

/-- ROR r/m, immediate (R472). -/
def execRorImm (w : Bool) (rm : RM) (n : BitVec 8) (s : State) : Host.Outcome State Fault Refusal :=
  runInstr (shiftRM .ror w rm n.toNat) s

/-- RCL r/m, 1 (R473). -/
def execRclOne (w : Bool) (rm : RM) (s : State) : Host.Outcome State Fault Refusal :=
  runInstr (shiftRM .rcl w rm 1) s

/-- RCL r/m, CL (R473). -/
def execRclCl (w : Bool) (rm : RM) (s : State) : Host.Outcome State Fault Refusal :=
  runInstr (shiftRMCl .rcl w rm) s

/-- RCL r/m, immediate (R473). -/
def execRclImm (w : Bool) (rm : RM) (n : BitVec 8) (s : State) : Host.Outcome State Fault Refusal :=
  runInstr (shiftRM .rcl w rm n.toNat) s

/-- RCR r/m, 1 (R474). -/
def execRcrOne (w : Bool) (rm : RM) (s : State) : Host.Outcome State Fault Refusal :=
  runInstr (shiftRM .rcr w rm 1) s

/-- RCR r/m, CL (R474). -/
def execRcrCl (w : Bool) (rm : RM) (s : State) : Host.Outcome State Fault Refusal :=
  runInstr (shiftRMCl .rcr w rm) s

/-- RCR r/m, immediate (R474). -/
def execRcrImm (w : Bool) (rm : RM) (n : BitVec 8) (s : State) : Host.Outcome State Fault Refusal :=
  runInstr (shiftRM .rcr w rm n.toNat) s

/-- SHL r/m, 1 (R475). -/
def execShlOne (w : Bool) (rm : RM) (s : State) : Host.Outcome State Fault Refusal :=
  runInstr (shiftRM .shl w rm 1) s

/-- SHL r/m, CL (R475). -/
def execShlCl (w : Bool) (rm : RM) (s : State) : Host.Outcome State Fault Refusal :=
  runInstr (shiftRMCl .shl w rm) s

/-- SHL r/m, immediate (R475). -/
def execShlImm (w : Bool) (rm : RM) (n : BitVec 8) (s : State) : Host.Outcome State Fault Refusal :=
  runInstr (shiftRM .shl w rm n.toNat) s

/-- SHR r/m, 1 (R476). -/
def execShrOne (w : Bool) (rm : RM) (s : State) : Host.Outcome State Fault Refusal :=
  runInstr (shiftRM .shr w rm 1) s

/-- SHR r/m, CL (R476). -/
def execShrCl (w : Bool) (rm : RM) (s : State) : Host.Outcome State Fault Refusal :=
  runInstr (shiftRMCl .shr w rm) s

/-- SHR r/m, immediate (R476). -/
def execShrImm (w : Bool) (rm : RM) (n : BitVec 8) (s : State) : Host.Outcome State Fault Refusal :=
  runInstr (shiftRM .shr w rm n.toNat) s

/-- SAR r/m, 1 (R477). -/
def execSarOne (w : Bool) (rm : RM) (s : State) : Host.Outcome State Fault Refusal :=
  runInstr (shiftRM .sar w rm 1) s

/-- SAR r/m, CL (R477). -/
def execSarCl (w : Bool) (rm : RM) (s : State) : Host.Outcome State Fault Refusal :=
  runInstr (shiftRMCl .sar w rm) s

/-- SAR r/m, immediate (R477). -/
def execSarImm (w : Bool) (rm : RM) (n : BitVec 8) (s : State) : Host.Outcome State Fault Refusal :=
  runInstr (shiftRM .sar w rm n.toNat) s

/-- SHLD and SHRD (R480, R481): `r` is the result and `cf` the last bit moved out, for a count of 1 to the width. A count
of 0 changes nothing, and its test comes before the operand is read; above the width the result and all flags are
undefined. -/
def shiftDouble (rm : RM) (reg : Reg) (count : Nat) (r : {n : Nat} → BitVec n → BitVec n → Nat → BitVec n)
    (cf : {n : Nat} → BitVec n → Nat → Bool) : Exec Unit :=
  let c := count % 32
  if c = 0 then pure ()
  else do
    let s ← getState
    let sz := s.opSize
    let p ← place sz rm true
    let x ← readPlace sz p
    let y ← readReg sz reg
    if sz.bits < c then do
      let v ← draw
      writePlace sz p (v.setWidth sz.bits)
      undefined allStatus
    else do
      let z := r x y c
      writePlace sz p z
      updateFlags fun f => { f.szp z with cf := cf x c }
      if c = 1 then updateFlags fun f => { f with ov := z.msb ^^ x.msb } else undefined [.ov]
      undefined [.af]

/-- The last bit that SHLD moves out (R480). -/
def shldCarry {n : Nat} (x : BitVec n) (c : Nat) : Bool := x.getLsbD (n - c)

/-- The last bit that SHRD moves out (R481). -/
def shrdCarry {n : Nat} (x : BitVec n) (c : Nat) : Bool := x.getLsbD (c - 1)

/-- SHLD r/m, reg, immediate (R480). -/
def execShldImm (rm : RM) (r : Reg) (n : BitVec 8) (s : State) : Host.Outcome State Fault Refusal :=
  runInstr (shiftDouble rm r n.toNat shldResult shldCarry) s

/-- SHLD r/m, reg, CL (R480). -/
def execShldCl (rm : RM) (r : Reg) (s : State) : Host.Outcome State Fault Refusal :=
  runInstr (do
    let s ← getState
    shiftDouble rm r (s.regs.get8 .ecx).toNat shldResult shldCarry) s

/-- SHRD r/m, reg, immediate (R481). -/
def execShrdImm (rm : RM) (r : Reg) (n : BitVec 8) (s : State) : Host.Outcome State Fault Refusal :=
  runInstr (shiftDouble rm r n.toNat shrdResult shrdCarry) s

/-- SHRD r/m, reg, CL (R481). -/
def execShrdCl (rm : RM) (r : Reg) (s : State) : Host.Outcome State Fault Refusal :=
  runInstr (do
    let s ← getState
    shiftDouble rm r (s.regs.get8 .ecx).toNat shrdResult shrdCarry) s

/-- AND r/m, reg and reg, r/m (R484). -/
def execAndRmReg (d w : Bool) (rm : RM) (r : Reg) (s : State) : Host.Outcome State Fault Refusal :=
  runInstr (aluRmReg .and d w rm r) s

/-- AND r/m, immediate (R484). -/
def execAndRmImm (_s w : Bool) (rm : RM) (imm : Imm) (s : State) : Host.Outcome State Fault Refusal :=
  runInstr (aluRmImm .and w rm imm) s

/-- AND accumulator, immediate (R484). -/
def execAndAccImm (w : Bool) (imm : Imm) (s : State) : Host.Outcome State Fault Refusal :=
  runInstr (aluAccImm .and w imm) s

/-- OR r/m, reg and reg, r/m (R486). -/
def execOrRmReg (d w : Bool) (rm : RM) (r : Reg) (s : State) : Host.Outcome State Fault Refusal :=
  runInstr (aluRmReg .or d w rm r) s

/-- OR r/m, immediate (R486). -/
def execOrRmImm (_s w : Bool) (rm : RM) (imm : Imm) (s : State) : Host.Outcome State Fault Refusal :=
  runInstr (aluRmImm .or w rm imm) s

/-- OR accumulator, immediate (R486). -/
def execOrAccImm (w : Bool) (imm : Imm) (s : State) : Host.Outcome State Fault Refusal :=
  runInstr (aluAccImm .or w imm) s

/-- XOR r/m, reg and reg, r/m (R487). -/
def execXorRmReg (d w : Bool) (rm : RM) (r : Reg) (s : State) : Host.Outcome State Fault Refusal :=
  runInstr (aluRmReg .xor d w rm r) s

/-- XOR r/m, immediate (R487). -/
def execXorRmImm (_s w : Bool) (rm : RM) (imm : Imm) (s : State) : Host.Outcome State Fault Refusal :=
  runInstr (aluRmImm .xor w rm imm) s

/-- XOR accumulator, immediate (R487). -/
def execXorAccImm (w : Bool) (imm : Imm) (s : State) : Host.Outcome State Fault Refusal :=
  runInstr (aluAccImm .xor w imm) s

/-- TEST: the flags of the AND, nothing written (R485). -/
def testFlags {n : Nat} (a b : BitVec n) : Exec Unit := aluFlags .and a b

/-- TEST r/m, reg (R485). -/
def execTestRmReg (w : Bool) (rm : RM) (r : Reg) (s : State) : Host.Outcome State Fault Refusal :=
  runInstr (do
    let s ← getState
    let sz := s.sizeOf w
    let a ← readRM sz rm
    let b ← readReg sz r
    testFlags a b) s

/-- TEST r/m, immediate (R485). -/
def execTestRmImm (w : Bool) (rm : RM) (imm : Imm) (s : State) : Host.Outcome State Fault Refusal :=
  runInstr (do
    let s ← getState
    let sz := s.sizeOf w
    let a ← readRM sz rm
    testFlags a (immValue sz imm)) s

/-- TEST accumulator, immediate (R485). -/
def execTestAccImm (w : Bool) (imm : Imm) (s : State) : Host.Outcome State Fault Refusal :=
  runInstr (do
    let s ← getState
    let sz := s.sizeOf w
    let a ← readReg sz .eax
    testFlags a (immValue sz imm)) s

/-- NOT: no flag changes (R488). -/
def execNotRm (w : Bool) (rm : RM) (s : State) : Host.Outcome State Fault Refusal :=
  runInstr (modifyRM w rm (fun a => ~~~a) fun _ f => f) s

end Sys2Proof.Machine
end

