-- ==== Sys2Proof/WellFormed.lean ====
section
/-! DEFINITION. Which instruction terms are instructions: those that an encoding under the given operand and
address size stands for (spec/30_encoding.md R262, R263, R267, R271 to R278, R288). -/

namespace Sys2Proof

/-- What fixes the sizes of an instruction's fields: the D bit of the code segment and whether a size prefix
precedes the opcode (R262, R263). -/
structure Ctx where
  /-- the default size is 32 bits: the code segment's D bit (0 in real mode and virtual M8086 mode) -/
  d32 : Bool
  /-- an operand-size prefix is present -/
  has66 : Bool
  /-- an address-size prefix is present -/
  has67 : Bool
  deriving DecidableEq, Repr

/-- The full operand size is 32 bits (R262). -/
def Ctx.op32 (c : Ctx) : Bool := c.d32 ^^ c.has66

/-- The address size is 32 bits (R263). -/
def Ctx.addr32 (c : Ctx) : Bool := c.d32 ^^ c.has67

/-- A memory operand is one that the mod r/m table of the address size has (R275 to R278): mod 00 r/m 110 (16-bit)
and mod 00 with base 101 (32-bit) have no base register, r/m 100 is the s-i-b escape, ESP is no index. -/
def Mem.ok (c : Ctx) : Mem → Bool
  | .direct16 _ => !c.addr32
  | .based16 b d => !c.addr32 && !(b == .bp && d == .none)
  | .direct32 _ => c.addr32
  | .based32 b d => c.addr32 && b != .esp && !(b == .ebp && d == .none)
  | .sib _ i b d => c.addr32 && i != some .esp && !(b == .ebp && d == .none)
  | .sibDisp _ i _ => c.addr32 && i != some .esp

/-- A register, or a memory operand of the address size (R271). -/
def RM.ok (c : Ctx) : RM → Bool
  | .reg _ => true
  | .mem m => m.ok c

/-- Immediate data has one byte when `w` is 0 or `s` is 1, else the full operand size (R267, R282). -/
def Imm.ok (c : Ctx) (s w : Bool) : Imm → Bool
  | .i8 _ => !w || s
  | .i16 _ => w && !s && !c.op32
  | .i32 _ => w && !s && c.op32

/-- The immediate data of the group `100000sw`, which has no form with s = 1 and w = 0: opcode 82h is not listed (R301,
D23, log entry 11). -/
def Imm.okSW (c : Ctx) (s w : Bool) (i : Imm) : Bool := (w || !s) && i.ok c s w

/-- A full displacement of the operand size (R267). -/
def Full.okO (c : Ctx) : Full → Bool
  | .w16 _ => !c.op32
  | .w32 _ => c.op32

/-- A full displacement of the address size (R267). -/
def Full.okA (c : Ctx) : Full → Bool
  | .w16 _ => !c.addr32
  | .w32 _ => c.addr32

/-- The four segment registers of the `sreg2` field (R272). -/
def Seg.isSreg2 : Seg → Bool
  | .fs | .gs => false
  | _ => true

/-- The string instructions whose opcode, directly after F3h or F2h, is a row of its own (R512). -/
def Instr.isString : Instr → Bool
  | .cmps _ | .ins _ | .lods _ | .movs _ | .outs _ | .scas _ | .stos _ => true
  | _ => false

/-- The instruction is one that the encodings of Table 8-1 have under `c`. -/
def Instr.wf : Ctx → Instr → Bool
  | c, .addRmReg _ _ rm _ => rm.ok c
  | c, .addRmImm s w rm imm => rm.ok c && imm.okSW c s w
  | c, .addAccImm w imm => imm.ok c false w
  | c, .orRmReg _ _ rm _ => rm.ok c
  | c, .orRmImm s w rm imm => rm.ok c && imm.okSW c s w
  | c, .orAccImm w imm => imm.ok c false w
  | c, .adcRmReg _ _ rm _ => rm.ok c
  | c, .adcRmImm s w rm imm => rm.ok c && imm.okSW c s w
  | c, .adcAccImm w imm => imm.ok c false w
  | c, .sbbRmReg _ _ rm _ => rm.ok c
  | c, .sbbRmImm s w rm imm => rm.ok c && imm.okSW c s w
  | c, .sbbAccImm w imm => imm.ok c false w
  | c, .andRmReg _ _ rm _ => rm.ok c
  | c, .andRmImm s w rm imm => rm.ok c && imm.okSW c s w
  | c, .andAccImm w imm => imm.ok c false w
  | c, .subRmReg _ _ rm _ => rm.ok c
  | c, .subRmImm s w rm imm => rm.ok c && imm.okSW c s w
  | c, .subAccImm w imm => imm.ok c false w
  | c, .xorRmReg _ _ rm _ => rm.ok c
  | c, .xorRmImm s w rm imm => rm.ok c && imm.okSW c s w
  | c, .xorAccImm w imm => imm.ok c false w
  | c, .cmpRmReg _ _ rm _ => rm.ok c
  | c, .cmpRmImm s w rm imm => rm.ok c && imm.okSW c s w
  | c, .cmpAccImm w imm => imm.ok c false w
  | c, .testRmReg _ rm _ => rm.ok c
  | c, .testRmImm w rm imm => rm.ok c && imm.ok c false w
  | c, .testAccImm w imm => imm.ok c false w
  | c, .notRm _ rm => rm.ok c
  | c, .negRm _ rm => rm.ok c
  | c, .mulRm _ rm => rm.ok c
  | c, .imulRm _ rm => rm.ok c
  | c, .imulRegRm _ rm => rm.ok c
  | c, .imulRegRmImm s _ rm imm => rm.ok c && imm.ok c s true
  | c, .divRm _ rm => rm.ok c
  | c, .idivRm _ rm => rm.ok c
  | c, .incRm _ rm => rm.ok c
  | _, .incReg _ => true
  | c, .decRm _ rm => rm.ok c
  | _, .decReg _ => true
  | _, .aaa => true
  | _, .aas => true
  | _, .daa => true
  | _, .das => true
  | _, .aad => true
  | _, .aam => true
  | _, .cbw => true
  | _, .cwd => true
  | c, .movRmReg _ rm _ => rm.ok c
  | c, .movRegRm _ _ rm => rm.ok c
  | c, .movRmImm w rm imm => rm.ok c && imm.ok c false w
  | c, .movRegImm w _ imm => imm.ok c false w
  | c, .movAccMoffs _ off => off.okA c
  | c, .movMoffsAcc _ off => off.okA c
  | c, .movSegRm sg rm => rm.ok c && sg != .cs
  | c, .movRmSeg rm _ => rm.ok c
  | c, .movsx _ _ rm => rm.ok c
  | c, .movzx _ _ rm => rm.ok c
  | c, .pushRm rm => rm.ok c
  | _, .pushReg _ => true
  | c, .pushImm s imm => imm.ok c s true
  | _, .pushSeg sg => sg.isSreg2
  | _, .pushFs => true
  | _, .pushGs => true
  | c, .popRm rm => rm.ok c
  | _, .popReg _ => true
  | _, .popEs => true
  | _, .popSs => true
  | _, .popDs => true
  | _, .popFs => true
  | _, .popGs => true
  | _, .pusha => true
  | _, .popa => true
  | c, .xchgRmReg _ rm _ => rm.ok c
  | _, .xchgAcc r => r != .eax
  | _, .inImm _ _ => true
  | _, .inDx _ => true
  | _, .outImm _ _ => true
  | _, .outDx _ => true
  | c, .lea _ m => m.ok c
  | c, .lds _ m => m.ok c
  | c, .les _ m => m.ok c
  | c, .lfs _ m => m.ok c
  | c, .lgs _ m => m.ok c
  | c, .lss _ m => m.ok c
  | _, .clc => true
  | _, .cld => true
  | _, .cli => true
  | _, .cmc => true
  | _, .lahf => true
  | _, .pushf => true
  | _, .popf => true
  | _, .sahf => true
  | _, .stc => true
  | _, .std => true
  | _, .sti => true
  | _, .clts => true
  | c, .rolOne _ rm => rm.ok c
  | c, .rolCl _ rm => rm.ok c
  | c, .rolImm _ rm _ => rm.ok c
  | c, .rorOne _ rm => rm.ok c
  | c, .rorCl _ rm => rm.ok c
  | c, .rorImm _ rm _ => rm.ok c
  | c, .rclOne _ rm => rm.ok c
  | c, .rclCl _ rm => rm.ok c
  | c, .rclImm _ rm _ => rm.ok c
  | c, .rcrOne _ rm => rm.ok c
  | c, .rcrCl _ rm => rm.ok c
  | c, .rcrImm _ rm _ => rm.ok c
  | c, .shlOne _ rm => rm.ok c
  | c, .shlCl _ rm => rm.ok c
  | c, .shlImm _ rm _ => rm.ok c
  | c, .shrOne _ rm => rm.ok c
  | c, .shrCl _ rm => rm.ok c
  | c, .shrImm _ rm _ => rm.ok c
  | c, .sarOne _ rm => rm.ok c
  | c, .sarCl _ rm => rm.ok c
  | c, .sarImm _ rm _ => rm.ok c
  | c, .shldImm rm _ _ => rm.ok c
  | c, .shldCl rm _ => rm.ok c
  | c, .shrdImm rm _ _ => rm.ok c
  | c, .shrdCl rm _ => rm.ok c
  | _, .cmps _ => true
  | _, .ins _ => true
  | _, .lods _ => true
  | _, .movs _ => true
  | _, .outs _ => true
  | _, .scas _ => true
  | _, .stos _ => true
  | _, .xlat => true
  | _, .repInsF3 _ => true
  | _, .repInsF2 _ => true
  | _, .repLodsF3 _ => true
  | _, .repLodsF2 _ => true
  | _, .repMovsF3 _ => true
  | _, .repMovsF2 _ => true
  | _, .repOutsF3 _ => true
  | _, .repOutsF2 _ => true
  | _, .repStosF3 _ => true
  | _, .repStosF2 _ => true
  | _, .repeCmps _ => true
  | _, .repneCmps _ => true
  | _, .repeScas _ => true
  | _, .repneScas _ => true
  | c, .bsf _ rm => rm.ok c
  | c, .bsr _ rm => rm.ok c
  | c, .btImm rm _ => rm.ok c
  | c, .btReg rm _ => rm.ok c
  | c, .btcImm rm _ => rm.ok c
  | c, .btcReg rm _ => rm.ok c
  | c, .btrImm rm _ => rm.ok c
  | c, .btrReg rm _ => rm.ok c
  | c, .btsImm rm _ => rm.ok c
  | c, .btsReg rm _ => rm.ok c
  | _, .jmpShort _ => true
  | c, .jmpNear disp => disp.okO c
  | c, .jmpRm rm => rm.ok c
  | c, .jmpFar p => p.off.okO c
  | c, .jmpFarMem m => m.ok c
  | c, .callNear disp => disp.okO c
  | c, .callRm rm => rm.ok c
  | c, .callFar p => p.off.okO c
  | c, .callFarMem m => m.ok c
  | _, .retNear => true
  | _, .retNearImm _ => true
  | _, .retFar => true
  | _, .retFarImm _ => true
  | _, .joShort _ => true
  | c, .joNear disp => disp.okO c
  | _, .jnoShort _ => true
  | c, .jnoNear disp => disp.okO c
  | _, .jbShort _ => true
  | c, .jbNear disp => disp.okO c
  | _, .jnbShort _ => true
  | c, .jnbNear disp => disp.okO c
  | _, .jeShort _ => true
  | c, .jeNear disp => disp.okO c
  | _, .jneShort _ => true
  | c, .jneNear disp => disp.okO c
  | _, .jbeShort _ => true
  | c, .jbeNear disp => disp.okO c
  | _, .jnbeShort _ => true
  | c, .jnbeNear disp => disp.okO c
  | _, .jsShort _ => true
  | c, .jsNear disp => disp.okO c
  | _, .jnsShort _ => true
  | c, .jnsNear disp => disp.okO c
  | _, .jpShort _ => true
  | c, .jpNear disp => disp.okO c
  | _, .jnpShort _ => true
  | c, .jnpNear disp => disp.okO c
  | _, .jlShort _ => true
  | c, .jlNear disp => disp.okO c
  | _, .jnlShort _ => true
  | c, .jnlNear disp => disp.okO c
  | _, .jleShort _ => true
  | c, .jleNear disp => disp.okO c
  | _, .jnleShort _ => true
  | c, .jnleNear disp => disp.okO c
  | c, .seto rm => rm.ok c
  | c, .setno rm => rm.ok c
  | c, .setb rm => rm.ok c
  | c, .setnb rm => rm.ok c
  | c, .sete rm => rm.ok c
  | c, .setne rm => rm.ok c
  | c, .setbe rm => rm.ok c
  | c, .setnbe rm => rm.ok c
  | c, .sets rm => rm.ok c
  | c, .setns rm => rm.ok c
  | c, .setp rm => rm.ok c
  | c, .setnp rm => rm.ok c
  | c, .setl rm => rm.ok c
  | c, .setnl rm => rm.ok c
  | c, .setle rm => rm.ok c
  | c, .setnle rm => rm.ok c
  | _, .jcxz _ => true
  | _, .loop _ => true
  | _, .loopz _ => true
  | _, .loopnz _ => true
  | _, .enter _ _ => true
  | _, .leave => true
  | _, .int _ => true
  | _, .int3 => true
  | _, .into => true
  | c, .bound _ m => m.ok c
  | _, .iret => true
  | _, .hlt => true
  | _, .movCrReg _ _ => true
  | _, .movRegCr _ _ => true
  | _, .movDrReg _ _ => true
  | _, .movRegDr _ _ => true
  | _, .movTrReg _ _ => true
  | _, .movRegTr _ _ => true
  | _, .nop => true
  | _, .wait => true
  | c, .esc _ _ rm => rm.ok c
  | c, .arpl rm _ => rm.ok c
  | c, .lar _ rm => rm.ok c
  | c, .lsl _ rm => rm.ok c
  | c, .sldt rm => rm.ok c
  | c, .str rm => rm.ok c
  | c, .lldt rm => rm.ok c
  | c, .ltr rm => rm.ok c
  | c, .verr rm => rm.ok c
  | c, .verw rm => rm.ok c
  | c, .sgdt m => m.ok c
  | c, .sidt m => m.ok c
  | c, .lgdt m => m.ok c
  | c, .lidt m => m.ok c
  | c, .smsw rm => rm.ok c
  | c, .lmsw rm => rm.ok c
  | c, .csPrefix inner => inner.wf c
  | c, .dsPrefix inner => inner.wf c
  | c, .esPrefix inner => inner.wf c
  | c, .fsPrefix inner => inner.wf c
  | c, .gsPrefix inner => inner.wf c
  | c, .ssPrefix inner => inner.wf c
  | c, .opSizePrefix inner => inner.wf { c with has66 := true }
  | c, .addrSizePrefix inner => inner.wf { c with has67 := true }
  | c, .lockPrefix inner => inner.wf c
  | c, .repPrefix inner => !inner.isString && inner.wf c
  | c, .repnePrefix inner => !inner.isString && inner.wf c

/-- The instruction is well formed in a code segment of the given default size. -/
def Instr.wellFormed (d32 : Bool) (i : Instr) : Bool :=
  i.wf { d32 := d32, has66 := false, has67 := false }

end Sys2Proof
end

