-- ==== Sys2Proof/Decode.lean ====
section
/-! DEFINITION. From the bytes of the instruction stream to an instruction, and back (spec/30_encoding.md). The
decoder reads prefix bytes (R252, R254), then an opcode by the rows of the one-byte and the two-byte map (R300,
R301, R302), then the operand fields in the order of R250. Every other byte string is rejected by name. The
encoder writes the same fields. -/

namespace Sys2Proof

/-- Why a byte string is no instruction. -/
inductive DecodeError where
  /-- an encoding that Table 8-1 does not list (R318) -/
  | invalidOpcode
  /-- the bytes end before the instruction does -/
  | truncated
  deriving DecidableEq, Repr

/-! ## Register fields (R270, R272, R278, R288) -/

/-- The number of a general register (R270). -/
def Reg.code : Reg → BitVec 3
  | .eax => 0 | .ecx => 1 | .edx => 2 | .ebx => 3 | .esp => 4 | .ebp => 5 | .esi => 6 | .edi => 7

/-- The general register of a number (R270). -/
def Reg.ofCode (b : BitVec 3) : Reg :=
  match b.toNat with
  | 0 => .eax | 1 => .ecx | 2 => .edx | 3 => .ebx | 4 => .esp | 5 => .ebp | 6 => .esi | _ => .edi

/-- The number of a segment register (R272). -/
def Seg.code : Seg → BitVec 3
  | .es => 0 | .cs => 1 | .ss => 2 | .ds => 3 | .fs => 4 | .gs => 5

/-- The segment register of a `sreg3` field; 110 and 111 name none (R272). -/
def Seg.ofCode (b : BitVec 3) : Option Seg :=
  match b.toNat with
  | 0 => some .es | 1 => some .cs | 2 => some .ss | 3 => some .ds | 4 => some .fs | 5 => some .gs | _ => none

/-- The `eee` field of a control register (R288). -/
def CReg.code : CReg → BitVec 3
  | .cr0 => 0 | .cr2 => 2 | .cr3 => 3

/-- The control register of an `eee` field (R288). -/
def CReg.ofCode (b : BitVec 3) : Option CReg :=
  match b.toNat with
  | 0 => some .cr0 | 2 => some .cr2 | 3 => some .cr3 | _ => none

/-- The `eee` field of a debug register (R288). -/
def DReg.code : DReg → BitVec 3
  | .dr0 => 0 | .dr1 => 1 | .dr2 => 2 | .dr3 => 3 | .dr6 => 6 | .dr7 => 7

/-- The debug register of an `eee` field (R288). -/
def DReg.ofCode (b : BitVec 3) : Option DReg :=
  match b.toNat with
  | 0 => some .dr0 | 1 => some .dr1 | 2 => some .dr2 | 3 => some .dr3 | 6 => some .dr6 | 7 => some .dr7
  | _ => none

/-- The `eee` field of a test register (R288). -/
def TReg.code : TReg → BitVec 3
  | .tr6 => 6 | .tr7 => 7

/-- The test register of an `eee` field (R288). -/
def TReg.ofCode (b : BitVec 3) : Option TReg :=
  match b.toNat with
  | 6 => some .tr6 | 7 => some .tr7 | _ => none

/-- The r/m field of a 16-bit address (R275). -/
def Base16.code : Base16 → BitVec 3
  | .bxSi => 0 | .bxDi => 1 | .bpSi => 2 | .bpDi => 3 | .si => 4 | .di => 5 | .bp => 6 | .bx => 7

/-- The 16-bit base of an r/m field (R275). -/
def Base16.ofCode (b : BitVec 3) : Base16 :=
  match b.toNat with
  | 0 => .bxSi | 1 => .bxDi | 2 => .bpSi | 3 => .bpDi | 4 => .si | 5 => .di | 6 => .bp | _ => .bx

/-- The `ss` field (R278). -/
def Scale.code : Scale → BitVec 2
  | .x1 => 0 | .x2 => 1 | .x4 => 2 | .x8 => 3

/-- The scale of an `ss` field (R278). -/
def Scale.ofCode (b : BitVec 2) : Scale :=
  match b.toNat with
  | 0 => .x1 | 1 => .x2 | 2 => .x4 | _ => .x8

/-- The `index` field: 100 is "no index register" (R278). -/
def indexCode : Option Reg → BitVec 3
  | none => 4
  | some r => r.code

/-- The index register of an `index` field (R278). -/
def indexOfCode (b : BitVec 3) : Option Reg :=
  if b = 4 then none else some (Reg.ofCode b)

/-! ## Bytes of a field (R256) -/

/-- The two bytes of a 16-bit field, the low one first (R256). -/
def bytes16 (v : BitVec 16) : List Byte := [v.setWidth 8, (v >>> 8).setWidth 8]

/-- The four bytes of a 32-bit field, the low one first (R256). -/
def bytes32 (v : BitVec 32) : List Byte :=
  [v.setWidth 8, (v >>> 8).setWidth 8, (v >>> 16).setWidth 8, (v >>> 24).setWidth 8]

/-- The bytes of immediate data. -/
def Imm.bytes : Imm → List Byte
  | .i8 v => [v]
  | .i16 v => bytes16 v
  | .i32 v => bytes32 v

/-- The bytes of a full displacement. -/
def Full.bytes : Full → List Byte
  | .w16 v => bytes16 v
  | .w32 v => bytes32 v

/-- The bytes of a direct far pointer: offset, then selector (R267). -/
def FarPtr.bytes (p : FarPtr) : List Byte := p.off.bytes ++ bytes16 p.sel

/-- A byte of the form `xx yyy zzz`: the mod r/m byte and the s-i-b byte (R250). -/
def modByte (hi : BitVec 2) (mid lo : BitVec 3) : Byte := hi ++ mid ++ lo

/-- The mod field that announces a 16-bit displacement, and its bytes. -/
def Disp16.encode : Disp16 → BitVec 2 × List Byte
  | .none => (0, [])
  | .d8 d => (1, [d])
  | .d16 d => (2, bytes16 d)

/-- The mod field that announces a 32-bit displacement, and its bytes. -/
def Disp32.encode : Disp32 → BitVec 2 × List Byte
  | .none => (0, [])
  | .d8 d => (1, [d])
  | .d32 d => (2, bytes32 d)

/-- The mod r/m byte, the s-i-b byte and the displacement of an operand (R275 to R278), with `mid` in bits 5:3. -/
def modRM (mid : BitVec 3) : RM → List Byte
  | .reg r => [modByte 3 mid r.code]
  | .mem (.direct16 d) => modByte 0 mid 6 :: bytes16 d
  | .mem (.based16 b d) => modByte d.encode.1 mid b.code :: d.encode.2
  | .mem (.direct32 d) => modByte 0 mid 5 :: bytes32 d
  | .mem (.based32 b d) => modByte d.encode.1 mid b.code :: d.encode.2
  | .mem (.sib s i b d) => modByte d.encode.1 mid 4 :: modByte s.code (indexCode i) b.code :: d.encode.2
  | .mem (.sibDisp s i d) => modByte 0 mid 4 :: modByte s.code (indexCode i) 5 :: bytes32 d

/-! ## Parsers of the operand fields -/

/-- A parser takes bytes off the front of the instruction stream, or rejects it by name. -/
abbrev Parser (α : Type) := List Byte → Except DecodeError (α × List Byte)

/-- A parsed value given to the rest of the parse. -/
def Parser.bind {α β : Type} (p : Parser α) (f : α → Parser β) : Parser β := fun bs =>
  match p bs with
  | .ok (a, rest) => f a rest
  | .error e => .error e

/-- Take no byte. -/
def Parser.pure {α : Type} (a : α) : Parser α := fun bs => .ok (a, bs)

/-- A parsed value with a function applied. -/
def Parser.map {α β : Type} (f : α → β) (p : Parser α) : Parser β := p.bind fun a => Parser.pure (f a)

/-- An encoding that the table does not list (R318). -/
def Parser.invalid {α : Type} : Parser α := fun _ => .error .invalidOpcode

/-- One byte. -/
def pByte : Parser Byte
  | [] => .error .truncated
  | b :: rest => .ok (b, rest)

/-- A 16-bit field, low byte first (R256). -/
def pWord : Parser (BitVec 16)
  | b0 :: b1 :: rest => .ok (b1 ++ b0, rest)
  | _ => .error .truncated

/-- A 32-bit field, low byte first (R256). -/
def pDword : Parser (BitVec 32)
  | b0 :: b1 :: b2 :: b3 :: rest => .ok (b3 ++ b2 ++ b1 ++ b0, rest)
  | _ => .error .truncated

/-- A full displacement or offset (R267). -/
def pFull (wide : Bool) : Parser Full :=
  if wide then pDword.map .w32 else pWord.map .w16

/-- Immediate data sized by the s and w fields and the operand size (R267, R282). -/
def pImm (c : Ctx) (s w : Bool) : Parser Imm :=
  if !w || s then pByte.map .i8
  else if c.op32 then pDword.map .i32
  else pWord.map .i16

/-- The displacement of a 16-bit address with a base (R275). -/
def pDisp16 (md : BitVec 2) : Parser Disp16 :=
  if md = 0 then Parser.pure .none
  else if md = 1 then pByte.map .d8
  else pWord.map .d16

/-- The displacement of a 32-bit address with a base (R276, R277). -/
def pDisp32 (md : BitVec 2) : Parser Disp32 :=
  if md = 0 then Parser.pure .none
  else if md = 1 then pByte.map .d8
  else pDword.map .d32

/-- The s-i-b byte and what follows it (R277, R278). -/
def pSib (md : BitVec 2) : Parser Mem :=
  pByte.bind fun b =>
    let scale := Scale.ofCode (b.extractLsb' 6 2)
    let index := indexOfCode (b.extractLsb' 3 3)
    let base := b.extractLsb' 0 3
    if md = 0 ∧ base = 5 then pDword.map (.sibDisp scale index)
    else (pDisp32 md).map (.sib scale index (Reg.ofCode base))

/-- The memory operand of a mod field below 11 (R275 to R277). -/
def pMem (c : Ctx) (md : BitVec 2) (rm : BitVec 3) : Parser Mem :=
  if c.addr32 then
    if rm = 4 then pSib md
    else if md = 0 ∧ rm = 5 then pDword.map .direct32
    else (pDisp32 md).map (.based32 (Reg.ofCode rm))
  else
    if md = 0 ∧ rm = 6 then pWord.map .direct16
    else (pDisp16 md).map (.based16 (Base16.ofCode rm))

/-- The mod r/m byte and all that belongs to it: the field in bits 5:3, and the operand (R271, R274). -/
def pRM (c : Ctx) : Parser (BitVec 3 × RM) :=
  pByte.bind fun b =>
    let md := b.extractLsb' 6 2
    let mid := b.extractLsb' 3 3
    let rm := b.extractLsb' 0 3
    if md = 3 then Parser.pure (mid, .reg (Reg.ofCode rm))
    else (pMem c md rm).map fun m => (mid, .mem m)

/-- An instruction with a general register in bits 5:3 and an r/m operand. -/
def pRegRM (c : Ctx) (f : Reg → RM → Instr) : Parser Instr :=
  (pRM c).map fun p => f (Reg.ofCode p.1) p.2

/-- An instruction with a general register in bits 5:3 and a memory operand; mod 11 is not listed (R271). -/
def pRegMem (c : Ctx) (f : Reg → Mem → Instr) : Parser Instr :=
  (pRM c).bind fun p =>
    match p.2 with
    | .mem m => Parser.pure (f (Reg.ofCode p.1) m)
    | .reg _ => Parser.invalid

/-- A memory operand given to `f`; mod 11 is not listed (R271). -/
def onMem (f : Mem → Instr) : RM → Parser Instr
  | .mem m => Parser.pure (f m)
  | .reg _ => Parser.invalid

/-- An instruction of an opcode group: bits 5:3 of the mod r/m byte select it (R301). -/
def pGroup (c : Ctx) (f : Nat → RM → Parser Instr) : Parser Instr :=
  (pRM c).bind fun p => f p.1.toNat p.2

/-- A group member with no further field. -/
def one (i : Instr) : Parser Instr := Parser.pure i

/-- A group member with immediate data after the operand. -/
def withImm (c : Ctx) (s w : Bool) (f : Imm → Instr) : Parser Instr := (pImm c s w).map f

/-- A group member with an 8-bit count or bit number after the operand. -/
def withByte (f : Byte → Instr) : Parser Instr := pByte.map f

/-- The register `eee` and the general register of a MOV to or from a special register: the byte must be
`11 eee reg` and `eee` must name a register (R288). -/
def pSpecial {α : Type} (reg : BitVec 3 → Option α) (f : α → Reg → Instr) : Parser Instr :=
  pByte.bind fun b =>
    if b.extractLsb' 6 2 = 3 then
      match reg (b.extractLsb' 3 3) with
      | some x => Parser.pure (f x (Reg.ofCode (b.extractLsb' 0 3)))
      | none => Parser.invalid
    else Parser.invalid

/-! ## The opcode maps (R300, R301, R302) -/

/-- A row of an opcode map: it applies to the opcode bytes that agree with `value` on the bits of `mask`; the
parse is given the opcode byte. -/
structure OpRow where
  mask : Byte
  value : Byte
  parse : Ctx → Byte → Parser Instr

/-- Bit 0 of an opcode: the w field. -/
def bitW (op : Byte) : Bool := op.getLsbD 0

/-- Bit 1 of an opcode: the d or s field. -/
def bitD (op : Byte) : Bool := op.getLsbD 1

/-- Bits 2:0 of an opcode: the reg field. -/
def opcodeReg (op : Byte) : Reg := Reg.ofCode (op.extractLsb' 0 3)

/-- Bits 4:3 of an opcode: the sreg2 field (R272). -/
def opcodeSreg2 (op : Byte) : Seg :=
  match (op.extractLsb' 3 2).toNat with
  | 0 => .es | 1 => .cs | 2 => .ss | _ => .ds

/-- A row whose opcode has no variable bit. -/
def fixedRow (op : Byte) (p : Ctx → Parser Instr) : OpRow := ⟨0xFF, op, fun c _ => p c⟩

/-- A row that is the whole instruction. -/
def plainRow (op : Byte) (i : Instr) : OpRow := fixedRow op fun _ => one i

/-- A row with a w field and no operand bytes. -/
def wRow (op : Byte) (f : Bool → Instr) : OpRow := ⟨0xFE, op, fun _ b => one (f (bitW b))⟩

/-- A row with d and w fields and a mod reg r/m byte. -/
def dwRow (op : Byte) (f : Bool → Bool → RM → Reg → Instr) : OpRow :=
  ⟨0xFC, op, fun c b => pRegRM c fun r rm => f (bitD b) (bitW b) rm r⟩

/-- A row with a w field and a mod reg r/m byte. -/
def wRegRow (op : Byte) (f : Bool → Reg → RM → Instr) : OpRow :=
  ⟨0xFE, op, fun c b => pRegRM c fun r rm => f (bitW b) r rm⟩

/-- A row with a w field and immediate data. -/
def wImmRow (op : Byte) (f : Bool → Imm → Instr) : OpRow :=
  ⟨0xFE, op, fun c b => withImm c false (bitW b) (f (bitW b))⟩

/-- A row with a register in the opcode. -/
def regRow (op : Byte) (f : Reg → Instr) : OpRow := ⟨0xF8, op, fun _ b => one (f (opcodeReg b))⟩

/-- A row with an 8-bit displacement, port or type. -/
def byteRow (op : Byte) (f : Byte → Instr) : OpRow := fixedRow op fun _ => withByte f

/-- A row with a full displacement of the operand size. -/
def fullRow (op : Byte) (f : Full → Instr) : OpRow := fixedRow op fun c => (pFull c.op32).map f

/-- The group `100000sw` (R301): 80h, 81h and 83h. -/
def groupImm (c : Ctx) (s w : Bool) : Parser Instr :=
  pGroup c fun k rm =>
    match k with
    | 0 => withImm c s w (.addRmImm s w rm)
    | 1 => withImm c s w (.orRmImm s w rm)
    | 2 => withImm c s w (.adcRmImm s w rm)
    | 3 => withImm c s w (.sbbRmImm s w rm)
    | 4 => withImm c s w (.andRmImm s w rm)
    | 5 => withImm c s w (.subRmImm s w rm)
    | 6 => withImm c s w (.xorRmImm s w rm)
    | _ => withImm c s w (.cmpRmImm s w rm)

/-- The group `1111011w` (R301): 001 is not listed. -/
def groupF6 (c : Ctx) (w : Bool) : Parser Instr :=
  pGroup c fun k rm =>
    match k with
    | 0 => withImm c false w (.testRmImm w rm)
    | 1 => Parser.invalid
    | 2 => one (.notRm w rm)
    | 3 => one (.negRm w rm)
    | 4 => one (.mulRm w rm)
    | 5 => one (.imulRm w rm)
    | 6 => one (.divRm w rm)
    | _ => one (.idivRm w rm)

/-- The group FEh (R301). -/
def groupFE (c : Ctx) : Parser Instr :=
  pGroup c fun k rm =>
    match k with
    | 0 => one (.incRm false rm)
    | 1 => one (.decRm false rm)
    | _ => Parser.invalid

/-- The group FFh (R301). -/
def groupFF (c : Ctx) : Parser Instr :=
  pGroup c fun k rm =>
    match k with
    | 0 => one (.incRm true rm)
    | 1 => one (.decRm true rm)
    | 2 => one (.callRm rm)
    | 3 => onMem .callFarMem rm
    | 4 => one (.jmpRm rm)
    | 5 => onMem .jmpFarMem rm
    | 6 => one (.pushRm rm)
    | _ => Parser.invalid

/-- The shifts and rotates by one, `1101000w` (R286, R301): 110 is not listed. -/
def groupShiftOne (c : Ctx) (w : Bool) : Parser Instr :=
  pGroup c fun k rm =>
    match k with
    | 0 => one (.rolOne w rm)
    | 1 => one (.rorOne w rm)
    | 2 => one (.rclOne w rm)
    | 3 => one (.rcrOne w rm)
    | 4 => one (.shlOne w rm)
    | 5 => one (.shrOne w rm)
    | 6 => Parser.invalid
    | _ => one (.sarOne w rm)

/-- The shifts and rotates by CL, `1101001w` (R286, R301). -/
def groupShiftCl (c : Ctx) (w : Bool) : Parser Instr :=
  pGroup c fun k rm =>
    match k with
    | 0 => one (.rolCl w rm)
    | 1 => one (.rorCl w rm)
    | 2 => one (.rclCl w rm)
    | 3 => one (.rcrCl w rm)
    | 4 => one (.shlCl w rm)
    | 5 => one (.shrCl w rm)
    | 6 => Parser.invalid
    | _ => one (.sarCl w rm)

/-- The shifts and rotates by an immediate count, `1100000w` (R286, R301). -/
def groupShiftImm (c : Ctx) (w : Bool) : Parser Instr :=
  pGroup c fun k rm =>
    match k with
    | 0 => withByte (.rolImm w rm)
    | 1 => withByte (.rorImm w rm)
    | 2 => withByte (.rclImm w rm)
    | 3 => withByte (.rcrImm w rm)
    | 4 => withByte (.shlImm w rm)
    | 5 => withByte (.shrImm w rm)
    | 6 => Parser.invalid
    | _ => withByte (.sarImm w rm)

/-- The group 0F 00h (R301). -/
def group0F00 (c : Ctx) : Parser Instr :=
  pGroup c fun k rm =>
    match k with
    | 0 => one (.sldt rm)
    | 1 => one (.str rm)
    | 2 => one (.lldt rm)
    | 3 => one (.ltr rm)
    | 4 => one (.verr rm)
    | 5 => one (.verw rm)
    | _ => Parser.invalid

/-- The group 0F 01h (R301). -/
def group0F01 (c : Ctx) : Parser Instr :=
  pGroup c fun k rm =>
    match k with
    | 0 => onMem .sgdt rm
    | 1 => onMem .sidt rm
    | 2 => onMem .lgdt rm
    | 3 => onMem .lidt rm
    | 4 => one (.smsw rm)
    | 6 => one (.lmsw rm)
    | _ => Parser.invalid

/-- The group 0F BAh (R301): 000 to 011 are not listed. -/
def group0FBA (c : Ctx) : Parser Instr :=
  pGroup c fun k rm =>
    match k with
    | 4 => withByte (.btImm rm)
    | 5 => withByte (.btsImm rm)
    | 6 => withByte (.btrImm rm)
    | 7 => withByte (.btcImm rm)
    | _ => Parser.invalid

/-- An instruction whose mod r/m byte must hold 000 in bits 5:3 (R301: 8F, C6, C7, 0F 90 to 0F 9F). -/
def pZeroGroup (c : Ctx) (f : RM → Parser Instr) : Parser Instr :=
  pGroup c fun k rm =>
    match k with
    | 0 => f rm
    | _ => Parser.invalid

/-- A MOV with a segment register in bits 5:3 (R272): 110 and 111 name none, and are rejected here, before a source in
memory is read, as CS is for a load (DESIGN CHOICE, log entry 56: R334 reads the source first, R318 e and R741 step 6 make
it a fault of the decoder). -/
def pSegRM (c : Ctx) (f : Seg → RM → Parser Instr) : Parser Instr :=
  (pRM c).bind fun p =>
    match Seg.ofCode p.1 with
    | some sg => f sg p.2
    | none => Parser.invalid

/-- A row with a 16-bit operand and an optional rest. -/
def wordRow (op : Byte) (f : Word → Parser Instr) : OpRow := fixedRow op fun _ => pWord.bind f

/-- A direct far pointer: an offset of the operand size, then a selector (R267). -/
def pFar (c : Ctx) : Parser FarPtr :=
  (pFull c.op32).bind fun off => pWord.map fun sel => { off := off, sel := sel }

/-- The one-byte opcodes 00h to 3Fh (R300). -/
def opcodes00 : List OpRow :=
  [dwRow 0x00 .addRmReg, wImmRow 0x04 .addAccImm, dwRow 0x08 .orRmReg, wImmRow 0x0C .orAccImm,
   dwRow 0x10 .adcRmReg, wImmRow 0x14 .adcAccImm, dwRow 0x18 .sbbRmReg, wImmRow 0x1C .sbbAccImm,
   dwRow 0x20 .andRmReg, wImmRow 0x24 .andAccImm, dwRow 0x28 .subRmReg, wImmRow 0x2C .subAccImm,
   dwRow 0x30 .xorRmReg, wImmRow 0x34 .xorAccImm, dwRow 0x38 .cmpRmReg, wImmRow 0x3C .cmpAccImm,
   ⟨0xE7, 0x06, fun _ b => one (.pushSeg (opcodeSreg2 b))⟩,
   plainRow 0x07 .popEs, plainRow 0x17 .popSs, plainRow 0x1F .popDs,
   plainRow 0x27 .daa, plainRow 0x2F .das, plainRow 0x37 .aaa, plainRow 0x3F .aas]

/-- The one-byte opcodes 40h to 7Fh but for the conditional jumps (R300). -/
def opcodes40 : List OpRow :=
  [regRow 0x40 .incReg, regRow 0x48 .decReg, regRow 0x50 .pushReg, regRow 0x58 .popReg,
   plainRow 0x60 .pusha, plainRow 0x61 .popa,
   fixedRow 0x62 fun c => pRegMem c .bound,
   fixedRow 0x63 fun c => pRegRM c fun r rm => .arpl rm r,
   ⟨0xFD, 0x68, fun c b => withImm c (bitD b) true (.pushImm (bitD b))⟩,
   ⟨0xFD, 0x69, fun c b => (pRM c).bind fun p =>
     withImm c (bitD b) true (.imulRegRmImm (bitD b) (Reg.ofCode p.1) p.2)⟩,
   wRow 0x6C .ins, wRow 0x6E .outs]

/-- The short conditional jumps 70h to 7Fh (R300, R285). -/
def opcodes70 : List OpRow :=
  [byteRow 0x70 .joShort, byteRow 0x71 .jnoShort, byteRow 0x72 .jbShort, byteRow 0x73 .jnbShort,
   byteRow 0x74 .jeShort, byteRow 0x75 .jneShort, byteRow 0x76 .jbeShort, byteRow 0x77 .jnbeShort,
   byteRow 0x78 .jsShort, byteRow 0x79 .jnsShort, byteRow 0x7A .jpShort, byteRow 0x7B .jnpShort,
   byteRow 0x7C .jlShort, byteRow 0x7D .jnlShort, byteRow 0x7E .jleShort, byteRow 0x7F .jnleShort]

/-- The one-byte opcodes 80h to 9Fh (R300). 82h has no row: D23 and U30, to which R318 refers, list it among the
encodings that raise exception 6, where R282 and R303 call it another 80h (DESIGN CHOICE, log entry 11). -/
def opcodes80 : List OpRow :=
  [⟨0xFE, 0x80, fun c b => groupImm c false (bitW b)⟩, fixedRow 0x83 fun c => groupImm c true true,
   wRegRow 0x84 fun w r rm => .testRmReg w rm r,
   wRegRow 0x86 fun w r rm => .xchgRmReg w rm r,
   wRegRow 0x88 fun w r rm => .movRmReg w rm r,
   wRegRow 0x8A .movRegRm,
   fixedRow 0x8C fun c => pSegRM c fun sg rm => one (.movRmSeg rm sg),
   fixedRow 0x8D fun c => pRegMem c .lea,
   fixedRow 0x8E fun c => pSegRM c fun sg rm =>
     if sg = .cs then Parser.invalid else one (.movSegRm sg rm),
   fixedRow 0x8F fun c => pZeroGroup c fun rm => one (.popRm rm),
   plainRow 0x90 .nop,
   regRow 0x90 .xchgAcc,
   plainRow 0x98 .cbw, plainRow 0x99 .cwd,
   fixedRow 0x9A fun c => (pFar c).map .callFar,
   plainRow 0x9B .wait, plainRow 0x9C .pushf, plainRow 0x9D .popf, plainRow 0x9E .sahf, plainRow 0x9F .lahf]

/-- The one-byte opcodes A0h to BFh (R300). -/
def opcodesA0 : List OpRow :=
  [⟨0xFE, 0xA0, fun c b => (pFull c.addr32).map (.movAccMoffs (bitW b))⟩,
   ⟨0xFE, 0xA2, fun c b => (pFull c.addr32).map (.movMoffsAcc (bitW b))⟩,
   wRow 0xA4 .movs, wRow 0xA6 .cmps, wImmRow 0xA8 .testAccImm, wRow 0xAA .stos, wRow 0xAC .lods, wRow 0xAE .scas,
   ⟨0xF0, 0xB0, fun c b => withImm c false (b.getLsbD 3) (.movRegImm (b.getLsbD 3) (opcodeReg b))⟩]

/-- The one-byte opcodes C0h to DFh (R300). -/
def opcodesC0 : List OpRow :=
  [⟨0xFE, 0xC0, fun c b => groupShiftImm c (bitW b)⟩,
   wordRow 0xC2 fun n => one (.retNearImm n),
   plainRow 0xC3 .retNear,
   fixedRow 0xC4 fun c => pRegMem c .les,
   fixedRow 0xC5 fun c => pRegMem c .lds,
   ⟨0xFE, 0xC6, fun c b => pZeroGroup c fun rm => withImm c false (bitW b) (.movRmImm (bitW b) rm)⟩,
   wordRow 0xC8 fun n => withByte (.enter n),
   plainRow 0xC9 .leave,
   wordRow 0xCA fun n => one (.retFarImm n),
   plainRow 0xCB .retFar, plainRow 0xCC .int3, byteRow 0xCD .int, plainRow 0xCE .into, plainRow 0xCF .iret,
   ⟨0xFE, 0xD0, fun c b => groupShiftOne c (bitW b)⟩,
   ⟨0xFE, 0xD2, fun c b => groupShiftCl c (bitW b)⟩,
   fixedRow 0xD4 fun _ => pByte.bind fun b => if b = 0x0A then one .aam else Parser.invalid,
   fixedRow 0xD5 fun _ => pByte.bind fun b => if b = 0x0A then one .aad else Parser.invalid,
   plainRow 0xD7 .xlat,
   ⟨0xF8, 0xD8, fun c b => (pRM c).map fun p => .esc (b.extractLsb' 0 3) p.1 p.2⟩]

/-- The one-byte opcodes E0h to FFh (R300). -/
def opcodesE0 : List OpRow :=
  [byteRow 0xE0 .loopnz, byteRow 0xE1 .loopz, byteRow 0xE2 .loop, byteRow 0xE3 .jcxz,
   ⟨0xFE, 0xE4, fun _ b => withByte (.inImm (bitW b))⟩,
   ⟨0xFE, 0xE6, fun _ b => withByte (.outImm (bitW b))⟩,
   fullRow 0xE8 .callNear, fullRow 0xE9 .jmpNear,
   fixedRow 0xEA fun c => (pFar c).map .jmpFar,
   byteRow 0xEB .jmpShort,
   wRow 0xEC .inDx, wRow 0xEE .outDx,
   plainRow 0xF4 .hlt, plainRow 0xF5 .cmc,
   ⟨0xFE, 0xF6, fun c b => groupF6 c (bitW b)⟩,
   plainRow 0xF8 .clc, plainRow 0xF9 .stc, plainRow 0xFA .cli, plainRow 0xFB .sti,
   plainRow 0xFC .cld, plainRow 0xFD .std,
   fixedRow 0xFE groupFE, fixedRow 0xFF groupFF]

/-- The one-byte opcode map (R300): a byte in no row is not listed (R318). -/
def opcodeMap : List OpRow :=
  opcodes00 ++ opcodes40 ++ opcodes70 ++ opcodes80 ++ opcodesA0 ++ opcodesC0 ++ opcodesE0

/-- The two-byte opcodes 0F 00h to 0F 26h (R302). -/
def opcodes0F00 : List OpRow :=
  [fixedRow 0x00 group0F00, fixedRow 0x01 group0F01,
   fixedRow 0x02 fun c => pRegRM c .lar,
   fixedRow 0x03 fun c => pRegRM c .lsl,
   plainRow 0x06 .clts,
   fixedRow 0x20 fun _ => pSpecial CReg.ofCode fun x r => .movRegCr r x,
   fixedRow 0x21 fun _ => pSpecial DReg.ofCode fun x r => .movRegDr r x,
   fixedRow 0x22 fun _ => pSpecial CReg.ofCode .movCrReg,
   fixedRow 0x23 fun _ => pSpecial DReg.ofCode .movDrReg,
   fixedRow 0x24 fun _ => pSpecial TReg.ofCode fun x r => .movRegTr r x,
   fixedRow 0x26 fun _ => pSpecial TReg.ofCode .movTrReg]

/-- The conditional jumps with full displacement 0F 80h to 0F 8Fh (R302). -/
def opcodes0F80 : List OpRow :=
  [fullRow 0x80 .joNear, fullRow 0x81 .jnoNear, fullRow 0x82 .jbNear, fullRow 0x83 .jnbNear,
   fullRow 0x84 .jeNear, fullRow 0x85 .jneNear, fullRow 0x86 .jbeNear, fullRow 0x87 .jnbeNear,
   fullRow 0x88 .jsNear, fullRow 0x89 .jnsNear, fullRow 0x8A .jpNear, fullRow 0x8B .jnpNear,
   fullRow 0x8C .jlNear, fullRow 0x8D .jnlNear, fullRow 0x8E .jleNear, fullRow 0x8F .jnleNear]

/-- A SETcc row: bits 5:3 of the mod r/m byte must be 000 (R301). -/
def setRow (op : Byte) (f : RM → Instr) : OpRow := fixedRow op fun c => pZeroGroup c fun rm => one (f rm)

/-- The SETcc opcodes 0F 90h to 0F 9Fh (R302). -/
def opcodes0F90 : List OpRow :=
  [setRow 0x90 .seto, setRow 0x91 .setno, setRow 0x92 .setb, setRow 0x93 .setnb,
   setRow 0x94 .sete, setRow 0x95 .setne, setRow 0x96 .setbe, setRow 0x97 .setnbe,
   setRow 0x98 .sets, setRow 0x99 .setns, setRow 0x9A .setp, setRow 0x9B .setnp,
   setRow 0x9C .setl, setRow 0x9D .setnl, setRow 0x9E .setle, setRow 0x9F .setnle]

/-- The two-byte opcodes 0F A0h to 0F BFh (R302). -/
def opcodes0FA0 : List OpRow :=
  [plainRow 0xA0 .pushFs, plainRow 0xA1 .popFs,
   fixedRow 0xA3 fun c => pRegRM c fun r rm => .btReg rm r,
   fixedRow 0xA4 fun c => (pRM c).bind fun p => withByte (.shldImm p.2 (Reg.ofCode p.1)),
   fixedRow 0xA5 fun c => pRegRM c fun r rm => .shldCl rm r,
   plainRow 0xA8 .pushGs, plainRow 0xA9 .popGs,
   fixedRow 0xAB fun c => pRegRM c fun r rm => .btsReg rm r,
   fixedRow 0xAC fun c => (pRM c).bind fun p => withByte (.shrdImm p.2 (Reg.ofCode p.1)),
   fixedRow 0xAD fun c => pRegRM c fun r rm => .shrdCl rm r,
   fixedRow 0xAF fun c => pRegRM c .imulRegRm,
   fixedRow 0xB2 fun c => pRegMem c .lss,
   fixedRow 0xB3 fun c => pRegRM c fun r rm => .btrReg rm r,
   fixedRow 0xB4 fun c => pRegMem c .lfs,
   fixedRow 0xB5 fun c => pRegMem c .lgs,
   wRegRow 0xB6 .movzx,
   fixedRow 0xBA group0FBA,
   fixedRow 0xBB fun c => pRegRM c fun r rm => .btcReg rm r,
   fixedRow 0xBC fun c => pRegRM c .bsf,
   fixedRow 0xBD fun c => pRegRM c .bsr,
   wRegRow 0xBE .movsx]

/-- The two-byte opcode map (R302): a second byte in no row is not listed (R318). -/
def opcodeMap0F : List OpRow := opcodes0F00 ++ opcodes0F80 ++ opcodes0F90 ++ opcodes0FA0

/-- The row of a map that an opcode byte selects: the first that applies (90h is NOP: R303). -/
def findRow (rows : List OpRow) (op : Byte) : Option OpRow :=
  rows.find? fun row => (op &&& row.mask) == row.value

/-- An instruction from its opcode on: after 0Fh the second byte selects in the two-byte map (R253). -/
def decodeOpcode (c : Ctx) (op : Byte) : Parser Instr :=
  if op = 0x0F then
    pByte.bind fun op2 =>
      match findRow opcodeMap0F op2 with
      | some row => row.parse c op2
      | none => Parser.invalid
  else
    match findRow opcodeMap op with
    | some row => row.parse c op
    | none => Parser.invalid

/-! ## Prefixes (R252) -/

/-- The prefix bytes (R252). -/
inductive PrefixByte where
  | cs | ds | es | fs | gs | ss | opSize | addrSize | lock | rep | repne
  deriving DecidableEq, Repr

/-- The prefix that a byte is, if it is one (R252). -/
def prefixByte (b : Byte) : Option PrefixByte :=
  match b.toNat with
  | 0x2E => some .cs
  | 0x3E => some .ds
  | 0x26 => some .es
  | 0x64 => some .fs
  | 0x65 => some .gs
  | 0x36 => some .ss
  | 0x66 => some .opSize
  | 0x67 => some .addrSize
  | 0xF0 => some .lock
  | 0xF3 => some .rep
  | 0xF2 => some .repne
  | _ => none

/-- What a prefix does to the sizes of the fields after it: a size prefix has the effect of one, however often it
stands (R252). -/
def PrefixByte.apply (c : Ctx) : PrefixByte → Ctx
  | .opSize => { c with has66 := true }
  | .addrSize => { c with has67 := true }
  | _ => c

/-- F3h before an instruction: with a string instruction it is a REP row of the table, else a prefix (R512). -/
def fuseRep : Instr → Instr
  | .ins w => .repInsF3 w
  | .lods w => .repLodsF3 w
  | .movs w => .repMovsF3 w
  | .outs w => .repOutsF3 w
  | .stos w => .repStosF3 w
  | .cmps w => .repeCmps w
  | .scas w => .repeScas w
  | i => .repPrefix i

/-- F2h before an instruction: with a string instruction it is a REP row of the table, else a prefix (R512). -/
def fuseRepne : Instr → Instr
  | .ins w => .repInsF2 w
  | .lods w => .repLodsF2 w
  | .movs w => .repMovsF2 w
  | .outs w => .repOutsF2 w
  | .stos w => .repStosF2 w
  | .cmps w => .repneCmps w
  | .scas w => .repneScas w
  | i => .repnePrefix i

/-- The instruction with a prefix before it. -/
def PrefixByte.wrap (i : Instr) : PrefixByte → Instr
  | .cs => .csPrefix i
  | .ds => .dsPrefix i
  | .es => .esPrefix i
  | .fs => .fsPrefix i
  | .gs => .gsPrefix i
  | .ss => .ssPrefix i
  | .opSize => .opSizePrefix i
  | .addrSize => .addrSizePrefix i
  | .lock => .lockPrefix i
  | .rep => fuseRep i
  | .repne => fuseRepne i

/-- The instruction at the front of the bytes, and the bytes after it (R254). -/
def decodeFrom (c : Ctx) : Parser Instr
  | [] => .error .truncated
  | b :: rest =>
    match prefixByte b with
    | some p =>
      match decodeFrom (p.apply c) rest with
      | .ok (i, rest') => .ok (p.wrap i, rest')
      | .error e => .error e
    | none => decodeOpcode c b rest

/-- The instruction at the front of the bytes in a code segment of the given default size, and its length in bytes
(prefixes included). -/
def decode (d32 : Bool) (bytes : List Byte) : Except DecodeError (Instr × Nat) :=
  match decodeFrom { d32 := d32, has66 := false, has67 := false } bytes with
  | .ok (i, rest) => .ok (i, bytes.length - rest.length)
  | .error e => .error e

/-! ## The bits of an opcode-table row -/

/-- The `n` bytes of a number, the most significant first: the numbering of spec/opcode_table.json ("first byte
most significant", 30_encoding.md). -/
def bytesBE : Nat → Nat → List Byte
  | 0, _ => []
  | n + 1, w => BitVec.ofNat 8 (w / 256 ^ n) :: bytesBE n w

/-- The longest instruction has 15 bytes (R251). -/
def maxLength : Nat := 15

/-- The bytes of an instruction whose table bits are `w`: the bytes the table numbers, then zeros up to the longest
instruction. -/
def tableBytes (nbits w : Nat) : List Byte :=
  let opcode := bytesBE (nbits / 8) w
  opcode ++ List.replicate (maxLength - opcode.length) 0

/-- The instruction of an opcode-table word, decoded as in the code segment after reset (D = 0, R262). -/
def decodeTableWord (nbits w : Nat) : Option Instr :=
  match decode false (tableBytes nbits w) with
  | .ok (i, _) => some i
  | .error _ => none

/-! ## The encoder -/

/-- An opcode with a bit field or-ed in at a place. -/
def opBit (op : Byte) (place : Nat) (b : Bool) : Byte := op ||| ((BitVec.ofBool b).setWidth 8 <<< place)

/-- An opcode with its w field. -/
def opW (op : Byte) (w : Bool) : Byte := opBit op 0 w

/-- An opcode with its s field (no w field). -/
def opS (op : Byte) (s : Bool) : Byte := opBit op 1 s

/-- An opcode with its d and w fields. -/
def opDW (op : Byte) (d w : Bool) : Byte := opBit (opBit op 1 d) 0 w

/-- An opcode with its s and w fields. -/
def opSW (op : Byte) (s w : Bool) : Byte := opBit (opBit op 1 s) 0 w

/-- An opcode with a register in bits 2:0. -/
def opReg (op : Byte) (r : Reg) : Byte := op ||| r.code.setWidth 8

/-- An opcode with a w field in bit 3 and a register in bits 2:0. -/
def opWReg (op : Byte) (w : Bool) (r : Reg) : Byte := opReg (opBit op 3 w) r

/-- An opcode with an sreg2 field in bits 4:3. -/
def opSreg2 (op : Byte) (sg : Seg) : Byte := op ||| (sg.code.setWidth 8 <<< 3)

/-- The bytes of an instruction, in stream order (R250, and the pattern of its row of Table 8-1). -/
def encode : Instr → List Byte
  | .addRmReg d w rm r => opDW 0x00 d w :: modRM r.code rm
  | .addRmImm s w rm imm => opSW 0x80 s w :: modRM 0 rm ++ imm.bytes
  | .addAccImm w imm => opW 0x04 w :: imm.bytes
  | .orRmReg d w rm r => opDW 0x08 d w :: modRM r.code rm
  | .orRmImm s w rm imm => opSW 0x80 s w :: modRM 1 rm ++ imm.bytes
  | .orAccImm w imm => opW 0x0C w :: imm.bytes
  | .adcRmReg d w rm r => opDW 0x10 d w :: modRM r.code rm
  | .adcRmImm s w rm imm => opSW 0x80 s w :: modRM 2 rm ++ imm.bytes
  | .adcAccImm w imm => opW 0x14 w :: imm.bytes
  | .sbbRmReg d w rm r => opDW 0x18 d w :: modRM r.code rm
  | .sbbRmImm s w rm imm => opSW 0x80 s w :: modRM 3 rm ++ imm.bytes
  | .sbbAccImm w imm => opW 0x1C w :: imm.bytes
  | .andRmReg d w rm r => opDW 0x20 d w :: modRM r.code rm
  | .andRmImm s w rm imm => opSW 0x80 s w :: modRM 4 rm ++ imm.bytes
  | .andAccImm w imm => opW 0x24 w :: imm.bytes
  | .subRmReg d w rm r => opDW 0x28 d w :: modRM r.code rm
  | .subRmImm s w rm imm => opSW 0x80 s w :: modRM 5 rm ++ imm.bytes
  | .subAccImm w imm => opW 0x2C w :: imm.bytes
  | .xorRmReg d w rm r => opDW 0x30 d w :: modRM r.code rm
  | .xorRmImm s w rm imm => opSW 0x80 s w :: modRM 6 rm ++ imm.bytes
  | .xorAccImm w imm => opW 0x34 w :: imm.bytes
  | .cmpRmReg d w rm r => opDW 0x38 d w :: modRM r.code rm
  | .cmpRmImm s w rm imm => opSW 0x80 s w :: modRM 7 rm ++ imm.bytes
  | .cmpAccImm w imm => opW 0x3C w :: imm.bytes
  | .testRmReg w rm r => opW 0x84 w :: modRM r.code rm
  | .testRmImm w rm imm => opW 0xF6 w :: modRM 0 rm ++ imm.bytes
  | .testAccImm w imm => opW 0xA8 w :: imm.bytes
  | .notRm w rm => opW 0xF6 w :: modRM 2 rm
  | .negRm w rm => opW 0xF6 w :: modRM 3 rm
  | .mulRm w rm => opW 0xF6 w :: modRM 4 rm
  | .imulRm w rm => opW 0xF6 w :: modRM 5 rm
  | .imulRegRm r rm => 0x0F :: 0xAF :: modRM r.code rm
  | .imulRegRmImm s r rm imm => opS 0x69 s :: modRM r.code rm ++ imm.bytes
  | .divRm w rm => opW 0xF6 w :: modRM 6 rm
  | .idivRm w rm => opW 0xF6 w :: modRM 7 rm
  | .incRm w rm => opW 0xFE w :: modRM 0 rm
  | .incReg r => [opReg 0x40 r]
  | .decRm w rm => opW 0xFE w :: modRM 1 rm
  | .decReg r => [opReg 0x48 r]
  | .aaa => [0x37]
  | .aas => [0x3F]
  | .daa => [0x27]
  | .das => [0x2F]
  | .aad => [0xD5, 0x0A]
  | .aam => [0xD4, 0x0A]
  | .cbw => [0x98]
  | .cwd => [0x99]
  | .movRmReg w rm r => opW 0x88 w :: modRM r.code rm
  | .movRegRm w r rm => opW 0x8A w :: modRM r.code rm
  | .movRmImm w rm imm => opW 0xC6 w :: modRM 0 rm ++ imm.bytes
  | .movRegImm w r imm => opWReg 0xB0 w r :: imm.bytes
  | .movAccMoffs w off => opW 0xA0 w :: off.bytes
  | .movMoffsAcc w off => opW 0xA2 w :: off.bytes
  | .movSegRm sg rm => 0x8E :: modRM sg.code rm
  | .movRmSeg rm sg => 0x8C :: modRM sg.code rm
  | .movsx w r rm => 0x0F :: opW 0xBE w :: modRM r.code rm
  | .movzx w r rm => 0x0F :: opW 0xB6 w :: modRM r.code rm
  | .pushRm rm => 0xFF :: modRM 6 rm
  | .pushReg r => [opReg 0x50 r]
  | .pushImm s imm => opS 0x68 s :: imm.bytes
  | .pushSeg sg => [opSreg2 0x06 sg]
  | .pushFs => [0x0F, 0xA0]
  | .pushGs => [0x0F, 0xA8]
  | .popRm rm => 0x8F :: modRM 0 rm
  | .popReg r => [opReg 0x58 r]
  | .popEs => [0x07]
  | .popSs => [0x17]
  | .popDs => [0x1F]
  | .popFs => [0x0F, 0xA1]
  | .popGs => [0x0F, 0xA9]
  | .pusha => [0x60]
  | .popa => [0x61]
  | .xchgRmReg w rm r => opW 0x86 w :: modRM r.code rm
  | .xchgAcc r => [opReg 0x90 r]
  | .inImm w port => [opW 0xE4 w, port]
  | .inDx w => [opW 0xEC w]
  | .outImm w port => [opW 0xE6 w, port]
  | .outDx w => [opW 0xEE w]
  | .lea r m => 0x8D :: modRM r.code (.mem m)
  | .lds r m => 0xC5 :: modRM r.code (.mem m)
  | .les r m => 0xC4 :: modRM r.code (.mem m)
  | .lfs r m => 0x0F :: 0xB4 :: modRM r.code (.mem m)
  | .lgs r m => 0x0F :: 0xB5 :: modRM r.code (.mem m)
  | .lss r m => 0x0F :: 0xB2 :: modRM r.code (.mem m)
  | .clc => [0xF8]
  | .cld => [0xFC]
  | .cli => [0xFA]
  | .cmc => [0xF5]
  | .lahf => [0x9F]
  | .pushf => [0x9C]
  | .popf => [0x9D]
  | .sahf => [0x9E]
  | .stc => [0xF9]
  | .std => [0xFD]
  | .sti => [0xFB]
  | .clts => [0x0F, 0x06]
  | .rolOne w rm => opW 0xD0 w :: modRM 0 rm
  | .rolCl w rm => opW 0xD2 w :: modRM 0 rm
  | .rolImm w rm n => opW 0xC0 w :: modRM 0 rm ++ [n]
  | .rorOne w rm => opW 0xD0 w :: modRM 1 rm
  | .rorCl w rm => opW 0xD2 w :: modRM 1 rm
  | .rorImm w rm n => opW 0xC0 w :: modRM 1 rm ++ [n]
  | .rclOne w rm => opW 0xD0 w :: modRM 2 rm
  | .rclCl w rm => opW 0xD2 w :: modRM 2 rm
  | .rclImm w rm n => opW 0xC0 w :: modRM 2 rm ++ [n]
  | .rcrOne w rm => opW 0xD0 w :: modRM 3 rm
  | .rcrCl w rm => opW 0xD2 w :: modRM 3 rm
  | .rcrImm w rm n => opW 0xC0 w :: modRM 3 rm ++ [n]
  | .shlOne w rm => opW 0xD0 w :: modRM 4 rm
  | .shlCl w rm => opW 0xD2 w :: modRM 4 rm
  | .shlImm w rm n => opW 0xC0 w :: modRM 4 rm ++ [n]
  | .shrOne w rm => opW 0xD0 w :: modRM 5 rm
  | .shrCl w rm => opW 0xD2 w :: modRM 5 rm
  | .shrImm w rm n => opW 0xC0 w :: modRM 5 rm ++ [n]
  | .sarOne w rm => opW 0xD0 w :: modRM 7 rm
  | .sarCl w rm => opW 0xD2 w :: modRM 7 rm
  | .sarImm w rm n => opW 0xC0 w :: modRM 7 rm ++ [n]
  | .shldImm rm r n => 0x0F :: 0xA4 :: modRM r.code rm ++ [n]
  | .shldCl rm r => 0x0F :: 0xA5 :: modRM r.code rm
  | .shrdImm rm r n => 0x0F :: 0xAC :: modRM r.code rm ++ [n]
  | .shrdCl rm r => 0x0F :: 0xAD :: modRM r.code rm
  | .cmps w => [opW 0xA6 w]
  | .ins w => [opW 0x6C w]
  | .lods w => [opW 0xAC w]
  | .movs w => [opW 0xA4 w]
  | .outs w => [opW 0x6E w]
  | .scas w => [opW 0xAE w]
  | .stos w => [opW 0xAA w]
  | .xlat => [0xD7]
  | .repInsF3 w => [0xF3, opW 0x6C w]
  | .repInsF2 w => [0xF2, opW 0x6C w]
  | .repLodsF3 w => [0xF3, opW 0xAC w]
  | .repLodsF2 w => [0xF2, opW 0xAC w]
  | .repMovsF3 w => [0xF3, opW 0xA4 w]
  | .repMovsF2 w => [0xF2, opW 0xA4 w]
  | .repOutsF3 w => [0xF3, opW 0x6E w]
  | .repOutsF2 w => [0xF2, opW 0x6E w]
  | .repStosF3 w => [0xF3, opW 0xAA w]
  | .repStosF2 w => [0xF2, opW 0xAA w]
  | .repeCmps w => [0xF3, opW 0xA6 w]
  | .repneCmps w => [0xF2, opW 0xA6 w]
  | .repeScas w => [0xF3, opW 0xAE w]
  | .repneScas w => [0xF2, opW 0xAE w]
  | .bsf r rm => 0x0F :: 0xBC :: modRM r.code rm
  | .bsr r rm => 0x0F :: 0xBD :: modRM r.code rm
  | .btImm rm n => 0x0F :: 0xBA :: modRM 4 rm ++ [n]
  | .btReg rm r => 0x0F :: 0xA3 :: modRM r.code rm
  | .btcImm rm n => 0x0F :: 0xBA :: modRM 7 rm ++ [n]
  | .btcReg rm r => 0x0F :: 0xBB :: modRM r.code rm
  | .btrImm rm n => 0x0F :: 0xBA :: modRM 6 rm ++ [n]
  | .btrReg rm r => 0x0F :: 0xB3 :: modRM r.code rm
  | .btsImm rm n => 0x0F :: 0xBA :: modRM 5 rm ++ [n]
  | .btsReg rm r => 0x0F :: 0xAB :: modRM r.code rm
  | .jmpShort disp => [0xEB, disp]
  | .jmpNear disp => 0xE9 :: disp.bytes
  | .jmpRm rm => 0xFF :: modRM 4 rm
  | .jmpFar p => 0xEA :: p.bytes
  | .jmpFarMem m => 0xFF :: modRM 5 (.mem m)
  | .callNear disp => 0xE8 :: disp.bytes
  | .callRm rm => 0xFF :: modRM 2 rm
  | .callFar p => 0x9A :: p.bytes
  | .callFarMem m => 0xFF :: modRM 3 (.mem m)
  | .retNear => [0xC3]
  | .retNearImm n => 0xC2 :: bytes16 n
  | .retFar => [0xCB]
  | .retFarImm n => 0xCA :: bytes16 n
  | .joShort disp => [0x70, disp]
  | .joNear disp => 0x0F :: 0x80 :: disp.bytes
  | .jnoShort disp => [0x71, disp]
  | .jnoNear disp => 0x0F :: 0x81 :: disp.bytes
  | .jbShort disp => [0x72, disp]
  | .jbNear disp => 0x0F :: 0x82 :: disp.bytes
  | .jnbShort disp => [0x73, disp]
  | .jnbNear disp => 0x0F :: 0x83 :: disp.bytes
  | .jeShort disp => [0x74, disp]
  | .jeNear disp => 0x0F :: 0x84 :: disp.bytes
  | .jneShort disp => [0x75, disp]
  | .jneNear disp => 0x0F :: 0x85 :: disp.bytes
  | .jbeShort disp => [0x76, disp]
  | .jbeNear disp => 0x0F :: 0x86 :: disp.bytes
  | .jnbeShort disp => [0x77, disp]
  | .jnbeNear disp => 0x0F :: 0x87 :: disp.bytes
  | .jsShort disp => [0x78, disp]
  | .jsNear disp => 0x0F :: 0x88 :: disp.bytes
  | .jnsShort disp => [0x79, disp]
  | .jnsNear disp => 0x0F :: 0x89 :: disp.bytes
  | .jpShort disp => [0x7A, disp]
  | .jpNear disp => 0x0F :: 0x8A :: disp.bytes
  | .jnpShort disp => [0x7B, disp]
  | .jnpNear disp => 0x0F :: 0x8B :: disp.bytes
  | .jlShort disp => [0x7C, disp]
  | .jlNear disp => 0x0F :: 0x8C :: disp.bytes
  | .jnlShort disp => [0x7D, disp]
  | .jnlNear disp => 0x0F :: 0x8D :: disp.bytes
  | .jleShort disp => [0x7E, disp]
  | .jleNear disp => 0x0F :: 0x8E :: disp.bytes
  | .jnleShort disp => [0x7F, disp]
  | .jnleNear disp => 0x0F :: 0x8F :: disp.bytes
  | .seto rm => 0x0F :: 0x90 :: modRM 0 rm
  | .setno rm => 0x0F :: 0x91 :: modRM 0 rm
  | .setb rm => 0x0F :: 0x92 :: modRM 0 rm
  | .setnb rm => 0x0F :: 0x93 :: modRM 0 rm
  | .sete rm => 0x0F :: 0x94 :: modRM 0 rm
  | .setne rm => 0x0F :: 0x95 :: modRM 0 rm
  | .setbe rm => 0x0F :: 0x96 :: modRM 0 rm
  | .setnbe rm => 0x0F :: 0x97 :: modRM 0 rm
  | .sets rm => 0x0F :: 0x98 :: modRM 0 rm
  | .setns rm => 0x0F :: 0x99 :: modRM 0 rm
  | .setp rm => 0x0F :: 0x9A :: modRM 0 rm
  | .setnp rm => 0x0F :: 0x9B :: modRM 0 rm
  | .setl rm => 0x0F :: 0x9C :: modRM 0 rm
  | .setnl rm => 0x0F :: 0x9D :: modRM 0 rm
  | .setle rm => 0x0F :: 0x9E :: modRM 0 rm
  | .setnle rm => 0x0F :: 0x9F :: modRM 0 rm
  | .jcxz disp => [0xE3, disp]
  | .loop disp => [0xE2, disp]
  | .loopz disp => [0xE1, disp]
  | .loopnz disp => [0xE0, disp]
  | .enter n level => 0xC8 :: bytes16 n ++ [level]
  | .leave => [0xC9]
  | .int n => [0xCD, n]
  | .int3 => [0xCC]
  | .into => [0xCE]
  | .bound r m => 0x62 :: modRM r.code (.mem m)
  | .iret => [0xCF]
  | .hlt => [0xF4]
  | .movCrReg x r => [0x0F, 0x22, modByte 3 x.code r.code]
  | .movRegCr r x => [0x0F, 0x20, modByte 3 x.code r.code]
  | .movDrReg x r => [0x0F, 0x23, modByte 3 x.code r.code]
  | .movRegDr r x => [0x0F, 0x21, modByte 3 x.code r.code]
  | .movTrReg x r => [0x0F, 0x26, modByte 3 x.code r.code]
  | .movRegTr r x => [0x0F, 0x24, modByte 3 x.code r.code]
  | .nop => [0x90]
  | .wait => [0x9B]
  | .esc op sub rm => (0xD8 ||| op.setWidth 8) :: modRM sub rm
  | .arpl rm r => 0x63 :: modRM r.code rm
  | .lar r rm => 0x0F :: 0x02 :: modRM r.code rm
  | .lsl r rm => 0x0F :: 0x03 :: modRM r.code rm
  | .sldt rm => 0x0F :: 0x00 :: modRM 0 rm
  | .str rm => 0x0F :: 0x00 :: modRM 1 rm
  | .lldt rm => 0x0F :: 0x00 :: modRM 2 rm
  | .ltr rm => 0x0F :: 0x00 :: modRM 3 rm
  | .verr rm => 0x0F :: 0x00 :: modRM 4 rm
  | .verw rm => 0x0F :: 0x00 :: modRM 5 rm
  | .sgdt m => 0x0F :: 0x01 :: modRM 0 (.mem m)
  | .sidt m => 0x0F :: 0x01 :: modRM 1 (.mem m)
  | .lgdt m => 0x0F :: 0x01 :: modRM 2 (.mem m)
  | .lidt m => 0x0F :: 0x01 :: modRM 3 (.mem m)
  | .smsw rm => 0x0F :: 0x01 :: modRM 4 rm
  | .lmsw rm => 0x0F :: 0x01 :: modRM 6 rm
  | .csPrefix inner => 0x2E :: encode inner
  | .dsPrefix inner => 0x3E :: encode inner
  | .esPrefix inner => 0x26 :: encode inner
  | .fsPrefix inner => 0x64 :: encode inner
  | .gsPrefix inner => 0x65 :: encode inner
  | .ssPrefix inner => 0x36 :: encode inner
  | .opSizePrefix inner => 0x66 :: encode inner
  | .addrSizePrefix inner => 0x67 :: encode inner
  | .lockPrefix inner => 0xF0 :: encode inner
  | .repPrefix inner => 0xF3 :: encode inner
  | .repnePrefix inner => 0xF2 :: encode inner

end Sys2Proof
end

