-- ==== Sys2Proof/Machine/ProcCtl.lean ====
section
/-! DEFINITION. Processor control and processor extension (spec/49_processor_control.md): HLT, MOV to and from the
control, debug and test registers, NOP, WAIT, ESC. -/

namespace Sys2Proof.Machine

/-- HLT (R660). -/
def execHlt (s : State) : Host.Outcome State Fault Refusal :=
  runInstr (do
    requirePrivilege
    update fun s => { s with events := { s.events with activity := .halted } }
    emit .haltIndication) s

/-! ## Control registers (R663 to R666) -/

/-- CR0 written; a mode change keeps the segment registers, and protected mode begins at level 0 (R664, R840). -/
def setCr0 (v : Dword) : Exec Unit := update fun s =>
  { s with sys := { s.sys with cr0 := v, cpl := if s.pe then s.sys.cpl else 0 } }

/-- A control register written (R664). -/
def writeControl (x : CReg) (v : Dword) : Exec Unit :=
  match x with
  | .cr0 => do
    require (!(v.getLsbD 31 && !v.getLsbD 0)) (.protection 0)
    setCr0 v
  | .cr2 => update fun s => { s with sys := { s.sys with cr2 := v } }
  | .cr3 => do
    update fun s => { s with sys := { s.sys with cr3 := v &&& 0xFFFFF000 } }
    tlbFlush

/-- A control register (R665). -/
def SysRegs.control (g : SysRegs) : CReg → Dword
  | .cr0 => g.cr0
  | .cr2 => g.cr2
  | .cr3 => g.cr3

/-- MOV to a control register (R663, R664). -/
def execMovCrReg (x : CReg) (r : Reg) (s : State) : Host.Outcome State Fault Refusal :=
  runInstr (do
    requirePrivilege
    let v ← readReg .d r
    writeControl x v
    undefined allStatus) s

/-- MOV from a control register (R663, R665). -/
def execMovRegCr (r : Reg) (x : CReg) (s : State) : Host.Outcome State Fault Refusal :=
  runInstr (do
    requirePrivilege
    let s ← getState
    writeReg .d r (s.sys.control x)
    undefined allStatus) s

/-! ## Debug registers (R667, R668, R826) -/

/-- With DR7.GD set an access to a debug register is a debug fault, which sets DR6.BD and clears GD (R826). With RF set it
is ignored like any debug fault of the next instruction (R41), and the access is made (DEDUCED, log entry 46: R667 and
R826 name no RF). -/
def requireDebugAccess : Exec Unit := do
  let s ← getState
  if s.dregs.dr7.getLsbD 13 && !s.flags.rf then do
    update fun s =>
      { s with dregs := { s.dregs with dr6 := s.dregs.dr6 ||| 0x2000, dr7 := s.dregs.dr7 &&& 0xFFFFDFFF } }
    raise .debug
  else pure ()

/-- A debug register (R668). -/
def DebugRegs.get (g : DebugRegs) : DReg → Dword
  | .dr0 => g.dr0
  | .dr1 => g.dr1
  | .dr2 => g.dr2
  | .dr3 => g.dr3
  | .dr6 => g.dr6
  | .dr7 => g.dr7

/-- A debug register written; the reserved bits are stored (R63, R667). -/
def DebugRegs.set (g : DebugRegs) (x : DReg) (v : Dword) : DebugRegs :=
  match x with
  | .dr0 => { g with dr0 := v }
  | .dr1 => { g with dr1 := v }
  | .dr2 => { g with dr2 := v }
  | .dr3 => { g with dr3 := v }
  | .dr6 => { g with dr6 := v }
  | .dr7 => { g with dr7 := v }

/-- MOV to a debug register (R663, R667). -/
def execMovDrReg (x : DReg) (r : Reg) (s : State) : Host.Outcome State Fault Refusal :=
  runInstr (do
    requirePrivilege
    requireDebugAccess
    let v ← readReg .d r
    update fun s => { s with dregs := s.dregs.set x v }
    undefined allStatus) s

/-- MOV from a debug register (R663, R668). -/
def execMovRegDr (r : Reg) (x : DReg) (s : State) : Host.Outcome State Fault Refusal :=
  runInstr (do
    requirePrivilege
    requireDebugAccess
    let s ← getState
    writeReg .d r (s.dregs.get x)
    undefined allStatus) s

/-! ## Test registers (R669, R670) -/

/-- A test register written; a write of TR6 runs the TLB operation that its C bit selects (R222 to R224). -/
def writeTest (x : TReg) (v : Dword) : Exec Unit :=
  match x with
  | .tr6 => do
    update fun s => { s with paging := { s.paging with tr6 := v } }
    let s ← getState
    if v.getLsbD 0 then tlbTestLookup v else tlbTestWrite v s.paging.tr7
  | .tr7 => update fun s => { s with paging := { s.paging with tr7 := v } }

/-- A test register (R670). -/
def PagingUnit.test (g : PagingUnit) : TReg → Dword
  | .tr6 => g.tr6
  | .tr7 => g.tr7

/-- MOV to a test register (R663, R669). -/
def execMovTrReg (x : TReg) (r : Reg) (s : State) : Host.Outcome State Fault Refusal :=
  runInstr (do
    requirePrivilege
    let v ← readReg .d r
    writeTest x v
    undefined allStatus) s

/-- MOV from a test register (R663, R670). -/
def execMovRegTr (r : Reg) (x : TReg) (s : State) : Host.Outcome State Fault Refusal :=
  runInstr (do
    requirePrivilege
    let s ← getState
    writeReg .d r (s.paging.test x)
    undefined allStatus) s

/-- NOP (R672). -/
def execNop (s : State) : Host.Outcome State Fault Refusal :=
  runInstr (pure ()) s

/-! ## The coprocessor (R673, R676, R811 to R816) -/

/-- A coprocessor is fitted; without one BUSY#, ERROR# and PEREQ are never asserted (R811, D4). -/
def External.fitted (e : External) : Bool := decide (e.platform.coprocessor ≠ .none)

/-- The instruction waits for the coprocessor: it is the next instruction again, so that interrupts are taken meanwhile
(R673, R814). -/
def waitForCoprocessor : Exec Unit := do
  let s ← getState
  setNext s.eip
  setEnding (.unfinished .wait)

/-- WAIT (R673). -/
def execWait (s : State) : Host.Outcome State Fault Refusal :=
  runInstr (do
    let s ← getState
    require (!(s.ts && s.mp)) .notAvailable
    if s.ext.fitted && s.ext.busy then waitForCoprocessor
    else require (!(s.ext.fitted && s.ext.error)) .coprocessor) s

/-- The eleven bits of an ESC opcode: TTT and the mod r/m byte (R676). -/
def escOpcode (op sub : BitVec 3) (rm : RM) : BitVec 11 := op ++ (modRM sub rm).headD 0

/-- An ESC with a memory operand and the given TTT and LLL. -/
def escMemory (op sub : BitVec 3) (rm : RM) (op' sub' : BitVec 3) : Bool :=
  match rm with
  | .mem _ => op == op' && sub == sub'
  | .reg _ => false

/-- FNINIT, DB E3 (R676). -/
def escFninit (op sub : BitVec 3) (rm : RM) : Bool := escOpcode op sub rm == 0x3E3

/-- FNCLEX, DB E2 (R676). -/
def escFnclex (op sub : BitVec 3) (rm : RM) : Bool := escOpcode op sub rm == 0x3E2

/-- FNSTSW AX, DF E0 (R676). -/
def escFnstswAx (op sub : BitVec 3) (rm : RM) : Bool := escOpcode op sub rm == 0x7E0

/-- FNSTSW and FNSTCW to memory, DD /7 and D9 /7 (R676). -/
def escStoresWord (op sub : BitVec 3) (rm : RM) : Bool := escMemory op sub rm 5 7 || escMemory op sub rm 1 7

/-- The opcodes that do not wait for BUSY# (R814). -/
def escSkipsBusy (op sub : BitVec 3) (rm : RM) : Bool := escFninit op sub rm || escFnclex op sub rm

/-- The opcodes that do not look at ERROR# (R676, R813): these, FNSTENV (D9 /6) and FNSAVE (DD /6). -/
def escSkipsError (op sub : BitVec 3) (rm : RM) : Bool :=
  escSkipsBusy op sub rm || escFnstswAx op sub rm || escStoresWord op sub rm || escMemory op sub rm 1 6 ||
  escMemory op sub rm 5 6

/-- The presence-test opcodes (R816, D27). -/
def escPresence (op sub : BitVec 3) (rm : RM) : Bool :=
  escFninit op sub rm || escFnstswAx op sub rm || escStoresWord op sub rm

/-- The bytes of an operand transfer: an M80287 (CR0.ET = 0) transfers words alone (R811, D4). -/
def OperandRequest.bytes (et : Bool) : OperandRequest → Nat
  | .fromMemory wide => if wide && et then 4 else 2
  | .toMemory wide _ => if wide && et then 4 else 2

/-- The transfer writes memory. -/
def OperandRequest.writes : OperandRequest → Bool
  | .fromMemory _ => false
  | .toMemory _ _ => true

/-- The places of the operand transfers, one after the other from the effective address, each checked before the ESC
executes (R815; the offset of the next one: DEDUCED, log entry 43). -/
def transferSpans (sg : Seg) (et : Bool) (off : Dword) : List OperandRequest → Exec (List (List Nat))
  | [] => pure []
  | r :: rest => do
    let sp ← segSpan sg off (r.bytes et) r.writes
    let sps ← transferSpans sg et (off + BitVec.ofNat 32 (r.bytes et)) rest
    pure (sp :: sps)

/-- One operand transfer (R811). -/
def transferOne (r : OperandRequest) (sp : List Nat) : Exec Unit :=
  match r with
  | .fromMemory _ => do
    let v ← loadSpan sp
    emit (.coprocWrite sp.length v)
  | .toMemory _ v => do
    storeSpan sp v
    emit (.coprocRead sp.length v)

/-- The operand transfers in their order. -/
def transferAll : List OperandRequest → List (List Nat) → Exec Unit
  | r :: rs, sp :: sps => do
    transferOne r sp
    transferAll rs sps
  | _, _ => pure ()

/-- What the coprocessor answers where AX takes it: the value it sends, else a free value. -/
def coprocAnswer (l : List OperandRequest) : Exec Dword :=
  match l with
  | .toMemory _ v :: _ => pure v
  | _ => draw

/-- The status word of the coprocessor into AX. -/
def statusToAx (v : Dword) : Exec Unit := do
  emit (.coprocRead 2 v)
  writeReg .w .eax (low16 v)

/-- An opcode handed to the coprocessor (R676, R811). -/
def escFitted (op sub : BitVec 3) (rm : RM) : Exec Unit := do
  let s ← getState
  match rm with
  | .reg _ => do
    emit (.coprocOpcode (escOpcode op sub rm) none)
    when_ (escFnstswAx op sub rm) (do
      let v ← coprocAnswer s.ext.requests
      statusToAx v)
  | .mem m => do
    let p ← effAddr m
    let _ ← segLinear p.1 p.2 1 false
    let spans ← transferSpans p.1 (s.sys.cr0.getLsbD 4) p.2 s.ext.requests
    emit (.coprocOpcode (escOpcode op sub rm) (some p))
    transferAll s.ext.requests spans
  update fun t => { t with ext := { t.ext with requests := [] } }

/-- An opcode with no coprocessor fitted: the presence-test opcodes complete, and what they read is a free value; any
other is outside the model (R676, R816, D27, U40). -/
def escAbsent (op sub : BitVec 3) (rm : RM) : Exec Unit :=
  if escPresence op sub rm then
    match rm with
    | .reg _ => do
      emit (.coprocOpcode (escOpcode op sub rm) none)
      when_ (escFnstswAx op sub rm) (do
        let v ← draw
        statusToAx v)
    | .mem m => do
      let p ← effAddr m
      let sp ← segSpan p.1 p.2 2 true
      emit (.coprocOpcode (escOpcode op sub rm) (some p))
      let v ← draw
      emit (.coprocRead 2 v)
      storeSpan sp v
  else stopWith (.refuse .noCoprocessor)

/-- ESC (R676). -/
def execEsc (op sub : BitVec 3) (rm : RM) (s : State) : Host.Outcome State Fault Refusal :=
  runInstr (do
    let s ← getState
    require (!(s.em || s.ts)) .notAvailable
    if s.ext.fitted && s.ext.busy && !escSkipsBusy op sub rm then waitForCoprocessor
    else do
      require (!(s.ext.fitted && s.ext.error) || escSkipsError op sub rm) .coprocessor
      if s.ext.fitted then escFitted op sub rm else escAbsent op sub rm) s

end Sys2Proof.Machine
end

