-- ==== Sys2Proof/Machine/ProtCtl.lean ====
section
/-! DEFINITION. Protection control (spec/50_protection_control.md). -/

namespace Sys2Proof.Machine

/-- The instructions of protected mode alone raise #6 in real and V86 mode; this test comes before the privilege test
(R689). -/
def requireProtected : Exec Unit := do
  let s ← getState
  require s.prot .invalidOpcode

/-- ZF written, no other flag. -/
def setZf (b : Bool) : Exec Unit := updateFlags fun f => { f with zf := b }

/-- ARPL on a selector that has been read: raised to the RPL of the reference where that is greater (R690). -/
def adjustRpl (sel ref : Word) (write : Word → Exec Unit) : Exec Unit :=
  if rpl sel < rpl ref then do
    write (withRpl sel (ref.extractLsb' 0 2))
    setZf true
  else setZf false

/-- ARPL: write access is needed only where the selector changes (R690). -/
def execArpl (rm : RM) (r : Reg) (s : State) : Host.Outcome State Fault Refusal :=
  runInstr (do
    requireProtected
    let ref ← readReg .w r
    match rm with
    | .reg x => do
      let sel ← readReg .w x
      adjustRpl sel ref (writeReg .w x)
    | .mem m => do
      let p ← effAddr m
      let v ← memRead p.1 p.2 2
      adjustRpl (low16 v) ref fun x => do
        let sp ← segSpan p.1 p.2 2 true
        storeSpan sp (x.setWidth 32)) s

/-! ## The selector tests (R698) -/

/-- The descriptor may be seen from the current level through a selector (R698). -/
def visible (s : State) (sel : Word) (a : Attr) : Bool :=
  a.conforming || (decide (s.sys.cpl.toNat ≤ a.dpl.toNat) && decide (rpl sel ≤ a.dpl.toNat))

/-- `Probe(sel)`: the descriptor if it can be reached and seen; of a code or data segment the accessed bit is then set
(R698, D28). That the probe "succeeds" means this, whatever VERR and VERW then answer of the segment, is the model's
reading (DESIGN CHOICE, log entry 59). -/
def probe (sel : Word) : Exec (Option Desc) := do
  let s ← getState
  if isNull sel then pure none
  else
    match descAddr s sel with
    | none => pure none
    | some a => do
      let d ← readDescAt a
      if visible s sel d.attr then do
        setAccessed sel d
        pure (some (if d.attr.s then { d with hi := d.hi ||| 0x100 } else d))
      else pure none

/-- LAR and LSL: a value of the descriptor into a register where it has a valid type, and ZF tells whether (R691, R696). -/
def probeInto (r : Reg) (rm : RM) (valid : Attr → Bool) (value : Desc → Dword) : Exec Unit := do
  requireProtected
  let sel ← readRM .w rm
  let p ← probe sel
  let s ← getState
  match p with
  | some d =>
    if valid d.attr then do
      writeReg s.opSize r ((value d).setWidth s.opSize.bits)
      setZf true
    else setZf false
  | none => setZf false

/-- The descriptor types that LAR accepts (R691). -/
def larType (a : Attr) : Bool := a.s || a.availableTss || a.busyTss || a.isLdt || a.callGate || a.taskGate

/-- The descriptor types that LSL accepts (R696). -/
def lslType (a : Attr) : Bool := a.s || a.availableTss || a.busyTss || a.isLdt

/-- LAR: with a 16-bit operand size bits 15:8 alone remain (R691). -/
def execLar (r : Reg) (rm : RM) (s : State) : Host.Outcome State Fault Refusal :=
  runInstr (probeInto r rm larType fun d => d.hi &&& 0x00F0FF00) s

/-- LSL (R696). -/
def execLsl (r : Reg) (rm : RM) (s : State) : Host.Outcome State Fault Refusal :=
  runInstr (probeInto r rm lslType fun d => d.limit) s

/-- VERR and VERW: ZF tells whether the segment may be used (R707, R708). -/
def verify (rm : RM) (usable : Attr → Bool) : Exec Unit := do
  requireProtected
  let sel ← readRM .w rm
  let p ← probe sel
  match p with
  | some d => setZf (usable d.attr)
  | none => setZf false

/-- VERR (R707). -/
def execVerr (rm : RM) (s : State) : Host.Outcome State Fault Refusal :=
  runInstr (verify rm fun a => a.readable) s

/-- VERW (R708). -/
def execVerw (rm : RM) (s : State) : Host.Outcome State Fault Refusal :=
  runInstr (verify rm fun a => a.writable) s

/-! ## The descriptor-table registers -/

/-- A limit and a base from memory; with a 16-bit operand size the base has 24 bits (R692; the offset of the base: DEDUCED,
log entry 43). -/
def readTableReg (m : Mem) : Exec TableReg := do
  let s ← getState
  let p ← effAddr m
  let lim ← memRead p.1 p.2 2
  let base ← memRead p.1 (p.2 + 2) 4
  pure { base := if s.ctx.op32 then base else base &&& 0x00FFFFFF, limit := low16 lim }

/-- A limit and a base to memory; with a 16-bit operand size the sixth byte is undefined (R702; the offset of the base:
DEDUCED, log entry 43). -/
def writeTableReg (m : Mem) (g : TableReg) : Exec Unit := do
  let s ← getState
  let p ← effAddr m
  let sp ← segSpan p.1 p.2 2 true
  let sp' ← segSpan p.1 (p.2 + 2) 4 true
  storeSpan sp (g.limit.setWidth 32)
  if s.ctx.op32 then storeSpan sp' g.base
  else do
    let x ← draw
    storeSpan sp' (x.extractLsb' 24 8 ++ g.base.extractLsb' 0 24)

/-- LGDT (R692). -/
def execLgdt (m : Mem) (s : State) : Host.Outcome State Fault Refusal :=
  runInstr (do
    requirePrivilege
    let g ← readTableReg m
    update fun s => { s with sys := { s.sys with gdtr := g } }) s

/-- LIDT (R693). -/
def execLidt (m : Mem) (s : State) : Host.Outcome State Fault Refusal :=
  runInstr (do
    requirePrivilege
    let g ← readTableReg m
    update fun s => { s with sys := { s.sys with idtr := g } }) s

/-- SGDT (R702). -/
def execSgdt (m : Mem) (s : State) : Host.Outcome State Fault Refusal :=
  runInstr (do
    let s ← getState
    writeTableReg m s.sys.gdtr) s

/-- SIDT (R703). -/
def execSidt (m : Mem) (s : State) : Host.Outcome State Fault Refusal :=
  runInstr (do
    let s ← getState
    writeTableReg m s.sys.idtr) s

/-- LDTR loaded (R185, R694). -/
def loadLdt (sel : Word) : Exec Unit :=
  if isNull sel then update fun s => { s with sys := { s.sys with ldtr := segNull s.sys.ldtr sel } }
  else do
    require (!inLdt sel) (.protection (selCode sel))
    let d ← readDesc sel (.protection (selCode sel))
    require d.attr.isLdt (.protection (selCode sel))
    require d.attr.p (.notPresent (selCode sel))
    update fun s => { s with sys := { s.sys with ldtr := systemOfDesc sel d } }

/-- TR loaded, and its descriptor marked busy (R186, R697). -/
def loadTaskRegister (sel : Word) : Exec Unit := do
  require (!isNull sel && !inLdt sel) (.protection (selCode sel))
  let d ← readDesc sel (.protection (selCode sel))
  require d.attr.availableTss (.protection (selCode sel))
  require d.attr.p (.notPresent (selCode sel))
  writeRights sel fun b => b ||| 2
  update fun s =>
    { s with sys := { s.sys with
        tr := { systemOfDesc sel d with attr := { d.attr with typ := d.attr.typ ||| 2 } } } }

/-- LLDT (R694). -/
def execLldt (rm : RM) (s : State) : Host.Outcome State Fault Refusal :=
  runInstr (do
    requireProtected
    requirePrivilege
    let sel ← readRM .w rm
    loadLdt sel) s

/-- LTR (R697). -/
def execLtr (rm : RM) (s : State) : Host.Outcome State Fault Refusal :=
  runInstr (do
    requireProtected
    requirePrivilege
    let sel ← readRM .w rm
    loadTaskRegister sel) s

/-- SLDT (R704). -/
def execSldt (rm : RM) (s : State) : Host.Outcome State Fault Refusal :=
  runInstr (do
    requireProtected
    let s ← getState
    writeSystemWord rm s.sys.ldtr.sel) s

/-- STR (R706). -/
def execStr (rm : RM) (s : State) : Host.Outcome State Fault Refusal :=
  runInstr (do
    requireProtected
    let s ← getState
    writeSystemWord rm s.sys.tr.sel) s

/-- SMSW: in every mode and at every level (R705). -/
def execSmsw (rm : RM) (s : State) : Host.Outcome State Fault Refusal :=
  runInstr (do
    let s ← getState
    writeSystemWord rm (low16 s.sys.cr0)) s

/-- The low four bits of CR0 as LMSW writes them: PE is never cleared (R695). -/
def withMachineStatus (cr0 : Dword) (v : Word) : Dword := (cr0 &&& 0xFFFFFFF1) ||| (v &&& 0xF).setWidth 32

/-- LMSW (R695). -/
def execLmsw (rm : RM) (s : State) : Host.Outcome State Fault Refusal :=
  runInstr (do
    requirePrivilege
    let v ← readRM .w rm
    let s ← getState
    setCr0 (withMachineStatus s.sys.cr0 v)) s

end Sys2Proof.Machine
end

