-- ==== Sys2Proof/Machine/SetEnter.lean ====
section
/-! DEFINITION. SETcc, ENTER, LEAVE (spec/47_setcc_enter_leave.md). -/

namespace Sys2Proof.Machine

/-- A byte set to 1 where a condition holds, else to 0 (R620). -/
def setByte (c : Cond) (rm : RM) : Exec Unit := do
  let s ← getState
  writeRM .b rm (if c.holds s.flags then 1 else 0)

/-- SETO (R620). -/
def execSeto (rm : RM) (s : State) : Host.Outcome State Fault Refusal :=
  runInstr (setByte .o rm) s

/-- SETNO (R620). -/
def execSetno (rm : RM) (s : State) : Host.Outcome State Fault Refusal :=
  runInstr (setByte .no rm) s

/-- SETB, SETNAE (R620). -/
def execSetb (rm : RM) (s : State) : Host.Outcome State Fault Refusal :=
  runInstr (setByte .b rm) s

/-- SETNB, SETAE (R620). -/
def execSetnb (rm : RM) (s : State) : Host.Outcome State Fault Refusal :=
  runInstr (setByte .nb rm) s

/-- SETE, SETZ (R620). -/
def execSete (rm : RM) (s : State) : Host.Outcome State Fault Refusal :=
  runInstr (setByte .e rm) s

/-- SETNE, SETNZ (R620). -/
def execSetne (rm : RM) (s : State) : Host.Outcome State Fault Refusal :=
  runInstr (setByte .ne rm) s

/-- SETBE, SETNA (R620). -/
def execSetbe (rm : RM) (s : State) : Host.Outcome State Fault Refusal :=
  runInstr (setByte .be rm) s

/-- SETNBE, SETA (R620). -/
def execSetnbe (rm : RM) (s : State) : Host.Outcome State Fault Refusal :=
  runInstr (setByte .nbe rm) s

/-- SETS (R620). -/
def execSets (rm : RM) (s : State) : Host.Outcome State Fault Refusal :=
  runInstr (setByte .s rm) s

/-- SETNS (R620). -/
def execSetns (rm : RM) (s : State) : Host.Outcome State Fault Refusal :=
  runInstr (setByte .ns rm) s

/-- SETP, SETPE (R620). -/
def execSetp (rm : RM) (s : State) : Host.Outcome State Fault Refusal :=
  runInstr (setByte .p rm) s

/-- SETNP, SETPO (R620). -/
def execSetnp (rm : RM) (s : State) : Host.Outcome State Fault Refusal :=
  runInstr (setByte .np rm) s

/-- SETL, SETNGE (R620). -/
def execSetl (rm : RM) (s : State) : Host.Outcome State Fault Refusal :=
  runInstr (setByte .l rm) s

/-- SETNL, SETGE (R620). -/
def execSetnl (rm : RM) (s : State) : Host.Outcome State Fault Refusal :=
  runInstr (setByte .nl rm) s

/-- SETLE, SETNG (R620). -/
def execSetle (rm : RM) (s : State) : Host.Outcome State Fault Refusal :=
  runInstr (setByte .le rm) s

/-- SETNLE, SETG (R620). -/
def execSetnle (rm : RM) (s : State) : Host.Outcome State Fault Refusal :=
  runInstr (setByte .nle rm) s

/-- BP or EBP, by the stack size (R622). -/
def framePtr (s : State) : Dword := if s.stack32 then s.regs.ebp else (low16 s.regs.ebp).setWidth 32

/-- The pointers to the enclosing frames copied by ENTER, from below `bp` (R622). ENTER is a stack instruction, so a 16-bit
stack ends at FFFFh for what it reads too (R175; DEDUCED, log entry 54). -/
def copyDisplay (sz : Size) (bp : Dword) : Nat → Exec Unit
  | 0 => pure ()
  | k + 1 => do
    let s ← getState
    let below := ptrDown s.stack32 bp sz.bytes
    let v ← stackRead below sz.bytes
    push sz v
    copyDisplay sz below k

/-- ENTER: a fault in the middle leaves the pushes already made in memory (R622, D26). -/
def execEnter (n : BitVec 16) (level : BitVec 8) (s : State) : Host.Outcome State Fault Refusal :=
  runInstr (do
    let s ← getState
    let sz := s.opSize
    let depth := level.toNat % 32
    push sz s.regs.ebp
    let t ← getState
    let frame := stackPtr t
    when_ (decide (0 < depth)) (do
      copyDisplay sz (framePtr s) (depth - 1)
      push sz frame)
    writeReg sz .ebp (frame.setWidth sz.bits)
    let u ← getState
    setStackPtr (ptrDown u.stack32 (stackPtr u) n.toNat)) s

/-- LEAVE (R623). Its read too ends at FFFFh of a 16-bit stack (R175; DEDUCED, log entry 54). -/
def execLeave (s : State) : Host.Outcome State Fault Refusal :=
  runInstr (do
    let s ← getState
    let sz := s.opSize
    let v ← stackRead (framePtr s) sz.bytes
    setStackPtr (ptrUp s.stack32 (framePtr s) sz.bytes)
    writeReg sz .ebp (v.setWidth sz.bits)) s

end Sys2Proof.Machine
end

