-- ==== Sys2Proof/Machine/Str.lean ====
section
/-! DEFINITION. String instructions and XLAT (spec/44_string.md). -/

namespace Sys2Proof.Machine

/-- The offset in an index register: SI, DI or BX, or the 32-bit register (R510). -/
def indexOffset (s : State) (v : Dword) : Dword := if s.ctx.addr32 then v else (low16 v).setWidth 32

/-- An index register after an element of `n` bytes, up or down by DF; with 16-bit addresses the upper half is
unchanged (R510, R511). -/
def indexAfter (s : State) (v : Dword) (n : Nat) : Dword :=
  if s.ctx.addr32 then (if s.flags.df then v - BitVec.ofNat 32 n else v + BitVec.ofNat 32 n)
  else putLow16 v (if s.flags.df then low16 v - BitVec.ofNat 16 n else low16 v + BitVec.ofNat 16 n)

/-- SI or ESI moved to the next element (R511). -/
def stepSi (n : Nat) : Exec Unit := update fun s => { s with regs := { s.regs with esi := indexAfter s s.regs.esi n } }

/-- DI or EDI moved to the next element (R511). -/
def stepDi (n : Nat) : Exec Unit := update fun s => { s with regs := { s.regs with edi := indexAfter s s.regs.edi n } }

/-- The source element: at DS:SI, or through the override (R510). -/
def stringSource (sz : Size) : Exec (BitVec sz.bits) := do
  let s ← getState
  let v ← memRead (overridden s .ds) (indexOffset s s.regs.esi) sz.bytes
  pure (v.setWidth sz.bits)

/-- The element at ES:DI, which no prefix overrides (R510). -/
def stringDest (sz : Size) : Exec (BitVec sz.bits) := do
  let s ← getState
  let v ← memRead .es (indexOffset s s.regs.edi) sz.bytes
  pure (v.setWidth sz.bits)

/-- The place of the element at ES:DI, checked for a write (R510). -/
def stringDestSpan (sz : Size) : Exec (List Nat) := do
  let s ← getState
  segSpan .es (indexOffset s s.regs.edi) sz.bytes true

/-! ## One element (R513 to R519) -/

/-- One element of CMPS (R513). -/
def cmpsElement (w : Bool) : Exec Unit := do
  let s ← getState
  let sz := s.sizeOf w
  let a ← stringSource sz
  let b ← stringDest sz
  updateFlags fun f => f.sub a b false
  stepSi sz.bytes
  stepDi sz.bytes

/-- One element of INS: the destination is checked before the port is read (R514). -/
def insElement (w : Bool) : Exec Unit := do
  let s ← getState
  let sz := s.sizeOf w
  let port := low16 s.regs.edx
  ioCheck port sz.bytes
  let sp ← stringDestSpan sz
  let v ← ioRead port sz
  storeSpan sp (v.setWidth 32)
  stepDi sz.bytes

/-- One element of LODS (R515). -/
def lodsElement (w : Bool) : Exec Unit := do
  let s ← getState
  let sz := s.sizeOf w
  let v ← stringSource sz
  writeReg sz .eax v
  stepSi sz.bytes

/-- One element of MOVS (R516). -/
def movsElement (w : Bool) : Exec Unit := do
  let s ← getState
  let sz := s.sizeOf w
  let v ← stringSource sz
  let sp ← stringDestSpan sz
  storeSpan sp (v.setWidth 32)
  stepSi sz.bytes
  stepDi sz.bytes

/-- One element of OUTS (R517). -/
def outsElement (w : Bool) : Exec Unit := do
  let s ← getState
  let sz := s.sizeOf w
  let port := low16 s.regs.edx
  ioCheck port sz.bytes
  let v ← stringSource sz
  ioWrite port sz v
  stepSi sz.bytes

/-- One element of SCAS: the flags of accumulator minus memory (R518). -/
def scasElement (w : Bool) : Exec Unit := do
  let s ← getState
  let sz := s.sizeOf w
  let b ← stringDest sz
  let a ← readReg sz .eax
  updateFlags fun f => f.sub a b false
  stepDi sz.bytes

/-- One element of STOS (R519). -/
def stosElement (w : Bool) : Exec Unit := do
  let s ← getState
  let sz := s.sizeOf w
  let sp ← stringDestSpan sz
  let a ← readReg sz .eax
  storeSpan sp (a.setWidth 32)
  stepDi sz.bytes

/-! ## Repetition (R512) -/

/-- The repetition is over after an element: the count is 0, or the zero flag ends a repeated CMPS or SCAS (R512). -/
def repeatOver (s : State) (compares : Bool) : Bool :=
  countReg s == 0 ||
  (compares && ((decide (s.ctx.rep = .rep) && !s.flags.zf) || (decide (s.ctx.rep = .repne) && s.flags.zf)))

/-- A string instruction under its repeat prefix. One element is done in a step; after it the instruction is over, or it
is the next instruction again, so that interrupts and traps are taken between elements (R512). -/
def repeated (compares : Bool) (element : Exec Unit) : Exec Unit := do
  let s ← getState
  if s.ctx.rep = .off then element
  else if countReg s = 0 then pure ()
  else do
    element
    countDown
    let t ← getState
    if repeatOver t compares then pure ()
    else do
      setNext s.eip
      setEnding (.unfinished .rep)

/-- A repeat prefix in effect. -/
def withRep (k : Rep) (x : Exec Unit) : Exec Unit := do
  update fun s => { s with ctx := { s.ctx with rep := k } }
  x

/-- CMPS (R513). -/
def execCmps (w : Bool) (s : State) : Host.Outcome State Fault Refusal :=
  runInstr (repeated true (cmpsElement w)) s

/-- INS (R514). -/
def execIns (w : Bool) (s : State) : Host.Outcome State Fault Refusal :=
  runInstr (repeated false (insElement w)) s

/-- LODS (R515). -/
def execLods (w : Bool) (s : State) : Host.Outcome State Fault Refusal :=
  runInstr (repeated false (lodsElement w)) s

/-- MOVS (R516). -/
def execMovs (w : Bool) (s : State) : Host.Outcome State Fault Refusal :=
  runInstr (repeated false (movsElement w)) s

/-- OUTS (R517). -/
def execOuts (w : Bool) (s : State) : Host.Outcome State Fault Refusal :=
  runInstr (repeated false (outsElement w)) s

/-- SCAS (R518). -/
def execScas (w : Bool) (s : State) : Host.Outcome State Fault Refusal :=
  runInstr (repeated true (scasElement w)) s

/-- STOS (R519). -/
def execStos (w : Bool) (s : State) : Host.Outcome State Fault Refusal :=
  runInstr (repeated false (stosElement w)) s

/-- XLAT: AL from the table at DS:BX (R520). -/
def execXlat (s : State) : Host.Outcome State Fault Refusal :=
  runInstr (do
    let s ← getState
    let off := indexOffset s (s.regs.ebx + (s.regs.get8 .eax).setWidth 32)
    let v ← memRead (overridden s .ds) off 1
    writeReg .b .eax (v.setWidth 8)) s

/-- REP INS with the prefix byte F3h: no test of ZF (R512). -/
def execRepInsF3 (w : Bool) (s : State) : Host.Outcome State Fault Refusal :=
  runInstr (withRep .rep (repeated false (insElement w))) s

/-- REP INS with the prefix byte F2h: no test of ZF (R512). -/
def execRepInsF2 (w : Bool) (s : State) : Host.Outcome State Fault Refusal :=
  runInstr (withRep .repne (repeated false (insElement w))) s

/-- REP LODS with the prefix byte F3h: no test of ZF (R512). -/
def execRepLodsF3 (w : Bool) (s : State) : Host.Outcome State Fault Refusal :=
  runInstr (withRep .rep (repeated false (lodsElement w))) s

/-- REP LODS with the prefix byte F2h: no test of ZF (R512). -/
def execRepLodsF2 (w : Bool) (s : State) : Host.Outcome State Fault Refusal :=
  runInstr (withRep .repne (repeated false (lodsElement w))) s

/-- REP MOVS with the prefix byte F3h: no test of ZF (R512). -/
def execRepMovsF3 (w : Bool) (s : State) : Host.Outcome State Fault Refusal :=
  runInstr (withRep .rep (repeated false (movsElement w))) s

/-- REP MOVS with the prefix byte F2h: no test of ZF (R512). -/
def execRepMovsF2 (w : Bool) (s : State) : Host.Outcome State Fault Refusal :=
  runInstr (withRep .repne (repeated false (movsElement w))) s

/-- REP OUTS with the prefix byte F3h: no test of ZF (R512). -/
def execRepOutsF3 (w : Bool) (s : State) : Host.Outcome State Fault Refusal :=
  runInstr (withRep .rep (repeated false (outsElement w))) s

/-- REP OUTS with the prefix byte F2h: no test of ZF (R512). -/
def execRepOutsF2 (w : Bool) (s : State) : Host.Outcome State Fault Refusal :=
  runInstr (withRep .repne (repeated false (outsElement w))) s

/-- REP STOS with the prefix byte F3h: no test of ZF (R512). -/
def execRepStosF3 (w : Bool) (s : State) : Host.Outcome State Fault Refusal :=
  runInstr (withRep .rep (repeated false (stosElement w))) s

/-- REP STOS with the prefix byte F2h: no test of ZF (R512). -/
def execRepStosF2 (w : Bool) (s : State) : Host.Outcome State Fault Refusal :=
  runInstr (withRep .repne (repeated false (stosElement w))) s

/-- REPE CMPS (R512). -/
def execRepeCmps (w : Bool) (s : State) : Host.Outcome State Fault Refusal :=
  runInstr (withRep .rep (repeated true (cmpsElement w))) s

/-- REPNE CMPS (R512). -/
def execRepneCmps (w : Bool) (s : State) : Host.Outcome State Fault Refusal :=
  runInstr (withRep .repne (repeated true (cmpsElement w))) s

/-- REPE SCAS (R512). -/
def execRepeScas (w : Bool) (s : State) : Host.Outcome State Fault Refusal :=
  runInstr (withRep .rep (repeated true (scasElement w))) s

/-- REPNE SCAS (R512). -/
def execRepneScas (w : Bool) (s : State) : Host.Outcome State Fault Refusal :=
  runInstr (withRep .repne (repeated true (scasElement w))) s

end Sys2Proof.Machine
end

