-- ==== Sys2Proof/Machine/Prefix.lean ====
section
/-! DEFINITION. Prefix bytes (spec/30_encoding.md R252): a prefix sets one field of the context and the instruction behind
it runs; LOCK is legal before the forms of spec/20_memory.md R147 alone. -/

namespace Sys2Proof.Machine

/-- The destination is in memory. -/
def RM.isMem : RM → Bool
  | .mem _ => true
  | .reg _ => false

/-- The forms that LOCK may precede (20_memory.md R147), behind any other prefixes. -/
def lockable : Instr → Bool
  | .btsImm rm _ | .btsReg rm _ | .btrImm rm _ | .btrReg rm _ | .btcImm rm _ | .btcReg rm _ => RM.isMem rm
  | .xchgRmReg _ rm _ => RM.isMem rm
  | .addRmReg d _ rm _ | .orRmReg d _ rm _ | .adcRmReg d _ rm _ | .sbbRmReg d _ rm _ | .andRmReg d _ rm _
  | .subRmReg d _ rm _ | .xorRmReg d _ rm _ => !d && RM.isMem rm
  | .addRmImm _ _ rm _ | .orRmImm _ _ rm _ | .adcRmImm _ _ rm _ | .sbbRmImm _ _ rm _ | .andRmImm _ _ rm _
  | .subRmImm _ _ rm _ | .xorRmImm _ _ rm _ => RM.isMem rm
  | .notRm _ rm | .negRm _ rm | .incRm _ rm | .decRm _ rm => RM.isMem rm
  | .csPrefix i | .dsPrefix i | .esPrefix i | .fsPrefix i | .gsPrefix i | .ssPrefix i | .opSizePrefix i
  | .addrSizePrefix i | .lockPrefix i | .repPrefix i | .repnePrefix i => lockable i
  | _ => false

/-- A segment override (R280). -/
def withSeg (sg : Seg) (s : State) : State := { s with ctx := { s.ctx with seg := some sg } }

/-- The operand size that is not the default; a second prefix changes nothing (R252, R262). -/
def withOpSize (s : State) : State := { s with ctx := { s.ctx with op32 := !s.default32 } }

/-- The address size that is not the default; a second prefix changes nothing (R252, R263). -/
def withAddrSize (s : State) : State := { s with ctx := { s.ctx with addr32 := !s.default32 } }

/-- A repeat prefix: only a string instruction looks at it (R252, R512). -/
def withRepeat (k : Rep) (s : State) : State := { s with ctx := { s.ctx with rep := k } }

/-- The instruction behind a prefix, run: every instruction by its own meaning. -/
def runInner (i : Instr) (s : State) : Host.Outcome State Fault Refusal :=
  match i with
  | .addRmReg d w rm r => execAddRmReg d w rm r s
  | .addRmImm sx w rm imm => execAddRmImm sx w rm imm s
  | .addAccImm w imm => execAddAccImm w imm s
  | .orRmReg d w rm r => execOrRmReg d w rm r s
  | .orRmImm sx w rm imm => execOrRmImm sx w rm imm s
  | .orAccImm w imm => execOrAccImm w imm s
  | .adcRmReg d w rm r => execAdcRmReg d w rm r s
  | .adcRmImm sx w rm imm => execAdcRmImm sx w rm imm s
  | .adcAccImm w imm => execAdcAccImm w imm s
  | .sbbRmReg d w rm r => execSbbRmReg d w rm r s
  | .sbbRmImm sx w rm imm => execSbbRmImm sx w rm imm s
  | .sbbAccImm w imm => execSbbAccImm w imm s
  | .andRmReg d w rm r => execAndRmReg d w rm r s
  | .andRmImm sx w rm imm => execAndRmImm sx w rm imm s
  | .andAccImm w imm => execAndAccImm w imm s
  | .subRmReg d w rm r => execSubRmReg d w rm r s
  | .subRmImm sx w rm imm => execSubRmImm sx w rm imm s
  | .subAccImm w imm => execSubAccImm w imm s
  | .xorRmReg d w rm r => execXorRmReg d w rm r s
  | .xorRmImm sx w rm imm => execXorRmImm sx w rm imm s
  | .xorAccImm w imm => execXorAccImm w imm s
  | .cmpRmReg d w rm r => execCmpRmReg d w rm r s
  | .cmpRmImm sx w rm imm => execCmpRmImm sx w rm imm s
  | .cmpAccImm w imm => execCmpAccImm w imm s
  | .testRmReg w rm r => execTestRmReg w rm r s
  | .testRmImm w rm imm => execTestRmImm w rm imm s
  | .testAccImm w imm => execTestAccImm w imm s
  | .notRm w rm => execNotRm w rm s
  | .negRm w rm => execNegRm w rm s
  | .mulRm w rm => execMulRm w rm s
  | .imulRm w rm => execImulRm w rm s
  | .imulRegRm r rm => execImulRegRm r rm s
  | .imulRegRmImm sx r rm imm => execImulRegRmImm sx r rm imm s
  | .divRm w rm => execDivRm w rm s
  | .idivRm w rm => execIdivRm w rm s
  | .incRm w rm => execIncRm w rm s
  | .incReg r => execIncReg r s
  | .decRm w rm => execDecRm w rm s
  | .decReg r => execDecReg r s
  | .aaa => execAaa s
  | .aas => execAas s
  | .daa => execDaa s
  | .das => execDas s
  | .aad => execAad s
  | .aam => execAam s
  | .cbw => execCbw s
  | .cwd => execCwd s
  | .movRmReg w rm r => execMovRmReg w rm r s
  | .movRegRm w r rm => execMovRegRm w r rm s
  | .movRmImm w rm imm => execMovRmImm w rm imm s
  | .movRegImm w r imm => execMovRegImm w r imm s
  | .movAccMoffs w off => execMovAccMoffs w off s
  | .movMoffsAcc w off => execMovMoffsAcc w off s
  | .movSegRm sg rm => execMovSegRm sg rm s
  | .movRmSeg rm sg => execMovRmSeg rm sg s
  | .movsx w r rm => execMovsx w r rm s
  | .movzx w r rm => execMovzx w r rm s
  | .pushRm rm => execPushRm rm s
  | .pushReg r => execPushReg r s
  | .pushImm sx imm => execPushImm sx imm s
  | .pushSeg sg => execPushSeg sg s
  | .pushFs => execPushFs s
  | .pushGs => execPushGs s
  | .popRm rm => execPopRm rm s
  | .popReg r => execPopReg r s
  | .popEs => execPopEs s
  | .popSs => execPopSs s
  | .popDs => execPopDs s
  | .popFs => execPopFs s
  | .popGs => execPopGs s
  | .pusha => execPusha s
  | .popa => execPopa s
  | .xchgRmReg w rm r => execXchgRmReg w rm r s
  | .xchgAcc r => execXchgAcc r s
  | .inImm w port => execInImm w port s
  | .inDx w => execInDx w s
  | .outImm w port => execOutImm w port s
  | .outDx w => execOutDx w s
  | .lea r m => execLea r m s
  | .lds r m => execLds r m s
  | .les r m => execLes r m s
  | .lfs r m => execLfs r m s
  | .lgs r m => execLgs r m s
  | .lss r m => execLss r m s
  | .clc => execClc s
  | .cld => execCld s
  | .cli => execCli s
  | .cmc => execCmc s
  | .lahf => execLahf s
  | .pushf => execPushf s
  | .popf => execPopf s
  | .sahf => execSahf s
  | .stc => execStc s
  | .std => execStd s
  | .sti => execSti s
  | .clts => execClts s
  | .rolOne w rm => execRolOne w rm s
  | .rolCl w rm => execRolCl w rm s
  | .rolImm w rm n => execRolImm w rm n s
  | .rorOne w rm => execRorOne w rm s
  | .rorCl w rm => execRorCl w rm s
  | .rorImm w rm n => execRorImm w rm n s
  | .rclOne w rm => execRclOne w rm s
  | .rclCl w rm => execRclCl w rm s
  | .rclImm w rm n => execRclImm w rm n s
  | .rcrOne w rm => execRcrOne w rm s
  | .rcrCl w rm => execRcrCl w rm s
  | .rcrImm w rm n => execRcrImm w rm n s
  | .shlOne w rm => execShlOne w rm s
  | .shlCl w rm => execShlCl w rm s
  | .shlImm w rm n => execShlImm w rm n s
  | .shrOne w rm => execShrOne w rm s
  | .shrCl w rm => execShrCl w rm s
  | .shrImm w rm n => execShrImm w rm n s
  | .sarOne w rm => execSarOne w rm s
  | .sarCl w rm => execSarCl w rm s
  | .sarImm w rm n => execSarImm w rm n s
  | .shldImm rm r n => execShldImm rm r n s
  | .shldCl rm r => execShldCl rm r s
  | .shrdImm rm r n => execShrdImm rm r n s
  | .shrdCl rm r => execShrdCl rm r s
  | .cmps w => execCmps w s
  | .ins w => execIns w s
  | .lods w => execLods w s
  | .movs w => execMovs w s
  | .outs w => execOuts w s
  | .scas w => execScas w s
  | .stos w => execStos w s
  | .xlat => execXlat s
  | .repInsF3 w => execRepInsF3 w s
  | .repInsF2 w => execRepInsF2 w s
  | .repLodsF3 w => execRepLodsF3 w s
  | .repLodsF2 w => execRepLodsF2 w s
  | .repMovsF3 w => execRepMovsF3 w s
  | .repMovsF2 w => execRepMovsF2 w s
  | .repOutsF3 w => execRepOutsF3 w s
  | .repOutsF2 w => execRepOutsF2 w s
  | .repStosF3 w => execRepStosF3 w s
  | .repStosF2 w => execRepStosF2 w s
  | .repeCmps w => execRepeCmps w s
  | .repneCmps w => execRepneCmps w s
  | .repeScas w => execRepeScas w s
  | .repneScas w => execRepneScas w s
  | .bsf r rm => execBsf r rm s
  | .bsr r rm => execBsr r rm s
  | .btImm rm n => execBtImm rm n s
  | .btReg rm r => execBtReg rm r s
  | .btcImm rm n => execBtcImm rm n s
  | .btcReg rm r => execBtcReg rm r s
  | .btrImm rm n => execBtrImm rm n s
  | .btrReg rm r => execBtrReg rm r s
  | .btsImm rm n => execBtsImm rm n s
  | .btsReg rm r => execBtsReg rm r s
  | .jmpShort disp => execJmpShort disp s
  | .jmpNear disp => execJmpNear disp s
  | .jmpRm rm => execJmpRm rm s
  | .jmpFar p => execJmpFar p s
  | .jmpFarMem m => execJmpFarMem m s
  | .callNear disp => execCallNear disp s
  | .callRm rm => execCallRm rm s
  | .callFar p => execCallFar p s
  | .callFarMem m => execCallFarMem m s
  | .retNear => execRetNear s
  | .retNearImm n => execRetNearImm n s
  | .retFar => execRetFar s
  | .retFarImm n => execRetFarImm n s
  | .joShort disp => execJoShort disp s
  | .joNear disp => execJoNear disp s
  | .jnoShort disp => execJnoShort disp s
  | .jnoNear disp => execJnoNear disp s
  | .jbShort disp => execJbShort disp s
  | .jbNear disp => execJbNear disp s
  | .jnbShort disp => execJnbShort disp s
  | .jnbNear disp => execJnbNear disp s
  | .jeShort disp => execJeShort disp s
  | .jeNear disp => execJeNear disp s
  | .jneShort disp => execJneShort disp s
  | .jneNear disp => execJneNear disp s
  | .jbeShort disp => execJbeShort disp s
  | .jbeNear disp => execJbeNear disp s
  | .jnbeShort disp => execJnbeShort disp s
  | .jnbeNear disp => execJnbeNear disp s
  | .jsShort disp => execJsShort disp s
  | .jsNear disp => execJsNear disp s
  | .jnsShort disp => execJnsShort disp s
  | .jnsNear disp => execJnsNear disp s
  | .jpShort disp => execJpShort disp s
  | .jpNear disp => execJpNear disp s
  | .jnpShort disp => execJnpShort disp s
  | .jnpNear disp => execJnpNear disp s
  | .jlShort disp => execJlShort disp s
  | .jlNear disp => execJlNear disp s
  | .jnlShort disp => execJnlShort disp s
  | .jnlNear disp => execJnlNear disp s
  | .jleShort disp => execJleShort disp s
  | .jleNear disp => execJleNear disp s
  | .jnleShort disp => execJnleShort disp s
  | .jnleNear disp => execJnleNear disp s
  | .seto rm => execSeto rm s
  | .setno rm => execSetno rm s
  | .setb rm => execSetb rm s
  | .setnb rm => execSetnb rm s
  | .sete rm => execSete rm s
  | .setne rm => execSetne rm s
  | .setbe rm => execSetbe rm s
  | .setnbe rm => execSetnbe rm s
  | .sets rm => execSets rm s
  | .setns rm => execSetns rm s
  | .setp rm => execSetp rm s
  | .setnp rm => execSetnp rm s
  | .setl rm => execSetl rm s
  | .setnl rm => execSetnl rm s
  | .setle rm => execSetle rm s
  | .setnle rm => execSetnle rm s
  | .jcxz disp => execJcxz disp s
  | .loop disp => execLoop disp s
  | .loopz disp => execLoopz disp s
  | .loopnz disp => execLoopnz disp s
  | .enter n level => execEnter n level s
  | .leave => execLeave s
  | .int n => execInt n s
  | .int3 => execInt3 s
  | .into => execInto s
  | .bound r m => execBound r m s
  | .iret => execIret s
  | .hlt => execHlt s
  | .movCrReg x r => execMovCrReg x r s
  | .movRegCr r x => execMovRegCr r x s
  | .movDrReg x r => execMovDrReg x r s
  | .movRegDr r x => execMovRegDr r x s
  | .movTrReg x r => execMovTrReg x r s
  | .movRegTr r x => execMovRegTr r x s
  | .nop => execNop s
  | .wait => execWait s
  | .esc op sub rm => execEsc op sub rm s
  | .arpl rm r => execArpl rm r s
  | .lar r rm => execLar r rm s
  | .lsl r rm => execLsl r rm s
  | .sldt rm => execSldt rm s
  | .str rm => execStr rm s
  | .lldt rm => execLldt rm s
  | .ltr rm => execLtr rm s
  | .verr rm => execVerr rm s
  | .verw rm => execVerw rm s
  | .sgdt m => execSgdt m s
  | .sidt m => execSidt m s
  | .lgdt m => execLgdt m s
  | .lidt m => execLidt m s
  | .smsw rm => execSmsw rm s
  | .lmsw rm => execLmsw rm s
  | .csPrefix inner => runInner inner (withSeg .cs s)
  | .dsPrefix inner => runInner inner (withSeg .ds s)
  | .esPrefix inner => runInner inner (withSeg .es s)
  | .fsPrefix inner => runInner inner (withSeg .fs s)
  | .gsPrefix inner => runInner inner (withSeg .gs s)
  | .ssPrefix inner => runInner inner (withSeg .ss s)
  | .opSizePrefix inner => runInner inner (withOpSize s)
  | .addrSizePrefix inner => runInner inner (withAddrSize s)
  | .lockPrefix inner => if lockable inner then runInner inner s else runInstr (raise .invalidOpcode) s
  | .repPrefix inner => runInner inner (withRepeat .rep s)
  | .repnePrefix inner => runInner inner (withRepeat .repne s)

/-- CS: (R252). -/
def execCsPrefix (inner : Instr) (s : State) : Host.Outcome State Fault Refusal :=
  runInner inner (withSeg .cs s)

/-- DS: (R252). -/
def execDsPrefix (inner : Instr) (s : State) : Host.Outcome State Fault Refusal :=
  runInner inner (withSeg .ds s)

/-- ES: (R252). -/
def execEsPrefix (inner : Instr) (s : State) : Host.Outcome State Fault Refusal :=
  runInner inner (withSeg .es s)

/-- FS: (R252). -/
def execFsPrefix (inner : Instr) (s : State) : Host.Outcome State Fault Refusal :=
  runInner inner (withSeg .fs s)

/-- GS: (R252). -/
def execGsPrefix (inner : Instr) (s : State) : Host.Outcome State Fault Refusal :=
  runInner inner (withSeg .gs s)

/-- SS: (R252). -/
def execSsPrefix (inner : Instr) (s : State) : Host.Outcome State Fault Refusal :=
  runInner inner (withSeg .ss s)

/-- The operand-size prefix (R252, R262). -/
def execOpSizePrefix (inner : Instr) (s : State) : Host.Outcome State Fault Refusal :=
  runInner inner (withOpSize s)

/-- The address-size prefix (R252, R263). -/
def execAddrSizePrefix (inner : Instr) (s : State) : Host.Outcome State Fault Refusal :=
  runInner inner (withAddrSize s)

/-- LOCK: #6 before a form that may not be locked; no other agent sees whether the bus is locked (R147, R677). -/
def execLockPrefix (inner : Instr) (s : State) : Host.Outcome State Fault Refusal :=
  if lockable inner then runInner inner s else runInstr (raise .invalidOpcode) s

/-- F3h before an instruction that its row does not fuse with (R252, R512). -/
def execRepPrefix (inner : Instr) (s : State) : Host.Outcome State Fault Refusal :=
  runInner inner (withRepeat .rep s)

/-- F2h before an instruction that its row does not fuse with (R252, R512). -/
def execRepnePrefix (inner : Instr) (s : State) : Host.Outcome State Fault Refusal :=
  runInner inner (withRepeat .repne s)

end Sys2Proof.Machine
end

