-- ==== Sys2Proof/Machine/Dispatch.lean ====
section
/-! DEFINITION. The meaning of every instruction: one arm per row of spec/opcode_table.json. -/

namespace Sys2Proof.Machine

def exec (i : Instr) (s : State) : Host.Outcome State Fault Refusal :=
  match i with
  | .addRmReg d w rm r => Sys2Proof.Machine.execAddRmReg d w rm r s
  | .addRmImm sx w rm imm => Sys2Proof.Machine.execAddRmImm sx w rm imm s
  | .addAccImm w imm => Sys2Proof.Machine.execAddAccImm w imm s
  | .orRmReg d w rm r => Sys2Proof.Machine.execOrRmReg d w rm r s
  | .orRmImm sx w rm imm => Sys2Proof.Machine.execOrRmImm sx w rm imm s
  | .orAccImm w imm => Sys2Proof.Machine.execOrAccImm w imm s
  | .adcRmReg d w rm r => Sys2Proof.Machine.execAdcRmReg d w rm r s
  | .adcRmImm sx w rm imm => Sys2Proof.Machine.execAdcRmImm sx w rm imm s
  | .adcAccImm w imm => Sys2Proof.Machine.execAdcAccImm w imm s
  | .sbbRmReg d w rm r => Sys2Proof.Machine.execSbbRmReg d w rm r s
  | .sbbRmImm sx w rm imm => Sys2Proof.Machine.execSbbRmImm sx w rm imm s
  | .sbbAccImm w imm => Sys2Proof.Machine.execSbbAccImm w imm s
  | .andRmReg d w rm r => Sys2Proof.Machine.execAndRmReg d w rm r s
  | .andRmImm sx w rm imm => Sys2Proof.Machine.execAndRmImm sx w rm imm s
  | .andAccImm w imm => Sys2Proof.Machine.execAndAccImm w imm s
  | .subRmReg d w rm r => Sys2Proof.Machine.execSubRmReg d w rm r s
  | .subRmImm sx w rm imm => Sys2Proof.Machine.execSubRmImm sx w rm imm s
  | .subAccImm w imm => Sys2Proof.Machine.execSubAccImm w imm s
  | .xorRmReg d w rm r => Sys2Proof.Machine.execXorRmReg d w rm r s
  | .xorRmImm sx w rm imm => Sys2Proof.Machine.execXorRmImm sx w rm imm s
  | .xorAccImm w imm => Sys2Proof.Machine.execXorAccImm w imm s
  | .cmpRmReg d w rm r => Sys2Proof.Machine.execCmpRmReg d w rm r s
  | .cmpRmImm sx w rm imm => Sys2Proof.Machine.execCmpRmImm sx w rm imm s
  | .cmpAccImm w imm => Sys2Proof.Machine.execCmpAccImm w imm s
  | .testRmReg w rm r => Sys2Proof.Machine.execTestRmReg w rm r s
  | .testRmImm w rm imm => Sys2Proof.Machine.execTestRmImm w rm imm s
  | .testAccImm w imm => Sys2Proof.Machine.execTestAccImm w imm s
  | .notRm w rm => Sys2Proof.Machine.execNotRm w rm s
  | .negRm w rm => Sys2Proof.Machine.execNegRm w rm s
  | .mulRm w rm => Sys2Proof.Machine.execMulRm w rm s
  | .imulRm w rm => Sys2Proof.Machine.execImulRm w rm s
  | .imulRegRm r rm => Sys2Proof.Machine.execImulRegRm r rm s
  | .imulRegRmImm sx r rm imm => Sys2Proof.Machine.execImulRegRmImm sx r rm imm s
  | .divRm w rm => Sys2Proof.Machine.execDivRm w rm s
  | .idivRm w rm => Sys2Proof.Machine.execIdivRm w rm s
  | .incRm w rm => Sys2Proof.Machine.execIncRm w rm s
  | .incReg r => Sys2Proof.Machine.execIncReg r s
  | .decRm w rm => Sys2Proof.Machine.execDecRm w rm s
  | .decReg r => Sys2Proof.Machine.execDecReg r s
  | .aaa => Sys2Proof.Machine.execAaa s
  | .aas => Sys2Proof.Machine.execAas s
  | .daa => Sys2Proof.Machine.execDaa s
  | .das => Sys2Proof.Machine.execDas s
  | .aad => Sys2Proof.Machine.execAad s
  | .aam => Sys2Proof.Machine.execAam s
  | .cbw => Sys2Proof.Machine.execCbw s
  | .cwd => Sys2Proof.Machine.execCwd s
  | .movRmReg w rm r => Sys2Proof.Machine.execMovRmReg w rm r s
  | .movRegRm w r rm => Sys2Proof.Machine.execMovRegRm w r rm s
  | .movRmImm w rm imm => Sys2Proof.Machine.execMovRmImm w rm imm s
  | .movRegImm w r imm => Sys2Proof.Machine.execMovRegImm w r imm s
  | .movAccMoffs w off => Sys2Proof.Machine.execMovAccMoffs w off s
  | .movMoffsAcc w off => Sys2Proof.Machine.execMovMoffsAcc w off s
  | .movSegRm sg rm => Sys2Proof.Machine.execMovSegRm sg rm s
  | .movRmSeg rm sg => Sys2Proof.Machine.execMovRmSeg rm sg s
  | .movsx w r rm => Sys2Proof.Machine.execMovsx w r rm s
  | .movzx w r rm => Sys2Proof.Machine.execMovzx w r rm s
  | .pushRm rm => Sys2Proof.Machine.execPushRm rm s
  | .pushReg r => Sys2Proof.Machine.execPushReg r s
  | .pushImm sx imm => Sys2Proof.Machine.execPushImm sx imm s
  | .pushSeg sg => Sys2Proof.Machine.execPushSeg sg s
  | .pushFs => Sys2Proof.Machine.execPushFs s
  | .pushGs => Sys2Proof.Machine.execPushGs s
  | .popRm rm => Sys2Proof.Machine.execPopRm rm s
  | .popReg r => Sys2Proof.Machine.execPopReg r s
  | .popEs => Sys2Proof.Machine.execPopEs s
  | .popSs => Sys2Proof.Machine.execPopSs s
  | .popDs => Sys2Proof.Machine.execPopDs s
  | .popFs => Sys2Proof.Machine.execPopFs s
  | .popGs => Sys2Proof.Machine.execPopGs s
  | .pusha => Sys2Proof.Machine.execPusha s
  | .popa => Sys2Proof.Machine.execPopa s
  | .xchgRmReg w rm r => Sys2Proof.Machine.execXchgRmReg w rm r s
  | .xchgAcc r => Sys2Proof.Machine.execXchgAcc r s
  | .inImm w port => Sys2Proof.Machine.execInImm w port s
  | .inDx w => Sys2Proof.Machine.execInDx w s
  | .outImm w port => Sys2Proof.Machine.execOutImm w port s
  | .outDx w => Sys2Proof.Machine.execOutDx w s
  | .lea r m => Sys2Proof.Machine.execLea r m s
  | .lds r m => Sys2Proof.Machine.execLds r m s
  | .les r m => Sys2Proof.Machine.execLes r m s
  | .lfs r m => Sys2Proof.Machine.execLfs r m s
  | .lgs r m => Sys2Proof.Machine.execLgs r m s
  | .lss r m => Sys2Proof.Machine.execLss r m s
  | .clc => Sys2Proof.Machine.execClc s
  | .cld => Sys2Proof.Machine.execCld s
  | .cli => Sys2Proof.Machine.execCli s
  | .cmc => Sys2Proof.Machine.execCmc s
  | .lahf => Sys2Proof.Machine.execLahf s
  | .pushf => Sys2Proof.Machine.execPushf s
  | .popf => Sys2Proof.Machine.execPopf s
  | .sahf => Sys2Proof.Machine.execSahf s
  | .stc => Sys2Proof.Machine.execStc s
  | .std => Sys2Proof.Machine.execStd s
  | .sti => Sys2Proof.Machine.execSti s
  | .clts => Sys2Proof.Machine.execClts s
  | .rolOne w rm => Sys2Proof.Machine.execRolOne w rm s
  | .rolCl w rm => Sys2Proof.Machine.execRolCl w rm s
  | .rolImm w rm n => Sys2Proof.Machine.execRolImm w rm n s
  | .rorOne w rm => Sys2Proof.Machine.execRorOne w rm s
  | .rorCl w rm => Sys2Proof.Machine.execRorCl w rm s
  | .rorImm w rm n => Sys2Proof.Machine.execRorImm w rm n s
  | .rclOne w rm => Sys2Proof.Machine.execRclOne w rm s
  | .rclCl w rm => Sys2Proof.Machine.execRclCl w rm s
  | .rclImm w rm n => Sys2Proof.Machine.execRclImm w rm n s
  | .rcrOne w rm => Sys2Proof.Machine.execRcrOne w rm s
  | .rcrCl w rm => Sys2Proof.Machine.execRcrCl w rm s
  | .rcrImm w rm n => Sys2Proof.Machine.execRcrImm w rm n s
  | .shlOne w rm => Sys2Proof.Machine.execShlOne w rm s
  | .shlCl w rm => Sys2Proof.Machine.execShlCl w rm s
  | .shlImm w rm n => Sys2Proof.Machine.execShlImm w rm n s
  | .shrOne w rm => Sys2Proof.Machine.execShrOne w rm s
  | .shrCl w rm => Sys2Proof.Machine.execShrCl w rm s
  | .shrImm w rm n => Sys2Proof.Machine.execShrImm w rm n s
  | .sarOne w rm => Sys2Proof.Machine.execSarOne w rm s
  | .sarCl w rm => Sys2Proof.Machine.execSarCl w rm s
  | .sarImm w rm n => Sys2Proof.Machine.execSarImm w rm n s
  | .shldImm rm r n => Sys2Proof.Machine.execShldImm rm r n s
  | .shldCl rm r => Sys2Proof.Machine.execShldCl rm r s
  | .shrdImm rm r n => Sys2Proof.Machine.execShrdImm rm r n s
  | .shrdCl rm r => Sys2Proof.Machine.execShrdCl rm r s
  | .cmps w => Sys2Proof.Machine.execCmps w s
  | .ins w => Sys2Proof.Machine.execIns w s
  | .lods w => Sys2Proof.Machine.execLods w s
  | .movs w => Sys2Proof.Machine.execMovs w s
  | .outs w => Sys2Proof.Machine.execOuts w s
  | .scas w => Sys2Proof.Machine.execScas w s
  | .stos w => Sys2Proof.Machine.execStos w s
  | .xlat => Sys2Proof.Machine.execXlat s
  | .repInsF3 w => Sys2Proof.Machine.execRepInsF3 w s
  | .repInsF2 w => Sys2Proof.Machine.execRepInsF2 w s
  | .repLodsF3 w => Sys2Proof.Machine.execRepLodsF3 w s
  | .repLodsF2 w => Sys2Proof.Machine.execRepLodsF2 w s
  | .repMovsF3 w => Sys2Proof.Machine.execRepMovsF3 w s
  | .repMovsF2 w => Sys2Proof.Machine.execRepMovsF2 w s
  | .repOutsF3 w => Sys2Proof.Machine.execRepOutsF3 w s
  | .repOutsF2 w => Sys2Proof.Machine.execRepOutsF2 w s
  | .repStosF3 w => Sys2Proof.Machine.execRepStosF3 w s
  | .repStosF2 w => Sys2Proof.Machine.execRepStosF2 w s
  | .repeCmps w => Sys2Proof.Machine.execRepeCmps w s
  | .repneCmps w => Sys2Proof.Machine.execRepneCmps w s
  | .repeScas w => Sys2Proof.Machine.execRepeScas w s
  | .repneScas w => Sys2Proof.Machine.execRepneScas w s
  | .bsf r rm => Sys2Proof.Machine.execBsf r rm s
  | .bsr r rm => Sys2Proof.Machine.execBsr r rm s
  | .btImm rm n => Sys2Proof.Machine.execBtImm rm n s
  | .btReg rm r => Sys2Proof.Machine.execBtReg rm r s
  | .btcImm rm n => Sys2Proof.Machine.execBtcImm rm n s
  | .btcReg rm r => Sys2Proof.Machine.execBtcReg rm r s
  | .btrImm rm n => Sys2Proof.Machine.execBtrImm rm n s
  | .btrReg rm r => Sys2Proof.Machine.execBtrReg rm r s
  | .btsImm rm n => Sys2Proof.Machine.execBtsImm rm n s
  | .btsReg rm r => Sys2Proof.Machine.execBtsReg rm r s
  | .jmpShort disp => Sys2Proof.Machine.execJmpShort disp s
  | .jmpNear disp => Sys2Proof.Machine.execJmpNear disp s
  | .jmpRm rm => Sys2Proof.Machine.execJmpRm rm s
  | .jmpFar p => Sys2Proof.Machine.execJmpFar p s
  | .jmpFarMem m => Sys2Proof.Machine.execJmpFarMem m s
  | .callNear disp => Sys2Proof.Machine.execCallNear disp s
  | .callRm rm => Sys2Proof.Machine.execCallRm rm s
  | .callFar p => Sys2Proof.Machine.execCallFar p s
  | .callFarMem m => Sys2Proof.Machine.execCallFarMem m s
  | .retNear => Sys2Proof.Machine.execRetNear s
  | .retNearImm n => Sys2Proof.Machine.execRetNearImm n s
  | .retFar => Sys2Proof.Machine.execRetFar s
  | .retFarImm n => Sys2Proof.Machine.execRetFarImm n s
  | .joShort disp => Sys2Proof.Machine.execJoShort disp s
  | .joNear disp => Sys2Proof.Machine.execJoNear disp s
  | .jnoShort disp => Sys2Proof.Machine.execJnoShort disp s
  | .jnoNear disp => Sys2Proof.Machine.execJnoNear disp s
  | .jbShort disp => Sys2Proof.Machine.execJbShort disp s
  | .jbNear disp => Sys2Proof.Machine.execJbNear disp s
  | .jnbShort disp => Sys2Proof.Machine.execJnbShort disp s
  | .jnbNear disp => Sys2Proof.Machine.execJnbNear disp s
  | .jeShort disp => Sys2Proof.Machine.execJeShort disp s
  | .jeNear disp => Sys2Proof.Machine.execJeNear disp s
  | .jneShort disp => Sys2Proof.Machine.execJneShort disp s
  | .jneNear disp => Sys2Proof.Machine.execJneNear disp s
  | .jbeShort disp => Sys2Proof.Machine.execJbeShort disp s
  | .jbeNear disp => Sys2Proof.Machine.execJbeNear disp s
  | .jnbeShort disp => Sys2Proof.Machine.execJnbeShort disp s
  | .jnbeNear disp => Sys2Proof.Machine.execJnbeNear disp s
  | .jsShort disp => Sys2Proof.Machine.execJsShort disp s
  | .jsNear disp => Sys2Proof.Machine.execJsNear disp s
  | .jnsShort disp => Sys2Proof.Machine.execJnsShort disp s
  | .jnsNear disp => Sys2Proof.Machine.execJnsNear disp s
  | .jpShort disp => Sys2Proof.Machine.execJpShort disp s
  | .jpNear disp => Sys2Proof.Machine.execJpNear disp s
  | .jnpShort disp => Sys2Proof.Machine.execJnpShort disp s
  | .jnpNear disp => Sys2Proof.Machine.execJnpNear disp s
  | .jlShort disp => Sys2Proof.Machine.execJlShort disp s
  | .jlNear disp => Sys2Proof.Machine.execJlNear disp s
  | .jnlShort disp => Sys2Proof.Machine.execJnlShort disp s
  | .jnlNear disp => Sys2Proof.Machine.execJnlNear disp s
  | .jleShort disp => Sys2Proof.Machine.execJleShort disp s
  | .jleNear disp => Sys2Proof.Machine.execJleNear disp s
  | .jnleShort disp => Sys2Proof.Machine.execJnleShort disp s
  | .jnleNear disp => Sys2Proof.Machine.execJnleNear disp s
  | .seto rm => Sys2Proof.Machine.execSeto rm s
  | .setno rm => Sys2Proof.Machine.execSetno rm s
  | .setb rm => Sys2Proof.Machine.execSetb rm s
  | .setnb rm => Sys2Proof.Machine.execSetnb rm s
  | .sete rm => Sys2Proof.Machine.execSete rm s
  | .setne rm => Sys2Proof.Machine.execSetne rm s
  | .setbe rm => Sys2Proof.Machine.execSetbe rm s
  | .setnbe rm => Sys2Proof.Machine.execSetnbe rm s
  | .sets rm => Sys2Proof.Machine.execSets rm s
  | .setns rm => Sys2Proof.Machine.execSetns rm s
  | .setp rm => Sys2Proof.Machine.execSetp rm s
  | .setnp rm => Sys2Proof.Machine.execSetnp rm s
  | .setl rm => Sys2Proof.Machine.execSetl rm s
  | .setnl rm => Sys2Proof.Machine.execSetnl rm s
  | .setle rm => Sys2Proof.Machine.execSetle rm s
  | .setnle rm => Sys2Proof.Machine.execSetnle rm s
  | .jcxz disp => Sys2Proof.Machine.execJcxz disp s
  | .loop disp => Sys2Proof.Machine.execLoop disp s
  | .loopz disp => Sys2Proof.Machine.execLoopz disp s
  | .loopnz disp => Sys2Proof.Machine.execLoopnz disp s
  | .enter n level => Sys2Proof.Machine.execEnter n level s
  | .leave => Sys2Proof.Machine.execLeave s
  | .int n => Sys2Proof.Machine.execInt n s
  | .int3 => Sys2Proof.Machine.execInt3 s
  | .into => Sys2Proof.Machine.execInto s
  | .bound r m => Sys2Proof.Machine.execBound r m s
  | .iret => Sys2Proof.Machine.execIret s
  | .hlt => Sys2Proof.Machine.execHlt s
  | .movCrReg x r => Sys2Proof.Machine.execMovCrReg x r s
  | .movRegCr r x => Sys2Proof.Machine.execMovRegCr r x s
  | .movDrReg x r => Sys2Proof.Machine.execMovDrReg x r s
  | .movRegDr r x => Sys2Proof.Machine.execMovRegDr r x s
  | .movTrReg x r => Sys2Proof.Machine.execMovTrReg x r s
  | .movRegTr r x => Sys2Proof.Machine.execMovRegTr r x s
  | .nop => Sys2Proof.Machine.execNop s
  | .wait => Sys2Proof.Machine.execWait s
  | .esc op sub rm => Sys2Proof.Machine.execEsc op sub rm s
  | .arpl rm r => Sys2Proof.Machine.execArpl rm r s
  | .lar r rm => Sys2Proof.Machine.execLar r rm s
  | .lsl r rm => Sys2Proof.Machine.execLsl r rm s
  | .sldt rm => Sys2Proof.Machine.execSldt rm s
  | .str rm => Sys2Proof.Machine.execStr rm s
  | .lldt rm => Sys2Proof.Machine.execLldt rm s
  | .ltr rm => Sys2Proof.Machine.execLtr rm s
  | .verr rm => Sys2Proof.Machine.execVerr rm s
  | .verw rm => Sys2Proof.Machine.execVerw rm s
  | .sgdt m => Sys2Proof.Machine.execSgdt m s
  | .sidt m => Sys2Proof.Machine.execSidt m s
  | .lgdt m => Sys2Proof.Machine.execLgdt m s
  | .lidt m => Sys2Proof.Machine.execLidt m s
  | .smsw rm => Sys2Proof.Machine.execSmsw rm s
  | .lmsw rm => Sys2Proof.Machine.execLmsw rm s
  | .csPrefix inner => Sys2Proof.Machine.execCsPrefix inner s
  | .dsPrefix inner => Sys2Proof.Machine.execDsPrefix inner s
  | .esPrefix inner => Sys2Proof.Machine.execEsPrefix inner s
  | .fsPrefix inner => Sys2Proof.Machine.execFsPrefix inner s
  | .gsPrefix inner => Sys2Proof.Machine.execGsPrefix inner s
  | .ssPrefix inner => Sys2Proof.Machine.execSsPrefix inner s
  | .opSizePrefix inner => Sys2Proof.Machine.execOpSizePrefix inner s
  | .addrSizePrefix inner => Sys2Proof.Machine.execAddrSizePrefix inner s
  | .lockPrefix inner => Sys2Proof.Machine.execLockPrefix inner s
  | .repPrefix inner => Sys2Proof.Machine.execRepPrefix inner s
  | .repnePrefix inner => Sys2Proof.Machine.execRepnePrefix inner s

end Sys2Proof.Machine
end

