-- ==== Sys2Proof/Machine/Fetch.lean ====
section
/-! DEFINITION. The boundary between two instructions (spec/60_exceptions.md R741): debug exceptions (R742, R821 to
R824), NMI and INTR (R731, R733, R735), halt and shutdown (R850, R854), and the fetch of the next instruction
(spec/10_state.md R35 to R37, steps 4 to 6 of R741). -/

namespace Sys2Proof.Machine

/-! ## Fetching (R35, R37, R253, R741 steps 4 to 6) -/

/-- How many bytes of code from EIP, up to `n`, lie within the limit of CS; the offset wraps at 4 Gbyte (R37, D8). -/
def codeRoom (s : State) : Nat → Nat → Nat
  | _, 0 => 0
  | k, n + 1 =>
    if (s.eip + BitVec.ofNat 32 k).toNat ≤ s.segs.cs.limit.toNat then codeRoom s (k + 1) n + 1 else 0

/-- The linear address of the next instruction (R35). -/
def codeAddress (s : State) : Dword := s.segs.cs.base + s.eip

/-- `n` bytes of code from a physical address. -/
def codeBytes (mem : Memory) (a : Dword) (n : Nat) : List Byte :=
  (List.range n).map fun k => mem.read (a.toNat + k)

/-- The code bytes of the page at a linear address, read at the current level. -/
def fetchPage (lin : Dword) (n : Nat) : Exec (List Byte) := do
  let s ← getState
  let p ← translate lin false (s.sys.cpl = 3)
  let t ← getState
  pure (codeBytes t.mem p n)

/-- What the decoder makes of the code bytes that lie within the limit: an undefined encoding raises #6; an instruction
that runs past the limit or the fifteenth byte raises #13(0) (R741 steps 4 and 6). An encoding whose address bytes run
past the fifteenth byte raises #13(0) even if it is undefined or may not be locked: R741 names both exceptions in one step
(DESIGN CHOICE, log entry 53). -/
def decoded (r : Except DecodeError (Instr × Nat)) : Exec (Instr × Nat) :=
  match r with
  | .ok p => pure p
  | .error .invalidOpcode => raise .invalidOpcode
  | .error .truncated => raise (.protection 0)

/-- Whichever bytes follow, `n` bytes more do not show where the instruction ends: every byte is tried as the first of them,
with zeros behind it, which make the shortest completion of every opcode, mod r/m byte and SIB byte. -/
def cutShort (wide : Bool) (bytes : List Byte) (n : Nat) : Bool :=
  (List.range 256).all fun c =>
    match decode wide (bytes ++ BitVec.ofNat 8 c :: List.replicate (n - 1) 0) with
    | .error .truncated => true
    | _ => false

/-- The next instruction and its length. The page that holds its first byte is read first; the next page only where the
instruction goes on there (R241, R741 step 5). The limit of CS comes before a fault of the next page (R741 step 4) where
the bytes of the first show that the instruction runs past it (log entry 34). -/
def fetch : Exec (Instr × Nat) := do
  let s ← getState
  let avail := codeRoom s 0 maxLength
  let lin := codeAddress s
  let room := 4096 - lin.toNat % 4096
  require (decide (0 < avail)) (.protection 0)
  let first ← fetchPage lin (min avail room)
  match decode s.default32 first with
  | .error .truncated =>
    if avail ≤ room then raise (.protection 0)
    else if s.pe && s.pg && decide (avail < maxLength) && cutShort s.default32 first (avail - room) then
      raise (.protection 0)
    else do
      let rest ← fetchPage (lin + BitVec.ofNat 32 room) (avail - room)
      decoded (decode s.default32 (first ++ rest))
  | r => decoded r

/-- The state as an instruction of a length begins: the default sizes, and `next_eip`, which has 16 bits in a 16-bit code
segment (R36, R262, R263). -/
def begin (s : State) (p : Instr × Nat) : State :=
  let next := s.eip + BitVec.ofNat 32 p.2
  { s with
    mem := s.mem.tick
    ctx :=
      { Context.idle with
        op32 := s.default32
        addr32 := s.default32
        nextEip := if s.default32 then next else next &&& 0xFFFF
        code := some p } }

/-- The next instruction executed: one that has begun goes on as it was decoded (R512, D22), any other is fetched first. An
exception of the fetch is taken like one of the instruction (R741). -/
def runNext (s : State) : Host.Outcome State Fault Refusal :=
  match s.events.held with
  | some p => exec p.1 (begin s p)
  | none =>
    match fetch s with
    | .ok p t => exec p.1 (begin t p)
    | .error x t => afterStop s x t

/-! ## Debug exceptions (R741 steps 1 and 2, R742, R823) -/

/-- The debug traps that are recognised at this boundary: none right after MOV SS or POP SS (R735). -/
def dueTraps (s : State) : DebugTraps := if s.events.inhibit = .all then DebugTraps.none else s.events.traps

/-- The instruction breakpoints that match the next instruction: none with RF set (R821), and none where the
instruction has already begun. -/
def dueBreakpoints (s : State) : BitVec 4 :=
  if s.flags.rf || decide (s.events.begun ≠ .no) then 0
  else breakpointBits s.dregs fun i => codeMatch s.dregs i (codeAddress s)

/-- A debug exception is due. -/
def debugDue (s : State) : Bool :=
  (dueTraps s).bs || (dueTraps s).bt || (dueTraps s).b != 0 || dueBreakpoints s != 0

/-- DR6 with the causes of a debug exception or-ed in (R823). -/
def withCauses (dr6 : Dword) (t : DebugTraps) (b : BitVec 4) : Dword :=
  dr6 ||| (t.b ||| b).setWidth 32 ||| bitAt t.bs 14 ||| bitAt t.bt 15

/-- One debug exception for all that is due; it saves the address of the next instruction and the current RF (R742,
R755). DR7.GD stays as it is: only the fault that GD itself causes clears it (DESIGN CHOICE, log entry 47: a sentence that
R826 quotes can be read of every exception 1). -/
def takeDebug (s : State) : Host.Outcome State Fault Refusal :=
  takeEvent
    { vector := 1, code := none, source := .exception, retEip := s.eip, rf := s.flags.rf, nmi := false }
    { s with
      dregs := { s.dregs with dr6 := withCauses s.dregs.dr6 (dueTraps s) (dueBreakpoints s) }
      events :=
        { s.events with
          traps := if s.events.inhibit = .all then s.events.traps else DebugTraps.none } }

/-! ## External interrupts (R731, R733, R735) -/

/-- The NMI is recognised at this boundary (R733). -/
def nmiDue (s : State) : Bool :=
  s.events.nmiPending && !s.events.nmiInService && decide (s.events.inhibit ≠ .all)

/-- INTR is recognised at this boundary (R731). -/
def intrDue (s : State) : Bool := s.ext.intr && s.flags.ie && decide (s.events.inhibit = .off)

/-- An external interrupt; in the interrupt window of a REP string instruction the saved RF is 1 (R755). -/
def externalEvent (s : State) (vector : Byte) (nmi : Bool) : Event :=
  { vector := vector, code := none, source := .ext, retEip := s.eip
    rf := s.flags.rf || decide (s.events.begun = .rep), nmi := nmi }

/-- The state as the NMI is taken (R733). -/
def nmiTaken (s : State) : State := { s with events := { s.events with nmiPending := false, nmiInService := true } }

/-- The NMI taken. -/
def takeNmi (s : State) : Host.Outcome State Fault Refusal := takeEvent (externalEvent s 2 true) (nmiTaken s)

/-- INTR taken: the interrupt controller answers the acknowledge cycles with the vector (R731). -/
def takeIntr (s : State) : Host.Outcome State Fault Refusal :=
  takeEvent (externalEvent s s.ext.intVector false) { s with bus := .intAck s.ext.intVector :: s.bus }

/-! ## Running, halted, shut down -/

/-- A running processor at an instruction boundary (R741). -/
def stepRunning (s : State) : Host.Outcome State Fault Refusal :=
  if debugDue s then takeDebug s
  else if nmiDue s then takeNmi s
  else if intrDue s then takeIntr s
  else runNext s

/-- The debug traps of the HLT itself are due (R741 step 1). -/
def trapsDue (s : State) : Bool := (dueTraps s).bs || (dueTraps s).bt || (dueTraps s).b != 0

/-- A halted processor waits for NMI or INTR (R850); the debug traps of the HLT come first (log entry 20). -/
def stepHalted (s : State) : Host.Outcome State Fault Refusal :=
  if trapsDue s then takeDebug s
  else if nmiDue s then takeNmi s
  else if intrDue s then takeIntr s
  else .next s

/-- The NMI can bring the processor out of shutdown: in real mode only with its vector within the table and SP above 5
(R854). -/
def wakes (s : State) : Bool :=
  s.events.nmiPending && !s.events.nmiInService &&
  (s.pe || (decide (0x17 ≤ s.sys.idtr.limit.toNat) && decide (5 < (low16 s.regs.esp).toNat)))

/-- A shut-down processor waits for the NMI; if its delivery faults the processor shuts down again (R855; in real mode
too, DESIGN CHOICE, log entry 61: R854 has the NMI delivered normally and says nothing of a fault). -/
def stepShutdown (s : State) : Host.Outcome State Fault Refusal :=
  if wakes s then
    match deliver false (externalEvent s 2 true) (nmiTaken s) with
    | .ok _ t => .next (settle t)
    | .error _ t => .next (enterShutdown (rollback (nmiTaken s) t))
  else .next s

/-- One step of a processor that is not being reset. -/
def stepActive (s : State) : Host.Outcome State Fault Refusal :=
  match s.events.activity with
  | .running => stepRunning s
  | .halted => stepHalted s
  | .shutdown => stepShutdown s

/-! ## Placing an instruction -/

/-- The physical address of byte `k` of the next instruction, as the TLB or the tables in memory translate it. -/
def fetchAddress (s : State) (k : Nat) : Dword :=
  match translate (codeAddress s + BitVec.ofNat 32 k) false (s.sys.cpl = 3) s with
  | .ok p _ => p
  | .error _ _ => codeAddress s + BitVec.ofNat 32 k

/-- The memory of a state with bytes where the next instruction is fetched, from byte `k` of it on. -/
def placeBytes (s : State) (k : Nat) : List Byte → Memory
  | [] => s.mem
  | b :: rest => (placeBytes s (k + 1) rest).poke (fetchAddress s k).toNat b

/-- A state with bytes where the next instruction is fetched, running and with nothing that comes before the fetch. -/
def placeInstruction (s : State) (bytes : List Byte) : State :=
  { s with
    mem := placeBytes s 0 bytes
    events := { s.events with nmiPending := false, activity := .running, held := none, traps := DebugTraps.none }
    flags := { s.flags with rf := s.flags.rf || dueBreakpoints s != 0 }
    ext := { s.ext with reset := false, intr := false } }

end Sys2Proof.Machine
end

