-- ==== Sys2Proof/Machine/Step.lean ====
section
/-! DEFINITION. One step of the machine: RESET, which comes before everything (spec/60_exceptions.md R856), or what
Fetch.lean makes of the boundary between two instructions. -/

namespace Sys2Proof.Machine

/-- One step. -/
def step (s : State) : Host.Outcome State Fault Refusal := if s.ext.reset then .next s.toReset else stepActive s

/-- The state with an instruction of the opcode table stored where `step` fetches its next instruction: the bytes of
`w` and then zeros, up to the longest instruction (log entry 25). -/
def State.withFetchWord (s : State) (nbits w : Nat) : State := placeInstruction s (tableBytes nbits w)

end Sys2Proof.Machine
end

