-- ==== Sys2Proof/Safety.lean ====
section
/-! DEFINITION. The terms that claims about the machine use: the value at a place and the state with a value put there,
what memory keeps, the instructions that name a target or deliver an interrupt, flags that a rule leaves undefined, and the
invariants that every step keeps. -/

namespace Sys2Proof.Machine

/-! ## Operands -/

/-- The value at a place (30_encoding.md R326). -/
def State.valueAt (s : State) (sz : Size) (p : Place) : BitVec sz.bits :=
  match p with
  | .reg r => s.regs.read sz r
  | .mem sp => (Memory.load s.mem sp).setWidth sz.bits

/-- The state with a value put at a place: of a register the bits of the operand alone change (R32, R266). -/
def State.withValue (s : State) (sz : Size) (p : Place) (v : BitVec sz.bits) : State :=
  match p with
  | .reg r => { s with regs := s.regs.write sz r v }
  | .mem sp => { s with mem := Memory.store s.mem sp (v.setWidth 32) }

/-- The register that holds the high half of a double-width accumulator: AH, DX or EDX (42_arithmetic.md R442). -/
def highReg : Size → Reg
  | .b => .esp
  | .w | .d => .edx

/-- The state with a double-width value in AX, DX:AX or EDX:EAX (R442, R446). -/
def State.withWide (s : State) (sz : Size) (hi lo : BitVec sz.bits) : State :=
  (s.withValue sz (.reg .eax) lo).withValue sz (.reg (highReg sz)) hi

/-- The bytes of memory that a write to a place changes. -/
def Place.bytes : Place → List Nat
  | .reg _ => []
  | .mem sp => sp

/-- A place is written to a general register. -/
def Place.register : Place → Option Reg
  | .reg r => some r
  | .mem _ => none

/-- Every byte of memory but the given ones reads as before. -/
def sameOutside (sp : List Nat) (before after : Memory) : Prop :=
  ∀ a, a ∉ sp → Memory.read after a = Memory.read before a

/-- The physical addresses of `n` bytes from a linear address that paging does not translate; the linear address wraps at 4
Gbyte (20_memory.md R133, R164). -/
def linearBytes (lin : Dword) (n : Nat) : List Nat := (List.range n).map fun k => (lin.toNat + k) % 2 ^ 32

/-- The descriptor at a linear address that paging does not translate (R172). -/
def descriptorAt (mem : Memory) (a : Dword) : Desc :=
  { lo := Memory.load mem ((linearBytes a 8).take 4), hi := Memory.load mem ((linearBytes a 8).drop 4) }

/-- The accessed bit of a code or data descriptor set in memory, if it was 0 (R184). -/
def markAccessed (mem : Memory) (a : Dword) (d : Desc) : Memory :=
  if d.attr.s && !d.attr.typ.getLsbD 0 then
    Memory.store mem [(a + 5).toNat] ((Memory.read mem (a + 5).toNat ||| 1).setWidth 32)
  else mem

/-- Linear addresses are physical: paging is off (R133, R52). -/
def State.unpaged (s : State) : Prop := (s.pe && s.pg) = false

/-- The state after the operand accesses of an instruction of state `s`: at most the translations it has made (the TLB, the
accessed and dirty bits in memory), the free values it has drawn and the data breakpoints it has met differ. -/
def accessed (s t : State) : Prop :=
  t = { s with mem := t.mem, paging := { s.paging with tlb := t.paging.tlb }, draws := t.draws
               events := { s.events with traps := { s.events.traps with b := t.events.traps.b } } }

/-! ## The stack -/

/-- The stack pointer moved to an offset: all of ESP where the stack is 32 bits wide, else SP alone (10_state.md R32,
40_data_transfer.md R350). -/
def State.withTop (wide : Bool) (s : State) (p : Dword) : State :=
  { s with regs := { s.regs with esp := if wide then p else s.regs.esp.extractLsb' 16 16 ++ p.extractLsb' 0 16 } }

/-- The offset `n` bytes above the stack top (R264, R351). -/
def State.above (s : State) (n : Nat) : Dword :=
  if s.stack32 then BitVec.ofNat 32 (s.regs.esp.toNat + n) else BitVec.ofNat 32 ((s.regs.esp.toNat + n) % 2 ^ 16)

/-- The offset `n` bytes below the stack top (R264, R350). -/
def State.below (s : State) (n : Nat) : Dword :=
  if s.stack32 then BitVec.ofInt 32 (s.regs.esp.toNat - n) else BitVec.ofInt 32 (((s.regs.esp.toNat : Int) - n) % 2 ^ 16)

/-- The state with `n` bytes taken off the stack (R351). -/
def State.popped (s : State) (n : Nat) : State := s.withTop s.stack32 (s.above n)

/-- The bytes of the slot that the push number `k` (from 0) of values of `n` bytes takes (R350). -/
def State.slot (s : State) (n k : Nat) : List Nat := linearBytes (s.segs.ss.base + s.below (n * (k + 1))) n

/-- Memory with values of `n` bytes pushed one after the other on the stack of a state (R350). -/
def State.pushed (s : State) (n : Nat) (values : List Dword) (m : Memory) : Memory :=
  values.zipIdx.foldl (fun m v => m.store (s.slot n v.2) v.1) m

/-- The value of `n` bytes that stands `delta` bytes above the stack top (R351, R595). -/
def State.stacked (s : State) (delta n : Nat) : Dword := s.mem.load (linearBytes (s.segs.ss.base + s.above delta) n)

/-- The stack of privilege level `l` in the current TSS, if its limit holds it: selector and pointer (46_control_transfer.md
R592). -/
def State.tssEntry (s : State) (l : BitVec 2) : Option (Word × Dword) :=
  let tr := s.sys.tr
  let value (at_ n : Nat) : Dword := s.mem.load (linearBytes (tr.base + BitVec.ofNat 32 at_) n)
  if tr.attr.typ.getLsbD 3 then
    if 8 * l.toNat + 11 ≤ tr.limit.toNat then some ((value (8 * l.toNat + 8) 2).setWidth 16, value (8 * l.toNat + 4) 4)
    else none
  else if 4 * l.toNat + 5 ≤ tr.limit.toNat then
    some ((value (4 * l.toNat + 4) 2).setWidth 16, value (4 * l.toNat + 2) 2)
  else none

/-- The state at an inner level with the stack of that level: SS from a selector and its descriptor, and the stack pointer
by the size of the new stack (R591, 60_exceptions.md R754). -/
def State.onInnerStack (s : State) (l : BitVec 2) (sel : Word) (d : Desc) (ptr : Dword) : State :=
  { s with
    segs := { s.segs with ss := segOfDesc sel d }
    sys := { s.sys with cpl := l }
    regs := { s.regs with
      esp := if d.attr.db then ptr else s.regs.esp.extractLsb' 16 16 ++ ptr.extractLsb' 0 16 } }

/-! ## Instructions that name a target -/

/-- A far JMP and a far CALL that name a selector and an offset, in the instruction or in memory, and the state in which the
pointer has been read (46_control_transfer.md R575 to R578). -/
def State.farPointer (s read : State) (jmp call : Instr) (sel : Word) (off : Dword) : Prop :=
  (∃ p, jmp = .jmpFar p ∧ call = .callFar p ∧ sel = p.sel ∧ off = fullOffset p.off ∧ read = s) ∨
  ∃ m sg at_ a b v, jmp = .jmpFarMem m ∧ call = .callFarMem m ∧ effAddr m s = .ok (sg, at_) a ∧
    memRead sg at_ s.opSize.bytes a = .ok off b ∧ memRead sg (at_ + BitVec.ofNat 32 s.opSize.bytes) 2 b = .ok v read ∧
    sel = v.setWidth 16

/-- The software interrupt that an instruction delivers: INT n unless V86 mode with IOPL below 3 denies it, INT 3, and INTO
with OF set (48_interrupt_instructions.md R640 to R642). -/
def State.interrupts (s : State) (i : Instr) (ev : Event) : Prop :=
  ev = { vector := ev.vector, code := none, source := .software, retEip := s.ctx.nextEip, rf := s.flags.rf, nmi := false } ∧
  ((i = .int ev.vector ∧ ((s.pe && s.flags.vm) = true → s.flags.iopl = 3)) ∨ (i = .int3 ∧ ev.vector = 3) ∨
   (i = .into ∧ ev.vector = 4 ∧ s.flags.ov = true))

/-- The EXT bit of an error code in a delivery: set but for a software interrupt (60_exceptions.md R756). -/
def Event.ext (ev : Event) (code : Word) : Word := if ev.source = .software then code else code ||| 1

/-! ## Undefined values -/

/-- The state after flags that a rule leaves undefined have taken free values (00_scope.md R18). -/
def freeFlags (l : List StatusFlag) (s : State) : State :=
  match l with
  | [] => s
  | k :: rest =>
    freeFlags rest
      { s with flags := s.flags.put k ((Config.freeValue s.draws).getLsbD 0), draws := s.draws + 1 }

/-! ## How an instruction ends -/

/-- The instruction of state `s` that stopped at `t` takes an exception: it is delivered with the address of the instruction
as the one to go back to, from the state that the instruction began with (60_exceptions.md R722, R723). -/
def State.raises (s t : State) (e : Exc) : Host.Outcome State Fault Refusal :=
  takeEvent (exceptionEvent (rollback s t) e) (rollback s t)

/-- No debug exception, NMI or INTR comes before the next instruction of a running processor that is not being reset
(60_exceptions.md R741 steps 1 to 3), and that instruction has not begun yet. -/
def State.quiet (s : State) : Prop :=
  s.ext.reset = false ∧ s.events.activity = .running ∧ s.events.held = none ∧ debugDue s = false ∧ nmiDue s = false ∧ intrDue s = false

/-- A delivery of a vector in real mode finds its entry in the table and room for its three words on the stack (R746). -/
def State.realReady (s : State) (vector : Byte) : Prop :=
  s.pe = false ∧ 4 * vector.toNat + 3 ≤ s.sys.idtr.limit.toNat ∧ 6 ≤ s.regs.esp.toNat % 2 ^ 16 ∧
  s.regs.esp.toNat % 2 ^ 16 ≤ s.segs.ss.limit.toNat + 1

/-- The state that a delivery in real mode leaves (R746): FLAGS, CS and IP pushed in this order, IF, TF and RF clear, CS:IP from
the vector's entry of the interrupt table. -/
def State.realDelivery (s : State) (vector : Byte) (retEip : Dword) (rf : Bool) : State :=
  let entry := Memory.load s.mem (linearBytes (s.sys.idtr.base + BitVec.ofNat 32 (4 * vector.toNat)) 4)
  let sel : Word := entry.extractLsb' 16 16
  let top := s.regs.esp.toNat % 2 ^ 16
  let slot (k : Nat) : List Nat := linearBytes (s.segs.ss.base + BitVec.ofNat 32 (top - 2 * k)) 2
  let m1 := Memory.store s.mem (slot 1) { s.flags with rf := rf }.image
  let m2 := Memory.store m1 (slot 2) (s.segs.cs.sel.setWidth 32)
  { s.withTop false (BitVec.ofNat 32 (top - 6)) with
    mem := Memory.store m2 (slot 3) retEip
    flags := { s.flags with ie := false, tf := false, rf := false }
    segs := { s.segs with cs := { s.segs.cs with sel := sel, base := BitVec.ofNat 32 (16 * sel.toNat), valid := true } }
    ctx := { s.ctx with nextEip := BitVec.ofNat 32 (entry.toNat % 2 ^ 16), ending := .vectored } }

/-! ## Invariants -/

/-- The mode bits are those of a mode (60_exceptions.md R840, R841; 10_state.md R54): VM only in protected mode and at level
3, level 0 in real mode, paging only in protected mode. -/
def State.legalMode (s : State) : Prop :=
  (s.flags.vm = true → s.pe = true ∧ s.sys.cpl = 3) ∧ (s.pe = false → s.sys.cpl = 0) ∧ (s.pg = true → s.pe = true)

/-- Bits 11:0 of CR3 hold 0 (10_state.md R57). -/
def State.pageBase (s : State) : Prop := s.sys.cr3 &&& 0xFFF = 0

/-- The TLB has 32 entries (20_memory.md R216). -/
def State.tlbSize (s : State) : Prop := s.paging.tlb.length = 32

/-- No instruction is in progress. -/
def State.between (s : State) : Prop := s.ctx = Context.idle

end Sys2Proof.Machine
end

