-- ==== Sys2Proof/Certificates/Slice0/Obligations.lean ====
section
/-! DEFINITION. The statements for the provers (OBLIGATIONS.json lists them). -/

open Sys2Proof Sys2Proof.Machine

/-! ## Arithmetic and logic -/

/-- The forms of ADD, OR, ADC, SBB, AND, SUB and XOR (R430, R431, R433, R434, R484, R486, R487): the destination takes
a + b, a or b, a + b + CF, a - b - CF, a and b, a - b, a xor b; the flags are those of the sum or the difference (R420,
R421: SumAndDifferenceFlagsAreArithmetic says which) or, of a logical one, CF = OF = 0, SF, ZF and PF of the result and
AF free (R483); no other byte of memory changes. CMP and TEST write nothing but flags (R436, R485): those of a - b, and
those of a and b. Immediate data of 8 bits is sign-extended to the operand size, that of 16 and 32 bits is an operand
of its own size (R267, R282). -/
def Obligations.AluFormsWriteResultAndFlags : Prop :=
  (∀ (sz : Size) (x : BitVec 8), immValue sz (.i8 x) = BitVec.ofInt _ x.toInt) ∧
  (∀ x : Word, immValue .w (.i16 x) = x) ∧ (∀ x : Dword, immValue .d (.i32 x) = x) ∧
  ∀ (s t : State) (w sx : Bool) (rm : RM) (r : Reg) (imm : Imm) (p : Place),
    let sz := s.sizeOf w
    let logic (f : Flags) (x : BitVec sz.bits) : Flags :=
      { f with cf := false, ov := false, sf := x.msb, zf := decide (x.toNat = 0)
               pf := decide (((List.range 8).countP fun i => x.getLsbD i) % 2 = 0) }
    let writes (rmReg : Bool → Bool → RM → Reg → Instr) (rmImm : Bool → Bool → RM → Imm → Instr) (accImm : Bool → Imm → Instr)
        (result : Bool → BitVec sz.bits → BitVec sz.bits → BitVec sz.bits)
        (flags : Flags → BitVec sz.bits → BitVec sz.bits → Flags) (free : List StatusFlag) : Prop :=
      let done (u : State) (p : Place) (a b : BitVec sz.bits) : State :=
        freeFlags free { u.withValue sz p (result u.flags.cf a b) with flags := flags u.flags a b }
      (place sz rm true s = .ok p t →
        exec (rmReg false w rm r) s = .next (retire s.flags.tf (done t p (t.valueAt sz p) (t.regs.read sz r))) ∧
        exec (rmImm sx w rm imm) s = .next (retire s.flags.tf (done t p (t.valueAt sz p) (immValue sz imm))) ∧
        ∀ b, sameOutside p.bytes t.mem (done t p (t.valueAt sz p) b).mem) ∧
      (place sz rm false s = .ok p t →
        exec (rmReg true w rm r) s =
          .next (retire s.flags.tf (done t (.reg r) (t.regs.read sz r) (t.valueAt sz p)))) ∧
      exec (accImm w imm) s = .next (retire s.flags.tf (done s (.reg .eax) (s.regs.read sz .eax) (immValue sz imm)))
    let tests (rmReg : Bool → Bool → RM → Reg → Instr) (rmImm : Bool → Bool → RM → Imm → Instr) (accImm : Bool → Imm → Instr)
        (swaps : List Bool) (flags : Flags → BitVec sz.bits → BitVec sz.bits → Flags) (free : List StatusFlag) : Prop :=
      let done (u : State) (a b : BitVec sz.bits) : Host.Outcome State Fault Refusal :=
        .next (retire s.flags.tf (freeFlags free { u with flags := flags u.flags a b }))
      (place sz rm false s = .ok p t →
        let x := t.valueAt sz p
        let y := t.regs.read sz r
        (∀ d, d ∈ swaps → exec (rmReg d w rm r) s = if d then done t y x else done t x y) ∧
        exec (rmImm sx w rm imm) s = done t x (immValue sz imm)) ∧
      exec (accImm w imm) s = done s (s.regs.read sz .eax) (immValue sz imm)
    let carry (cf : Bool) : BitVec sz.bits := BitVec.ofNat _ cf.toNat
    writes .addRmReg .addRmImm .addAccImm (fun _ a b => a + b) (fun f a b => f.add a b false) [] ∧
    writes .orRmReg .orRmImm .orAccImm (fun _ a b => a ||| b) (fun f a b => logic f (a ||| b)) [.af] ∧
    writes .adcRmReg .adcRmImm .adcAccImm (fun cf a b => a + b + carry cf) (fun f a b => f.add a b f.cf) [] ∧
    writes .sbbRmReg .sbbRmImm .sbbAccImm (fun cf a b => a - b - carry cf) (fun f a b => f.sub a b f.cf) [] ∧
    writes .andRmReg .andRmImm .andAccImm (fun _ a b => a &&& b) (fun f a b => logic f (a &&& b)) [.af] ∧
    writes .subRmReg .subRmImm .subAccImm (fun _ a b => a - b) (fun f a b => f.sub a b false) [] ∧
    writes .xorRmReg .xorRmImm .xorAccImm (fun _ a b => a ^^^ b) (fun f a b => logic f (a ^^^ b)) [.af] ∧
    tests .cmpRmReg .cmpRmImm .cmpAccImm [false, true] (fun f a b => f.sub a b false) [] ∧
    tests (fun _ => .testRmReg) (fun _ => .testRmImm) .testAccImm [false] (fun f a b => logic f (a &&& b)) [.af]

/-- INC, DEC, NEG and NOT of an r/m operand, and the register forms (R432, R435, R437, R488): INC and DEC leave CF
alone, NEG sets it unless the operand is 0, NOT leaves every flag alone, and no other byte of memory changes. -/
def Obligations.OneOperandFormsReplaceTheirOperand : Prop :=
  ∀ (s t : State) (w : Bool) (rm : RM) (r : Reg) (p : Place),
    let sz := s.sizeOf w
    let inc {n : Nat} (f : Flags) (a : BitVec n) : Flags := { f.add a 1 false with cf := f.cf }
    let dec {n : Nat} (f : Flags) (a : BitVec n) : Flags := { f.sub a 1 false with cf := f.cf }
    let full := s.opSize
    let v := s.regs.read full r
    (place sz rm true s = .ok p t →
      let a := t.valueAt sz p
      exec (.incRm w rm) s =
        .next (retire s.flags.tf { t.withValue sz p (a + 1) with flags := inc t.flags a }) ∧
      exec (.decRm w rm) s =
        .next (retire s.flags.tf { t.withValue sz p (a - 1) with flags := dec t.flags a }) ∧
      exec (.negRm w rm) s =
        .next (retire s.flags.tf { t.withValue sz p (-a) with flags := t.flags.sub 0 a false }) ∧
      exec (.notRm w rm) s = .next (retire s.flags.tf (t.withValue sz p (~~~a))) ∧
      ∀ x, sameOutside p.bytes t.mem (t.withValue sz p x).mem) ∧
    exec (.incReg r) s =
      .next (retire s.flags.tf { s.withValue full (.reg r) (v + 1) with flags := inc s.flags v }) ∧
    exec (.decReg r) s =
      .next (retire s.flags.tf { s.withValue full (.reg r) (v - 1) with flags := dec s.flags v })

/-- The flags of an addition and of a subtraction of an operand size (R420 to R422) in terms of numbers: CF where the
unsigned sum has no room or the unsigned difference is negative, OF where the signed one has no room, SF, ZF and PF of
the result, AF of the low four bits; no other flag changes. The spec marks these three rules as derived from R38. -/
def Obligations.SumAndDifferenceFlagsAreArithmetic : Prop :=
  (∀ (f : Flags) (sz : Size) (a b : BitVec sz.bits) (cin : Bool),
     let r := addResult a b cin
     let g := f.add a b cin
     let sum : Int := a.toInt + b.toInt + cin.toNat
     r.toNat = (a.toNat + b.toNat + cin.toNat) % 2 ^ sz.bits ∧
     (g.cf = true ↔ 2 ^ sz.bits ≤ a.toNat + b.toNat + cin.toNat) ∧
     (g.ov = true ↔ sum < -2 ^ (sz.bits - 1) ∨ 2 ^ (sz.bits - 1) ≤ sum) ∧
     (g.sf = true ↔ r.toInt < 0) ∧ (g.zf = true ↔ r.toNat = 0) ∧
     (g.pf = true ↔ ((List.range 8).countP fun i => r.getLsbD i) % 2 = 0) ∧
     (g.af = true ↔ 16 ≤ a.toNat % 16 + b.toNat % 16 + cin.toNat) ∧
     g = { f with cf := g.cf, pf := g.pf, af := g.af, zf := g.zf, sf := g.sf, ov := g.ov }) ∧
  (∀ (f : Flags) (sz : Size) (a b : BitVec sz.bits) (bin : Bool),
     let r := subResult a b bin
     let g := f.sub a b bin
     let difference : Int := a.toInt - b.toInt - bin.toNat
     (r.toNat : Int) = ((a.toNat : Int) - b.toNat - bin.toNat) % 2 ^ sz.bits ∧
     (g.cf = true ↔ a.toNat < b.toNat + bin.toNat) ∧
     (g.ov = true ↔ difference < -2 ^ (sz.bits - 1) ∨ 2 ^ (sz.bits - 1) ≤ difference) ∧
     (g.sf = true ↔ r.toInt < 0) ∧ (g.zf = true ↔ r.toNat = 0) ∧
     (g.pf = true ↔ ((List.range 8).countP fun i => r.getLsbD i) % 2 = 0) ∧
     (g.af = true ↔ a.toNat % 16 < b.toNat % 16 + bin.toNat) ∧
     g = { f with cf := g.cf, pf := g.pf, af := g.af, zf := g.zf, sf := g.sf, ov := g.ov })

/-- MUL and IMUL (R442 to R445): the double-width product in AX, DX:AX or EDX:EAX, or the product truncated into the
register; CF and OF tell a product that its operand size does not hold, and SF, ZF, AF and PF are free. DIV and IDIV
(R446, R447): quotient and remainder of the double-width dividend, all six status flags free; a zero divisor or a
quotient that does not fit raises #0, and no register has changed. -/
def Obligations.MultiplicationsAndDivisions : Prop :=
  (∀ (s t : State) (w sx : Bool) (rm : RM) (r : Reg) (imm : Imm) (p : Place),
     let done (u : State) (overflow : Bool) : State :=
       freeFlags [.sf, .zf, .af, .pf] { u with flags := { u.flags with cf := overflow, ov := overflow } }
     let tooBig (n : Nat) (x : Int) : Bool := decide (x < -2 ^ (n - 1) ∨ 2 ^ (n - 1) ≤ x)
     let sz := s.sizeOf w
     let full := s.opSize
     (place sz rm false s = .ok p t →
       let a := t.regs.read sz .eax
       let m := t.valueAt sz p
       let unsigned := a.toNat * m.toNat
       let signed := a.toInt * m.toInt
       exec (.mulRm w rm) s =
         .next (retire s.flags.tf
           (done (t.withWide sz (BitVec.ofNat _ (unsigned / 2 ^ sz.bits)) (BitVec.ofNat _ unsigned))
             (decide (2 ^ sz.bits ≤ unsigned)))) ∧
       exec (.imulRm w rm) s =
         .next (retire s.flags.tf
           (done (t.withWide sz (BitVec.ofInt _ (signed / 2 ^ sz.bits)) (BitVec.ofInt _ signed))
             (tooBig sz.bits signed)))) ∧
     (place full rm false s = .ok p t →
       let m := (t.valueAt full p).toInt
       let two := (t.regs.read full r).toInt * m
       let three := m * (immValue full imm).toInt
       exec (.imulRegRm r rm) s =
         .next (retire s.flags.tf (done (t.withValue full (.reg r) (BitVec.ofInt _ two)) (tooBig full.bits two))) ∧
       exec (.imulRegRmImm sx r rm imm) s =
         .next (retire s.flags.tf (done (t.withValue full (.reg r) (BitVec.ofInt _ three)) (tooBig full.bits three))))) ∧
  (∀ (s t : State) (w : Bool) (rm : RM) (p : Place),
     let sz := s.sizeOf w
     place sz rm false s = .ok p t →
       let d := t.valueAt sz p
       let hi := t.regs.read sz (highReg sz)
       let lo := t.regs.read sz .eax
       let n := hi.toNat * 2 ^ sz.bits + lo.toNat
       let m : Int := hi.toInt * 2 ^ sz.bits + lo.toNat
       let q := m.tdiv d.toInt
       let divideError := takeEvent (exceptionEvent (rollback s t) Exc.divide) (rollback s t)
       (d ≠ 0 → n / d.toNat < 2 ^ sz.bits →
         exec (.divRm w rm) s =
           .next (retire s.flags.tf (freeFlags allStatus
             (t.withWide sz (BitVec.ofNat _ (n % d.toNat)) (BitVec.ofNat _ (n / d.toNat)))))) ∧
       (d = 0 ∨ 2 ^ sz.bits ≤ n / d.toNat → exec (.divRm w rm) s = divideError) ∧
       (d ≠ 0 → -2 ^ (sz.bits - 1) ≤ q → q < 2 ^ (sz.bits - 1) →
         exec (.idivRm w rm) s =
           .next (retire s.flags.tf (freeFlags allStatus
             (t.withWide sz (BitVec.ofInt _ (m.tmod d.toInt)) (BitVec.ofInt _ q))))) ∧
       (d = 0 ∨ q < -2 ^ (sz.bits - 1) ∨ 2 ^ (sz.bits - 1) ≤ q → exec (.idivRm w rm) s = divideError) ∧
       (rollback s t).regs = s.regs)

/-- AAA, AAS, DAA, DAS, AAD and AAM (R438 to R441, R450, R451), and CBW, CWDE, CWD and CDQ (R452, R453), which extend
the sign of the accumulator and change no flag. -/
def Obligations.AccumulatorAdjustmentsFollowTheirRules : Prop :=
  (∀ (s : State),
     let al := s.regs.get8 .eax
     let ah := s.regs.get8 .esp
     let low : Bool := decide (9 < al.toNat % 16) || s.flags.af
     let high : Bool := decide (0x99 < al.toNat) || s.flags.cf
     let ax (h l : Byte) : State := { s with regs := s.regs.write .w .eax (h ++ l) }
     let ascii (h l : Byte) : Host.Outcome State Fault Refusal :=
       .next (retire s.flags.tf (freeFlags [.ov, .sf, .zf, .pf]
         { ax h (l &&& 0x0F) with flags := { s.flags with af := low, cf := low } }))
     let decimal (l : Byte) (cf : Bool) : Host.Outcome State Fault Refusal :=
       .next (retire s.flags.tf (freeFlags [.ov]
         { ax ah l with flags := { s.flags.szp l with af := low, cf := cf } }))
     let base10 (h l : Byte) : Host.Outcome State Fault Refusal :=
       .next (retire s.flags.tf (freeFlags [.ov, .af, .cf] { ax h l with flags := s.flags.szp l }))
     exec .aaa s = (if low then ascii (ah + 1) (al + 6) else ascii ah al) ∧
     exec .aas s = (if low then ascii (ah - 1) (al - 6) else ascii ah al) ∧
     exec .daa s = decimal (al + (if low then 6 else 0) + (if high then 0x60 else 0)) high ∧
     exec .das s =
       decimal (al - (if low then 6 else 0) - (if high then 0x60 else 0))
         (high || (low && decide (al.toNat < 6))) ∧
     exec .aad s = base10 0 (ah * 10 + al) ∧
     exec .aam s = base10 (BitVec.ofNat 8 (al.toNat / 10)) (BitVec.ofNat 8 (al.toNat % 10))) ∧
  (∀ (s : State),
     let answer (sz : Size) (r : Reg) (v : BitVec sz.bits) : Host.Outcome State Fault Refusal :=
       .next (retire s.flags.tf (s.withValue sz (.reg r) v))
     (s.ctx.op32 = false →
       exec .cbw s = answer .w .eax (BitVec.ofInt 16 (s.regs.read .b .eax).toInt) ∧
       exec .cwd s = answer .w .edx (BitVec.ofInt 16 ((s.regs.read .w .eax).toInt / 2 ^ 16))) ∧
     (s.ctx.op32 = true →
       exec .cbw s = answer .d .eax (BitVec.ofInt 32 (s.regs.read .w .eax).toInt) ∧
       exec .cwd s = answer .d .edx (BitVec.ofInt 32 ((s.regs.read .d .eax).toInt / 2 ^ 32))))

/-! ## Data transfer -/

/-- MOV between registers, memory and immediate data, MOVSX and MOVZX (R330 to R333, R336, R337): the destination takes
the source, extended where it is shorter; no flag and no other byte of memory changes. XCHG, LEA and XLAT (R360, R361,
R368, R520): both operands swapped; the offset of a memory operand without an access; AL replaced by the byte of the
table at BX or EBX that it indexes. A full offset in the instruction is unsigned: one of 16 bits is zero-extended
(R267). -/
def Obligations.MovesExchangesAndAddresses : Prop :=
  (∀ x : Word, (fullOffset (.w16 x)).toNat = x.toNat) ∧ (∀ x : Dword, fullOffset (.w32 x) = x) ∧
  (∀ (s t : State) (w : Bool) (rm : RM) (r : Reg) (imm : Imm) (off : Full) (p : Place) (sp : List Nat),
     let sz := s.sizeOf w
     let src : Size := if w then .w else .b
     let full := s.opSize
     let moffs := segSpan (s.ctx.seg.getD .ds) (fullOffset off) sz.bytes
     (place sz rm true s = .ok p t →
       exec (.movRmReg w rm r) s = .next (retire s.flags.tf (t.withValue sz p (t.regs.read sz r))) ∧
       exec (.movRmImm w rm imm) s = .next (retire s.flags.tf (t.withValue sz p (immValue sz imm))) ∧
       ∀ v, sameOutside p.bytes t.mem (t.withValue sz p v).mem) ∧
     (place sz rm false s = .ok p t →
       exec (.movRegRm w r rm) s = .next (retire s.flags.tf (t.withValue sz (.reg r) (t.valueAt sz p)))) ∧
     exec (.movRegImm w r imm) s = .next (retire s.flags.tf (s.withValue sz (.reg r) (immValue sz imm))) ∧
     (moffs false s = .ok sp t →
       exec (.movAccMoffs w off) s =
         .next (retire s.flags.tf (t.withValue sz (.reg .eax) (t.valueAt sz (.mem sp))))) ∧
     (moffs true s = .ok sp t →
       exec (.movMoffsAcc w off) s = .next (retire s.flags.tf (t.withValue sz (.mem sp) (t.regs.read sz .eax))) ∧
       sameOutside sp t.mem (t.withValue sz (.mem sp) (t.regs.read sz .eax)).mem) ∧
     (place src rm false s = .ok p t →
       exec (.movsx w r rm) s =
         .next (retire s.flags.tf (t.withValue full (.reg r) (BitVec.ofInt _ (t.valueAt src p).toInt))) ∧
       exec (.movzx w r rm) s =
         .next (retire s.flags.tf (t.withValue full (.reg r) (BitVec.ofNat _ (t.valueAt src p).toNat))))) ∧
  (∀ (s t : State) (w : Bool) (rm : RM) (r : Reg) (m : Mem) (p : Place) (sg : Seg) (off : Dword) (sp : List Nat),
     let sz := s.sizeOf w
     let full := s.opSize
     let index : Dword := s.regs.ebx + (s.regs.get8 .eax).setWidth 32
     (place sz rm true s = .ok p t →
       let a := t.valueAt sz p
       let b := t.regs.read sz r
       exec (.xchgRmReg w rm r) s = .next (retire s.flags.tf ((t.withValue sz p b).withValue sz (.reg r) a)) ∧
       sameOutside p.bytes t.mem ((t.withValue sz p b).withValue sz (.reg r) a).mem) ∧
     exec (.xchgAcc r) s =
       .next (retire s.flags.tf
         ((s.withValue full (.reg .eax) (s.regs.read full r)).withValue full (.reg r) (s.regs.read full .eax))) ∧
     (effAddr m s = .ok (sg, off) t →
       exec (.lea r m) s = .next (retire s.flags.tf (t.withValue full (.reg r) (BitVec.ofNat _ off.toNat)))) ∧
     (segSpan (s.ctx.seg.getD .ds) (if s.ctx.addr32 then index else BitVec.ofNat 32 (index.toNat % 2 ^ 16)) 1 false s =
         .ok sp t →
       exec .xlat s = .next (retire s.flags.tf (t.withValue .b (.reg .eax) (t.valueAt .b (.mem sp))))))

/-! ## Operands, memory and segments -/

/-- An access of at most four bytes reads the sum of its bytes, the one at the lowest place first, each times its power
of 256 (R130), and what it stores changes no other byte. Where read/write memory answers, what is stored reads back
byte by byte and whole (R132); where read-only memory or nothing answers, a store changes nothing (D6). What answers
where is the memory map of the state (log entry 4, a design choice). -/
def Obligations.StoredBytesReadBackLittleEndian : Prop :=
  ∀ (m : Memory) (sp : List Nat) (v : Dword), sp.Nodup → sp.length ≤ 4 →
    (m.load sp).toNat = (sp.zipIdx.map fun a => (m.read a.1).toNat * 256 ^ a.2).sum ∧
    sameOutside sp m (m.store sp v) ∧
    ((∀ a, a ∈ sp → m.kindAt a = some .ram) →
      ((m.store sp v).load sp).toNat = v.toNat % 256 ^ sp.length ∧
      ∀ k a, sp[k]? = some a → (m.store sp v).read a = v.extractLsb' (8 * k) 8) ∧
    ((∀ a, a ∈ sp → m.kindAt a = some .rom ∨ m.kindAt a = none) → m.store sp v = m)

/-- The offset and the default segment of every form of memory operand (R275 to R279), and the segment that an override
names (R280, R252). The spec takes the 16-bit wrap (R275) and the sign extension of d8 (R256) from general knowledge.
Where the index field names no register and the scale is not 1 the offset is undefined (R278), here free (log entry
32). -/
def Obligations.EffectiveAddressesAddTheirParts : Prop :=
  ∀ (s : State) (m : Mem),
    let seg (ss : Bool) : Seg := s.ctx.seg.getD (if ss then .ss else .ds)
    let gives (ss : Bool) (offset : Nat) : Prop := effAddr m s = .ok (seg ss, BitVec.ofNat 32 offset) s
    let r16 (r : Reg) : Nat := (s.regs.get r).toNat % 2 ^ 16
    let r32 (r : Reg) : Nat := (s.regs.get r).toNat
    let scale (k : Scale) (i : Option Reg) : Nat :=
      match i, k with
      | none, _ => 0
      | some r, .x1 => r32 r
      | some r, .x2 => 2 * r32 r
      | some r, .x4 => 4 * r32 r
      | some r, .x8 => 8 * r32 r
    let d16 : Disp16 → Int
      | .none => 0
      | .d8 d => d.toInt
      | .d16 d => d.toNat
    let d32 : Disp32 → Int
      | .none => 0
      | .d8 d => d.toInt
      | .d32 d => d.toNat
    match m with
    | .direct16 d => gives false d.toNat
    | .based16 b d =>
      let base : Nat × Bool :=
        match b with
        | .bxSi => (r16 .ebx + r16 .esi, false)
        | .bxDi => (r16 .ebx + r16 .edi, false)
        | .bpSi => (r16 .ebp + r16 .esi, true)
        | .bpDi => (r16 .ebp + r16 .edi, true)
        | .si => (r16 .esi, false)
        | .di => (r16 .edi, false)
        | .bp => (r16 .ebp, true)
        | .bx => (r16 .ebx, false)
      gives base.2 ((base.1 + d16 d) % 2 ^ 16).toNat
    | .direct32 d => gives false d.toNat
    | .based32 b d => gives (b == .ebp || b == .esp) ((r32 b + d32 d) % 2 ^ 32).toNat
    | .sib k i b d =>
      if i = none ∧ k ≠ .x1 then
        ∃ x, effAddr m s = .ok (seg (b == .ebp || b == .esp), x) { s with draws := s.draws + 1 }
      else gives (b == .ebp || b == .esp) ((r32 b + scale k i + d32 d) % 2 ^ 32).toNat
    | .sibDisp k i d =>
      if i = none ∧ k ≠ .x1 then ∃ x, effAddr m s = .ok (seg false, x) { s with draws := s.draws + 1 }
      else gives false (scale k i + d.toNat)

/-- An operand access of `n` bytes through a segment register without paging (R150, R164 to R168): where the access
type and every byte are within the segment the bytes are those from base plus offset, and nothing but a data
breakpoint's mark changes; else #12(0) through SS and #13(0) through the other registers. That the sum does not wrap at 4
Gbyte for data, where decision D8 counts offsets modulo 2^32, is log entry 48. -/
def Obligations.SegmentAccessesCheckTypeAndLimit : Prop :=
  ∀ (s : State) (sg : Seg) (off : Dword) (n : Nat) (write : Bool), s.unpaged → 0 < n → n ≤ 4096 →
    let r := s.segs.get sg
    let a := r.attr
    let data : Bool := a.s && !a.typ.getLsbD 3
    let code : Bool := a.s && a.typ.getLsbD 3
    let typeOk : Prop :=
      s.prot = false ∨
        (r.valid = true ∧ if write then data = true ∧ a.typ.getLsbD 1 = true
                          else data = true ∨ (code = true ∧ a.typ.getLsbD 1 = true))
    let limitOk : Prop :=
      if s.prot = true ∧ data = true ∧ a.typ.getLsbD 2 = true then
        r.limit.toNat < off.toNat ∧ off.toNat + (n - 1) ≤ (if a.db then 0xFFFFFFFF else 0xFFFF)
      else off.toNat + (n - 1) ≤ r.limit.toNat
    (typeOk ∧ limitOk →
      ∃ b, segSpan sg off n write s =
        .ok (linearBytes (r.base + off) n)
          { s with events := { s.events with traps := { s.events.traps with b := b } } }) ∧
    (¬(typeOk ∧ limitOk) →
      segSpan sg off n write s = .error (.exc (if sg = .ss then Exc.stack 0 else Exc.protection 0)) s)

/-- Finding an operand changes no register: at most translations, free values drawn and a data breakpoint's mark;
without paging memory and the TLB are the same (R326, R200). One that faults raises #12(0), #13(0) or #14 and changes
at most the translations and CR2; the instruction then takes that exception and has no other effect (R339), with the
address of the instruction to go back to and the registers as they were (R722, R723); RF in the image is decision D29.
SHLD and SHRD take it where the masked count is not 0 (R480). -/
def Obligations.OperandAccessesCompleteOrFaultWhole : Prop :=
  (∀ (s t : State) (sz : Size) (rm : RM) (write : Bool) (p : Place), place sz rm write s = .ok p t →
     accessed s t ∧ (s.unpaged → t.mem = s.mem ∧ t.paging = s.paging) ∧
     (∀ r, rm = .reg r → p = .reg r ∧ t = s) ∧ (∀ m, rm = .mem m → ∃ sp, p = .mem sp ∧ sp.length = sz.bytes)) ∧
  (∀ (s t : State) (sz : Size) (rm : RM) (write : Bool) (x : Stop), place sz rm write s = .error x t →
     (x = .exc (.stack 0) ∨ x = .exc (.protection 0) ∨ ∃ c, x = .exc (.page c)) ∧
     t = { s with mem := t.mem, sys := { s.sys with cr2 := t.sys.cr2 }, draws := t.draws
                  paging := { s.paging with tlb := t.paging.tlb } } ∧
     (s.unpaged → t = { s with draws := t.draws })) ∧
  (∀ (s t : State) (e : Exc) (d w sx : Bool) (rm : RM) (r : Reg) (imm : Imm) (n : BitVec 8) (sg : Seg),
     let raised (i : Instr) : Prop := exec i s = s.raises t e
     (place (s.sizeOf w) rm false s = .error (.exc e) t → ∀ i,
       i ∈ [Instr.addRmReg true w rm r, .orRmReg true w rm r, .adcRmReg true w rm r, .sbbRmReg true w rm r,
            .andRmReg true w rm r, .subRmReg true w rm r, .xorRmReg true w rm r, .cmpRmReg d w rm r, .cmpRmImm sx w rm imm,
            .testRmReg w rm r, .testRmImm w rm imm, .movRegRm w r rm, .mulRm w rm, .imulRm w rm, .divRm w rm,
            .idivRm w rm] → raised i) ∧
     (place (s.sizeOf w) rm true s = .error (.exc e) t → ∀ i,
       i ∈ [Instr.addRmReg false w rm r, .orRmReg false w rm r, .adcRmReg false w rm r, .sbbRmReg false w rm r,
            .andRmReg false w rm r, .subRmReg false w rm r, .xorRmReg false w rm r, .addRmImm sx w rm imm,
            .orRmImm sx w rm imm, .adcRmImm sx w rm imm, .sbbRmImm sx w rm imm, .andRmImm sx w rm imm,
            .subRmImm sx w rm imm, .xorRmImm sx w rm imm, .incRm w rm, .decRm w rm, .negRm w rm, .notRm w rm,
            .movRmReg w rm r, .movRmImm w rm imm, .xchgRmReg w rm r, .rolOne w rm, .rorCl w rm, .rclImm w rm n,
            .rcrOne w rm, .shlCl w rm, .shrImm w rm n, .sarOne w rm] → raised i) ∧
     (place s.opSize rm false s = .error (.exc e) t → ∀ i,
       i ∈ [Instr.imulRegRm r rm, .imulRegRmImm sx r rm imm, .bsf r rm, .bsr r rm, .btImm rm n, .pushRm rm, .jmpRm rm,
            .callRm rm] → raised i) ∧
     (place s.opSize rm true s = .error (.exc e) t →
       (∀ i, i ∈ [Instr.btcImm rm n, .btrImm rm n, .btsImm rm n] → raised i) ∧
       (n.toNat % 32 ≠ 0 → raised (.shldImm rm r n) ∧ raised (.shrdImm rm r n)) ∧
       ((s.regs.get8 .ecx).toNat % 32 ≠ 0 → raised (.shldCl rm r) ∧ raised (.shrdCl rm r))) ∧
     (place .b rm true s = .error (.exc e) t → ∀ i, i ∈ [Instr.sete rm, .setl rm, .setnbe rm] → raised i) ∧
     (place .w rm false s = .error (.exc e) t → raised (.movSegRm sg rm)) ∧
     (segSpan .es (if s.ctx.addr32 then s.regs.edi else BitVec.ofNat 32 (s.regs.edi.toNat % 2 ^ 16)) (s.sizeOf w).bytes true s =
         .error (.exc e) t →
       s.ctx.rep = .off → raised (.stos w)) ∧
     (claimSlot s.opSize.bytes s = .error (.exc e) t → raised (.pushReg r) ∧ raised (.pushImm sx imm)) ∧
     (peek 0 s.opSize.bytes s = .error (.exc e) t → raised (.popReg r) ∧ raised .retNear)) ∧
  (∀ (s t : State) (e : Exc),
     let back : State :=
       { s with mem := t.mem, paging := t.paging, sys := { s.sys with cr2 := t.sys.cr2 }, dregs := t.dregs, bus := t.bus
                draws := t.draws }
     s.raises t e =
       takeEvent
         { vector := e.vector, code := e.code, source := .exception, retEip := s.eip
           rf := if e.vector = 8 then s.flags.rf else true, nmi := false } back)

/-- A write to a byte or word register changes those bits alone, by the register numbers of R270 (R32, R266). -/
def Obligations.PartialRegisterWritesKeepTheOtherBits : Prop :=
  ∀ (g : Regs) (r other : Reg) (b : Byte) (v : Word) (d : Dword) (i : Nat), i < 32 →
    let home : Reg := match r with | .esp => .eax | .ebp => .ecx | .esi => .edx | .edi => .ebx | x => x
    let high : Bool := r == .esp || r == .ebp || r == .esi || r == .edi
    (g.write .b r b).read .b r = b ∧ (g.write .w r v).read .w r = v ∧ (g.write .d r d).read .d r = d ∧
    (other ≠ home → (g.write .b r b).get other = g.get other) ∧
    (¬(if high then 8 ≤ i ∧ i < 16 else i < 8) →
      ((g.write .b r b).get home).getLsbD i = (g.get home).getLsbD i) ∧
    (other ≠ r → (g.write .w r v).get other = g.get other ∧ (g.write .d r d).get other = g.get other) ∧
    (16 ≤ i → ((g.write .w r v).get r).getLsbD i = (g.get r).getLsbD i)

/-- A segment register loaded in real mode and in V86 mode (R150, R152): base sixteen times the selector; in real mode
limit and attributes stay, in V86 mode the segment is a present writable 16-bit one of 64 Kbyte at level 3. In
protected mode with paging off: DS, ES, FS and GS (R180): a null selector marks the register unusable; else the
descriptor is checked in the order of the rule, its accessed bit is set in memory, and the register holds it; SS
(R181): RPL, DPL and CPL must be the same and the segment writable data, and one not present raises #12. Where the
descriptor of a selector is (R161, R163), and what its eight bytes say of base, limit and attributes (R172 to R174):
with G = 1 the limit counts 4 Kbyte pages. -/
def Obligations.SegmentRegisterLoadsByMode : Prop :=
  (∀ (s : State) (sg : Seg) (sel : Word),
     let old := s.segs.get sg
     let base : Dword := BitVec.ofNat 32 (16 * sel.toNat)
     (s.pe = false →
       loadSeg sg sel s =
         .ok () { s with segs := s.segs.set sg
                           { sel := sel, base := base, limit := old.limit, attr := old.attr, valid := true } }) ∧
     (s.pe = true → s.flags.vm = true →
       loadSeg sg sel s =
         .ok () { s with segs := s.segs.set sg
                           { sel := sel, base := base, limit := 0xFFFF
                             attr := { p := true, dpl := 3, s := true, typ := 0b0011, g := false, db := false }
                             valid := true } })) ∧
  (∀ (s : State) (sg : Seg) (sel : Word), s.unpaged → s.prot = true → sg ≠ .ss → sg ≠ .cs →
     let code := sel &&& 0xFFFC
     let fails (e : Exc) : Prop := loadSeg sg sel s = .error (.exc e) s
     (code = 0 →
       loadSeg sg sel s = .ok () { s with segs := s.segs.set sg { s.segs.get sg with sel := sel, valid := false } }) ∧
     (code ≠ 0 → descAddr s sel = none → fails (.protection code)) ∧
     ∀ a, code ≠ 0 → descAddr s sel = some a →
       let d : Desc := descriptorAt s.mem a
       let conforming : Bool := d.attr.isCode && d.attr.typ.getLsbD 2
       let allowed : Prop :=
         conforming = true ∨ (s.sys.cpl.toNat ≤ d.attr.dpl.toNat ∧ sel.toNat % 4 ≤ d.attr.dpl.toNat)
       (d.attr.readable = false ∨ ¬allowed → fails (.protection code)) ∧
       (d.attr.readable = true → allowed → d.attr.p = false → fails (.notPresent code)) ∧
       (d.attr.readable = true → allowed → d.attr.p = true →
         loadSeg sg sel s = .ok () { s with segs := s.segs.set sg (segOfDesc sel d), mem := markAccessed s.mem a d })) ∧
  (∀ (s : State) (sel : Word), s.unpaged → s.prot = true →
     let code := sel &&& 0xFFFC
     let fails (e : Exc) : Prop := loadSeg .ss sel s = .error (.exc e) s
     (code = 0 → fails (.protection 0)) ∧
     (code ≠ 0 → descAddr s sel = none → fails (.protection code)) ∧
     ∀ a, code ≠ 0 → descAddr s sel = some a →
       let d : Desc := descriptorAt s.mem a
       let allowed : Prop := sel.toNat % 4 = s.sys.cpl.toNat ∧ d.attr.writable = true ∧ d.attr.dpl = s.sys.cpl
       (¬allowed → fails (.protection code)) ∧
       (allowed → d.attr.p = false → fails (.stack code)) ∧
       (allowed → d.attr.p = true →
         loadSeg .ss sel s = .ok () { s with segs := s.segs.set .ss (segOfDesc sel d), mem := markAccessed s.mem a d })) ∧
  (∀ (s : State) (sel : Word),
     let ldt : Bool := sel.getLsbD 2
     let base : Dword := if ldt then s.sys.ldtr.base else s.sys.gdtr.base
     let limit : Nat := if ldt then s.sys.ldtr.limit.toNat else s.sys.gdtr.limit.toNat
     let off := sel.toNat / 8 * 8
     descAddr s sel =
       if (ldt = true → s.sys.ldtr.valid = true) ∧ off + 7 ≤ limit then some (base + BitVec.ofNat 32 off) else none) ∧
  (∀ (m : Memory) (a : Dword) (sel : Word),
     let d := descriptorAt m a
     let byte (k : Nat) : Nat := (m.read ((a.toNat + k) % 2 ^ 32)).toNat
     let bit (k i : Nat) : Bool := (m.read ((a.toNat + k) % 2 ^ 32)).getLsbD i
     let units := byte 0 + 2 ^ 8 * byte 1 + 2 ^ 16 * (byte 6 % 16)
     let r := segOfDesc sel d
     r.sel = sel ∧ r.valid = true ∧ r.attr = { d.attr with typ := d.attr.typ ||| 1 } ∧
     r.base.toNat = byte 2 + 2 ^ 8 * byte 3 + 2 ^ 16 * byte 4 + 2 ^ 24 * byte 7 ∧
     r.limit.toNat = (if bit 6 7 then units * 4096 + 4095 else units) ∧
     d.attr.p = bit 5 7 ∧ d.attr.dpl.toNat = byte 5 / 32 % 4 ∧ d.attr.s = bit 5 4 ∧ d.attr.typ.toNat = byte 5 % 16 ∧
     d.attr.g = bit 6 7 ∧ d.attr.db = bit 6 6 ∧
     d.attr.isCode = (bit 5 4 && bit 5 3) ∧ d.attr.writable = (bit 5 4 && !bit 5 3 && bit 5 1) ∧
     d.attr.readable = (bit 5 4 && (!bit 5 3 || bit 5 1)))

/-- MOV to and from a segment register and the far-pointer loads (R334, R335, R397, R380 to R384): the register is
loaded as the mode says, MOV to CS raises #6 (the decoder rejects it already, log entry 56), a selector stored to a
32-bit register leaves its upper half free. The selector of a far pointer is at the offset plus the operand size modulo
2^32, not wrapped at FFFFh (DEDUCED, log entry 43). That MOV SS holds off interrupts and debug traps for one
instruction is the spec's own decision D25 (R735). -/
def Obligations.SegmentRegisterMoves : Prop :=
  ∀ (s t u a b c : State) (sg from_ : Seg) (rm : RM) (r : Reg) (m : Mem) (p : Place) (off v w : Dword),
    let full := s.opSize
    let sel := (s.segs.get sg).sel
    (place .w rm false s = .ok p t →
      (sg ≠ .cs → loadSeg sg (t.valueAt .w p) t = .ok () u →
        exec (.movSegRm sg rm) s =
          .next (retire s.flags.tf
            (if sg = .ss then { u with ctx := { u.ctx with inhibitNext := .all } } else u))) ∧
      (sg = .cs →
        exec (.movSegRm sg rm) s = takeEvent (exceptionEvent (rollback s t) .invalidOpcode) (rollback s t))) ∧
    (place .w rm true s = .ok p t → (∃ m, rm = .mem m) ∨ s.ctx.op32 = false →
      exec (.movRmSeg rm sg) s = .next (retire s.flags.tf (t.withValue .w p sel)) ∧
      sameOutside p.bytes t.mem (t.withValue .w p sel).mem) ∧
    (s.ctx.op32 = true →
      ∃ hi : Word, exec (.movRmSeg (.reg r) sg) s =
        .next (retire s.flags.tf { s.withValue .d (.reg r) (hi ++ sel) with draws := s.draws + 1 })) ∧
    ∀ load, (sg, load) ∈ [(Seg.ds, Instr.lds), (Seg.es, Instr.les), (Seg.fs, Instr.lfs), (Seg.gs, Instr.lgs),
                          (Seg.ss, Instr.lss)] →
      effAddr m s = .ok (from_, off) a → memRead from_ off full.bytes a = .ok v b →
      memRead from_ (off + BitVec.ofNat 32 full.bytes) 2 b = .ok w c → loadSeg sg (w.setWidth 16) c = .ok () u →
        exec (load r m) s = .next (retire s.flags.tf (u.withValue full (.reg r) (v.setWidth _)))

/-! ## The stack -/

/-- Where a push claims its slot and a pop reads (R264, R350, R351): below the stack top, wrapping at 64 Kbyte or 4
Gbyte by the stack size, and above it without wrap; what is taken off wraps again, and only SP changes on a 16-bit
stack. A 16-bit push that would run across offset FFFFh shuts the processor down in real mode and raises #12(0) in the
other modes; a read past the end of the stack raises #12(0) (log entry 39). -/
def Obligations.StackPointerMovesAndWraps : Prop :=
  ∀ (s t : State) (n delta : Nat) (sp : List Nat), n = 2 ∨ n = 4 →
    let wide : Bool := s.pe && !s.flags.vm && s.segs.ss.attr.db
    let size := if wide then 2 ^ 32 else 2 ^ 16
    let top := s.regs.esp.toNat % size
    let below : Dword := BitVec.ofNat 32 ((top + size - n) % size)
    let above : Dword := BitVec.ofNat 32 ((top + delta) % size)
    let crosses : Prop := wide = false ∧ 0 < top ∧ top < n
    (crosses → s.pe = false → claimSlot n s = .error .shutdown s) ∧
    (crosses → s.pe = true → claimSlot n s = .error (.exc (.stack 0)) s) ∧
    (¬crosses → segSpan .ss below n true s = .ok sp t → claimSlot n s = .ok sp (t.withTop wide below)) ∧
    (top + delta + n ≤ size → segSpan .ss (BitVec.ofNat 32 (top + delta)) n false s = .ok sp t →
      peek delta n s = .ok (Memory.load t.mem sp) t) ∧
    (size < top + delta + n → peek delta n s = .error (.exc (.stack 0)) s) ∧
    (let held : Prop :=
       top + delta ≤ size ∧ accessOk s.prot s.segs.ss false = true ∧
       limitOk s.prot s.segs.ss (BitVec.ofNat 32 top) delta = true
     (held → checkFrame delta s = .ok () s) ∧ (¬held → checkFrame delta s = .error (.exc (.stack 0)) s)) ∧
    s.above delta = above ∧ release delta s = .ok () (s.withTop wide above) ∧
    ∀ i, 16 ≤ i → (s.withTop false above).regs.esp.getLsbD i = s.regs.esp.getLsbD i

/-- PUSH and PUSHF (R352, R354, R356, R391): the value stands in the claimed slot, the stack pointer is that of the
claim, no flag, no other register and no other byte of memory changes. PUSHF pushes VM and RF as 0; a selector in a
32-bit slot has a free upper half. The image of the flags: each at its bit of EFLAGS (R38), of the reserved bits bit 1
reads 1 and the others 0 (R39, decision D9); LAHF puts its low byte in AH (R390). -/
def Obligations.PushesStoreBelowTheTop : Prop :=
  ∀ (s t u : State) (rm : RM) (r : Reg) (sx : Bool) (imm : Imm) (p : Place) (sp : List Nat),
    let sz := s.opSize
    let stored (u : State) (v : Dword) : State := { u with mem := Memory.store u.mem sp v }
    let segments := [(Seg.es, Instr.pushSeg .es), (Seg.cs, Instr.pushSeg .cs), (Seg.ss, Instr.pushSeg .ss),
                     (Seg.ds, Instr.pushSeg .ds), (Seg.fs, Instr.pushFs), (Seg.gs, Instr.pushGs)]
    (place sz rm false s = .ok p t → claimSlot sz.bytes t = .ok sp u →
      exec (.pushRm rm) s = .next (retire s.flags.tf (stored u ((t.valueAt sz p).setWidth 32)))) ∧
    (claimSlot sz.bytes s = .ok sp u →
      exec (.pushReg r) s = .next (retire s.flags.tf (stored u ((s.regs.read sz r).setWidth 32))) ∧
      exec (.pushImm sx imm) s = .next (retire s.flags.tf (stored u ((immValue sz imm).setWidth 32))) ∧
      (s.pe = false ∨ s.flags.vm = false ∨ s.flags.iopl = 3 →
        exec .pushf s =
          .next (retire s.flags.tf (stored u { s.flags with vm := false, rf := false }.image))) ∧
      (s.ctx.op32 = false → ∀ sg i, (sg, i) ∈ segments →
        exec i s = .next (retire s.flags.tf (stored u ((s.segs.get sg).sel.setWidth 32))))) ∧
    (s.ctx.op32 = true → claimSlot 4 { s with draws := s.draws + 1 } = .ok sp u → ∀ sg i, (sg, i) ∈ segments →
      ∃ hi : Word, exec i s = .next (retire s.flags.tf (stored u (hi ++ (s.segs.get sg).sel)))) ∧
    (∀ v, sameOutside sp u.mem (stored u v).mem) ∧
    exec .lahf s = .next (retire s.flags.tf (s.withValue .b (.reg .esp) (s.flags.image.extractLsb' 0 8))) ∧
    ∀ f : Flags, f.image.toNat =
      f.cf.toNat + 0x2 + 0x4 * f.pf.toNat + 0x10 * f.af.toNat + 0x40 * f.zf.toNat + 0x80 * f.sf.toNat + 0x100 * f.tf.toNat +
        0x200 * f.ie.toNat + 0x400 * f.df.toNat + 0x800 * f.ov.toNat + 0x1000 * f.iopl.toNat + 0x4000 * f.nt.toNat +
        0x10000 * f.rf.toNat + 0x20000 * f.vm.toNat

/-- POP and POPF (R353, R357, R392): the destination takes the value at the stack top, and the stack pointer moves up
by the operand size, before the address of a memory operand is computed and after a segment register is loaded. POPF
changes IF only with CPL <= IOPL and IOPL only at level 0, VM never; each flag comes from its bit of the image (R38), the
reserved bits are ignored (R39, decision D9). SAHF loads SF, ZF, AF, PF and CF from AH (R393). Choices: POP SS moves the stack pointer by the
stack size it began with (log entry 22), POPF with a 32-bit operand loads RF (decision D10), POP SS holds off
interrupts and debug traps (decision D25, R735). -/
def Obligations.PopsLoadFromTheTop : Prop :=
  ∀ (s t u : State) (rm : RM) (r : Reg) (p : Place) (v : Dword),
    let sz := s.opSize
    let n := sz.bytes
    let x : BitVec sz.bits := v.setWidth sz.bits
    let ah := s.regs.get8 .esp
    exec .sahf s =
      .next (retire s.flags.tf
        { s with flags := { s.flags with sf := ah.getLsbD 7, zf := ah.getLsbD 6, af := ah.getLsbD 4
                                         pf := ah.getLsbD 2, cf := ah.getLsbD 0 } }) ∧
    (∀ w : Dword, Flags.ofImage w =
      { cf := w.getLsbD 0, pf := w.getLsbD 2, af := w.getLsbD 4, zf := w.getLsbD 6, sf := w.getLsbD 7, tf := w.getLsbD 8
        ie := w.getLsbD 9, df := w.getLsbD 10, ov := w.getLsbD 11, iopl := w.extractLsb' 12 2, nt := w.getLsbD 14
        rf := w.getLsbD 16, vm := w.getLsbD 17 }) ∧
    (peek 0 n s = .ok v t →
      exec (.popReg r) s = .next (retire s.flags.tf ((t.popped n).withValue sz (.reg r) x)) ∧
      (place sz rm true (t.popped n) = .ok p u →
        exec (.popRm rm) s = .next (retire s.flags.tf (u.withValue sz p x)) ∧
        sameOutside p.bytes u.mem (u.withValue sz p x).mem) ∧
      (s.pe = false ∨ s.flags.vm = false ∨ s.flags.iopl = 3 →
        let cpl := if s.pe then s.sys.cpl.toNat else 0
        let b (i : Nat) : Bool := v.getLsbD i
        exec .popf s =
          .next (retire s.flags.tf
            { t.popped n with
              flags := { cf := b 0, pf := b 2, af := b 4, zf := b 6, sf := b 7, tf := b 8
                         ie := if cpl ≤ s.flags.iopl.toNat then b 9 else s.flags.ie
                         df := b 10, ov := b 11
                         iopl := if cpl = 0 then v.extractLsb' 12 2 else s.flags.iopl
                         nt := b 14
                         rf := if s.ctx.op32 then b 16 else s.flags.rf
                         vm := s.flags.vm }
              ctx := { t.ctx with ending := if s.ctx.op32 then .rfLoaded else t.ctx.ending } })) ∧
      ∀ sg i, (sg, i) ∈ [(Seg.es, Instr.popEs), (Seg.ss, Instr.popSs), (Seg.ds, Instr.popDs), (Seg.fs, Instr.popFs),
                         (Seg.gs, Instr.popGs)] →
        loadSeg sg (v.setWidth 16) t = .ok () u →
          let w := u.withTop s.stack32 (s.above n)
          exec i s =
            .next (retire s.flags.tf
              (if sg = .ss then { w with ctx := { w.ctx with inhibitNext := .all } } else w)))

/-- PUSHA and POPA without paging (R358, R359): eight slots in order, the stack pointer pushed as it was before; POPA
loads them back but for the stack pointer, whose image is skipped. PUSHA checks the whole block first: a 16-bit stack
pointer wraps from 0 to FFFEh or FFFCh between two pushes, the first push that would run across FFFFh shuts a real-mode
processor down (R350, R853) and raises #12(0) in the other modes, and so does one that the segment does not hold, with
nothing stored; that the shutdown too keeps the state before is log entry 63. A 16-bit stack pointer wraps between two
pops of POPA, and a pop that the stack or its segment does not hold raises #12(0) with no register changed (log entry
39). -/
def Obligations.PushAllAndPopAll : Prop :=
  ∀ (s : State), s.unpaged →
    let sz := s.opSize
    let n := sz.bytes
    let wide := s.stack32
    let top := s.regs.esp.toNat % (if wide then 2 ^ 32 else 2 ^ 16)
    let g := s.regs
    let slot (off : Nat) : List Nat := linearBytes (s.segs.ss.base + BitVec.ofNat 32 off) n
    let checked (off : Nat) (write : Bool) : Prop :=
      accessOk s.prot s.segs.ss write = true ∧ limitOk s.prot s.segs.ss (BitVec.ofNat 32 off) n = true
    let noted (u : State) (b : BitVec 4) : State :=
      { u with events := { u.events with traps := { u.events.traps with b := b } } }
    let size := if wide then 2 ^ 32 else 2 ^ 16
    let below (k : Nat) : Nat := (top + size - n * k) % size
    let crosses (k : Nat) : Prop := wide = false ∧ 0 < below k ∧ below k < n
    let pushes (k : Nat) : Prop := ¬crosses k ∧ checked (below (k + 1)) true
    ((∀ k, k < 8 → pushes k) →
      ∃ b, exec .pusha s =
        .next (retire s.flags.tf
          { (noted s b).withTop wide (BitVec.ofNat 32 (below 8)) with
            mem := ([g.eax, g.ecx, g.edx, g.ebx, g.esp, g.ebp, g.esi, g.edi].zipIdx).foldl
              (fun m v => Memory.store m (slot (below (v.2 + 1))) v.1) s.mem })) ∧
    (∀ k, k < 8 → (∀ j, j < k → pushes j) → ¬pushes k →
      (crosses k → s.pe = false →
        exec .pusha s =
          .next { s with
            events := { s.events with activity := .shutdown, inhibit := .off, begun := .no, held := none }
            ctx := Context.idle, bus := .shutdownIndication :: s.bus }) ∧
      (¬(crosses k ∧ s.pe = false) → exec .pusha s = s.raises s (.stack 0))) ∧
    let from_ (k : Nat) : Nat := (top + n * k) % size
    ((∀ k, k < 8 → from_ k + n ≤ size ∧ checked (from_ k) false) →
      let old (r : Reg) (k : Nat) : Dword :=
        if sz = .d then Memory.load s.mem (slot (from_ k))
        else (g.get r).extractLsb' 16 16 ++ (Memory.load s.mem (slot (from_ k))).extractLsb' 0 16
      ∃ b, exec .popa s =
        .next (retire s.flags.tf
          (State.popped
            { noted s b with
              regs := { eax := old .eax 7, ecx := old .ecx 6, edx := old .edx 5, ebx := old .ebx 4, esp := g.esp
                        ebp := old .ebp 2, esi := old .esi 1, edi := old .edi 0 } } (8 * n)))) ∧
    ((∃ k, k < 8 ∧ ¬(from_ k + n ≤ size ∧ checked (from_ k) false)) → exec .popa s = s.raises s (.stack 0))

/-! ## Ports -/

/-- Port accesses. The permission (R363, R226, R227), without paging: in real mode, and in protected mode with CPL <=
IOPL, every access; else the bits of the I/O permission bitmap of a 386 TSS must be there and 0, and a 286 TSS permits
none. IN and OUT (R364 to R367), with the access permitted: the accumulator takes what the device answers or goes to
the port, and the bus shows the access. Choices: what a device answers is a free value (log entry 6), ports F8h to FFh
run like any other (log entry 7), ports past FFFFh stop the model (log entry 8), the bitmap check reads the bytes of
the tested bits alone (decision D20). -/
def Obligations.PortAccessesArePermittedAndMade : Prop :=
  (∀ (s : State) (port : Word) (n : Nat), s.unpaged → n ≤ 4 →
     let tr := s.sys.tr
     let free : Prop := s.pe = false ∨ (s.flags.vm = false ∧ s.sys.cpl.toNat ≤ s.flags.iopl.toNat)
     let tss286 : Prop := tr.attr.s = false ∧ (tr.attr.typ = 0x1 ∨ tr.attr.typ = 0x3)
     let base := (Memory.load s.mem (linearBytes (tr.base + 0x66) 2)).toNat
     let bitClear (p : Nat) : Prop :=
       base + p / 8 ≤ tr.limit.toNat ∧
       (Memory.load s.mem (linearBytes (tr.base + BitVec.ofNat 32 (base + p / 8)) 1)).getLsbD (p % 8) = false
     let permitted : Prop := free ∨ (¬tss286 ∧ ∀ k, k < n → bitClear (port.toNat + k))
     (permitted → ioCheck port n s = .ok () s) ∧
     (¬permitted → ioCheck port n s = .error (.exc (.protection 0)) s)) ∧
  (∀ (s t : State) (w : Bool) (imm : BitVec 8) (port : Word) (input output : Instr),
     (port, input, output) ∈ [(imm.setWidth 16, Instr.inImm w imm, Instr.outImm w imm),
                              (s.regs.edx.setWidth 16, Instr.inDx w, Instr.outDx w)] →
     let sz := s.sizeOf w
     let n := sz.bytes
     ioCheck port n s = .ok () t →
       (port.toNat + n ≤ 2 ^ 16 →
         (∃ v : BitVec sz.bits, exec input s =
           .next (retire s.flags.tf
             { t.withValue sz (.reg .eax) v with
               draws := t.draws + 1, bus := .ioRead port n (v.setWidth 32) :: t.bus })) ∧
         exec output s =
           .next (retire s.flags.tf
             { t with bus := .ioWrite port n ((t.regs.read sz .eax).setWidth 32) :: t.bus })) ∧
       (2 ^ 16 < port.toNat + n → exec input s = .fault .ioPortWrap ∧ exec output s = .fault .ioPortWrap))

/-! ## Flags, modes and privilege -/

/-- The instructions on single flags, and NOP (R385 to R389, R394, R395, R672): the opcode byte decodes to the
instruction, and the one flag or bit changes and nothing else. CLI needs IOPL, CLTS level 0; where they are denied they
raise #13(0), with IF and CR0.TS as they were. -/
def Obligations.FlagInstructionsChangeTheirFlag : Prop :=
  (∀ (d32 : Bool) (rest : List Byte),
     decode d32 (0xF8 :: rest) = .ok (.clc, 1) ∧ decode d32 (0xF9 :: rest) = .ok (.stc, 1) ∧
     decode d32 (0xF5 :: rest) = .ok (.cmc, 1) ∧ decode d32 (0xFC :: rest) = .ok (.cld, 1) ∧
     decode d32 (0xFD :: rest) = .ok (.std, 1) ∧ decode d32 (0xFA :: rest) = .ok (.cli, 1) ∧
     decode d32 (0x90 :: rest) = .ok (.nop, 1) ∧ decode d32 (0x0F :: 0x06 :: rest) = .ok (.clts, 2)) ∧
  (∀ (s : State),
     let next (t : State) : Host.Outcome State Fault Refusal := .next (retire s.flags.tf t)
     let f := s.flags
     let io : Prop := s.pe = false ∨ (if f.vm then f.iopl = 3 else s.sys.cpl.toNat ≤ f.iopl.toNat)
     let level0 : Prop := s.pe = false ∨ (f.vm = false ∧ s.sys.cpl = 0)
     exec .clc s = next { s with flags := { f with cf := false } } ∧
     exec .stc s = next { s with flags := { f with cf := true } } ∧
     exec .cmc s = next { s with flags := { f with cf := !f.cf } } ∧
     exec .cld s = next { s with flags := { f with df := false } } ∧
     exec .std s = next { s with flags := { f with df := true } } ∧
     exec .nop s = next s ∧
     (io → exec .cli s = next { s with flags := { f with ie := false } }) ∧
     (¬io → exec .cli s = s.raises s (.protection 0)) ∧
     (level0 → exec .clts s = next { s with sys := { s.sys with cr0 := s.sys.cr0 &&& ~~~8 } }) ∧
     (¬level0 → exec .clts s = s.raises s (.protection 0)))

/-- Instructions denied by mode or level take an exception and have no other effect: #6 for the protected-mode
instructions in real and V86 mode, before any privilege test (R689); #13(0) for the privileged instructions outside
level 0 (R842, R388, R660, R663) and for the IOPL-sensitive ones (R387, R788). -/
def Obligations.DeniedInstructionsTakeAnException : Prop :=
  ∀ (s : State) (i : Instr) (rm : RM) (r : Reg) (m : Mem) (cr : CReg) (dr : DReg) (tr : TReg) (n : BitVec 8),
    let f := s.flags
    (s.pe = false ∨ f.vm = true →
      i ∈ [Instr.arpl rm r, .lar r rm, .lsl r rm, .verr rm, .verw rm, .sldt rm, .str rm, .lldt rm, .ltr rm] →
      exec i s = s.raises s .invalidOpcode) ∧
    (s.pe = true → f.vm = true ∨ s.sys.cpl ≠ 0 →
      i ∈ [Instr.clts, .hlt, .lgdt m, .lidt m, .lmsw rm, .movCrReg cr r, .movRegCr r cr, .movDrReg dr r, .movRegDr r dr,
           .movTrReg tr r, .movRegTr r tr] →
      exec i s = s.raises s (.protection 0)) ∧
    (s.pe = true → f.vm = false → s.sys.cpl ≠ 0 → i ∈ [Instr.lldt rm, .ltr rm] →
      exec i s = s.raises s (.protection 0)) ∧
    (s.pe = true → (if f.vm then f.iopl ≠ 3 else f.iopl.toNat < s.sys.cpl.toNat) → i ∈ [Instr.cli, .sti] →
      exec i s = s.raises s (.protection 0)) ∧
    (s.pe = true → f.vm = true → f.iopl ≠ 3 → i ∈ [Instr.pushf, .popf, .int n, .iret] →
      exec i s = s.raises s (.protection 0))

/-! ## Shifts and rotates -/

/-- The 21 shift and rotate forms (R470 to R477): the count is its low five bits; a count of 0 changes nothing; else
the operand takes the result, CF the last bit moved out, OF is defined by a count of 1 alone, and the shifts write SF,
ZF and PF and leave AF free. The results are those of ShiftResultsAreArithmetic. With a count of 0 the operand is still
accessed for a write: its checks and its data breakpoint stand, which is a choice (R470, log entry 50). -/
def Obligations.ShiftsAndRotatesWriteResultAndFlags : Prop :=
  ∀ (op : ShiftOp) (one cl : Bool → RM → Instr) (imm : Bool → RM → BitVec 8 → Instr),
    (op, one, cl, imm) ∈
      [(ShiftOp.rol, Instr.rolOne, Instr.rolCl, Instr.rolImm), (ShiftOp.ror, Instr.rorOne, Instr.rorCl, Instr.rorImm),
       (ShiftOp.rcl, Instr.rclOne, Instr.rclCl, Instr.rclImm), (ShiftOp.rcr, Instr.rcrOne, Instr.rcrCl, Instr.rcrImm),
       (ShiftOp.shl, Instr.shlOne, Instr.shlCl, Instr.shlImm), (ShiftOp.shr, Instr.shrOne, Instr.shrCl, Instr.shrImm),
       (ShiftOp.sar, Instr.sarOne, Instr.sarCl, Instr.sarImm)] →
    ∀ (s t : State) (w : Bool) (rm : RM) (n : BitVec 8) (p : Place),
      let sz := s.sizeOf w
      let rotate : Bool := op == .rol || op == .ror || op == .rcl || op == .rcr
      let after (count : Nat) : State :=
        let c := count % 32
        let r := shifted op (t.valueAt sz p) s.flags.cf c
        let f := if rotate then t.flags else t.flags.szp r.value
        let free := (if r.cf = none then [StatusFlag.cf] else []) ++ (if c = 1 then [] else [StatusFlag.ov]) ++
          (if rotate then [] else [StatusFlag.af])
        if c = 0 then t
        else freeFlags free { t.withValue sz p r.value with
                              flags := { f with cf := r.cf.getD f.cf, ov := if c = 1 then r.ov else f.ov } }
      place sz rm true s = .ok p t →
        exec (one w rm) s = .next (retire s.flags.tf (after 1)) ∧
        exec (cl w rm) s = .next (retire s.flags.tf (after (s.regs.get8 .ecx).toNat)) ∧
        exec (imm w rm n) s = .next (retire s.flags.tf (after n.toNat)) ∧
        ∀ c, sameOutside p.bytes t.mem (after c).mem

/-- The results of the shifts and rotates by 1 to 31 in terms of numbers (R471 to R477): a rotate through carry turns
the operand with CF on top of it; OF of a count of 1 tells a change of sign, for SHR the old sign, for SAR it is 0. -/
def Obligations.ShiftResultsAreArithmetic : Prop :=
  ∀ (sz : Size) (x : BitVec sz.bits) (cf : Bool) (c : Nat), 0 < c → c < 32 →
    let n := sz.bits
    let r (op : ShiftOp) := shifted op x cf c
    let k := c % n
    let j := c % (n + 1)
    let y := x.toNat + 2 ^ n * cf.toNat
    let wide (op : ShiftOp) (v : Nat) : Prop :=
      ∃ b : Bool, (r op).cf = some b ∧ (r op).value.toNat + 2 ^ n * b.toNat = v
    let top (op : ShiftOp) := (r op).value.msb
    (r .rol).value.toNat = x.toNat * 2 ^ k % 2 ^ n + x.toNat / 2 ^ (n - k) ∧
    (r .rol).cf = some ((r .rol).value.getLsbD 0) ∧
    (r .ror).value.toNat = x.toNat / 2 ^ k + x.toNat * 2 ^ (n - k) % 2 ^ n ∧
    (r .ror).cf = some (top .ror) ∧
    wide .rcl (y * 2 ^ j % 2 ^ (n + 1) + y / 2 ^ (n + 1 - j)) ∧
    wide .rcr (y / 2 ^ j + y * 2 ^ (n + 1 - j) % 2 ^ (n + 1)) ∧
    (r .shl).value.toNat = x.toNat * 2 ^ c % 2 ^ n ∧
    (r .shl).cf = (if c ≤ n then some (x.getLsbD (n - c)) else none) ∧
    (r .shr).value.toNat = x.toNat / 2 ^ c ∧
    (r .shr).cf = (if c ≤ n then some (x.getLsbD (c - 1)) else none) ∧
    (r .sar).value.toInt = x.toInt / 2 ^ c ∧
    (r .sar).cf = some (decide (x.toInt / 2 ^ (c - 1) % 2 = 1)) ∧
    (c = 1 →
      (∀ op b, op = ShiftOp.rol ∨ op = .rcl ∨ op = .shl → (r op).cf = some b → (r op).ov = (top op ^^ b)) ∧
      (∀ op, op = ShiftOp.ror ∨ op = .rcr → (r op).ov = (top op ^^ (r op).value.getLsbD (n - 2))) ∧
      (r .shr).ov = x.msb ∧ (r .sar).ov = false)

/-- SHLD and SHRD by an immediate count and by CL (R480, R481): the operand takes the high or the low part of the
operand and the register shifted as one; a count of 0 changes nothing and finds no operand, above the operand size the
result and all flags are free. -/
def Obligations.DoubleShiftsMoveBitsOfTheRegisterIn : Prop :=
  ∀ (s t : State) (rm : RM) (r : Reg) (n : BitVec 8) (p : Place),
    let sz := s.opSize
    let forms : List (Nat × Instr × Instr) :=
      [(n.toNat, .shldImm rm r n, .shrdImm rm r n), ((s.regs.get8 .ecx).toNat, .shldCl rm r, .shrdCl rm r)]
    (∀ (count : Nat) (shld shrd : Instr), (count, shld, shrd) ∈ forms → count % 32 = 0 →
      exec shld s = .next (retire s.flags.tf s) ∧ exec shrd s = .next (retire s.flags.tf s)) ∧
    (place sz rm true s = .ok p t →
      let x := t.valueAt sz p
      let y := t.regs.read sz r
      let bits := sz.bits
      let done (z : BitVec sz.bits) (cf : Bool) (c : Nat) : State :=
        freeFlags ((if c = 1 then [] else [StatusFlag.ov]) ++ [.af])
          { t.withValue sz p z with
            flags := { t.flags.szp z with cf := cf, ov := if c = 1 then z.msb ^^ x.msb else t.flags.ov } }
      let left (c : Nat) : State :=
        done (BitVec.ofNat bits ((x.toNat * 2 ^ bits + y.toNat) * 2 ^ c / 2 ^ bits)) (x.getLsbD (bits - c)) c
      let right (c : Nat) : State :=
        done (BitVec.ofNat bits ((y.toNat * 2 ^ bits + x.toNat) / 2 ^ c)) (x.getLsbD (c - 1)) c
      ∀ (count : Nat) (shld shrd : Instr), (count, shld, shrd) ∈ forms →
        let c := count % 32
        (0 < c → c ≤ bits →
          exec shld s = .next (retire s.flags.tf (left c)) ∧ exec shrd s = .next (retire s.flags.tf (right c))) ∧
        (bits < c → ∀ i, i = shld ∨ i = shrd → ∃ v : BitVec sz.bits,
          exec i s = .next (retire s.flags.tf
            (freeFlags allStatus { t.withValue sz p v with draws := t.draws + 1 }))) ∧
        ∀ z cf k, sameOutside p.bytes t.mem (done z cf k).mem)

/-! ## Strings -/

/-- One element of each string instruction (R510, R511, R513 to R519): the source through DS or the override at SI or
ESI, the destination at ES:DI or EDI, the flags of a comparison, and the index registers moved by the element size as
DF says. That what a port answers is a free value (log entry 6) and that ports F8h to FFh run like any other (log entry
7) are the model's choices. -/
def Obligations.StringElementsMoveTheirIndexes : Prop :=
  ∀ (s t u : State) (w : Bool) (v x : Dword) (sp : List Nat),
    let sz := s.sizeOf w
    let n := sz.bytes
    let at_ (i : Dword) : Dword := if s.ctx.addr32 then i else BitVec.ofNat 32 (i.toNat % 2 ^ 16)
    let moved (i : Dword) : Dword :=
      let d : Int := if s.flags.df then -n else n
      if s.ctx.addr32 then BitVec.ofInt 32 (i.toInt + d)
      else i.extractLsb' 16 16 ++ BitVec.ofInt 16 (i.toInt + d)
    let si (a : State) : State := { a with regs := { a.regs with esi := moved a.regs.esi } }
    let di (a : State) : State := { a with regs := { a.regs with edi := moved a.regs.edi } }
    let source := memRead (s.ctx.seg.getD .ds) (at_ s.regs.esi) n
    let target := at_ s.regs.edi
    let val (v : Dword) : BitVec sz.bits := v.setWidth sz.bits
    let acc (a : State) := a.regs.read sz .eax
    let stored (a : State) (v : Dword) : State := { a with mem := Memory.store a.mem sp v }
    let port : Word := s.regs.edx.extractLsb' 0 16
    let does (element : Exec Unit) (i : Instr) (a : State) : Prop :=
      element s = .ok () a ∧ (s.ctx.rep = .off → exec i s = .next (retire s.flags.tf a))
    (source s = .ok v t →
      does (lodsElement w) (.lods w) (si (t.withValue sz (.reg .eax) (val v))) ∧
      (segSpan .es target n true t = .ok sp u →
        does (movsElement w) (.movs w) (di (si (stored u ((val v).setWidth 32))))) ∧
      (memRead .es target n t = .ok x u →
        does (cmpsElement w) (.cmps w) (di (si { u with flags := u.flags.sub (val v) (val x) false })))) ∧
    (memRead .es target n s = .ok v t →
      does (scasElement w) (.scas w) (di { t with flags := t.flags.sub (acc t) (val v) false })) ∧
    (segSpan .es target n true s = .ok sp t →
      does (stosElement w) (.stos w) (di (stored t ((acc t).setWidth 32)))) ∧
    (ioCheck port n s = .ok () t → port.toNat + n ≤ 2 ^ 16 →
      (segSpan .es target n true t = .ok sp u → ∃ a : BitVec sz.bits,
        does (insElement w) (.ins w)
          (di (stored { u with draws := u.draws + 1, bus := .ioRead port n (a.setWidth 32) :: u.bus } (a.setWidth 32)))) ∧
      (source t = .ok v u →
        does (outsElement w) (.outs w) (si { u with bus := .ioWrite port n ((val v).setWidth 32) :: u.bus }))) ∧
    ∀ a v, sameOutside sp a.mem (stored a v).mem

/-- Repetition (R512): with a count of 0 nothing happens; else one element is done and the count goes down by one; the
instruction is then over with a count of 0, or where the zero flag ends a repeated CMPS or SCAS; otherwise it is the
next instruction again, as it was decoded. The elements are those of StringElementsMoveTheirIndexes; that a step is one
element is the model's choice (log entry 29). -/
def Obligations.RepeatPrefixesRepeatByTheCount : Prop :=
  ∀ (k : Rep) (row plain : Bool → Instr) (element : Bool → Exec Unit) (compares : Bool),
    (k, row, plain, element, compares) ∈
      [(Rep.rep, Instr.repInsF3, Instr.ins, insElement, false), (Rep.repne, Instr.repInsF2, Instr.ins, insElement, false),
       (Rep.rep, Instr.repLodsF3, Instr.lods, lodsElement, false),
       (Rep.repne, Instr.repLodsF2, Instr.lods, lodsElement, false),
       (Rep.rep, Instr.repMovsF3, Instr.movs, movsElement, false),
       (Rep.repne, Instr.repMovsF2, Instr.movs, movsElement, false),
       (Rep.rep, Instr.repOutsF3, Instr.outs, outsElement, false),
       (Rep.repne, Instr.repOutsF2, Instr.outs, outsElement, false),
       (Rep.rep, Instr.repStosF3, Instr.stos, stosElement, false),
       (Rep.repne, Instr.repStosF2, Instr.stos, stosElement, false),
       (Rep.rep, Instr.repeCmps, Instr.cmps, cmpsElement, true), (Rep.repne, Instr.repneCmps, Instr.cmps, cmpsElement, true),
       (Rep.rep, Instr.repeScas, Instr.scas, scasElement, true),
       (Rep.repne, Instr.repneScas, Instr.scas, scasElement, true)] →
    ∀ (s t : State) (w : Bool),
      let s' : State := { s with ctx := { s.ctx with rep := k } }
      let count (a : State) : Nat := if a.ctx.addr32 then a.regs.ecx.toNat else a.regs.ecx.toNat % 2 ^ 16
      let left : State :=
        { t with regs := { t.regs with
            ecx := if s.ctx.addr32 then t.regs.ecx - 1
                   else t.regs.ecx.extractLsb' 16 16 ++ (t.regs.ecx.extractLsb' 0 16 - 1) } }
      let ends : Prop := count left = 0 ∨ (compares = true ∧ left.flags.zf = decide (k = .repne))
      let again : State := { left with ctx := { left.ctx with nextEip := s.eip, ending := .unfinished .rep } }
      ∀ (i : Instr) (s₀ : State), (i, s₀) ∈ [(row w, s), (plain w, s')] →
        (count s = 0 → exec i s₀ = .next (retire s.flags.tf s')) ∧
        (count s ≠ 0 → element w s' = .ok () t →
          (ends → exec i s₀ = .next (retire s.flags.tf left)) ∧
          (¬ends → exec i s₀ = .next (retire s.flags.tf again) ∧ (retire s.flags.tf again).eip = s.eip ∧
            (retire s.flags.tf again).events.held = s.ctx.code))

/-! ## Bits -/

/-- BSF and BSR (R540, R541): the register takes the index of the lowest or of the highest 1 bit and ZF is 0; for a
zero operand ZF is 1 and the register is free; the other five flags are free. BT, BTC, BTR and BTS (R542 to R545): CF
takes the selected bit, which is then complemented, reset or set, and the other five flags are free; an immediate
offset, and one of a register operand, counts modulo the operand size; with an offset in a register a bit string in
memory extends both ways from the operand's address. -/
def Obligations.BitInstructionsFindAndChangeBits : Prop :=
  (∀ (s t : State) (r : Reg) (rm : RM) (p : Place),
     let sz := s.opSize
     let done (u : State) (v : BitVec sz.bits) (z : Bool) : State :=
       freeFlags [.cf, .ov, .sf, .af, .pf] { u.withValue sz (.reg r) v with flags := { u.flags with zf := z } }
     place sz rm false s = .ok p t →
       let x := t.valueAt sz p
       (∀ k, x.getLsbD k = true → (∀ j, j < k → x.getLsbD j = false) →
         exec (.bsf r rm) s = .next (retire s.flags.tf (done t (BitVec.ofNat _ k) false))) ∧
       (∀ k, x.getLsbD k = true → (∀ j, k < j → x.getLsbD j = false) →
         exec (.bsr r rm) s = .next (retire s.flags.tf (done t (BitVec.ofNat _ k) false))) ∧
       (x = 0 → ∀ i, i = Instr.bsf r rm ∨ i = .bsr r rm → ∃ v,
         exec i s = .next (retire s.flags.tf (done { t with draws := t.draws + 1 } v true)))) ∧
  (∀ (imm : RM → BitVec 8 → Instr) (reg : RM → Reg → Instr) (change : Option (Bool → Bool)),
     (imm, reg, change) ∈ [(Instr.btImm, Instr.btReg, none), (Instr.btcImm, Instr.btcReg, some fun b => !b),
                           (Instr.btrImm, Instr.btrReg, some fun _ => false),
                           (Instr.btsImm, Instr.btsReg, some fun _ => true)] →
     ∀ (s t a : State) (rm : RM) (m : Mem) (r q : Reg) (n : BitVec 8) (p : Place) (sg : Seg) (off : Dword) (sp : List Nat),
       let sz := s.opSize
       let done (u : State) (p : Place) (k : Nat) : State :=
         let x := u.valueAt sz p
         let b := x.getLsbD k
         let v :=
           match change with
           | none => u
           | some f => u.withValue sz p (if f b then x ||| (1#_ <<< k) else x &&& ~~~(1#_ <<< k))
         freeFlags [.ov, .sf, .zf, .af, .pf] { v with flags := { v.flags with cf := b } }
       let o := (s.regs.read sz r).toInt
       let d := sz.bytes * (o / sz.bits)
       let far : Dword :=
         if s.ctx.addr32 then BitVec.ofInt 32 (off.toNat + d) else BitVec.ofInt 32 ((off.toNat + d) % 2 ^ 16)
       (place sz rm change.isSome s = .ok p t →
         exec (imm rm n) s = .next (retire s.flags.tf (done t p (n.toNat % sz.bits)))) ∧
       exec (reg (.reg q) r) s =
         .next (retire s.flags.tf (done s (.reg q) ((s.regs.read sz r).toNat % sz.bits))) ∧
       (effAddr m s = .ok (sg, off) a → segSpan sg far sz.bytes change.isSome a = .ok sp t →
         exec (reg (.mem m) r) s = .next (retire s.flags.tf (done t (.mem sp) (o % sz.bits).toNat))) ∧
       ∀ u p k, sameOutside p.bytes u.mem (done u p k).mem)

/-! ## Transfers within the segment -/

/-- The sixteen conditions of the tttn field (R285, whose flag expressions the spec takes from general knowledge) select
in Jcc and in SETcc (R566, R620): a taken jump goes to the next instruction's offset plus the displacement, in 16 bits
with a 16-bit operand size (R561), and raises #13(0) beyond the limit of CS (R560; both partly from general knowledge);
a jump not taken changes nothing; SETcc stores the byte 1 or 0. -/
def Obligations.ConditionsSelectJumpAndByte : Prop :=
  ∀ (short : BitVec 8 → Instr) (near : Full → Instr) (set : RM → Instr) (holds : Flags → Bool),
    (short, near, set, holds) ∈
      [(Instr.joShort, Instr.joNear, Instr.seto, fun f => f.ov), (Instr.jnoShort, Instr.jnoNear, Instr.setno, fun f => !f.ov),
       (Instr.jbShort, Instr.jbNear, Instr.setb, fun f => f.cf), (Instr.jnbShort, Instr.jnbNear, Instr.setnb, fun f => !f.cf),
       (Instr.jeShort, Instr.jeNear, Instr.sete, fun f => f.zf), (Instr.jneShort, Instr.jneNear, Instr.setne, fun f => !f.zf),
       (Instr.jbeShort, Instr.jbeNear, Instr.setbe, fun f => f.cf || f.zf),
       (Instr.jnbeShort, Instr.jnbeNear, Instr.setnbe, fun f => !(f.cf || f.zf)),
       (Instr.jsShort, Instr.jsNear, Instr.sets, fun f => f.sf), (Instr.jnsShort, Instr.jnsNear, Instr.setns, fun f => !f.sf),
       (Instr.jpShort, Instr.jpNear, Instr.setp, fun f => f.pf), (Instr.jnpShort, Instr.jnpNear, Instr.setnp, fun f => !f.pf),
       (Instr.jlShort, Instr.jlNear, Instr.setl, fun f => f.sf != f.ov),
       (Instr.jnlShort, Instr.jnlNear, Instr.setnl, fun f => f.sf == f.ov),
       (Instr.jleShort, Instr.jleNear, Instr.setle, fun f => f.zf || (f.sf != f.ov)),
       (Instr.jnleShort, Instr.jnleNear, Instr.setnle, fun f => !f.zf && (f.sf == f.ov))] →
    ∀ (s t : State) (d8 : BitVec 8) (d16 : BitVec 16) (d32 : BitVec 32) (rm : RM) (p : Place) (i : Instr) (d : Int),
      let target : Nat := ((s.ctx.nextEip.toNat + d) % (if s.ctx.op32 then 2 ^ 32 else 2 ^ 16)).toNat
      let goes : State := { s with ctx := { s.ctx with nextEip := BitVec.ofNat 32 target } }
      ((i, d) ∈ [(short d8, d8.toInt), (near (.w16 d16), d16.toInt), (near (.w32 d32), d32.toInt)] →
        (holds s.flags = false → exec i s = .next (retire s.flags.tf s)) ∧
        (holds s.flags = true → target ≤ s.segs.cs.limit.toNat → exec i s = .next (retire s.flags.tf goes)) ∧
        (holds s.flags = true → s.segs.cs.limit.toNat < target → exec i s = s.raises s (.protection 0))) ∧
      (place .b rm true s = .ok p t →
        exec (set rm) s = .next (retire s.flags.tf (t.withValue .b p (if holds s.flags then 1 else 0))) ∧
        sameOutside p.bytes t.mem (t.withValue .b p (if holds s.flags then 1 else 0)).mem)

/-- JMP within the segment, JCXZ and LOOP (R560 to R564, R567 to R570): the count register is CX or ECX by the address
size, LOOP takes one off it and jumps while it is not 0 (and ZF says so); a target beyond the limit of CS raises #13(0)
with the count as it was. CALL and RET within the segment (R571 to R573): the target is checked, the offset of the next
instruction goes on the stack; RET takes the offset off the stack, and its immediate more bytes. -/
def Obligations.NearTransfers : Prop :=
  (∀ (s t : State) (d8 : BitVec 8) (d16 : BitVec 16) (d32 : BitVec 32) (rm : RM) (p : Place) (i : Instr) (d : Int),
     let wide := s.ctx.addr32
     let target (d : Int) : Nat := ((s.ctx.nextEip.toNat + d) % (if s.ctx.op32 then 2 ^ 32 else 2 ^ 16)).toNat
     let ends (u : State) (x : Nat) : Host.Outcome State Fault Refusal :=
       if x ≤ s.segs.cs.limit.toNat then
         .next (retire s.flags.tf { u with ctx := { u.ctx with nextEip := BitVec.ofNat 32 x } })
       else s.raises u (.protection 0)
     let left : State :=
       { s with regs := { s.regs with
           ecx := if wide then s.regs.ecx - 1
                  else s.regs.ecx.extractLsb' 16 16 ++ (s.regs.ecx.extractLsb' 0 16 - 1) } }
     let count (a : State) : Nat := if wide then a.regs.ecx.toNat else a.regs.ecx.toNat % 2 ^ 16
     ((i, d) ∈ [(Instr.jmpShort d8, d8.toInt), (.jmpNear (.w16 d16), d16.toInt), (.jmpNear (.w32 d32), d32.toInt)] →
       exec i s = ends s (target d)) ∧
     (place s.opSize rm false s = .ok p t → exec (.jmpRm rm) s = ends t (t.valueAt s.opSize p).toNat) ∧
     exec (.jcxz d8) s = (if count s = 0 then ends s (target d8.toInt) else .next (retire s.flags.tf s)) ∧
     ∀ i more, (i, more) ∈ [(Instr.loop d8, true), (.loopz d8, s.flags.zf), (.loopnz d8, !s.flags.zf)] →
       exec i s = (if count left ≠ 0 ∧ more = true then ends left (target d8.toInt) else .next (retire s.flags.tf left))) ∧
  (∀ (s t u : State) (d16 : BitVec 16) (d32 : BitVec 32) (n : BitVec 16) (rm : RM) (p : Place) (sp : List Nat) (v : Dword)
     (i : Instr) (d : Int),
     let sz := s.opSize
     let target : Nat := ((s.ctx.nextEip.toNat + d) % (if s.ctx.op32 then 2 ^ 32 else 2 ^ 16)).toNat
     let fits (x : Nat) : Prop := x ≤ s.segs.cs.limit.toNat
     let calls (x : Nat) : Host.Outcome State Fault Refusal :=
       .next (retire s.flags.tf
         { u with mem := Memory.store u.mem sp s.ctx.nextEip, ctx := { u.ctx with nextEip := BitVec.ofNat 32 x } })
     ((i, d) ∈ [(Instr.callNear (.w16 d16), d16.toInt), (.callNear (.w32 d32), d32.toInt)] →
       (fits target → claimSlot sz.bytes s = .ok sp u → exec i s = calls target) ∧
       (¬fits target → exec i s = s.raises s (.protection 0))) ∧
     (place sz rm false s = .ok p t →
       (fits (t.valueAt sz p).toNat → claimSlot sz.bytes t = .ok sp u → exec (.callRm rm) s = calls (t.valueAt sz p).toNat) ∧
       (¬fits (t.valueAt sz p).toNat → exec (.callRm rm) s = s.raises t (.protection 0))) ∧
     (peek 0 sz.bytes s = .ok v t → ∀ i extra, (i, extra) ∈ [(Instr.retNear, 0), (.retNearImm n, n.toNat)] →
       let w := t.popped (sz.bytes + extra)
       (fits v.toNat → exec i s = .next (retire s.flags.tf { w with ctx := { w.ctx with nextEip := v } })) ∧
       (¬fits v.toNat → exec i s = s.raises t (.protection 0))) ∧
     ∀ x, sameOutside sp u.mem (Memory.store u.mem sp x))

/-! ## Far transfers -/

/-- Far JMP, CALL and RET in real and V86 mode (R581): the offset is checked against the limit of CS, CALL pushes CS
and the offset of the next instruction, CS is loaded as R150 and R152 say, and execution goes on at the offset; of a
selector pushed as a doubleword the upper half is free. CALL makes its pushes one after the other, and the first that
does not pass stops it, with an exception or a shutdown. Choices: the selector of a pointer in memory is at the offset
plus the operand size modulo 2^32, not wrapped at FFFFh (DEDUCED, log entry 43); a shutdown at the second push keeps
the state before the CALL (log entry 63). -/
def Obligations.RealFarTransfersLoadCs : Prop :=
  ∀ (s a b c u w : State) (p : FarPtr) (m : Mem) (n : BitVec 16) (sg : Seg) (o off sel : Dword) (sp sp' : List Nat),
    s.prot = false →
    let k := s.opSize.bytes
    let limit := s.segs.cs.limit.toNat
    let cs (sel : Word) : SegReg :=
      let base : Dword := BitVec.ofNat 32 (16 * sel.toNat)
      if s.pe then
        { sel := sel, base := base, limit := 0xFFFF, valid := true
          attr := { p := true, dpl := 3, s := true, typ := 0b0011, g := false, db := false } }
      else { s.segs.cs with sel := sel, base := base, valid := true }
    let goes (u : State) (sel : Word) (off : Dword) : State :=
      { u with segs := { u.segs with cs := cs sel }, ctx := { u.ctx with nextEip := off } }
    let drawn (u : State) : State := if s.ctx.op32 then { u with draws := u.draws + 1 } else u
    let jumps (i : Instr) (c : State) (sel : Word) (off : Dword) : Prop :=
      if off.toNat ≤ limit then exec i s = .next (retire s.flags.tf (goes c sel off))
      else exec i s = s.raises c (.protection 0)
    let calls (i : Instr) (c : State) (sel : Word) (off : Dword) : Prop :=
      (limit < off.toNat → exec i s = s.raises c (.protection 0)) ∧
      (off.toNat ≤ limit →
        (∀ x y, claimSlot k (drawn c) = .error x y → exec i s = afterStop s x y) ∧
        (claimSlot k (drawn c) = .ok sp u →
          (∀ x y, claimSlot k u = .error x y → exec i s = afterStop s x y) ∧
          (claimSlot k u = .ok sp' w →
            ∃ hi : Word, exec i s =
              .next (retire s.flags.tf
                { goes w sel off with
                  mem := Memory.store (Memory.store w.mem sp (hi ++ s.segs.cs.sel)) sp' s.ctx.nextEip }))))
    jumps (.jmpFar p) s p.sel (fullOffset p.off) ∧ calls (.callFar p) s p.sel (fullOffset p.off) ∧
    (effAddr m s = .ok (sg, o) a → memRead sg o k a = .ok off b → memRead sg (o + BitVec.ofNat 32 k) 2 b = .ok sel c →
      jumps (.jmpFarMem m) c (sel.setWidth 16) off ∧ calls (.callFarMem m) c (sel.setWidth 16) off) ∧
    (peek 0 k s = .ok off a → peek k 2 a = .ok sel b →
      ∀ i extra, (i, extra) ∈ [(Instr.retFar, 0), (.retFarImm n, n.toNat)] →
        jumps i (if off.toNat ≤ limit then b.popped (2 * k + extra) else b) (sel.setWidth 16) off)

/-- Far JMP and CALL to a code segment, direct and through memory, and far RET to one of the same level, in protected
mode without paging (R582 to R584, R595): the descriptor's checks in their order, its accessed bit set in memory, and
CS with CPL as the RPL of its selector; a CALL without room for its two pushes raises #12(0). Choices: the selector of
a pointer in memory is at the offset plus the operand size modulo 2^32, not wrapped at FFFFh (DEDUCED, log entry 43),
the accessed bit is set before the two pushes of CALL are stored (log entry 35), the stack region of RET does not wrap
at FFFFh (log entry 39), and room for the pushes is counted on both sides of a wrap at 0 (log entry 58). Gates, tasks
and returns to an outer level have statements of their own. -/
def Obligations.ProtectedFarTransfersCheckTheDescriptor : Prop :=
  ∀ (s a b c u w : State) (p : FarPtr) (m : Mem) (sg : Seg) (o at_ off sel : Dword) (sp sp' : List Nat), s.prot = true → s.unpaged →
    let k := s.opSize.bytes
    let cpl := s.sys.cpl
    let goes (u : State) (sel : Word) (d : Desc) (off : Dword) : State :=
      { u with segs := { u.segs with cs := segOfDesc ((sel &&& 0xFFFC) ||| cpl.setWidth 16) d }
               mem := markAccessed u.mem at_ d, ctx := { u.ctx with nextEip := off } }
    let target (jmp call : Instr) (c : State) (sel : Word) (off : Dword) : Prop :=
      let code := sel &&& 0xFFFC
      let d := descriptorAt c.mem at_
      let conforming : Bool := d.attr.typ.getLsbD 2
      let allowed : Prop :=
        if conforming then d.attr.dpl.toNat ≤ cpl.toNat else sel.toNat % 4 ≤ cpl.toNat ∧ d.attr.dpl = cpl
      let drawn : State := if s.ctx.op32 then { c with draws := c.draws + 1 } else c
      let fails (e : Exc) : Prop := exec jmp s = s.raises c e ∧ exec call s = s.raises c e
      (code = 0 → fails (.protection 0)) ∧
      (code ≠ 0 → descAddr s sel = none → fails (.protection code)) ∧
      (code ≠ 0 → descAddr s sel = some at_ → d.attr.s = true → d.attr.typ.getLsbD 3 = false →
        fails (.protection code)) ∧
      (code ≠ 0 → descAddr s sel = some at_ → d.attr.s = true → d.attr.typ.getLsbD 3 = true →
        (¬allowed → fails (.protection code)) ∧
        (allowed → d.attr.p = false → fails (.notPresent code)) ∧
        (allowed → d.attr.p = true → d.limit.toNat < off.toNat → fails (.protection 0)) ∧
        (allowed → d.attr.p = true → off.toNat ≤ d.limit.toNat →
          exec jmp s = .next (retire s.flags.tf (goes c sel d off)) ∧
          (checkPushes 2 k (stackPtr c) drawn ≠ .ok () drawn → exec call s = s.raises drawn (.stack 0)) ∧
          (checkPushes 2 k (stackPtr c) drawn = .ok () drawn → claimSlot k drawn = .ok sp u → claimSlot k u = .ok sp' w →
            ∃ hi : Word, exec call s =
              .next (retire s.flags.tf
                { goes w sel d off with
                  mem := Memory.store (Memory.store (markAccessed w.mem at_ d) sp (hi ++ s.segs.cs.sel)) sp'
                    s.ctx.nextEip }))))
    let returns : Prop :=
      let d := descriptorAt s.mem at_
      checkFrame (2 * k) s = .ok () s → peek 0 k s = .ok off a → peek k 2 a = .ok sel b →
        let sel16 : Word := sel.setWidth 16
        let code := sel16 &&& 0xFFFC
        let level : Prop := if d.attr.typ.getLsbD 2 then d.attr.dpl.toNat ≤ sel16.toNat % 4 else d.attr.dpl.toNat = sel16.toNat % 4
        let good : Prop := d.attr.s = true ∧ d.attr.typ.getLsbD 3 = true ∧ cpl.toNat ≤ sel16.toNat % 4 ∧ level
        ∀ n : BitVec 16, ∀ i extra, (i, extra) ∈ [(Instr.retFar, 0), (.retFarImm n, n.toNat)] →
          (code = 0 → exec i s = s.raises b (.protection 0)) ∧
          (code ≠ 0 → descAddr s sel16 = none → exec i s = s.raises b (.protection code)) ∧
          (code ≠ 0 → descAddr s sel16 = some at_ →
            (¬good → exec i s = s.raises b (.protection code)) ∧
            (good → d.attr.p = false → exec i s = s.raises b (.notPresent code)) ∧
            (good → d.attr.p = true → sel16.toNat % 4 = cpl.toNat →
              (d.limit.toNat < off.toNat → exec i s = s.raises b (.protection 0)) ∧
              (off.toNat ≤ d.limit.toNat →
                exec i s = .next (retire s.flags.tf (goes (b.popped (2 * k + extra)) sel16 d off)))))
    target (.jmpFar p) (.callFar p) s p.sel (fullOffset p.off) ∧
    (effAddr m s = .ok (sg, o) a → memRead sg o k a = .ok off b → memRead sg (o + BitVec.ofNat 32 k) 2 b = .ok sel c →
      target (.jmpFarMem m) (.callFarMem m) c (sel.setWidth 16) off) ∧
    returns ∧
    (checkFrame (2 * k) s ≠ .ok () s → ∀ n : BitVec 16, ∀ i, i = Instr.retFar ∨ i = .retFarImm n → exec i s = s.raises s (.stack 0))

/-- Far JMP and CALL, direct and through memory, through a call gate in protected mode without paging (R576, R578, R590
to R592): the checks on the gate and on the code segment that it names, in their order. At the caller's level CS:EIP
comes from the gate, and CALL pushes CS and EIP by the gate's size. To an inner level JMP raises #13; CALL takes the
stack of that level from the TSS, checks it, and pushes there the old SS and ESP, the parameters from the old stack in
their order, CS and EIP. Without room for the pushes CALL raises #12(0). Choices: the selector of a pointer in memory
is at the offset plus the operand size modulo 2^32, not wrapped at FFFFh (DEDUCED, log entry 43), the accessed bits are
set before the pushes are stored (log entry 35), the upper half of a pushed CS is free (log entry 27), a parameter past
FFFFh of a 16-bit stack raises #12(0) (log entry 39), and room for the pushes is counted on both sides of a wrap at 0
(log entry 58). -/
def Obligations.CallGatesEnterTheirTarget : Prop :=
  ∀ (s r : State) (jmpFar callFar : Instr) (sel : Word) (o ga ca sa : Dword), s.prot = true → s.unpaged →
    s.farPointer r jmpFar callFar sel o → sel &&& 0xFFFC ≠ 0 → descAddr r sel = some ga →
    let g := descriptorAt r.mem ga
    g.attr.s = false → g.attr.typ.toNat % 8 = 4 →
    let cpl := r.sys.cpl
    let gate := sel &&& 0xFFFC
    let wide : Bool := g.attr.typ.getLsbD 3
    let n := if wide then 4 else 2
    let count := (g.hi.extractLsb' 0 5).toNat
    let csel : Word := g.lo.extractLsb' 16 16
    let code := csel &&& 0xFFFC
    let off : Dword := if wide then g.hi.extractLsb' 16 16 ++ g.lo.extractLsb' 0 16 else BitVec.ofNat 32 (g.lo.toNat % 2 ^ 16)
    let c := descriptorAt r.mem ca
    let jmp := exec jmpFar s
    let call := exec callFar s
    let fails (e : Exc) : Prop := jmp = s.raises r e ∧ call = s.raises r e
    let open_ : Prop := cpl.toNat ≤ g.attr.dpl.toNat ∧ sel.toNat % 4 ≤ g.attr.dpl.toNat
    let target : Prop := c.attr.s = true ∧ c.attr.typ.getLsbD 3 = true ∧ c.attr.dpl.toNat ≤ cpl.toNat
    let fits : Prop := off.toNat ≤ c.limit.toNat
    let draws := if wide then r.draws + 1 else r.draws
    let enters (u : State) (l : BitVec 2) (b : BitVec 4) (mem : Memory) : Host.Outcome State Fault Refusal :=
      .next (retire s.flags.tf
        { u with
          mem := mem
          segs := { u.segs with cs := segOfDesc (code ||| l.setWidth 16) c }
          events := { u.events with traps := { u.events.traps with b := b } }
          ctx := { u.ctx with nextEip := off } })
    (¬open_ → fails (.protection gate)) ∧
    (open_ → g.attr.p = false → fails (.notPresent gate)) ∧
    (open_ → g.attr.p = true → code = 0 → fails (.protection 0)) ∧
    (open_ → g.attr.p = true → code ≠ 0 → descAddr r csel = none → fails (.protection code)) ∧
    (open_ → g.attr.p = true → code ≠ 0 → descAddr r csel = some ca →
      let same : Prop := c.attr.typ.getLsbD 2 = true ∨ c.attr.dpl = cpl
      (¬target → fails (.protection code)) ∧
      (target → c.attr.p = false → fails (.notPresent code)) ∧
      (target → c.attr.p = true → same →
        let drawn : State := { r with draws := draws }
        (fits → jmp = enters r cpl r.events.traps.b (markAccessed r.mem ca c)) ∧
        (¬fits → jmp = s.raises r (.protection 0)) ∧
        (checkPushes 2 n (stackPtr r) r ≠ .ok () r → call = s.raises drawn (.stack 0)) ∧
        (checkPushes 2 n (stackPtr r) r = .ok () r →
          (fits → ∃ (hi : Word) (b : BitVec 4), call =
            enters (drawn.withTop r.stack32 (r.below (2 * n))) cpl b
              (r.pushed n [hi ++ r.segs.cs.sel, r.ctx.nextEip] (markAccessed r.mem ca c))) ∧
          (¬fits → call = s.raises drawn (.protection 0)))) ∧
      (target → c.attr.p = true → ¬same →
        let l := c.attr.dpl
        jmp = s.raises r (.protection code) ∧
        (r.tssEntry l = none → call = s.raises r (.invalidTss (r.sys.tr.sel &&& 0xFFFC))) ∧
        ∀ ssel ptr, r.tssEntry l = some (ssel, ptr) →
          let stack := ssel &&& 0xFFFC
          let d := descriptorAt r.mem sa
          let good : Prop := ssel.toNat % 4 = l.toNat ∧ d.attr.writable = true ∧ d.attr.dpl = l
          (stack = 0 → call = s.raises r (.invalidTss 0)) ∧
          (stack ≠ 0 → descAddr r ssel = none → call = s.raises r (.invalidTss stack)) ∧
          (stack ≠ 0 → descAddr r ssel = some sa →
            (¬good → call = s.raises r (.invalidTss stack)) ∧
            (good → d.attr.p = false → call = s.raises r (.stack stack)) ∧
            (good → d.attr.p = true →
              let u : State := r.onInnerStack l ssel d ptr
              let held (i : Nat) : Prop :=
                (stackPtr r).toNat + i * n + n ≤ stackEnd r ∧ accessOk r.prot r.segs.ss false = true ∧
                limitOk r.prot r.segs.ss (r.above (i * n)) n = true
              (checkPushes (4 + count) n (stackPtr u) u ≠ .ok () u → call = s.raises r (.stack 0)) ∧
              (checkPushes (4 + count) n (stackPtr u) u = .ok () u →
                (¬fits → call = s.raises r (.protection 0)) ∧
                (fits → (∃ i, i < count ∧ ¬held i) → call = s.raises r (.stack 0)) ∧
                (fits → (∀ i, i < count → held i) →
                  let params := (List.range count).map fun i => r.stacked (i * n) n
                  let drawn : State := { u with draws := draws }
                  ∃ (hi : Word) (b : BitVec 4), call =
                    enters (drawn.withTop u.stack32 (u.below (n * (4 + count)))) l b
                      (u.pushed n
                        ([r.segs.ss.sel.setWidth 32, r.regs.esp] ++ params.reverse ++ [hi ++ r.segs.cs.sel, r.ctx.nextEip])
                        (markAccessed (markAccessed r.mem sa d) ca c))))))))

/-- The task switch (R593, R652, R758, R795 to R798) without paging. The limit of the new TSS is checked (decision
D30); the old task's registers go into its TSS, the busy bits and the back link are changed, TR and TS set; then the
new task's image is loaded: CR3, flags, registers, selectors, LDTR, then the descriptors, with local breakpoints off
and the T bit raising its trap (R825). JMP and CALL, direct and through memory, to a TSS and through a task gate, and
interrupts through a task gate (INT n, INT 3 and INTO among them), check the gate and the TSS and switch; a fault after
the switch is taken in the new task. Choices: the selector of a pointer in memory is at the offset plus the operand
size modulo 2^32, not wrapped at FFFFh (DEDUCED, log entry 43), every page is translated before anything is stored (log
entry 30), CPL is 3 as soon as flags with VM are loaded (log entry 23), the upper halves of registers stay where a 286
TSS is loaded (log entry 33), NMI clears IF in the new task (log entry 41), an old descriptor that the GDT does not
reach stays as it is (log entry 66); with T = 1 and EIP beyond the limit the #13 comes first (log entry 42). -/
def Obligations.TaskSwitchesSaveAndLoadTasks : Prop :=
  (∀ (s : State) (tsel : Word) (t : Desc) (kind : SwitchKind) (ret : Dword), s.unpaged →
     let old := s.sys.tr
     let newWide : Bool := t.attr.typ.getLsbD 3
     let nests : Prop := kind = .call ∨ kind = .int
     let g := s.regs
     let flags : Dword := { s.flags with nt := if kind = SwitchKind.iret then false else s.flags.nt }.image
     let sel (sg : Seg) : Dword := (s.segs.get sg).sel.setWidth 32
     let field (base : Dword) (k n : Nat) : List Nat := linearBytes (base + BitVec.ofNat 32 k) n
     let saved : List (Nat × Nat × Dword) :=
       if old.attr.typ.getLsbD 3 then
         [(0x20, 4, ret), (0x24, 4, flags), (0x28, 4, g.eax), (0x2C, 4, g.ecx), (0x30, 4, g.edx), (0x34, 4, g.ebx),
          (0x38, 4, g.esp), (0x3C, 4, g.ebp), (0x40, 4, g.esi), (0x44, 4, g.edi), (0x48, 2, sel .es), (0x4C, 2, sel .cs),
          (0x50, 2, sel .ss), (0x54, 2, sel .ds), (0x58, 2, sel .fs), (0x5C, 2, sel .gs)]
       else
         [(0x0E, 2, ret), (0x10, 2, flags), (0x12, 2, g.eax), (0x14, 2, g.ecx), (0x16, 2, g.edx), (0x18, 2, g.ebx),
          (0x1A, 2, g.esp), (0x1C, 2, g.ebp), (0x1E, 2, g.esi), (0x20, 2, g.edi), (0x22, 2, sel .es), (0x24, 2, sel .cs),
          (0x26, 2, sel .ss), (0x28, 2, sel .ds)]
     let busy (m : Memory) (x : Word) (f : Dword → Dword) : Memory :=
       match descAddr s x with
       | none => m
       | some a => m.store (linearBytes (a + 5) 1) (f (m.load (linearBytes (a + 5) 1)))
     let m1 := saved.foldl (fun m v => m.store (field old.base v.1 v.2.1) v.2.2) s.mem
     let m2 := if nests then m1.store (field t.base 0 2) (old.sel.setWidth 32) else busy m1 old.sel fun v => v &&& 0xFD
     let m3 := if kind = .iret then m2 else busy m2 tsel fun v => v ||| 2
     let word (k : Nat) : Word := (m3.load (field t.base k 2)).setWidth 16
     let wide (k : Nat) : Dword := m3.load (field t.base k 4)
     let half (k : Nat) : Dword := m3.load (field t.base k 2)
     let img : TaskImage :=
       if newWide then
         { cr3 := some (wide 0x1C), eip := wide 0x20, flags := wide 0x24, ldt := word 0x60
           regs := [wide 0x28, wide 0x2C, wide 0x30, wide 0x34, wide 0x38, wide 0x3C, wide 0x40, wide 0x44]
           segs := [word 0x48, word 0x4C, word 0x50, word 0x54, word 0x58, word 0x5C]
           t := (m3.load (field t.base 0x64 1)).getLsbD 0 }
       else
         { cr3 := none, eip := half 0x0E, flags := half 0x10, ldt := word 0x2A
           regs := [half 0x12, half 0x14, half 0x16, half 0x18, half 0x1A, half 0x1C, half 0x1E, half 0x20]
           segs := [word 0x22, word 0x24, word 0x26, word 0x28, 0, 0], t := false }
     let task : SegReg :=
       { sel := tsel, base := t.base, limit := t.limit, attr := { t.attr with typ := t.attr.typ ||| 2 }, valid := true }
     let v : State := { s with mem := m3, sys := { s.sys with tr := task, cr0 := s.sys.cr0 ||| 8 } }
     let least := if newWide then 0x65 else 0x2B
     (t.limit.toNat < least → taskSwitch tsel t kind ret s = .error (.exc (.invalidTss (tsel &&& 0xFFFC))) s) ∧
     (least ≤ t.limit.toNat → taskSwitch tsel t kind ret s = mapStop inNewTask (resumeTask img newWide kind) v)) ∧
  (∀ (v r1 r2 r3 r4 r5 r6 r7 : State) (img : TaskImage) (wide : Bool) (kind : SwitchKind) (a c d b sp bp si di : Dword)
     (es cs ss ds fs gs : Word), img.regs = [a, c, d, b, sp, bp, si, di] → img.segs = [es, cs, ss, ds, fs, gs] →
     let f := Flags.ofImage (if wide then img.flags else img.flags &&& 0xFFFF)
     let cr3 : Dword := match img.cr3 with | some x => x &&& 0xFFFFF000 | none => v.sys.cr3
     let half (x y : Dword) : Dword := if wide then y else x.extractLsb' 16 16 ++ y.extractLsb' 0 16
     let g := v.regs
     let empty (r : SegReg) (x : Word) : SegReg := { r with sel := x, valid := false }
     let r0 : State :=
       { v with
         eip := img.eip
         flags := { f with nt := f.nt || (kind == .call || kind == .int) }
         regs := { eax := half g.eax a, ecx := half g.ecx c, edx := half g.edx d, ebx := half g.ebx b, esp := half g.esp sp
                   ebp := half g.ebp bp, esi := half g.esi si, edi := half g.edi di }
         segs := { es := empty v.segs.es es, cs := empty v.segs.cs cs, ss := empty v.segs.ss ss, ds := empty v.segs.ds ds
                   fs := empty v.segs.fs fs, gs := empty v.segs.gs gs }
         sys := { v.sys with cr3 := cr3, ldtr := empty v.sys.ldtr img.ldt, cpl := if f.vm then 3 else v.sys.cpl }
         dregs := { v.dregs with dr7 := v.dregs.dr7 &&& 0xFFFFFEAA }
         paging := { v.paging with
           tlb := if cr3 = v.sys.cr3 then v.paging.tlb else v.paging.tlb.map fun e => { e with valid := false } }
         ctx := { v.ctx with nextEip := img.eip } }
     let trap (r : State) : State := { r with events := { r.events with traps := { r.events.traps with bt := r.events.traps.bt || img.t } } }
     let v86 (x : Word) : SegReg :=
       { sel := x, base := BitVec.ofNat 32 (16 * x.toNat), limit := 0xFFFF, valid := true
         attr := { p := true, dpl := 3, s := true, typ := 0b0011, g := false, db := false } }
     loadTaskLdt img.ldt r0 = .ok () r1 →
       (f.vm = true →
         resumeTask img wide kind v =
           .ok () (trap { r1 with
             segs := { es := v86 es, cs := v86 cs, ss := v86 ss, ds := v86 ds, fs := v86 fs, gs := v86 gs }
             sys := { r1.sys with cpl := 3 } })) ∧
       (f.vm = false → loadTaskCode cs r1 = .ok () r2 →
         loadStackSeg ss r2.sys.cpl (.invalidTss (ss &&& 0xFFFC)) .invalidTss r2 = .ok () r3 →
         loadDataSeg .ds ds .invalidTss r3 = .ok () r4 → loadDataSeg .es es .invalidTss r4 = .ok () r5 →
         loadDataSeg .fs fs .invalidTss r5 = .ok () r6 → loadDataSeg .gs gs .invalidTss r6 = .ok () r7 →
         resumeTask img wide kind v = .ok () (trap r7))) ∧
  (∀ (r : State) (sel : Word) (at_ : Dword), r.unpaged →
     let code := sel &&& 0xFFFC
     let bad := Stop.exc (.invalidTss code)
     let d := descriptorAt r.mem at_
     let ldt : Prop := d.attr.s = false ∧ d.attr.typ = 2 ∧ d.attr.p = true
     let l : BitVec 2 := sel.extractLsb' 0 2
     let u : State := { r with sys := { r.sys with cpl := l } }
     let level : Prop := if d.attr.typ.getLsbD 2 then d.attr.dpl.toNat ≤ l.toNat else d.attr.dpl = l
     let good : Prop := d.attr.s = true ∧ d.attr.typ.getLsbD 3 = true ∧ level
     (code = 0 → loadTaskLdt sel r = .ok () r ∧ loadTaskCode sel r = .error bad u) ∧
     (code ≠ 0 → sel.getLsbD 2 = true → loadTaskLdt sel r = .error bad r) ∧
     (code ≠ 0 → descAddr r sel = none → loadTaskLdt sel r = .error bad r ∧ loadTaskCode sel r = .error bad u) ∧
     (code ≠ 0 → descAddr r sel = some at_ →
       (sel.getLsbD 2 = false → ¬ldt → loadTaskLdt sel r = .error bad r) ∧
       (sel.getLsbD 2 = false → ldt →
         loadTaskLdt sel r =
           .ok () { r with sys := { r.sys with
             ldtr := { sel := sel, base := d.base, limit := d.limit, attr := d.attr, valid := true } } }) ∧
       (¬good → loadTaskCode sel r = .error bad u) ∧
       (good → d.attr.p = false → loadTaskCode sel r = .error (.exc (.notPresent code)) u) ∧
       (good → d.attr.p = true →
         loadTaskCode sel r =
           .ok () { u with mem := markAccessed r.mem at_ d, segs := { u.segs with cs := segOfDesc sel d } }))) ∧
  (∀ (s r : State) (jmpFar callFar : Instr) (sel : Word) (o da ta : Dword), s.prot = true → s.unpaged →
     s.farPointer r jmpFar callFar sel o → sel &&& 0xFFFC ≠ 0 → descAddr r sel = some da →
     let code := sel &&& 0xFFFC
     let d := descriptorAt r.mem da
     let a := d.attr
     let tsel : Word := d.lo.extractLsb' 16 16
     let named := tsel &&& 0xFFFC
     let t := descriptorAt r.mem ta
     a.s = false → ∀ i kind, (i, kind) ∈ [(jmpFar, SwitchKind.jmp), (callFar, .call)] →
       let fails (e : Exc) : Prop := exec i s = s.raises r e
       let open_ : Prop := r.sys.cpl.toNat ≤ a.dpl.toNat ∧ sel.toNat % 4 ≤ a.dpl.toNat
       let switches (x : Word) (t : Desc) : Prop :=
         (∀ u, taskSwitch x t kind r.ctx.nextEip r = .ok () u →
           (u.eip.toNat ≤ u.segs.cs.limit.toNat →
             exec i s = .next (retire s.flags.tf { u with ctx := { u.ctx with ending := .rfLoaded } })) ∧
           (u.segs.cs.limit.toNat < u.eip.toNat → exec i s = takeEvent (exceptionEvent u (.protection 0)) u)) ∧
         (∀ e u, taskSwitch x t kind r.ctx.nextEip r = .error (.exc e) u → exec i s = s.raises u e) ∧
         (∀ e u, taskSwitch x t kind r.ctx.nextEip r = .error (.excInNewTask e) u →
           exec i s = takeEvent (exceptionEvent u e) u)
       (a.typ.toNat ∉ [1, 4, 5, 9, 12] → fails (.protection code)) ∧
       (a.typ.toNat ∈ [1, 5, 9] → ¬open_ → fails (.protection code)) ∧
       (a.typ.toNat ∈ [1, 5, 9] → open_ → a.p = false → fails (.notPresent code)) ∧
       (a.typ.toNat ∈ [1, 9] → open_ → a.p = true →
         (sel.getLsbD 2 = true → fails (.protection code)) ∧ (sel.getLsbD 2 = false → switches sel d)) ∧
       (a.typ = 5 → open_ → a.p = true →
         (tsel.getLsbD 2 = true ∨ named = 0 ∨ descAddr r tsel = none → fails (.protection named)) ∧
         (tsel.getLsbD 2 = false → named ≠ 0 → descAddr r tsel = some ta →
           let tss : Prop := t.attr.s = false ∧ t.attr.typ.toNat ∈ [1, 9]
           (¬tss → fails (.protection named)) ∧ (tss → t.attr.p = false → fails (.notPresent named)) ∧
           (tss → t.attr.p = true → switches tsel t)))) ∧
  (∀ (s u x : State) (nested : Bool) (ev : Event) (ta : Dword) (sp : List Nat), s.pe = true → s.unpaged →
     let g := descriptorAt s.mem (s.sys.idtr.base + BitVec.ofNat 32 (8 * ev.vector.toNat))
     let tsel : Word := g.lo.extractLsb' 16 16
     let t := descriptorAt s.mem ta
     let n := if t.attr.typ.getLsbD 3 then 4 else 2
     let w : State := { u with flags := { u.flags with ie := u.flags.ie && !ev.nmi } }
     let drawn : State := if t.attr.typ.getLsbD 3 then { w with draws := w.draws + 1 } else w
     let kept (x : State) : State := { x with events := { x.events with traps := { x.events.traps with b := s.events.traps.b } } }
     let done (x : State) : State := { kept x with ctx := { x.ctx with ending := .vectored } }
     8 * ev.vector.toNat + 7 ≤ s.sys.idtr.limit.toNat → g.attr.s = false → g.attr.typ = 5 →
     (ev.source = .software → s.sys.cpl.toNat ≤ g.attr.dpl.toNat) → g.attr.p = true → tsel &&& 0xFFFC ≠ 0 →
     tsel.getLsbD 2 = false → descAddr s tsel = some ta → t.attr.s = false → t.attr.typ.toNat ∈ [1, 9] → t.attr.p = true →
     taskSwitch tsel t .int ev.retEip { s with flags := { s.flags with rf := ev.rf } } = .ok () u →
       (u.eip.toNat ≤ u.segs.cs.limit.toNat →
         (ev.code = none →
           deliver nested ev s = .ok () (done w) ∧ ∀ i, s.interrupts i ev → exec i s = .next (retire s.flags.tf (done w))) ∧
         (∀ c, ev.code = some c → claimSlot n drawn = .ok sp x →
           ∃ hi : Word, deliver nested ev s = .ok () (done { x with mem := x.mem.store sp (hi ++ c) }))) ∧
       (u.segs.cs.limit.toNat < u.eip.toNat → ev.code = none →
         deliver nested ev s = .error (.excInNewTask (.protection (ev.ext 0))) (kept w) ∧
         ∀ i, s.interrupts i ev → exec i s = takeEvent (exceptionEvent (kept w) (.protection 0)) (kept w)))

/-- ENTER and LEAVE (R622, R623): BP pushed and made the frame pointer, for a nesting level (its low five bits) above 0
the enclosing frame pointers copied and the new one pushed, and room for the local variables; LEAVE undoes it. A push
or a read that does not pass ends ENTER with its exception or with a shutdown: what ENTER has stored until then stays
in memory, and every register is as before (R622, decision D26; after a shutdown too, which is a choice: log entry 63).
On a 16-bit stack a read past FFFFh raises #12(0) whatever the limit of SS (DEDUCED from R175, log entry 54). -/
def Obligations.EnterAndLeaveBuildTheFrame : Prop :=
  (∀ (s : State) (n : BitVec 16) (level : BitVec 8),
     let sz := s.opSize
     let k := sz.bytes
     let depth := level.toNat % 32
     let bp : Dword := if s.stack32 then s.regs.ebp else BitVec.ofNat 32 (s.regs.ebp.toNat % 2 ^ 16)
     let last : Nat := if s.stack32 then 2 ^ 32 else 2 ^ 16
     let enter := exec (.enter n level) s
     let kept (y : State) : State :=
       { s with mem := y.mem, paging := y.paging, sys := { s.sys with cr2 := y.sys.cr2 }, dregs := y.dregs, bus := y.bus
                draws := y.draws }
     let ends (o : Host.Outcome State Fault Refusal) (x : Stop) (y : State) : Prop :=
       (∀ e, x = .exc e → o = takeEvent (exceptionEvent (kept y) e) (kept y)) ∧
       (x = .shutdown →
         ∃ t, o = .next t ∧ t.events.activity = .shutdown ∧ t.mem = y.mem ∧ t.regs = s.regs ∧ t.eip = s.eip ∧ t.flags = s.flags)
     (∀ x y, push sz s.regs.ebp s = .error x y → (s.unpaged → y = s) ∧ ends enter x y) ∧
     (∀ t, push sz s.regs.ebp s = .ok () t →
       let frame : Dword := t.above 0
       let done (x : State) : Host.Outcome State Fault Refusal :=
         let y := x.withValue sz (.reg .ebp) (frame.setWidth _)
         .next (retire s.flags.tf (y.withTop s.stack32 (y.below n.toNat)))
       (depth = 0 → enter = done t) ∧
       (0 < depth →
         (∀ x y, copyDisplay sz bp (depth - 1) t = .error x y → ends enter x y) ∧
         ∀ u, copyDisplay sz bp (depth - 1) t = .ok () u →
           (∀ x y, push sz frame u = .error x y → (s.unpaged → y = u) ∧ ends enter x y) ∧
           ∀ v, push sz frame u = .ok () v → enter = done v)) ∧
     (last < bp.toNat + k → exec .leave s = s.raises s (.stack 0)) ∧
     (bp.toNat + k ≤ last →
       (∀ x y, memRead .ss bp k s = .error x y → (s.unpaged → y = s) ∧ ends (exec .leave s) x y) ∧
       ∀ v t, memRead .ss bp k s = .ok v t →
         let top : Dword :=
           if s.stack32 then BitVec.ofNat 32 (bp.toNat + k) else BitVec.ofNat 32 ((bp.toNat + k) % 2 ^ 16)
         exec .leave s =
           .next (retire s.flags.tf ((t.withTop s.stack32 top).withValue sz (.reg .ebp) (v.setWidth _))))) ∧
  (∀ (sz : Size) (a : State) (ptr : Dword) (j : Nat),
     let k := sz.bytes
     let below : Dword :=
       if a.stack32 then ptr - BitVec.ofNat 32 k else BitVec.ofInt 32 (((ptr.toNat : Int) - k) % 2 ^ 16)
     let last : Nat := if a.stack32 then 2 ^ 32 else 2 ^ 16
     let copies := copyDisplay sz ptr (j + 1) a
     copyDisplay sz ptr 0 a = .ok () a ∧
     (last < below.toNat + k → copies = .error (.exc (.stack 0)) a) ∧
     (below.toNat + k ≤ last →
       (∀ x y, memRead .ss below k a = .error x y → (a.unpaged → y = a) ∧ copies = .error x y) ∧
       ∀ v b, memRead .ss below k a = .ok v b →
         (∀ x y, push sz v b = .error x y → (a.unpaged → y = b) ∧ copies = .error x y) ∧
         ∀ c, push sz v b = .ok () c → copies = copyDisplay sz below j c))

/-! ## Interrupts and exceptions -/

/-- INT n, INT 3 and INTO in real mode (R640 to R642, R746): the handler's address from the table, with FLAGS, CS and
the address of the next instruction on the stack; INTO with OF = 0 does nothing in any mode
(GatesOfTheSameLevelAreEntered and InnerGatesAndGatesFromVirtualMode have the three in the other modes). BOUND (R646):
nothing for an index within the bounds, else #5. IRET in real mode, and in V86 mode with IOPL = 3 (R648, R649): IP, CS
and FLAGS come off the stack, IF and IOPL as POPF loads them, RF only of a 32-bit image, and NMI is no longer in
service (R733). Choices: a delivery in real mode clears RF and a 16-bit IRET keeps it (decision D29, log entry 31); a
frame past FFFFh does not wrap but raises #12(0) (log entry 39); the upper bound of BOUND is at the offset plus the
operand size modulo 2^32, not wrapped at FFFFh (DEDUCED, log entry 43); a delivery in real mode does not check the
handler's offset against the limit of CS (log entry 62). -/
def Obligations.InterruptInstructionsEnterAndReturn : Prop :=
  (∀ (s a b c : State) (n : BitVec 8) (r : Reg) (m : Mem) (sg : Seg) (o lo hi : Dword),
     let sz := s.opSize
     let enters (i : Instr) (vector : Byte) : Prop :=
       s.realReady vector →
         exec i s = .next (retire s.flags.tf (s.realDelivery vector s.ctx.nextEip s.flags.rf))
     enters (.int n) n ∧ enters .int3 3 ∧ (s.flags.ov = true → enters .into 4) ∧
     (s.flags.ov = false → exec .into s = .next (retire s.flags.tf s)) ∧
     (effAddr m s = .ok (sg, o) a → memRead sg o sz.bytes a = .ok lo b →
       memRead sg (o + BitVec.ofNat 32 sz.bytes) sz.bytes b = .ok hi c →
       let i := (s.regs.read sz r).toInt
       let inside : Prop := (lo.setWidth sz.bits).toInt ≤ i ∧ i ≤ (hi.setWidth sz.bits).toInt
       (inside → exec (.bound r m) s = .next (retire s.flags.tf c)) ∧
       (¬inside → exec (.bound r m) s = s.raises c .bounds))) ∧
  (∀ (s a b c : State) (off sel img : Dword), s.prot = false → (s.pe = true → s.flags.iopl = 3) →
     let n := s.opSize.bytes
     let cpl := if s.pe then s.sys.cpl.toNat else 0
     let g := Flags.ofImage img
     let w := c.popped (3 * n)
     let sel16 : Word := sel.setWidth 16
     let base : Dword := BitVec.ofNat 32 (16 * sel16.toNat)
     checkFrame (3 * n) s = .ok () s → peek 0 n s = .ok off a → peek n 2 a = .ok sel b → peek (2 * n) n b = .ok img c →
       (off.toNat ≤ s.segs.cs.limit.toNat →
         exec .iret s =
           .next (retire s.flags.tf
             { w with
               segs := { w.segs with
                 cs := if s.pe then
                         { sel := sel16, base := base, limit := 0xFFFF, valid := true
                           attr := { p := true, dpl := 3, s := true, typ := 0b0011, g := false, db := false } }
                       else { w.segs.cs with sel := sel16, base := base, valid := true } }
               flags := { g with ie := if cpl ≤ s.flags.iopl.toNat then g.ie else s.flags.ie
                                 iopl := if cpl = 0 then g.iopl else s.flags.iopl
                                 rf := if s.ctx.op32 then g.rf else s.flags.rf
                                 vm := s.flags.vm }
               events := { w.events with nmiInService := false }
               ctx := { w.ctx with nextEip := off, ending := .rfLoaded } })) ∧
       (s.segs.cs.limit.toNat < off.toNat → exec .iret s = s.raises c (.protection 0))) ∧
  (∀ (s : State), s.prot = false → (s.pe = true → s.flags.iopl = 3) →
     checkFrame (3 * s.opSize.bytes) s ≠ .ok () s → exec .iret s = s.raises s (.stack 0))

/-- INT n and then IRET at the handler's address, in real mode with read/write memory where the frame lies: registers,
segment registers and flags are again what they were, and execution goes on behind the INT (R640, R649, R746). That RF
is then clear is decision D29 and log entry 31, and that memory answers as read/write memory is the memory map of the
state (log entry 4); the INT does not check the handler's offset against the limit of CS (log entry 62). -/
def Obligations.InterruptReturnUndoesTheInterrupt : Prop :=
  ∀ (s : State) (n : BitVec 8), s.realReady n → s.ctx.op32 = false → s.ctx.nextEip.toNat < 2 ^ 16 →
    s.ctx.nextEip.toNat ≤ s.segs.cs.limit.toNat → s.segs.cs.base = BitVec.ofNat 32 (16 * s.segs.cs.sel.toNat) →
    s.segs.cs.valid = true →
    (∀ a, a ∈ linearBytes (s.segs.ss.base + BitVec.ofNat 32 (s.regs.esp.toNat % 2 ^ 16 - 6)) 6 → s.mem.kindAt a = some .ram) →
    ∃ h t, exec (.int n) s = .next h ∧ exec .iret (begin h (.iret, 1)) = .next t ∧
      t.regs = s.regs ∧ t.segs = s.segs ∧ t.flags = { s.flags with rf := false } ∧ t.eip = s.ctx.nextEip ∧
      t.sys = s.sys ∧ t.mem = h.mem.tick

/-- Far RET to an outer level and IRET in protected mode without paging (R596, R650 to R652): the frame is verified
whole, the code segment and then the outer stack are checked in the order of the rules, flags are loaded as the level
of the IRET allows, SS and the stack pointer are the outer level's, and a data segment register that this level may not
use is nulled. With a 32-bit image that has VM set, at level 0, IRET enters V86 mode with its nine values; with NT set
it goes back to the task that the back link names. Choices: the frame does not wrap at FFFFh (log entry 39), the
accessed bits are set once every check has passed (log entry 35), a 16-bit IRET keeps RF (log entry 31), an IRET that
has switched the task and then faults in the new one leaves NMI in service (log entry 51), and where EIP of the new
task is beyond its limit the #13 comes before the trap of its T bit (log entry 42). -/
def Obligations.ReturnsInProtectedMode : Prop :=
  ∀ (s : State) (da sa : Dword), s.prot = true → s.unpaged →
    let k := s.opSize.bytes
    let cpl := s.sys.cpl
    let d := descriptorAt s.mem da
    let off := s.stacked 0 k
    let sel : Word := (s.stacked k 2).setWidth 16
    let l : BitVec 2 := sel.extractLsb' 0 2
    let code := sel &&& 0xFFFC
    let level : Prop := if d.attr.typ.getLsbD 2 then d.attr.dpl.toNat ≤ l.toNat else d.attr.dpl = l
    let good : Prop := d.attr.s = true ∧ d.attr.typ.getLsbD 3 = true ∧ cpl.toNat ≤ l.toNat ∧ level
    let fails (i : Instr) (e : Exc) : Prop := exec i s = s.raises s e
    let noted (u : State) (b : BitVec 4) : State :=
      { u with events := { u.events with traps := { u.events.traps with b := b } } }
    let outer (i : Instr) (ssel : Word) (ptr : Dword) (flags : Flags) (extra : Nat) (done : State → State) : Prop :=
      let stack := ssel &&& 0xFFFC
      let sd := descriptorAt s.mem sa
      let fit : Prop := ssel.toNat % 4 = l.toNat ∧ sd.attr.writable = true ∧ sd.attr.dpl = l
      let null (r : SegReg) : SegReg :=
        if r.valid && r.attr.s && !(r.attr.typ.getLsbD 3 && r.attr.typ.getLsbD 2) && decide (r.attr.dpl.toNat < l.toNat) then
          { r with sel := 0, valid := false }
        else r
      let u : State :=
        { s with
          flags := flags
          sys := { s.sys with cpl := l }
          regs := { s.regs with esp := if s.ctx.op32 then ptr else s.regs.esp.extractLsb' 16 16 ++ ptr.extractLsb' 0 16 }
          segs := { es := null s.segs.es, cs := segOfDesc sel d, ss := segOfDesc ssel sd, ds := null s.segs.ds
                    fs := null s.segs.fs, gs := null s.segs.gs }
          mem := markAccessed (markAccessed s.mem da d) sa sd
          ctx := { s.ctx with nextEip := off } }
      (stack = 0 → fails i (.protection 0)) ∧
      (stack ≠ 0 → descAddr s ssel = none → fails i (.protection stack)) ∧
      (stack ≠ 0 → descAddr s ssel = some sa →
        (¬fit → fails i (.protection stack)) ∧ (fit → sd.attr.p = false → fails i (.stack stack)) ∧
        (fit → sd.attr.p = true →
          (d.limit.toNat < off.toNat → fails i (.protection 0)) ∧
          (off.toNat ≤ d.limit.toNat →
            ∃ b, exec i s = .next (retire s.flags.tf (done (noted (u.popped extra) b))))))
    let iretDone (u : State) : State :=
      { u with events := { u.events with nmiInService := false }, ctx := { u.ctx with ending := .rfLoaded } }
    let img := s.stacked (2 * k) k
    let f := Flags.ofImage img
    let loaded : Flags :=
      { f with ie := if cpl.toNat ≤ s.flags.iopl.toNat then f.ie else s.flags.ie
               iopl := if cpl = 0 then f.iopl else s.flags.iopl
               rf := if s.ctx.op32 then f.rf else s.flags.rf
               vm := s.flags.vm }
    let toV86 : Prop := s.ctx.op32 = true ∧ img.getLsbD 17 = true ∧ cpl = 0
    (∀ n : BitVec 16, ∀ i extra, (i, extra) ∈ [(Instr.retFar, 0), (.retFarImm n, n.toNat)] →
      checkFrame (2 * k) s = .ok () s → code ≠ 0 → descAddr s sel = some da → good → d.attr.p = true → l ≠ cpl →
        (checkFrame (4 * k + extra) s ≠ .ok () s → fails i (.stack 0)) ∧
        (checkFrame (4 * k + extra) s = .ok () s →
          outer i ((s.stacked (3 * k + extra) 2).setWidth 16) (s.stacked (2 * k + extra) k) s.flags extra id)) ∧
    (s.flags.nt = false →
      (checkFrame (3 * k) s ≠ .ok () s → fails .iret (.stack 0)) ∧
      (checkFrame (3 * k) s = .ok () s → toV86 →
        (checkFrame 36 s ≠ .ok () s → fails .iret (.stack 0)) ∧
        (checkFrame 36 s = .ok () s →
          let v86 (x : Word) : SegReg :=
            { sel := x, base := BitVec.ofNat 32 (16 * x.toNat), limit := 0xFFFF, valid := true
              attr := { p := true, dpl := 3, s := true, typ := 0b0011, g := false, db := false } }
          let word (delta : Nat) : Word := (s.stacked delta 2).setWidth 16
          ∃ b, exec .iret s =
            .next (retire s.flags.tf (iretDone (noted
              { s with
                flags := f
                sys := { s.sys with cpl := 3 }
                regs := { s.regs with esp := s.stacked 12 4 }
                segs := { es := v86 (word 20), cs := v86 sel, ss := v86 (word 16), ds := v86 (word 24), fs := v86 (word 28)
                          gs := v86 (word 32) }
                ctx := { s.ctx with nextEip := off &&& 0xFFFF } } b))))) ∧
      (checkFrame (3 * k) s = .ok () s → ¬toV86 →
        (code = 0 → fails .iret (.protection 0)) ∧
        (code ≠ 0 → descAddr s sel = none → fails .iret (.protection code)) ∧
        (code ≠ 0 → descAddr s sel = some da →
          (¬good → fails .iret (.protection code)) ∧
          (good → d.attr.p = false → fails .iret (.notPresent code)) ∧
          (good → d.attr.p = true → l = cpl →
            (d.limit.toNat < off.toNat → fails .iret (.protection 0)) ∧
            (off.toNat ≤ d.limit.toNat →
              ∃ b, exec .iret s =
                .next (retire s.flags.tf (iretDone (noted
                  { s.popped (3 * k) with
                    flags := loaded
                    segs := { s.segs with cs := segOfDesc sel d }
                    mem := markAccessed s.mem da d
                    ctx := { s.ctx with nextEip := off } } b))))) ∧
          (good → d.attr.p = true → l ≠ cpl →
            (checkFrame (5 * k) s ≠ .ok () s → fails .iret (.stack 0)) ∧
            (checkFrame (5 * k) s = .ok () s →
              outer .iret ((s.stacked (4 * k) 2).setWidth 16) (s.stacked (3 * k) k) loaded 0 iretDone))))) ∧
    (s.flags.nt = true →
      let link : Word := (s.mem.load (linearBytes s.sys.tr.base 2)).setWidth 16
      let named := link &&& 0xFFFC
      let t := descriptorAt s.mem da
      let busy : Prop := t.attr.s = false ∧ t.attr.typ.toNat ∈ [3, 11]
      (link.getLsbD 2 = true ∨ named = 0 ∨ descAddr s link = none → fails .iret (.invalidTss named)) ∧
      (link.getLsbD 2 = false → named ≠ 0 → descAddr s link = some da →
        (¬busy → fails .iret (.invalidTss named)) ∧ (busy → t.attr.p = false → fails .iret (.notPresent named)) ∧
        (busy → t.attr.p = true →
          (∀ u, taskSwitch link t .iret s.ctx.nextEip s = .ok () u →
            (u.eip.toNat ≤ u.segs.cs.limit.toNat → exec .iret s = .next (retire s.flags.tf (iretDone u))) ∧
            (u.segs.cs.limit.toNat < u.eip.toNat → exec .iret s = takeEvent (exceptionEvent u (.protection 0)) u)) ∧
          (∀ e u, taskSwitch link t .iret s.ctx.nextEip s = .error (.exc e) u → exec .iret s = s.raises u e) ∧
          (∀ e u, taskSwitch link t .iret s.ctx.nextEip s = .error (.excInNewTask e) u →
            exec .iret s = takeEvent (exceptionEvent u e) u))))

/-- Taking an exception in real mode (R722, R746, R853): the handler of the vector begins, with the address of the
faulting instruction and the 16 bits of FLAGS on the stack; a vector beyond the table raises the double fault, and the
processor shuts down if that is beyond the table too (R780, R854). Choices: RF is cleared on entry, and no slot of the
frame holds it (decision D29, log entry 31); what a double fault saves, and the state that a shutdown keeps, are log
entry 28; the handler's offset is not checked against the limit of CS (log entry 62). -/
def Obligations.RealExceptionsEnterTheirHandler : Prop :=
  ∀ (s : State) (e : Exc),
    (s.realReady e.vector →
      takeEvent (exceptionEvent s e) s =
        .next (settle (s.realDelivery e.vector s.eip (if e.vector = 8 then s.flags.rf else true)))) ∧
    (s.pe = false → s.sys.idtr.limit.toNat < 4 * e.vector.toNat + 3 → e.vector ≠ 8 → s.realReady 8 →
      takeEvent (exceptionEvent s e) s = .next (settle (s.realDelivery 8 s.eip s.flags.rf))) ∧
    (s.pe = false → s.sys.idtr.limit.toNat < 4 * e.vector.toNat + 3 → s.sys.idtr.limit.toNat < 4 * 8 + 3 →
      takeEvent (exceptionEvent s e) s =
        .next { s with events := { s.events with activity := .shutdown, inhibit := .off, begun := .no, held := none }
                       ctx := Context.idle, bus := .shutdownIndication :: s.bus })

/-- Deliveries in protected and virtual M8086 mode without paging that fail at the IDT entry, its gate or the target of
the gate, with vector and error code (R750 to R752, R756, R758): a vector beyond the IDT limit, a wrong type, a
software interrupt with CPL above the gate's DPL, a gate that is not present; a target that is null, absent, of the
wrong kind, of a level below CPL or not present. Then delivery through an interrupt or trap gate to the same level, in
protected mode (R750 to R755): EFLAGS, CS, EIP and the error code on the stack, TF, NT, RF and VM clear, IF clear
behind an interrupt gate, CS:EIP from the gate; #12 without room for the pushes, #13 for an offset beyond the limit.
INT n, INT 3 and INTO end so (R640 to R642). Choices: the upper half of a pushed selector or error code is free (log
entry 27), the accessed bit is set before the pushes are stored (log entry 35), the image holds the RF of the event
(decision D29), a delivery matches no data breakpoint (decision D32), room for the pushes is counted on both sides of a
wrap at 0 (log entry 58). -/
def Obligations.GatesOfTheSameLevelAreEntered : Prop :=
  (∀ (s : State) (nested : Bool) (ev : Event) (at_ : Dword), s.pe = true → s.unpaged →
    let cpl := s.sys.cpl.toNat
    let entry : Word := ev.ext (BitVec.ofNat 16 (8 * ev.vector.toNat + 2))
    let g := descriptorAt s.mem (s.sys.idtr.base + BitVec.ofNat 32 (8 * ev.vector.toNat))
    let sel : Word := g.lo.extractLsb' 16 16
    let code := sel &&& 0xFFFC
    let d := descriptorAt s.mem at_
    let fails (e : Exc) : Prop :=
      deliver nested ev s = .error (.exc e) s ∧ ∀ i, s.interrupts i ev → exec i s = s.raises s e
    let held : Prop := 8 * ev.vector.toNat + 7 ≤ s.sys.idtr.limit.toNat
    let listed : Prop := g.attr.s = false ∧ g.attr.typ.toNat ∈ [5, 6, 7, 14, 15]
    let open_ : Prop := ev.source = .software → cpl ≤ g.attr.dpl.toNat
    (¬held → fails (.protection entry)) ∧
    (held → ¬listed → fails (.protection entry)) ∧
    (held → listed → ¬open_ → fails (.protection entry)) ∧
    (held → listed → open_ → g.attr.p = false → fails (.notPresent entry)) ∧
    (held → listed → open_ → g.attr.p = true → g.attr.typ = 5 →
      let tss : Prop := d.attr.s = false ∧ d.attr.typ.toNat ∈ [1, 9]
      (sel.getLsbD 2 = true ∨ code = 0 ∨ descAddr s sel = none → fails (.protection (ev.ext code))) ∧
      (sel.getLsbD 2 = false → code ≠ 0 → descAddr s sel = some at_ →
        (¬tss → fails (.protection (ev.ext code))) ∧ (tss → d.attr.p = false → fails (.notPresent (ev.ext code))))) ∧
    (held → listed → open_ → g.attr.p = true → g.attr.typ ≠ 5 →
      let target : Prop := d.attr.s = true ∧ d.attr.typ.getLsbD 3 = true ∧ d.attr.dpl.toNat ≤ cpl
      (code = 0 ∨ descAddr s sel = none → fails (.protection (ev.ext code))) ∧
      (code ≠ 0 → descAddr s sel = some at_ →
        (¬target → fails (.protection (ev.ext code))) ∧
        (target → d.attr.p = false → fails (.notPresent (ev.ext code)))))) ∧
  ∀ (s u : State) (nested : Bool) (ev : Event) (at_ : Dword) (slots : List (List Nat)), s.prot = true → s.unpaged →
    let cpl := s.sys.cpl
    let g := descriptorAt s.mem (s.sys.idtr.base + BitVec.ofNat 32 (8 * ev.vector.toNat))
    let wide : Bool := g.attr.typ.getLsbD 3
    let n := if wide then 4 else 2
    let sel : Word := g.lo.extractLsb' 16 16
    let off : Dword := if wide then g.hi.extractLsb' 16 16 ++ g.lo.extractLsb' 0 16 else BitVec.ofNat 32 (g.lo.toNat % 2 ^ 16)
    let d := descriptorAt s.mem at_
    let count := if ev.code.isSome then 4 else 3
    let drawn : State := if wide then { s with draws := s.draws + (count - 2) } else s
    8 * ev.vector.toNat + 7 ≤ s.sys.idtr.limit.toNat → g.attr.s = false → g.attr.typ.toNat % 8 = 6 ∨ g.attr.typ.toNat % 8 = 7 →
    (ev.source = .software → cpl.toNat ≤ g.attr.dpl.toNat) → g.attr.p = true → sel &&& 0xFFFC ≠ 0 →
    descAddr s sel = some at_ → d.attr.s = true → d.attr.typ.getLsbD 3 = true → d.attr.p = true →
    (if d.attr.typ.getLsbD 2 then d.attr.dpl.toNat ≤ cpl.toNat else d.attr.dpl = cpl) →
    let fails (e : Exc) : Prop :=
      deliver nested ev s = .error (.exc e) drawn ∧ ∀ i, s.interrupts i ev → exec i s = s.raises drawn e
    let room : Prop := checkPushes count n (stackPtr s) drawn = .ok () drawn
    (¬room → fails (.stack (ev.ext 0))) ∧
    (room → d.limit.toNat < off.toNat → fails (.protection (ev.ext 0))) ∧
    (room → off.toNat ≤ d.limit.toNat → claimSlots n (List.replicate count 0) drawn = .ok slots u →
      ∃ x y : Word,
        let values := [{ s.flags with rf := ev.rf }.image, x ++ s.segs.cs.sel, ev.retEip] ++
          ev.code.toList.map fun c => y ++ c
        let done : State :=
          { u with
            mem := (slots.zip values).foldl (fun m v => Memory.store m v.1 v.2) (markAccessed u.mem at_ d)
            segs := { u.segs with cs := segOfDesc ((sel &&& 0xFFFC) ||| cpl.setWidth 16) d }
            flags := { s.flags with
              tf := false, nt := false, rf := false, vm := false
              ie := s.flags.ie && g.attr.typ.getLsbD 0 && !ev.nmi }
            events := { u.events with traps := { u.events.traps with b := s.events.traps.b } }
            ctx := { u.ctx with nextEip := off, ending := .vectored } }
        deliver nested ev s = .ok () done ∧ ∀ i, s.interrupts i ev → exec i s = .next (retire s.flags.tf done))

/-- Delivery through an interrupt or trap gate to an inner level, and from V86 mode, without paging (R754, R790, R592):
the stack of the level comes from the TSS; SS, ESP, EFLAGS, CS, EIP and the error code go on it, from V86 mode after
GS, FS, DS and ES, which are then null; VM, TF, NT and RF are clear, IF too behind an interrupt gate. From V86 mode a
gate that does not lead to a non-conforming segment of level 0 raises #13 with its selector. A delivery that fails
changes nothing but the count of free values. INT n (from V86 mode with IOPL = 3), INT 3 and INTO (with any IOPL) end
as their delivery does (R640 to R642). Choices: the upper halves of pushed selectors are free (log entry 27), the
accessed bits are set before the pushes are stored (log entry 35), a 286 gate from V86 mode raises #13 with its
selector (U47, log entry 24), that code and the one for a wrong segment have EXT but for a software interrupt (log
entry 65), from V86 mode too a 16-bit inner stack takes SP alone (log entry 64), room for the pushes is counted on both
sides of a wrap at 0 (log entry 58), a delivery matches no data breakpoint (decision D32), RF in the image is decision
D29. -/
def Obligations.InnerGatesAndGatesFromVirtualMode : Prop :=
  ∀ (s : State) (nested : Bool) (ev : Event) (ca sa : Dword), s.pe = true → s.unpaged →
    let cpl := s.sys.cpl
    let v86 := s.flags.vm
    let fails (e : Exc) : Prop :=
      ∃ t, deliver nested ev s = .error (.exc e) t ∧ rollback s t = { s with draws := t.draws } ∧
        ∀ i, s.interrupts i ev → exec i s = s.raises t e
    let g := descriptorAt s.mem (s.sys.idtr.base + BitVec.ofNat 32 (8 * ev.vector.toNat))
    let wide : Bool := g.attr.typ.getLsbD 3
    let n := if wide then 4 else 2
    let sel : Word := g.lo.extractLsb' 16 16
    let off : Dword := if wide then g.hi.extractLsb' 16 16 ++ g.lo.extractLsb' 0 16 else BitVec.ofNat 32 (g.lo.toNat % 2 ^ 16)
    let d := descriptorAt s.mem ca
    let l := d.attr.dpl
    let inner : Prop := d.attr.typ.getLsbD 2 = false ∧ l.toNat < cpl.toNat
    8 * ev.vector.toNat + 7 ≤ s.sys.idtr.limit.toNat → g.attr.s = false → g.attr.typ.toNat % 8 = 6 ∨ g.attr.typ.toNat % 8 = 7 →
    (ev.source = .software → cpl.toNat ≤ g.attr.dpl.toNat) → g.attr.p = true → sel &&& 0xFFFC ≠ 0 →
    descAddr s sel = some ca → d.attr.s = true → d.attr.typ.getLsbD 3 = true → l.toNat ≤ cpl.toNat → d.attr.p = true →
      (v86 = true → ¬(inner ∧ l = 0 ∧ wide = true) →
        let e := Exc.protection (ev.ext (sel &&& 0xFFFC))
        deliver nested ev s = .error (.exc e) s ∧ ∀ i, s.interrupts i ev → exec i s = s.raises s e) ∧
      (inner → (v86 = true → l = 0 ∧ wide = true) →
        (s.tssEntry l = none → fails (.invalidTss (ev.ext (s.sys.tr.sel &&& 0xFFFC)))) ∧
        ∀ ssel ptr, s.tssEntry l = some (ssel, ptr) →
          let stack := ssel &&& 0xFFFC
          let sd := descriptorAt s.mem sa
          let fit : Prop := ssel.toNat % 4 = l.toNat ∧ sd.attr.writable = true ∧ sd.attr.dpl = l
          (stack = 0 → fails (.invalidTss (ev.ext 0))) ∧
          (stack ≠ 0 → descAddr s ssel = none → fails (.invalidTss (ev.ext stack))) ∧
          (stack ≠ 0 → descAddr s ssel = some sa →
            (¬fit → fails (.invalidTss (ev.ext stack))) ∧
            (fit → sd.attr.p = false → fails (.stack (ev.ext stack))) ∧
            (fit → sd.attr.p = true →
              let selectors := (if v86 then 6 else 2) + (if ev.code.isSome then 1 else 0)
              let count := selectors + 3
              let base : State :=
                { s with flags := { s.flags with vm := false }, draws := s.draws + (if wide then selectors else 0) }
              let u : State := base.onInnerStack l ssel sd ptr
              (checkPushes count n (stackPtr u) u ≠ .ok () u → fails (.stack (ev.ext 0))) ∧
              (checkPushes count n (stackPtr u) u = .ok () u →
                (d.limit.toNat < off.toNat → fails (.protection (ev.ext 0))) ∧
                (off.toNat ≤ d.limit.toNat →
                  ∃ h : Fin 7 → Word,
                    let segments : List Dword :=
                      if v86 then [h 0 ++ s.segs.gs.sel, h 1 ++ s.segs.fs.sel, h 2 ++ s.segs.ds.sel, h 3 ++ s.segs.es.sel] else []
                    let values := segments ++
                      [h 4 ++ s.segs.ss.sel, s.regs.esp, { s.flags with rf := ev.rf }.image, h 5 ++ s.segs.cs.sel, ev.retEip] ++
                      ev.code.toList.map fun c => h 6 ++ c
                    let null (r : SegReg) : SegReg := if v86 then { r with sel := 0, valid := false } else r
                    let done : State :=
                      { u.withTop u.stack32 (u.below (n * count)) with
                        mem := u.pushed n values (markAccessed (markAccessed s.mem sa sd) ca d)
                        segs := { cs := segOfDesc ((sel &&& 0xFFFC) ||| l.setWidth 16) d, ss := u.segs.ss
                                  es := null s.segs.es, ds := null s.segs.ds, fs := null s.segs.fs, gs := null s.segs.gs }
                        flags := { s.flags with
                          tf := false, nt := false, rf := false, vm := false
                          ie := s.flags.ie && g.attr.typ.getLsbD 0 && !ev.nmi }
                        ctx := { s.ctx with nextEip := off, ending := .vectored } }
                    deliver nested ev s = .ok () done ∧ ∀ i, s.interrupts i ev → exec i s = .next (retire s.flags.tf done))))))

/-- What follows an exception that is raised while another is delivered (R780, R855): the table of R780. After a
segment exception (10 to 13) any exception but a page fault gives the double fault, after a page fault any but a second
page fault; a second page fault is delivered once more; after a double fault, or a fault after the second page fault,
the processor shuts down with its state kept (R854); in every other case the second exception is delivered by itself.
The first delivery is undone but for what R723 lets stand, or stays where it had already switched the task. What a
shutdown keeps is log entry 28. -/
def Obligations.DoubleFaultsAndShutdown : Prop :=
  ∀ (s t r : State) (ev : Event) (x : Stop) (e : Exc), deliver false ev s = .error x t →
    let v := ev.vector.toNat
    let internal : Prop := ev.source = .exception
    let segment : Prop := 10 ≤ v ∧ v ≤ 13
    let event (r : State) (e : Exc) : Event :=
      { vector := e.vector, code := e.code, source := .exception, retEip := r.eip
        rf := if e.vector = 8 then r.flags.rf else true, nmi := false }
    let down (r : State) : Host.Outcome State Fault Refusal :=
      .next { r with
        events := { r.events with activity := .shutdown, inhibit := .off, begun := .no, held := none }
        ctx := Context.idle, bus := .shutdownIndication :: r.bus }
    let then_ (e' : Exc) : Prop := ∀ u, deliver true (event r e') r = .ok () u → takeEvent ev s = .next (settle u)
    let last (e' : Exc) : Prop :=
      ∀ y z u, deliver true (event r e') r = .error y u → y = .exc z ∨ y = .excInNewTask z →
        takeEvent ev s = down (if y = .exc z then rollback r u else u)
    (x = .shutdown → takeEvent ev s = down (rollback s t)) ∧
    ((x = .exc e ∧ r = rollback s t) ∨ (x = .excInNewTask e ∧ r = t) →
      (¬internal ∨ (v ≠ 8 ∧ v ≠ 14 ∧ ¬segment) → then_ e) ∧
      (internal → v = 8 → takeEvent ev s = down r) ∧
      (internal → segment ∨ v = 14 → e.vector = 14 → then_ e) ∧
      (internal → segment ∨ v = 14 → e.vector ≠ 14 → then_ .doubleFault ∧ last .doubleFault) ∧
      (internal → v = 14 → e.vector = 14 → last e))

/-- HLT halts the processor where the level allows it (R660, R850). NMI and INTR in real mode (R731, R733, R741, R746,
R850): each is taken between two instructions and brings a halted processor to its handler; NMI comes first, INTR needs
IF and takes the vector that the interrupt controller answers; a halted processor with neither pending stays as it is.
A shut-down processor goes on with NMI alone (R854, R855), in real mode only if the table holds its vector and SP is
above 5; if the delivery faults it shuts down again. Choices: in shutdown the NMI waits while one is in service (log
entry 44), a fault of its delivery shuts down in real mode too (log entry 61), INTR waits for the inhibit to end
(decision D25), RF is cleared on entry (decision D29, log entry 31), the handler's offset is not checked against the
limit of CS (log entry 62). -/
def Obligations.ExternalInterruptsAreTaken : Prop :=
  ∀ (s : State), s.ext.reset = false →
    let rf : Bool := s.flags.rf || decide (s.events.begun = .rep)
    let serviced : State := { s with events := { s.events with nmiPending := false, nmiInService := true } }
    let acknowledged : State := { s with bus := .intAck s.ext.intVector :: s.bus }
    let nmi : Prop := s.events.nmiPending = true ∧ s.events.nmiInService = false
    let intr : Prop := s.ext.intr = true ∧ s.flags.ie = true ∧ s.events.inhibit = .off
    (s.pe = false ∨ (s.flags.vm = false ∧ s.sys.cpl = 0) →
      exec .hlt s =
        .next (retire s.flags.tf
          { s with events := { s.events with activity := .halted }, bus := .haltIndication :: s.bus })) ∧
    (s.events.activity ≠ .shutdown → debugDue s = false →
      (nmi → s.events.inhibit ≠ .all → s.realReady 2 → step s = .next (settle (serviced.realDelivery 2 s.eip rf))) ∧
      (¬nmi → intr → s.realReady s.ext.intVector →
        step s = .next (settle (acknowledged.realDelivery s.ext.intVector s.eip rf))) ∧
      (s.events.activity = .halted → ¬nmi → ¬intr → step s = .next s)) ∧
    (s.events.activity = .shutdown →
      let delivered := deliver false
        { vector := 2, code := none, source := .ext, retEip := s.eip, rf := rf, nmi := true } serviced
      let wakes : Prop := s.pe = true ∨ (0x17 ≤ s.sys.idtr.limit.toNat ∧ 5 < s.regs.esp.toNat % 2 ^ 16)
      (¬nmi → step s = .next s) ∧
      (nmi → s.pe = false → s.sys.idtr.limit.toNat < 0x17 ∨ s.regs.esp.toNat % 2 ^ 16 ≤ 5 → step s = .next s) ∧
      (nmi → s.sys.idtr.limit.toNat ≥ 0x17 → s.realReady 2 → step s = .next (settle (serviced.realDelivery 2 s.eip rf))) ∧
      (nmi → wakes → ∀ t, delivered = .ok () t → step s = .next (settle t)) ∧
      (nmi → wakes → ∀ x t, delivered = .error x t →
        step s = .next (enterShutdown (rollback serviced t))))

/-- How an instruction ends (R36, R41, R735, R824): EIP goes on, RF is cleared unless the instruction has loaded it, an
instruction that is not over is held as it was decoded, and an instruction that began with TF set is followed by the
debug exception with DR6.BS. STI sets IF where IOPL allows it, and holds INTR off for one instruction if IF was 0
(R396). Where the instruction ends in a delivery, and after every completed delivery (`settle`), no single-step trap is
pending (decision D31). Choices: the inhibit lasts one instruction (decision D25) and holds traps back without dropping
them (log entry 21), a delivery ends it (log entry 49), and it lasts for the whole wait of an instruction that waits
for BUSY# (log entry 60). -/
def Obligations.InstructionsEndAndTrap : Prop :=
  ∀ (s : State) (tf : Bool),
    let t := retire tf s
    let io : Prop := s.pe = false ∨ (if s.flags.vm then s.flags.iopl = 3 else s.sys.cpl.toNat ≤ s.flags.iopl.toNat)
    (io → exec .sti s =
      .next (retire s.flags.tf
        { s with flags := { s.flags with ie := true }
                 ctx := { s.ctx with inhibitNext := if s.flags.ie then s.ctx.inhibitNext else .intr } })) ∧
    t.eip = s.ctx.nextEip ∧ t.ctx = Context.idle ∧
    (s.ctx.ending = .completed → t.flags = { s.flags with rf := false }) ∧
    (s.ctx.ending ≠ .completed → t.flags = s.flags) ∧
    (s.ctx.ending = .completed ∨ s.ctx.ending = .rfLoaded →
      t.events.inhibit = s.ctx.inhibitNext ∧ t.events.begun = .no ∧ t.events.traps.bs = (s.events.traps.bs || tf)) ∧
    (s.ctx.ending = .completed ∨ s.ctx.ending = .rfLoaded ∨ s.ctx.ending = .vectored → t.events.held = none) ∧
    (∀ b, s.ctx.ending = .unfinished b →
      t.events.begun = b ∧ t.events.held = s.ctx.code ∧ t.events.inhibit = s.events.inhibit) ∧
    (s.ctx.ending = .vectored →
      t.events.traps = { s.events.traps with bs := false } ∧ t.events.inhibit = .off) ∧
    settle s =
      { s with
        eip := s.ctx.nextEip, ctx := Context.idle
        events := { s.events with
          activity := .running, inhibit := .off, begun := .no, held := none
          traps := { s.events.traps with bs := false } } } ∧
    (∀ ev u, deliver false ev s = .ok () u → takeEvent ev s = .next (settle u)) ∧
    t.regs = s.regs ∧ t.segs = s.segs ∧ t.sys = s.sys ∧ t.dregs = s.dregs ∧ t.mem = s.mem ∧ t.paging = s.paging ∧
    (t.ext.reset = false → t.events.activity = .running → t.events.traps.bs = true → t.events.inhibit ≠ .all →
      ∃ u, step t =
          takeEvent
            { vector := 1, code := none, source := .exception, retEip := t.eip, rf := t.flags.rf, nmi := false } u ∧
        u.dregs.dr6.getLsbD 14 = true ∧ u.events.traps = DebugTraps.none ∧ u.regs = t.regs ∧ u.segs = t.segs ∧ u.mem = t.mem)

/-- Breakpoints (R821 to R823, R825, R827, R828, R742). An operand access that overlaps the field of an enabled data
breakpoint of its kind sets the bits of all conditions that hold; LEN or RW 10 never matches, and GE and LE make no
difference (decision D32). At an instruction boundary a debug exception is due where such a trap, a single step or a
task switch is pending and not inhibited (R735, D25), or where an enabled instruction breakpoint is at the next
instruction, RF is clear and the instruction has not begun (log entry 21): one exception 1 for all of them, which saves
the address of the next instruction and or-s its causes into DR6. That DR7.GD stays is log entry 47. -/
def Obligations.BreakpointsMatchAndTrap : Prop :=
  (∀ (s t : State) (sg : Seg) (off : Dword) (n : Nat) (write : Bool) (sp : List Nat), segSpan sg off n write s = .ok sp t →
     let dr7 := s.dregs.dr7
     let rw (i : Nat) : Nat := dr7.toNat / 2 ^ (16 + 4 * i) % 4
     let len (i : Nat) : Nat := dr7.toNat / 2 ^ (18 + 4 * i) % 4
     let size (i : Nat) : Nat := match len i with | 0 => 1 | 1 => 2 | _ => 4
     let first (i : Nat) : Nat :=
       (match i with | 0 => s.dregs.dr0 | 1 => s.dregs.dr1 | 2 => s.dregs.dr2 | _ => s.dregs.dr3).toNat / size i * size i
     let hit (i : Nat) : Prop :=
       (rw i = 3 ∨ (rw i = 1 ∧ write = true)) ∧ len i ≠ 2 ∧
       ∃ k, k < n ∧ first i ≤ (((s.segs.get sg).base + off).toNat + k) % 2 ^ 32 ∧
         (((s.segs.get sg).base + off).toNat + k) % 2 ^ 32 < first i + size i
     let enabled (i : Nat) : Prop := dr7.getLsbD (2 * i) = true ∨ dr7.getLsbD (2 * i + 1) = true
     let before := s.events.traps.b
     let after := t.events.traps.b
     ((∀ i, i < 4 → enabled i → ¬hit i) → after = before) ∧
     ((∃ i, i < 4 ∧ enabled i ∧ hit i) →
       ∀ i, i < 4 → (after.getLsbD i = true ↔ before.getLsbD i = true ∨ hit i))) ∧
  (∀ (s : State), s.ext.reset = false → s.events.activity = .running →
     let dr7 := s.dregs.dr7
     let at_ (i : Nat) : Prop :=
       dr7.toNat / 2 ^ (16 + 4 * i) % 16 = 0 ∧
       (match i with | 0 => s.dregs.dr0 | 1 => s.dregs.dr1 | 2 => s.dregs.dr2 | _ => s.dregs.dr3) = s.segs.cs.base + s.eip
     let enabled (i : Nat) : Prop := dr7.getLsbD (2 * i) = true ∨ dr7.getLsbD (2 * i + 1) = true
     let faults : Prop := s.flags.rf = false ∧ s.events.begun = .no ∧ ∃ i, i < 4 ∧ enabled i ∧ at_ i
     let p := s.events.traps
     let traps : Prop := s.events.inhibit ≠ .all ∧ (p.b ≠ 0 ∨ p.bs = true ∨ p.bt = true)
     (¬faults → ¬traps → debugDue s = false) ∧
     (faults ∨ traps → ∃ dr6 : Dword,
       step s =
         takeEvent
           { vector := 1, code := none, source := .exception, retEip := s.eip, rf := s.flags.rf, nmi := false }
           { s with
             dregs := { s.dregs with dr6 := dr6 }
             events := { s.events with
               traps := if s.events.inhibit = .all then p else { b := 0, bs := false, bt := false } } } ∧
       ∀ k, dr6.getLsbD k = true ↔
         s.dregs.dr6.getLsbD k = true ∨
         (k < 4 ∧ ((traps ∧ p.b.getLsbD k = true) ∨ (faults ∧ at_ k))) ∨
         (k = 14 ∧ traps ∧ p.bs = true) ∨ (k = 15 ∧ traps ∧ p.bt = true)))

/-! ## Special registers -/

/-- MOV to and from the control, debug and test registers where the level allows it (R663 to R665, R667 to R670, R826):
a whole register moves, CR3 keeps its upper twenty bits and clears the valid bits of the TLB (R218), all six status
flags are free, and with DR7.GD set and RF clear an access to a debug register is the debug fault with BD set and GD
clear; RF has it ignored (R41, log entry 46). Decisions of the spec: CR0 with PG and without PE raises #13(0) (D12), CR0
bits 30:5 are stored as written (D11), so are the reserved bits of DR6 and DR7 (D13), a write of CR0 keeps the TLB
(D19). -/
def Obligations.SpecialRegisterMoves : Prop :=
  ∀ (s : State) (r : Reg) (c : CReg) (d : DReg) (x : TReg), s.pe = false ∨ (s.flags.vm = false ∧ s.sys.cpl = 0) →
    let v := s.regs.get r
    let next (t : State) : Host.Outcome State Fault Refusal := .next (retire s.flags.tf (freeFlags allStatus t))
    let loaded (v : Dword) : Host.Outcome State Fault Refusal := next (s.withValue .d (.reg r) v)
    let clear : Prop := s.dregs.dr7.getLsbD 13 = false ∨ s.flags.rf = true
    (v.getLsbD 31 = true → v.getLsbD 0 = false → exec (.movCrReg .cr0 r) s = s.raises s (.protection 0)) ∧
    (v.getLsbD 31 = false ∨ v.getLsbD 0 = true →
      exec (.movCrReg .cr0 r) s =
        next { s with sys := { s.sys with cr0 := v, cpl := if s.pe then s.sys.cpl else 0 } }) ∧
    exec (.movCrReg .cr2 r) s = next { s with sys := { s.sys with cr2 := v } } ∧
    exec (.movCrReg .cr3 r) s =
      next { s with sys := { s.sys with cr3 := v &&& 0xFFFFF000 }
                    paging := { s.paging with tlb := s.paging.tlb.map fun e => { e with valid := false } } } ∧
    exec (.movRegCr r c) s = loaded (match c with | .cr0 => s.sys.cr0 | .cr2 => s.sys.cr2 | .cr3 => s.sys.cr3) ∧
    (clear → exec (.movDrReg d r) s = next { s with dregs := s.dregs.set d v }) ∧
    (∀ e, (s.dregs.set d v).get e = if e = d then v else s.dregs.get e) ∧
    (clear → exec (.movRegDr r d) s = loaded (s.dregs.get d)) ∧
    (¬clear → ∀ i, i = Instr.movDrReg d r ∨ i = .movRegDr r d →
      exec i s =
        s.raises { s with dregs := { s.dregs with dr6 := s.dregs.dr6 ||| 0x2000, dr7 := s.dregs.dr7 &&& ~~~0x2000 } }
          .debug) ∧
    exec (.movTrReg .tr7 r) s = next { s with paging := { s.paging with tr7 := v } } ∧
    exec (.movRegTr r x) s = loaded (match x with | .tr6 => s.paging.tr6 | .tr7 => s.paging.tr7)

/-- A write of TR6 (R222 to R224). With C = 0 a way of the set takes the entry: the one that TR7 names with PL = 1,
else any; an attribute pair 01 or 10 says its bit, any other leaves it free. With C = 1 the one entry of the set that
matches sets TR6 and TR7, with PL = 1 and the reserved bits free (U10); with none PL is 0 and the rest is free (log
entry 38). That bits 14:12 select the set is presumed (log entry 17). -/
def Obligations.TestRegisterWritesReachTheTlb : Prop :=
  ∀ (s : State) (r : Reg), s.pe = false ∨ (s.flags.vm = false ∧ s.sys.cpl = 0) →
    let v := s.regs.get r
    let tag : BitVec 20 := v.extractLsb' 12 20
    let set := 4 * (tag.toNat % 8)
    let way := (s.paging.tr7.extractLsb' 2 2).toNat
    let b (k : Nat) : Bool := v.getLsbD k
    let entry (w : Nat) : TlbEntry := s.paging.tlb.getD (set + w) TlbEntry.empty
    let agrees (k : Nat) (x : Bool) : Bool := if x then b k else b (k - 1)
    let hit (w : Nat) : Bool :=
      (entry w).tag == tag && (entry w).valid == b 11 && agrees 10 (entry w).dirty && agrees 8 (entry w).user &&
        agrees 6 (entry w).writable
    let next (t : State) : Host.Outcome State Fault Refusal := .next (retire s.flags.tf (freeFlags allStatus t))
    let pair (x : Bool) : BitVec 2 := if x then 0b10 else 0b01
    (b 0 = false →
      ∃ (k : Nat) (d u w : Bool) (draws : Nat), k < 4 ∧ (s.paging.tr7.getLsbD 4 = true → k = way) ∧
        ((b 10 != b 9) = true → d = b 10) ∧ ((b 8 != b 7) = true → u = b 8) ∧ ((b 6 != b 5) = true → w = b 6) ∧
        exec (.movTrReg .tr6 r) s =
          next { s with
            draws := draws
            paging := { s.paging with
              tr6 := v
              tlb := s.paging.tlb.set (set + k)
                { valid := b 11, tag := tag, phys := s.paging.tr7.extractLsb' 12 20, dirty := d, user := u
                  writable := w } } }) ∧
    (b 0 = true → ∀ w, w < 4 → hit w = true → (∀ k, k < 4 → hit k = true → k = w) →
      let e := entry w
      ∃ (x : BitVec 4) (y : BitVec 7) (z : BitVec 2),
        exec (.movTrReg .tr6 r) s =
          next { s with
            draws := s.draws + 2
            paging := { s.paging with
              tr6 := e.tag ++ BitVec.ofBool e.valid ++ pair e.dirty ++ pair e.user ++ pair e.writable ++ x ++ 1#1
              tr7 := e.phys ++ y ++ 1#1 ++ BitVec.ofNat 2 w ++ z } }) ∧
    (b 0 = true → (∀ k, k < 4 → hit k = false) →
      ∃ x y : Dword, y.getLsbD 4 = false ∧
        exec (.movTrReg .tr6 r) s =
          next { s with paging := { s.paging with tr6 := x, tr7 := y }, draws := s.draws + 2 })

/-- WAIT and ESC (R673, R676, R811 to R814): #7 by the mode bits, a wait for BUSY# that is the same instruction again,
#16 by ERROR#, and else the opcode and the operand's address handed to the coprocessor with the operand transfers that
it asks for, of which a doubleword takes four bytes with CR0.ET = 1 and two with an M80287. FNINIT and FNCLEX look at
neither BUSY# nor ERROR#; FNSTSW, FNSTCW, FNSTENV and FNSAVE do not look at ERROR#. Without a coprocessor WAIT falls
through, FNINIT does nothing, and FNSTSW (to AX and to memory) and FNSTCW store a free value, which AX takes too where
a coprocessor sends nothing. Choices: the list of requests, FNSTSW AX taking the first of them and the check of the
operand's first byte as a read are log entry 10, that another opcode than the presence tests stops the model is log
entry 9 (D27), that one look at BUSY# is one step is log entry 29, and that a second operand transfer is at the offset
plus the size of the first modulo 2^32 is log entry 43. -/
def Obligations.CoprocessorInstructionsAskTheCoprocessor : Prop :=
  ∀ (s t u w : State) (op sub : BitVec 3) (r : Reg) (m : Mem) (sg : Seg) (off : Dword) (sp sp' : List Nat),
    let fitted : Prop := s.ext.platform.coprocessor ≠ .none
    let next (t : State) : Host.Outcome State Fault Refusal := .next (retire s.flags.tf t)
    let again : State := { s with ctx := { s.ctx with nextEip := s.eip, ending := .unfinished .wait } }
    let mp : Bool := s.sys.cr0.getLsbD 1
    let em : Bool := s.sys.cr0.getLsbD 2
    let ts : Bool := s.sys.cr0.getLsbD 3
    let opcode : BitVec 11 := op ++ 3#2 ++ sub ++ r.code
    let quiet : Prop := s.ext.busy = false ∧ s.ext.error = false
    let storesState : Prop := (op = 1 ∨ op = 5) ∧ (sub = 6 ∨ sub = 7)
    let statusWord := exec (.esc 7 4 (.reg .eax)) s
    let answered (u : State) (x : Dword) : State :=
      { u with regs := u.regs.write .w .eax (x.extractLsb' 0 16), bus := .coprocRead 2 x :: .coprocOpcode 0x7E0 none :: u.bus }
    (ts = true → mp = true → exec .wait s = s.raises s .notAvailable) ∧
    (ts = false ∨ mp = false →
      (fitted → s.ext.busy = true → exec .wait s = next again) ∧
      (fitted → s.ext.busy = false → s.ext.error = true → exec .wait s = s.raises s .coprocessor) ∧
      (¬fitted ∨ quiet → exec .wait s = next s)) ∧
    (em = true ∨ ts = true → ∀ rm, exec (.esc op sub rm) s = s.raises s .notAvailable) ∧
    (em = false → ts = false →
      (fitted → quiet ∨ opcode = 0x3E3 ∨ opcode = 0x3E2 → opcode ≠ 0x7E0 →
        exec (.esc op sub (.reg r)) s =
          next { s with bus := .coprocOpcode opcode none :: s.bus, ext := { s.ext with requests := [] } }) ∧
      (fitted → s.ext.busy = false →
        (∀ wide x rest, s.ext.requests = .toMemory wide x :: rest →
          statusWord = next (answered { s with ext := { s.ext with requests := [] } } x)) ∧
        ((∀ wide x rest, s.ext.requests ≠ .toMemory wide x :: rest) →
          ∃ x, statusWord = next (answered { s with ext := { s.ext with requests := [] }, draws := s.draws + 1 } x))) ∧
      (¬fitted → ∃ x, statusWord = next (answered { s with draws := s.draws + 1 } x)) ∧
      (fitted → s.ext.busy = true →
        (opcode ≠ 0x3E3 → opcode ≠ 0x3E2 → exec (.esc op sub (.reg r)) s = next again) ∧
        exec (.esc op sub (.mem m)) s = next again) ∧
      (fitted → s.ext.busy = false → s.ext.error = true → opcode ≠ 0x3E3 → opcode ≠ 0x3E2 → opcode ≠ 0x7E0 →
        exec (.esc op sub (.reg r)) s = s.raises s .coprocessor) ∧
      (fitted → s.ext.busy = false → s.ext.error = true → ¬storesState → exec (.esc op sub (.mem m)) s = s.raises s .coprocessor) ∧
      (fitted → quiet ∨ (s.ext.busy = false ∧ storesState) → effAddr m s = .ok (sg, off) t →
        ∀ e, segLinear sg off 1 false t = .error (.exc e) t → exec (.esc op sub (.mem m)) s = s.raises t e) ∧
      (fitted → quiet ∨ (s.ext.busy = false ∧ storesState) → effAddr m s = .ok (sg, off) t →
        (∃ lin, segLinear sg off 1 false t = .ok lin t) →
        let handed : BusEvent := .coprocOpcode (escOpcode op sub (.mem m)) (some (sg, off))
        let size (wide : Bool) : Nat := if wide && s.sys.cr0.getLsbD 4 then 4 else 2
        let done (u : State) (mem : Memory) (events : List BusEvent) : Host.Outcome State Fault Refusal :=
          next { u with mem := mem, bus := events ++ handed :: u.bus, ext := { u.ext with requests := [] } }
        (s.ext.requests = [] → exec (.esc op sub (.mem m)) s = next { t with bus := handed :: t.bus }) ∧
        (∀ wide v, s.ext.requests = [.toMemory wide v] → segSpan sg off (size wide) true t = .ok sp u →
          exec (.esc op sub (.mem m)) s = done u (Memory.store u.mem sp v) [.coprocRead sp.length v]) ∧
        (∀ wide, s.ext.requests = [.fromMemory wide] → segSpan sg off (size wide) false t = .ok sp u →
          exec (.esc op sub (.mem m)) s = done u u.mem [.coprocWrite sp.length (Memory.load u.mem sp)]) ∧
        (∀ a b v, s.ext.requests = [.toMemory a v, .fromMemory b] → segSpan sg off (size a) true t = .ok sp u →
          segSpan sg (off + BitVec.ofNat 32 (size a)) (size b) false u = .ok sp' w →
          let mem := Memory.store w.mem sp v
          exec (.esc op sub (.mem m)) s =
            done w mem [.coprocWrite sp'.length (Memory.load mem sp'), .coprocRead sp.length v])) ∧
      (¬fitted → sub = 7 → op = 5 ∨ op = 1 → effAddr m s = .ok (sg, off) t → segSpan sg off 2 true t = .ok sp u →
        ∃ v, exec (.esc op sub (.mem m)) s =
          next { u with
            mem := Memory.store u.mem sp v, draws := u.draws + 1
            bus := .coprocRead 2 v :: .coprocOpcode (escOpcode op sub (.mem m)) (some (sg, off)) :: u.bus }) ∧
      (¬fitted → exec (.esc 3 4 (.reg .ebx)) s = next { s with bus := .coprocOpcode 0x3E3 none :: s.bus }) ∧
      (¬fitted → opcode ≠ 0x3E3 → opcode ≠ 0x7E0 → exec (.esc op sub (.reg r)) s = .refused .noCoprocessor) ∧
      (¬fitted → ¬(sub = 7 ∧ (op = 5 ∨ op = 1)) → exec (.esc op sub (.mem m)) s = .refused .noCoprocessor))

/-! ## Protection control -/

/-- ARPL, LAR, LSL, VERR and VERW in protected mode without paging (R690, R691, R696, R698, R707, R708): ZF alone of
the flags tells the answer; a selector that is null, outside its table or not visible from its level answers 0 without
an exception. That the descriptor of a segment is marked accessed where the probe succeeds, and LAR's result with it, is
the spec's own decision D28; that it succeeds where the descriptor is visible is log entry 59. -/
def Obligations.SelectorTestsAnswerInZf : Prop :=
  ∀ (s t u : State) (rm : RM) (r q : Reg) (m : Mem) (p : Place) (sg : Seg) (off v : Dword) (sp : List Nat) (at_ : Dword),
    s.prot = true → s.unpaged →
    let next (t : State) : Host.Outcome State Fault Refusal := .next (retire s.flags.tf t)
    let zf (t : State) (b : Bool) : Host.Outcome State Fault Refusal := next { t with flags := { t.flags with zf := b } }
    let ref : Word := s.regs.read .w r
    let raised (sel : Word) : Word := (sel &&& 0xFFFC) ||| (ref &&& 3)
    let own : Word := s.regs.read .w q
    exec (.arpl (.reg q) r) s =
      (if own.toNat % 4 < ref.toNat % 4 then zf (s.withValue .w (.reg q) (raised own)) true else zf s false) ∧
    (effAddr m s = .ok (sg, off) t → memRead sg off 2 t = .ok v u →
      let sel : Word := v.setWidth 16
      (ref.toNat % 4 ≤ sel.toNat % 4 → exec (.arpl (.mem m) r) s = zf u false) ∧
      (sel.toNat % 4 < ref.toNat % 4 → ∀ w, segSpan sg off 2 true u = .ok sp w →
        exec (.arpl (.mem m) r) s =
          zf { w with mem := Memory.store w.mem sp ((raised sel).setWidth 32) } true)) ∧
    (place .w rm false s = .ok p t →
      let sel := t.valueAt .w p
      let all := [Instr.lar r rm, .lsl r rm, .verr rm, .verw rm]
      (sel &&& 0xFFFC = 0 ∨ descAddr s sel = none → ∀ i, i ∈ all → exec i s = zf t false) ∧
      (sel &&& 0xFFFC ≠ 0 → descAddr s sel = some at_ →
        let d := descriptorAt t.mem at_
        let a := d.attr
        let code : Bool := a.s && a.typ.getLsbD 3
        let data : Bool := a.s && !a.typ.getLsbD 3
        let visible : Prop :=
          (code && a.typ.getLsbD 2) = true ∨ (s.sys.cpl.toNat ≤ a.dpl.toNat ∧ sel.toNat % 4 ≤ a.dpl.toNat)
        let seen : State := { t with mem := markAccessed t.mem at_ d }
        let rights : Dword := (if a.s then d.hi ||| 0x100 else d.hi) &&& 0x00F0FF00
        let sz := s.opSize
        (¬visible → ∀ i, i ∈ all → exec i s = zf t false) ∧
        (visible →
          exec (.lar r rm) s =
            (if a.s = true ∨ a.typ.toNat ∈ [1, 2, 3, 4, 5, 9, 11, 12] then
              zf (seen.withValue sz (.reg r) (rights.setWidth _)) true else zf seen false) ∧
          exec (.lsl r rm) s =
            (if a.s = true ∨ a.typ.toNat ∈ [1, 2, 3, 9, 11] then
              zf (seen.withValue sz (.reg r) (d.limit.setWidth _)) true else zf seen false) ∧
          exec (.verr rm) s = zf seen (data || (code && a.typ.getLsbD 1)) ∧
          exec (.verw rm) s = zf seen (data && a.typ.getLsbD 1))))

/-- LLDT and LTR at level 0 of protected mode without paging (R185, R186, R694, R697): the selector must name an LDT,
or an available TSS of the GDT that is then marked busy; a null selector empties LDTR and is denied to TR. SLDT, STR,
SMSW and LMSW (R704 to R706, R695): two bytes of memory or a register, of which a 32-bit one has a free upper half;
LMSW writes PE, MP, EM and TS, but never clears PE. LGDT, LIDT, SGDT and SIDT (R692, R693, R702, R703): a limit in two
bytes and a base in the four after them; with a 16-bit operand size 24 bits of base are loaded, and the sixth byte
stored is free. The base is at the offset plus 2 modulo 2^32, not wrapped at FFFFh (DEDUCED, log entry 43). -/
def Obligations.SystemSegmentsAndRegisters : Prop :=
  (∀ (s t : State) (rm : RM) (p : Place), s.prot = true → s.unpaged → s.sys.cpl = 0 → place .w rm false s = .ok p t →
     let sel := t.valueAt .w p
     let code := sel &&& 0xFFFC
     let lldt := exec (.lldt rm) s
     let ltr := exec (.ltr rm) s
     let next (t : State) : Host.Outcome State Fault Refusal := .next (retire s.flags.tf t)
     let bad := s.raises t (.protection code)
     let absent := s.raises t (.notPresent code)
     let local_ : Prop := sel.getLsbD 2 = true
     (code = 0 → lldt = next { t with sys := { t.sys with ldtr := { t.sys.ldtr with sel := sel, valid := false } } }) ∧
     (code = 0 → ltr = bad) ∧ (code ≠ 0 → local_ → lldt = bad ∧ ltr = bad) ∧
     (code ≠ 0 → ¬local_ → descAddr s sel = none → lldt = bad ∧ ltr = bad) ∧
     (code ≠ 0 → ¬local_ → ∀ at_, descAddr s sel = some at_ →
       let d := descriptorAt t.mem at_
       let a := d.attr
       let ldt : Prop := a.s = false ∧ a.typ = 2
       let tss : Prop := a.s = false ∧ (a.typ = 1 ∨ a.typ = 9)
       let reg : SegReg := { sel := sel, base := d.base, limit := d.limit, attr := a, valid := true }
       (¬ldt → lldt = bad) ∧ (ldt → a.p = false → lldt = absent) ∧
       (ldt → a.p = true → lldt = next { t with sys := { t.sys with ldtr := reg } }) ∧
       (¬tss → ltr = bad) ∧ (tss → a.p = false → ltr = absent) ∧
       (tss → a.p = true →
         ltr = next { t with
           mem := Memory.store t.mem [(at_ + 5).toNat] ((Memory.read t.mem (at_ + 5).toNat ||| 2).setWidth 32)
           sys := { t.sys with tr := { reg with attr := { a with typ := a.typ ||| 2 } } } }))) ∧
  (∀ (s t : State) (rm : RM) (r : Reg) (p : Place),
     let next (t : State) : Host.Outcome State Fault Refusal := .next (retire s.flags.tf t)
     (∀ i v prot, (i, v, prot) ∈ [(Instr.sldt, s.sys.ldtr.sel, true), (Instr.str, s.sys.tr.sel, true),
                                  (Instr.smsw, s.sys.cr0.extractLsb' 0 16, false)] →
       (prot = true → s.prot = true) →
       (place .w rm true s = .ok p t → (∃ m, rm = .mem m) ∨ s.ctx.op32 = false →
         exec (i rm) s = next (t.withValue .w p v) ∧ sameOutside p.bytes t.mem (t.withValue .w p v).mem) ∧
       (s.ctx.op32 = true →
         ∃ hi : Word, exec (i (.reg r)) s = next { s.withValue .d (.reg r) (hi ++ v) with draws := s.draws + 1 })) ∧
     (s.pe = false ∨ (s.flags.vm = false ∧ s.sys.cpl = 0) → place .w rm false s = .ok p t →
       ∃ cr0 : Dword,
         exec (.lmsw rm) s =
           next { t with sys := { t.sys with cr0 := cr0, cpl := if s.pe then t.sys.cpl else 0 } } ∧
         cr0.getLsbD 0 = (s.sys.cr0.getLsbD 0 || (t.valueAt .w p).getLsbD 0) ∧
         (∀ k, 1 ≤ k → k < 4 → cr0.getLsbD k = (t.valueAt .w p).getLsbD k) ∧
         ∀ k, 4 ≤ k → cr0.getLsbD k = s.sys.cr0.getLsbD k)) ∧
  (∀ (s a b c : State) (m : Mem) (sg : Seg) (off x y : Dword) (sp sp' : List Nat), effAddr m s = .ok (sg, off) a →
     let next (t : State) : Host.Outcome State Fault Refusal := .next (retire s.flags.tf t)
     (s.pe = false ∨ (s.flags.vm = false ∧ s.sys.cpl = 0) →
       memRead sg off 2 a = .ok x b → memRead sg (off + 2) 4 b = .ok y c →
       let g : TableReg := { base := if s.ctx.op32 then y else y &&& 0x00FFFFFF, limit := x.setWidth 16 }
       exec (.lgdt m) s = next { c with sys := { c.sys with gdtr := g } } ∧
       exec (.lidt m) s = next { c with sys := { c.sys with idtr := g } }) ∧
     (segSpan sg off 2 true a = .ok sp b → segSpan sg (off + 2) 4 true b = .ok sp' c →
       ∀ i g, (i, g) ∈ [(Instr.sgdt m, s.sys.gdtr), (.sidt m, s.sys.idtr)] →
         ∃ hi : Byte,
           let low := Memory.store c.mem sp (g.limit.setWidth 32)
           exec i s =
             next (if s.ctx.op32 then { c with mem := Memory.store low sp' g.base }
                   else { c with mem := Memory.store low sp' (hi ++ g.base.extractLsb' 0 24), draws := c.draws + 1 })))

/-! ## Prefixes -/

/-- The prefix bytes (R252, R262, R263, R280): an override names the segment, a size prefix selects the size that is
not the default, a repeat prefix is there for the string instructions. LOCK (R147) before one of the forms that R147
lists, with a destination in memory and behind any other prefixes, changes nothing; before every other form it raises
#6. Choices: prefixes in any order and repeated are decision D24, what LOCK does on the bus is left out (log entry 13).
-/
def Obligations.PrefixesChangeTheContext : Prop :=
  ∀ (s t : State) (w : Bool) (rm : RM) (r : Reg) (i : Instr) (p : Place),
    let default : Bool := s.pe && !s.flags.vm && s.segs.cs.attr.db
    let with_ (c : Context) : State := { s with ctx := c }
    let table : List ((Instr → Instr) × State) :=
      [(Instr.csPrefix, with_ { s.ctx with seg := some .cs }), (.dsPrefix, with_ { s.ctx with seg := some .ds }),
       (.esPrefix, with_ { s.ctx with seg := some .es }), (.fsPrefix, with_ { s.ctx with seg := some .fs }),
       (.gsPrefix, with_ { s.ctx with seg := some .gs }), (.ssPrefix, with_ { s.ctx with seg := some .ss }),
       (.opSizePrefix, with_ { s.ctx with op32 := !default }), (.addrSizePrefix, with_ { s.ctx with addr32 := !default }),
       (.repPrefix, with_ { s.ctx with rep := .rep }), (.repnePrefix, with_ { s.ctx with rep := .repne })]
    let listed (j : Instr) : Prop :=
      ∃ (m : Mem) (d w x : Bool) (q : Reg) (imm : Imm) (n : BitVec 8),
        let a : RM := .mem m
        (d = false ∧ j ∈ [Instr.addRmReg d w a q, .orRmReg d w a q, .adcRmReg d w a q, .sbbRmReg d w a q,
                          .andRmReg d w a q, .subRmReg d w a q, .xorRmReg d w a q]) ∨
        j ∈ [Instr.addRmImm x w a imm, .orRmImm x w a imm, .adcRmImm x w a imm, .sbbRmImm x w a imm,
             .andRmImm x w a imm, .subRmImm x w a imm, .xorRmImm x w a imm, .notRm w a, .negRm w a, .incRm w a,
             .decRm w a, .xchgRmReg w a q, .btsImm a n, .btsReg a q, .btrImm a n, .btrReg a q, .btcImm a n, .btcReg a q]
    let prefixed (f : Instr → Instr) : Prop := f = .lockPrefix ∨ ∃ s', (f, s') ∈ table
    (∀ f s', (f, s') ∈ table →
      exec (f i) s = exec i s' ∧
      (place (s'.sizeOf w) rm false s' = .ok p t →
        exec (f (.movRegRm w r rm)) s =
          .next (retire s.flags.tf (t.withValue (s'.sizeOf w) (.reg r) (t.valueAt (s'.sizeOf w) p)))) ∧
      exec (f .nop) s = .next (retire s.flags.tf s')) ∧
    (listed i → ∀ l : List (Instr → Instr), (∀ f, f ∈ l → prefixed f) →
      let j := l.foldr (fun f x => f x) i
      exec (.lockPrefix j) s = exec j s) ∧
    ((∀ (l : List (Instr → Instr)) (j : Instr), (∀ f, f ∈ l → prefixed f) → i = l.foldr (fun f x => f x) j → ¬listed j) →
      exec (.lockPrefix i) s = s.raises s .invalidOpcode) ∧
    (place (s.sizeOf w) rm true s = .ok p t → (∃ m, rm = .mem m) →
      exec (.lockPrefix (.notRm w rm)) s =
        .next (retire s.flags.tf (t.withValue (s.sizeOf w) p (~~~(t.valueAt (s.sizeOf w) p)))))

/-- A repeat prefix, F2h or F3h, before an instruction that is no string instruction, behind whatever other prefixes,
changes nothing: neither its result nor any exception it takes (R252; that an irrelevant prefix is ignored is decision
D24 of the spec). -/
def Obligations.RepeatPrefixesAreIgnoredElsewhere : Prop :=
  ∀ (s : State) (l : List (Instr → Instr)) (i : Instr),
    (∀ f, f ∈ l → f ∈ [Instr.csPrefix, .dsPrefix, .esPrefix, .fsPrefix, .gsPrefix, .ssPrefix, .opSizePrefix,
                       .addrSizePrefix, .lockPrefix, .repPrefix, .repnePrefix]) →
    (∀ w, i ∉ [Instr.cmps w, .ins w, .lods w, .movs w, .outs w, .scas w, .stos w]) →
    (∀ f j, f ∈ [Instr.csPrefix, .dsPrefix, .esPrefix, .fsPrefix, .gsPrefix, .ssPrefix, .opSizePrefix, .addrSizePrefix,
                 .lockPrefix, .repPrefix, .repnePrefix] → i ≠ f j) →
    let j := l.foldr (fun f x => f x) i
    exec (.repPrefix j) s = exec j s ∧ exec (.repnePrefix j) s = exec j s

/-! ## Paging -/

/-- Translation (R191, R200 to R204, R212, R217). Without paging a linear address is physical. A page walk: two levels
of tables, the smaller of the two pairs of rights, the accessed bit set in both entries and the dirty bit by a write;
whether the translation is cached, and in which way of its set, is free (R216, log entry 19); a page that is not
present or not allowed is a page fault with the linear address in CR2 and the reason in the error code. A cached
translation that permits the access is used; where the tables in memory no longer say the same it may be used, or no
longer be cached (log entry 18). An access over two pages translates both, in ascending order, before a byte moves
(D16). The order of the accessed bit of the directory entry and the open bits of the error code are decisions D17 and
D18, the index bits of a set log entry 17. -/
def Obligations.PageWalksTranslateOrFault : Prop :=
  ∀ (s : State) (lin : Dword) (write user : Bool),
    let tag : BitVec 20 := lin.extractLsb' 12 20
    let low : BitVec 12 := lin.extractLsb' 0 12
    let set := 4 * (tag.toNat % 8)
    let cached (w : Nat) : TlbEntry := s.paging.tlb.getD (set + w) TlbEntry.empty
    let holds (w : Nat) : Prop := (cached w).valid = true ∧ (cached w).tag = tag
    let permits (e : TlbEntry) : Prop :=
      (user = false ∨ (e.user = true ∧ (write = true → e.writable = true))) ∧ (write = true → e.dirty = true)
    let entry (m : Memory) (a : Dword) : Dword := m.load (linearBytes a 4)
    let put (m : Memory) (a e : Dword) : Memory := if entry m a = e then m else m.store (linearBytes a 4) e
    let pa : Dword := s.sys.cr3.extractLsb' 12 20 ++ lin.extractLsb' 22 10 ++ 0#2
    let pde := entry s.mem pa
    let m1 := put s.mem pa (pde ||| 0x20)
    let ta : Dword := pde.extractLsb' 12 20 ++ lin.extractLsb' 12 10 ++ 0#2
    let pte := entry m1 ta
    let rights := min (pde.extractLsb' 1 2).toNat (pte.extractLsb' 1 2).toNat
    let allowed : Prop := user = false ∨ (2 ≤ rights ∧ (write = true → rights = 3))
    let m2 := put m1 ta (pte ||| 0x20 ||| (if write then 0x40 else 0))
    let fault (m : Memory) (present : Bool) : EStateM.Result Stop State Dword :=
      .error (.exc (.page (BitVec.ofNat 16 (present.toNat + 2 * write.toNat + 4 * user.toNat))))
        { s with mem := m, sys := { s.sys with cr2 := lin } }
    let page : TlbEntry :=
      { valid := true, tag := tag, phys := pte.extractLsb' 12 20, dirty := write || pte.getLsbD 6
        user := decide (2 ≤ rights), writable := rights % 2 == 1 }
    (s.unpaged → translate lin write user s = .ok lin s) ∧
    (¬s.unpaged → (∀ w, w < 4 → holds w → ¬permits (cached w)) →
      (pde.getLsbD 0 = false → translate lin write user s = fault s.mem false) ∧
      (pde.getLsbD 0 = true → pte.getLsbD 0 = false → translate lin write user s = fault m1 false) ∧
      (pde.getLsbD 0 = true → pte.getLsbD 0 = true → ¬allowed → translate lin write user s = fault m1 true) ∧
      (pde.getLsbD 0 = true → pte.getLsbD 0 = true → allowed →
        ∃ draws tlb, (tlb = s.paging.tlb ∨ ∃ w, w < 4 ∧ tlb = s.paging.tlb.set (set + w) page) ∧
          translate lin write user s =
            .ok (pte.extractLsb' 12 20 ++ low)
              { s with mem := m2, draws := draws, paging := { s.paging with tlb := tlb } })) ∧
    (¬s.unpaged → ∀ w, w < 4 → holds w → permits (cached w) → (∀ k, k < 4 → holds k → k = w) →
      let e := cached w
      let dropped : State :=
        { s with
          draws := s.draws + 1
          paging := { s.paging with tlb := s.paging.tlb.set (set + w) { e with valid := false } } }
      let pte' := entry s.mem ta
      let fresh : Prop :=
        pde.getLsbD 0 = true ∧ pte'.getLsbD 0 = true ∧ pde.getLsbD 5 = true ∧ pte'.getLsbD 5 = true ∧
        pte'.extractLsb' 12 20 = e.phys ∧ pte'.getLsbD 6 = e.dirty ∧
        (let r := min (pde.extractLsb' 1 2).toNat (pte'.extractLsb' 1 2).toNat
         (2 ≤ r ↔ e.user = true) ∧ (r % 2 = 1 ↔ e.writable = true))
      (fresh → translate lin write user s = .ok (e.phys ++ low) s) ∧
      (¬fresh →
        translate lin write user s = .ok (e.phys ++ low) { s with draws := s.draws + 1 } ∨
        translate lin write user s = translate lin write user dropped)) ∧
    ∀ n, n ≤ 4096 →
      let room := 4096 - lin.toNat % 4096
      let next : Dword := lin + BitVec.ofNat 32 room
      let from_ (p : Dword) (k : Nat) : List Nat := (List.range k).map fun i => p.toNat + i
      (∀ x t, translate lin write user s = .error x t → linSpan lin n write user s = .error x t) ∧
      ∀ p t, translate lin write user s = .ok p t →
        (n ≤ room → linSpan lin n write user s = .ok (from_ p n) t) ∧
        (room < n →
          (∀ x u, translate next write user t = .error x u → linSpan lin n write user s = .error x u) ∧
          ∀ q u, translate next write user t = .ok q u →
            linSpan lin n write user s = .ok (from_ p room ++ from_ q (n - room)) u)

/-! ## Reset and invariants -/

/-- What the spec says of the registers after a reset (R100 to R105, R862 to R864), for every platform and every value
of the undefined registers: flags 0, the reset vector, real-mode segments, real mode at level 0, the real-mode
interrupt table, the signature of a self-test, no breakpoint enabled, nothing pending; memory and the inputs are as
they were. Decisions of the spec: the interrupt table (D14), the reserved bits of EFLAGS (D9, R39), nothing pending and
the processor running (D15); DR7 is a derivation of the spec. -/
def Obligations.ResetSetsTheRegistersOfTheSpec : Prop :=
  ∀ (s : State), s.ext.reset = true →
    ∃ t, step s = .next t ∧ t.mem = s.mem ∧ t.ext = s.ext ∧
      t.flags.image = 2 ∧ t.eip = 0xFFF0 ∧ t.sys.cpl = 0 ∧
      t.sys.cr0.extractLsb' 0 4 = 0 ∧ t.sys.cr0.getLsbD 31 = false ∧
      t.sys.cr0.getLsbD 4 = decide (s.ext.platform.coprocessor = .m387) ∧
      t.segs.cs.sel = 0xF000 ∧ t.segs.cs.base = 0xFFFF0000 ∧ t.segs.cs.limit = 0xFFFF ∧
      t.segs.cs.base + t.eip = 0xFFFFFFF0 ∧
      (∀ sg, sg ≠ .cs → (t.segs.get sg).sel = 0 ∧ (t.segs.get sg).base = 0 ∧ (t.segs.get sg).limit = 0xFFFF) ∧
      t.regs.edx.extractLsb' 0 16 = 3#8 ++ s.ext.platform.steppingId ∧
      (s.ext.platform.selfTestRequested = true → t.regs.eax = 0) ∧
      t.sys.idtr = { base := 0, limit := 0x3FF } ∧ t.dregs.dr7.extractLsb' 0 10 = 0 ∧ t.dregs.dr7.getLsbD 13 = false ∧
      t.events.nmiPending = false ∧ t.events.nmiInService = false ∧ t.events.activity = .running ∧
      t.legalMode ∧ t.pageBase ∧ t.tlbSize ∧ t.between

/-- The state after reset has every invariant that a step keeps, and memory in its canonical form. -/
def Obligations.ResetHasTheInvariants : Prop :=
  Memory.wf State.reset.mem = true ∧ State.reset.legalMode ∧ State.reset.pageBase ∧ State.reset.tlbSize ∧
    State.reset.between ∧ State.reset.quiet

/-- Every step keeps memory in its canonical form: strictly rising addresses of the 4 Gbyte where memory answers, and
no entry that holds what an unlisted address holds (R133; log entries 2 and 4); and no step changes the memory map. -/
def Obligations.StepsKeepMemoryCanonical : Prop :=
  ∀ (s t : State), s.mem.wf = true → step s = .next t → t.mem.wf = true ∧ t.mem.map = s.mem.map

/-- Every step keeps the mode bits those of a mode (R54, R840, R841), bits 11:0 of CR3 at 0 (R57), the TLB at 32
entries (R216), and ends between two instructions. -/
def Obligations.StepsKeepTheMachineInvariants : Prop :=
  ∀ (s t : State), s.legalMode → s.pageBase → s.tlbSize → s.between → step s = .next t →
    t.legalMode ∧ t.pageBase ∧ t.tlbSize ∧ t.between

/-! ## Encoding and the step -/

/-- Decoding and encoding are inverse to each other: the encoding of a well-formed instruction, followed by any bytes,
decodes to it and to its length, and what decodes is the encoding of a well-formed instruction. -/
def Obligations.DecodingAndEncodingAgree : Prop :=
  ∀ (d32 : Bool),
    (∀ (i : Instr) (rest : List Byte), i.wellFormed d32 = true →
      decode d32 (encode i ++ rest) = .ok (i, (encode i).length)) ∧
    ∀ (bytes : List Byte) (i : Instr) (n : Nat), decode d32 bytes = .ok (i, n) →
      i.wellFormed d32 = true ∧ n ≤ bytes.length ∧ encode i = bytes.take n

/-- A few words of the spec's examples decode to the instructions that they stand for. -/
def Obligations.SampleWordsDecode : Prop :=
  decode false [0x01, 0xD8] = .ok (.addRmReg false true (.reg .eax) .ebx, 2) ∧
  decode true [0x8D, 0x44, 0x24, 0x04] = .ok (.lea .eax (.sib .x1 none .esp (.d8 4)), 4) ∧
  decode false [0xE9, 0xFD, 0x0F] = .ok (.jmpNear (.w16 0x0FFD), 3) ∧
  decode false [0xEA, 0x00, 0x00, 0xFF, 0xFF] = .ok (.jmpFar { off := .w16 0, sel := 0xFFFF }, 5) ∧
  decode false [0x66, 0xED] = .ok (.opSizePrefix (.inDx true), 2) ∧
  decode true [0xF0, 0x0F, 0xAB, 0x03] = .ok (.lockPrefix (.btsReg (.mem (.based32 .ebx .none)) .eax), 4) ∧
  decode false [0xF3, 0xA4] = .ok (.repMovsF3 false, 2) ∧
  decode false [0x0F, 0x22, 0xC0] = .ok (.movCrReg .cr0 .eax, 3)

/-- No byte string that begins with an encoding that Table 8-1 does not list (R318 a to g; the list of decision D23)
decodes, and where the mod r/m byte's address bytes are there it is rejected as an invalid opcode: opcode bytes, second
bytes, the unlisted field values of every opcode group with every mod and r/m, register fields, and the register forms
of memory instructions. 82h is among them by D23 and U30, where R282 and R303 call it another 80h (log entry 11). A MOV to
CS, or to no segment register, is rejected before its source is read (log entry 56). -/
def Obligations.UnlistedEncodingsAreRejected : Prop :=
  ∀ (d32 : Bool) (b : Byte) (r : Reg) (rest : List Byte),
    let rejected (l : List Byte) : Prop := decode d32 (l ++ rest) = .error .invalidOpcode
    let unlisted (l : List Byte) : Prop :=
      (∀ p, decode d32 (l ++ rest) ≠ .ok p) ∧ (5 ≤ rest.length → rejected l)
    let field : Nat := (b.extractLsb' 3 3).toNat
    let special (op : Byte) (l : List Nat) : Prop := (b.extractLsb' 6 2 ≠ 3 ∨ field ∉ l) → rejected [0x0F, op, b]
    let register (op : List Byte) (k : BitVec 3) : Prop := rejected (op ++ [3#2 ++ k ++ r.code])
    rejected [0xD6] ∧ rejected [0xF1] ∧ rejected [0x82] ∧
    (b.toNat ∉ [0x00, 0x01, 0x02, 0x03, 0x06, 0x20, 0x21, 0x22, 0x23, 0x24, 0x26, 0xA0, 0xA1, 0xA3, 0xA4, 0xA5, 0xA8, 0xA9, 0xAB,
        0xAC, 0xAD, 0xAF, 0xB2, 0xB3, 0xB4, 0xB5, 0xB6, 0xB7, 0xBA, 0xBB, 0xBC, 0xBD, 0xBE, 0xBF] →
      ¬(0x80 ≤ b.toNat ∧ b.toNat ≤ 0x9F) → rejected [0x0F, b]) ∧
    (b ≠ 0x0A → rejected [0xD4, b] ∧ rejected [0xD5, b]) ∧
    (∀ op fields, (op, fields) ∈
        [([0xF6], [1]), ([0xF7], [1]), ([0xFE], [2, 3, 4, 5, 6, 7]), ([0xFF], [7]), ([0xC0], [6]), ([0xC1], [6]),
         ([0xD0], [6]), ([0xD1], [6]), ([0xD2], [6]), ([0xD3], [6]), ([0x8F], [1, 2, 3, 4, 5, 6, 7]),
         ([0xC6], [1, 2, 3, 4, 5, 6, 7]), ([0xC7], [1, 2, 3, 4, 5, 6, 7]), ([0x0F, 0x00], [6, 7]), ([0x0F, 0x01], [5, 7]),
         ([0x0F, 0xBA], [0, 1, 2, 3]), ([0x8E], [1, 6, 7]), ([0x8C], [6, 7])] →
      field ∈ fields → unlisted (op ++ [b])) ∧
    (∀ c : BitVec 4, field ≠ 0 → unlisted [0x0F, 0x9#4 ++ c, b]) ∧
    special 0x20 [0, 2, 3] ∧ special 0x22 [0, 2, 3] ∧ special 0x21 [0, 1, 2, 3, 6, 7] ∧ special 0x23 [0, 1, 2, 3, 6, 7] ∧
    special 0x24 [6, 7] ∧ special 0x26 [6, 7] ∧
    (∀ op k, (op, k) ∈ [([0x8D], b.extractLsb' 3 3), ([0xC4], b.extractLsb' 3 3), ([0xC5], b.extractLsb' 3 3),
        ([0x62], b.extractLsb' 3 3), ([0x0F, 0xB2], b.extractLsb' 3 3), ([0x0F, 0xB4], b.extractLsb' 3 3),
        ([0x0F, 0xB5], b.extractLsb' 3 3), ([0xFF], 3#3), ([0xFF], 5#3), ([0x0F, 0x01], 0#3), ([0x0F, 0x01], 1#3),
        ([0x0F, 0x01], 2#3), ([0x0F, 0x01], 3#3)] →
      register op k)

/-- A step of a running processor that nothing interrupts runs the instruction that it fetches: `exec` of it, from the
state with the default sizes and the offset of the next instruction set (R741 steps 1 to 7). An instruction that has
begun goes on as it was decoded, without a fetch (R512, D22). -/
def Obligations.StepRunsTheDecodedInstruction : Prop :=
  ∀ (s t : State) (i : Instr) (len : Nat),
    (s.quiet → fetch s = .ok (i, len) t → step s = exec i (begin t (i, len))) ∧
    (s.ext.reset = false → s.events.activity = .running → debugDue s = false → nmiDue s = false → intrDue s = false →
      s.events.held = some (i, len) → step s = exec i (begin s (i, len))) ∧
    begin t (i, len) =
      { t with
        mem := { t.mem with epoch := t.mem.epoch + 1 }
        ctx :=
          { seg := none, op32 := t.default32, addr32 := t.default32, rep := .off
            nextEip := if t.default32 then t.eip + BitVec.ofNat 32 len
                       else BitVec.ofNat 32 ((t.eip.toNat + len) % 2 ^ 16)
            ending := .completed, inhibitNext := .off, code := some (i, len) } }

/-- The fetch (R35, R37, R741 steps 4 to 6). Without paging: the bytes at CS base plus EIP that lie within the limit of
CS, at most fifteen, are decoded; an unlisted encoding raises #6, and an instruction that does not end within these
bytes #13(0), both with the address of the instruction. With paging: the page of the first byte is translated, the next
one only where the instruction goes on there, and a fault of either is the fault of the fetch; where the limit of CS
ends in the next page and the bytes of the first show that the instruction runs past it (no next byte, with zeros behind
it, ends it) #13(0) comes first. That the next page is read so late, that an undefined opcode of the first page is
reported first, and how the limit is weighed against the next page are log entry 34. That the bytes are those in memory
at that moment is the model's choice of a processor without a prefetch queue (log entry 12, D22, R240). -/
def Obligations.FetchDecodesTheCodeBytes : Prop :=
  ∀ (s : State) (n : Nat), n ≤ 15 →
    (∀ k, k < n → (s.eip + BitVec.ofNat 32 k).toNat ≤ s.segs.cs.limit.toNat) →
    n = 15 ∨ s.segs.cs.limit.toNat < (s.eip + BitVec.ofNat 32 n).toNat →
    let lin : Dword := s.segs.cs.base + s.eip
    let d32 : Bool := s.pe && !s.flags.vm && s.segs.cs.attr.db
    let bytes := (linearBytes lin n).map s.mem.read
    let room := 4096 - lin.toNat % 4096
    let page (m : Memory) (a : Dword) (k : Nat) : List Byte := (List.range k).map fun i => m.read (a.toNat + i)
    let level3 : Bool := s.sys.cpl = 3
    (s.unpaged →
      (∀ i len, decode d32 bytes = .ok (i, len) → fetch s = .ok (i, len) s) ∧
      (s.quiet → decode d32 bytes = .error .invalidOpcode → step s = s.raises s .invalidOpcode) ∧
      (s.quiet → decode d32 bytes = .error .truncated → step s = s.raises s (.protection 0))) ∧
    (n = 0 → fetch s = .error (.exc (.protection 0)) s) ∧
    (0 < n →
      (∀ x t, translate lin false level3 s = .error x t → fetch s = .error x t) ∧
      ∀ a t, translate lin false level3 s = .ok a t →
        let first := page t.mem a (min n room)
        (∀ i len, decode d32 first = .ok (i, len) → fetch s = .ok (i, len) t) ∧
        (decode d32 first = .error .invalidOpcode → fetch s = .error (.exc .invalidOpcode) t) ∧
        (decode d32 first = .error .truncated → n ≤ room → fetch s = .error (.exc (.protection 0)) t) ∧
        let past : Prop :=
          ¬s.unpaged ∧ n < 15 ∧
          ∀ c : Byte, decode d32 (first ++ c :: List.replicate (n - room - 1) 0) = .error .truncated
        (decode d32 first = .error .truncated → room < n → past → fetch s = .error (.exc (.protection 0)) t) ∧
        (decode d32 first = .error .truncated → room < n → ¬past →
          (∀ x u, translate (lin + BitVec.ofNat 32 room) false level3 t = .error x u → fetch s = .error x u) ∧
          ∀ b u, translate (lin + BitVec.ofNat 32 room) false level3 t = .ok b u →
            let both := first ++ page u.mem b (n - room)
            (∀ i len, decode d32 both = .ok (i, len) → fetch s = .ok (i, len) u) ∧
            (decode d32 both = .error .invalidOpcode → fetch s = .error (.exc .invalidOpcode) u) ∧
            (decode d32 both = .error .truncated → fetch s = .error (.exc (.protection 0)) u)))
end

