-- ==== Sys2Proof/Laws/Exec.lean ====
section
/-! SUPPORT. How computations compose: one equation for each way to build one, so that a proof peels a meaning apart
without unfolding the monad, and what a computation that succeeds must have done. -/

namespace Sys2Proof.Machine

@[simp] theorem exec_bind_apply {α β : Type} (x : Exec α) (f : α → Exec β) (s : State) :
    (x >>= f) s = match x s with | .ok a t => f a t | .error e t => .error e t := by
  simp only [bind, EStateM.bind]
  cases x s <;> rfl

@[simp] theorem exec_map_apply {α β : Type} (f : α → β) (x : Exec α) (s : State) :
    (f <$> x) s = match x s with | .ok a t => .ok (f a) t | .error e t => .error e t := by
  simp only [Functor.map, EStateM.map]
  cases x s <;> rfl

@[simp] theorem exec_pure_apply {α : Type} (a : α) (s : State) : (pure a : Exec α) s = .ok a s := rfl

@[simp] theorem getState_apply (s : State) : getState s = .ok s s := rfl

@[simp] theorem update_apply (f : State → State) (s : State) : update f s = .ok () (f s) := rfl

@[simp] theorem stopWith_apply {α : Type} (x : Stop) (s : State) : (stopWith x : Exec α) s = .error x s := rfl

@[simp] theorem raise_apply {α : Type} (e : Exc) (s : State) : (raise e : Exec α) s = .error (.exc e) s := rfl

@[simp] theorem require_true (e : Exc) (s : State) : require true e s = .ok () s := rfl

@[simp] theorem require_false (e : Exc) (s : State) : require false e s = .error (.exc e) s := rfl

@[simp] theorem when_true (x : Exec Unit) (s : State) : when_ true x s = x s := rfl

@[simp] theorem when_false (x : Exec Unit) (s : State) : when_ false x s = .ok () s := rfl

@[simp] theorem draw_apply (s : State) :
    draw s = .ok (Config.freeValue s.draws) { s with draws := s.draws + 1 } := rfl

@[simp] theorem drawBit_apply (s : State) :
    drawBit s = .ok ((Config.freeValue s.draws).getLsbD 0) { s with draws := s.draws + 1 } := rfl

@[simp] theorem drawChoice_apply (s : State) :
    drawChoice s = .ok (Config.freeChoice s.draws) { s with draws := s.draws + 1 } := rfl

@[simp] theorem emit_apply (e : BusEvent) (s : State) : emit e s = .ok () { s with bus := e :: s.bus } := rfl

@[simp] theorem loadSpan_apply (sp : List Nat) (s : State) : loadSpan sp s = .ok (Memory.load s.mem sp) s := rfl

@[simp] theorem storeSpan_apply (sp : List Nat) (v : Dword) (s : State) :
    storeSpan sp v s = .ok () { s with mem := Memory.store s.mem sp v } := rfl

@[simp] theorem readReg_apply (sz : Size) (r : Reg) (s : State) :
    readReg sz r s = .ok (s.regs.read sz r) s := rfl

@[simp] theorem writeReg_apply (sz : Size) (r : Reg) (v : BitVec sz.bits) (s : State) :
    writeReg sz r v s = .ok () { s with regs := s.regs.write sz r v } := rfl

@[simp] theorem setSeg_apply (sg : Seg) (v : SegReg) (s : State) :
    setSeg sg v s = .ok () { s with segs := s.segs.set sg v } := rfl

@[simp] theorem updateFlags_apply (f : Flags → Flags) (s : State) :
    updateFlags f s = .ok () { s with flags := f s.flags } := rfl

@[simp] theorem setNext_apply (eip : Dword) (s : State) :
    setNext eip s = .ok () { s with ctx := { s.ctx with nextEip := eip } } := rfl

@[simp] theorem setEnding_apply (e : Ending) (s : State) :
    setEnding e s = .ok () { s with ctx := { s.ctx with ending := e } } := rfl

@[simp] theorem eachDo_nil {α : Type} (f : α → Exec Unit) (s : State) : eachDo [] f s = .ok () s := rfl

@[simp] theorem eachDo_cons {α : Type} (a : α) (l : List α) (f : α → Exec Unit) (s : State) :
    eachDo (a :: l) f s = match f a s with | .ok _ t => eachDo l f t | .error e t => .error e t := by
  simp only [eachDo, exec_bind_apply]
  cases f a s <;> rfl

/-- Reading or writing a place never stops. -/
@[simp] theorem readPlace_apply (sz : Size) (p : Place) (s : State) : readPlace sz p s = .ok (s.valueAt sz p) s := by
  cases p <;> rfl

@[simp] theorem writePlace_apply (sz : Size) (p : Place) (v : BitVec sz.bits) (s : State) :
    writePlace sz p v s = .ok () (s.withValue sz p v) := by
  cases p <;> rfl

/-- The undefined flags take free values and nothing else changes. -/
@[simp] theorem undefined_apply (l : List StatusFlag) (s : State) : undefined l s = .ok () (freeFlags l s) := by
  induction l generalizing s with
  | nil => rfl
  | cons k rest ih => exact ih _

/-- A sequence that succeeds: both parts did. -/
theorem exec_bind_ok {α β : Type} {x : Exec α} {f : α → Exec β} {s t : State} {b : β}
    (h : (x >>= f) s = .ok b t) : ∃ a u, x s = .ok a u ∧ f a u = .ok b t := by
  rw [exec_bind_apply] at h
  cases hx : x s with
  | ok a u => exact ⟨a, u, rfl, by simpa [hx] using h⟩
  | error e u => simp [hx] at h

/-- A requirement that is met. -/
theorem require_ok {c : Bool} {e : Exc} {s t : State} (h : require c e s = .ok () t) : c = true ∧ t = s := by
  cases c
  · simp at h
  · simp at h; exact ⟨rfl, h.symm⟩

/-- An instruction whose computation succeeds answers the state it leaves, retired. -/
theorem runInstr_ok {body : Exec Unit} {s t : State} (h : body s = .ok () t) :
    runInstr body s = .next (retire s.flags.tf t) := by
  simp [runInstr, h]

/-- Computations that do the same in a state make the same instruction of it. -/
theorem runInstr_congr {body body' : Exec Unit} {s : State} (h : body s = body' s) : runInstr body s = runInstr body' s := by
  simp only [runInstr, h]

/-- An instruction whose computation stops ends as `afterStop` says. -/
theorem runInstr_stop {body : Exec Unit} {s t : State} {x : Stop} (h : body s = .error x t) :
    runInstr body s = afterStop s x t := by
  simp [runInstr, h]

/-- An instruction whose computation raises an exception takes it from the state it began with, but for what R723 lets
stand. -/
theorem runInstr_exc {body : Exec Unit} {s t : State} {e : Exc} (h : body s = .error (.exc e) t) :
    runInstr body s = takeEvent (exceptionEvent (rollback s t) e) (rollback s t) :=
  runInstr_stop h

end Sys2Proof.Machine
end

