-- ==== Sys2Proof/Laws/Memory.lean ====
section
/-! SUPPORT. The laws of memory: reading after writing, and the canonical form that every operation keeps
(spec/20_memory.md R130, R133). -/

namespace Sys2Proof.Machine

/-! ## Cells -/

theorem cellAt_cons (k : Nat) (v : Byte) (l : List Host.Cell) (a : Nat) :
    cellAt ((k, v) :: l) a = if k = a then v else cellAt l a := rfl

/-- An address without a cell holds what an unlisted one holds. -/
theorem cellAt_unlisted (l : List Host.Cell) (a : Nat) (h : ∀ c ∈ l, c.1 ≠ a) : cellAt l a = Memory.unlisted := by
  induction l with
  | nil => rfl
  | cons c rest ih =>
    obtain ⟨k, v⟩ := c
    rw [cellAt_cons, if_neg (h (k, v) (by simp)), ih fun c hc => h c (by simp [hc])]

theorem cellAt_eraseCell (l : List Host.Cell) (a b : Nat) :
    cellAt (eraseCell l a) b = if b = a then Memory.unlisted else cellAt l b := by
  by_cases hb : b = a
  · rw [if_pos hb]
    refine cellAt_unlisted _ _ fun c hc => ?_
    simp only [eraseCell, List.mem_filter] at hc
    simpa [hb] using hc.2
  · rw [if_neg hb]
    induction l with
    | nil => rfl
    | cons c rest ih =>
      obtain ⟨k, v⟩ := c
      by_cases hk : k = a
      · have : eraseCell ((k, v) :: rest) a = eraseCell rest a := by simp [eraseCell, hk]
        rw [this, ih, cellAt_cons, if_neg (by omega)]
      · have : eraseCell ((k, v) :: rest) a = (k, v) :: eraseCell rest a := by simp [eraseCell, hk]
        rw [this, cellAt_cons, cellAt_cons, ih]

theorem cellAt_insertCell (l : List Host.Cell) (a b : Nat) (v : Byte) (h : ∀ c ∈ l, c.1 ≠ a) :
    cellAt (insertCell l a v) b = if b = a then v else cellAt l b := by
  induction l with
  | nil => simp [insertCell, cellAt_cons, eq_comm]
  | cons c rest ih =>
    obtain ⟨k, x⟩ := c
    have hk : k ≠ a := h (k, x) (by simp)
    by_cases hlt : a < k
    · rw [insertCell, if_pos hlt, cellAt_cons]
      by_cases hb : b = a
      · simp [hb]
      · rw [if_neg (Ne.symm hb), if_neg hb]
    · rw [insertCell, if_neg hlt, cellAt_cons, cellAt_cons, ih fun c hc => h c (by simp [hc])]
      by_cases hb : b = a
      · simp [hb, hk]
      · simp [hb]

/-- A byte put at an address is held there, and every other address is unchanged. -/
theorem cellAt_setCell (l : List Host.Cell) (a b : Nat) (v : Byte) :
    cellAt (setCell l a v) b = if b = a then v else cellAt l b := by
  unfold setCell
  split
  · rename_i h; rw [cellAt_eraseCell, h]
  · rw [cellAt_insertCell, cellAt_eraseCell]
    · by_cases hb : b = a <;> simp [hb]
    · intro c hc
      simp only [eraseCell, List.mem_filter] at hc
      simpa using hc.2

/-! ## Reading and writing -/

@[simp] theorem Memory.kindAt_write (m : Memory) (a b : Nat) (v : Byte) : (m.write a v).kindAt b = m.kindAt b := by
  unfold Memory.write
  split <;> rfl

@[simp] theorem Memory.holds_write (m : Memory) (a b : Nat) (v : Byte) : (m.write a v).holds b = m.holds b := by
  simp [Memory.holds]

@[simp] theorem Memory.epoch_write (m : Memory) (a : Nat) (v : Byte) : (m.write a v).epoch = m.epoch := by
  unfold Memory.write
  split <;> rfl

@[simp] theorem Memory.map_write (m : Memory) (a : Nat) (v : Byte) : (m.write a v).map = m.map := by
  unfold Memory.write
  split <;> rfl

@[simp] theorem Memory.map_store (sp : List Nat) (v : Dword) (m : Memory) : (m.store sp v).map = m.map := by
  induction sp generalizing m v with
  | nil => rfl
  | cons a rest ih => rw [Memory.store, ih, Memory.map_write]

@[simp] theorem Memory.epoch_store (sp : List Nat) (v : Dword) (m : Memory) : (m.store sp v).epoch = m.epoch := by
  induction sp generalizing m v with
  | nil => rfl
  | cons a rest ih => rw [Memory.store, ih, Memory.epoch_write]

/-- Read/write memory holds what is written to it (R132). -/
theorem Memory.read_write_ram {m : Memory} {a : Nat} (h : m.kindAt a = some .ram) (v : Byte) :
    (m.write a v).read a = v := by
  have hh : m.holds a = true := by simp [Memory.holds, h]
  unfold Memory.read
  rw [Memory.holds_write, hh, if_pos rfl]
  simp [Memory.write, h, cellAt_setCell]

/-- A write leaves every other address alone (R133). -/
theorem Memory.read_write_ne {m : Memory} {a b : Nat} (h : b ≠ a) (v : Byte) : (m.write a v).read b = m.read b := by
  unfold Memory.read
  rw [Memory.holds_write, Memory.epoch_write]
  congr 1
  unfold Memory.write
  split
  · rw [cellAt_setCell, if_neg h]
  · rfl
  · rfl
  · rfl

/-- A store changes no byte outside its addresses (R130). -/
theorem Memory.read_store_outside (sp : List Nat) (v : Dword) (a : Nat) (h : a ∉ sp) (m : Memory) :
    Memory.read (Memory.store m sp v) a = Memory.read m a := by
  induction sp generalizing m v with
  | nil => rfl
  | cons b rest ih =>
    simp only [List.mem_cons, not_or] at h
    rw [Memory.store, ih _ h.2, Memory.read_write_ne h.1]

theorem store_sameOutside (sp : List Nat) (v : Dword) (m : Memory) :
    sameOutside sp m (Memory.store m sp v) := fun a h => Memory.read_store_outside sp v a h m

/-- A value put at a place changes no byte outside the place (R326). -/
theorem withValue_sameOutside (s : State) (sz : Size) (p : Place) (v : BitVec sz.bits) :
    sameOutside p.bytes s.mem (s.withValue sz p v).mem := by
  cases p with
  | reg r => exact fun _ _ => rfl
  | mem sp => exact store_sameOutside sp _ _

/-- The value at addresses depends on the bytes there alone. -/
theorem Memory.load_congr (sp : List Nat) (m m' : Memory)
    (h : ∀ a ∈ sp, Memory.read m a = Memory.read m' a) : Memory.load m sp = Memory.load m' sp := by
  induction sp with
  | nil => rfl
  | cons a rest ih =>
    rw [Memory.load, Memory.load, h a (by simp), ih fun b hb => h b (by simp [hb])]

/-! ## The canonical form -/

theorem cellsOk_cons (k : Nat) (v : Byte) (l : List Host.Cell) :
    cellsOk ((k, v) :: l) = true ↔
      k < 2 ^ 32 ∧ v ≠ Memory.unlisted ∧ (∀ c ∈ l, k < c.1) ∧ cellsOk l = true := by
  simp [cellsOk, and_assoc]

theorem eraseCell_ok (l : List Host.Cell) (a : Nat) (h : cellsOk l = true) : cellsOk (eraseCell l a) = true := by
  induction l with
  | nil => rfl
  | cons c rest ih =>
    obtain ⟨k, v⟩ := c
    rw [cellsOk_cons] at h
    by_cases hk : k = a
    · have : eraseCell ((k, v) :: rest) a = eraseCell rest a := by simp [eraseCell, hk]
      rw [this]; exact ih h.2.2.2
    · have : eraseCell ((k, v) :: rest) a = (k, v) :: eraseCell rest a := by simp [eraseCell, hk]
      rw [this, cellsOk_cons]
      refine ⟨h.1, h.2.1, fun c hc => h.2.2.1 c ?_, ih h.2.2.2⟩
      exact (List.mem_filter.mp hc).1

theorem mem_insertCell (l : List Host.Cell) (a : Nat) (v : Byte) (c : Host.Cell) :
    c ∈ insertCell l a v → c = (a, v) ∨ c ∈ l := by
  induction l with
  | nil => simp [insertCell]
  | cons d rest ih =>
    obtain ⟨k, x⟩ := d
    rw [insertCell]
    split
    · simp
    · simp only [List.mem_cons]
      rintro (h | h)
      · exact .inr (.inl h)
      · rcases ih h with h | h
        · exact .inl h
        · exact .inr (.inr h)

theorem insertCell_ok (l : List Host.Cell) (a : Nat) (v : Byte) (h : cellsOk l = true) (ha : a < 2 ^ 32)
    (hv : v ≠ Memory.unlisted) (hm : ∀ c ∈ l, c.1 ≠ a) : cellsOk (insertCell l a v) = true := by
  induction l with
  | nil => simp only [insertCell, cellsOk_cons]; exact ⟨ha, hv, by simp, rfl⟩
  | cons c rest ih =>
    obtain ⟨k, x⟩ := c
    have hk : k ≠ a := hm (k, x) (by simp)
    have h' := (cellsOk_cons k x rest).mp h
    rw [insertCell]
    split
    · rename_i hlt
      rw [cellsOk_cons]
      refine ⟨ha, hv, ?_, h⟩
      simp only [List.mem_cons]
      rintro c (rfl | hc)
      · exact hlt
      · exact lt_trans hlt (h'.2.2.1 c hc)
    · rw [cellsOk_cons]
      refine ⟨h'.1, h'.2.1, fun c hc => ?_, ih h'.2.2.2 fun c hc => hm c (by simp [hc])⟩
      rcases mem_insertCell _ _ _ _ hc with rfl | hc
      · show k < a; omega
      · exact h'.2.2.1 c hc

/-- A byte put at an address of the 4 Gbyte keeps the form of the cells. -/
theorem setCell_ok (l : List Host.Cell) (a : Nat) (v : Byte) (h : cellsOk l = true) (ha : a < 2 ^ 32) :
    cellsOk (setCell l a v) = true := by
  unfold setCell
  split
  · exact eraseCell_ok l a h
  · rename_i hv
    refine insertCell_ok _ _ _ (eraseCell_ok l a h) ha hv fun c hc => ?_
    simpa using (List.mem_filter.mp hc).2

theorem mem_setCell {l : List Host.Cell} {a : Nat} {v : Byte} {c : Host.Cell} (h : c ∈ setCell l a v) :
    c.1 = a ∨ c ∈ l := by
  unfold setCell at h
  split at h
  · exact .inr (List.mem_filter.mp h).1
  · rcases mem_insertCell _ _ _ _ h with rfl | h
    · exact .inl rfl
    · exact .inr (List.mem_filter.mp h).1

theorem Memory.wf_iff (m : Memory) :
    m.wf = true ↔ cellsOk m.cells = true ∧ ∀ c ∈ m.cells, m.holds c.1 = true := by
  simp [Memory.wf]

/-- A byte put into memory that answers at its address keeps the canonical form. -/
theorem Memory.setCell_wf {m : Memory} {a : Nat} {v : Byte} (h : m.wf = true) (ha : a < 2 ^ 32)
    (hh : m.holds a = true) : Memory.wf { m with cells := setCell m.cells a v } = true := by
  rw [Memory.wf_iff] at h ⊢
  refine ⟨setCell_ok _ _ _ h.1 ha, fun c hc => ?_⟩
  rcases mem_setCell hc with rfl | hc
  · exact hh
  · exact h.2 c hc

/-- A byte written at an address of the 4 Gbyte keeps the canonical form. -/
theorem Memory.write_wf (m : Memory) (a : Nat) (v : Byte) (h : m.wf = true) (ha : a < 2 ^ 32) :
    (m.write a v).wf = true := by
  unfold Memory.write
  split
  · rename_i hk; exact Memory.setCell_wf h ha (by simp [Memory.holds, hk])
  · exact h
  · exact h
  · exact h

/-- A byte placed from outside keeps the canonical form. -/
theorem Memory.poke_wf (m : Memory) (a : Nat) (v : Byte) (h : m.wf = true) (ha : a < 2 ^ 32) :
    (m.poke a v).wf = true := by
  unfold Memory.poke
  split
  · rename_i hh; exact Memory.setCell_wf h ha hh
  · exact h

/-- The count of instructions does not touch the canonical form. -/
@[simp] theorem Memory.tick_wf (m : Memory) : m.tick.wf = m.wf := rfl

/-- A value stored at addresses of the 4 Gbyte keeps the canonical form. -/
theorem Memory.store_wf (sp : List Nat) (v : Dword) (m : Memory) (h : m.wf = true) (hs : ∀ a ∈ sp, a < 2 ^ 32) :
    (m.store sp v).wf = true := by
  induction sp generalizing m v with
  | nil => exact h
  | cons a rest ih =>
    rw [Memory.store]
    exact ih _ _ (Memory.write_wf m a _ h (hs a (by simp))) fun b hb => hs b (by simp [hb])

/-- The memory after reset has the canonical form. -/
theorem Memory.reset_wf : Memory.wf State.reset.mem = true := rfl

end Sys2Proof.Machine
end

