-- ==== Sys2Proof/Laws/State.lean ====
section
/-! SUPPORT. The small laws of State and of its parts: one lemma for each field after each named update, so that no proof
unfolds a record update. -/

namespace Sys2Proof.Machine

/-! ## Registers -/

/-- A general register written reads back, and the others are unchanged (R31). -/
theorem Regs.get_set (g : Regs) (r q : Reg) (v : Dword) : (g.set r v).get q = if q = r then v else g.get q := by
  cases r <;> cases q <;> rfl

@[simp] theorem Regs.get_set_same (g : Regs) (r : Reg) (v : Dword) : (g.set r v).get r = v := by cases r <;> rfl

/-- A segment register written reads back, and the others are unchanged (R47). -/
theorem SegRegs.get_set (g : SegRegs) (a b : Seg) (v : SegReg) : (g.set a v).get b = if b = a then v else g.get b := by
  cases a <;> cases b <;> rfl

@[simp] theorem SegRegs.get_set_same (g : SegRegs) (a : Seg) (v : SegReg) : (g.set a v).get a = v := by cases a <;> rfl

/-- A debug register written reads back, and the others are unchanged (R667, R668). -/
theorem DebugRegs.get_set (g : DebugRegs) (a b : DReg) (v : Dword) :
    (g.set a v).get b = if b = a then v else g.get b := by
  cases a <;> cases b <;> rfl

/-! ## retire -/


@[simp] theorem retire_regs (tf : Bool) (s : State) : (retire tf s).regs = s.regs := rfl

@[simp] theorem retire_segs (tf : Bool) (s : State) : (retire tf s).segs = s.segs := rfl

@[simp] theorem retire_sys (tf : Bool) (s : State) : (retire tf s).sys = s.sys := rfl

@[simp] theorem retire_dregs (tf : Bool) (s : State) : (retire tf s).dregs = s.dregs := rfl

@[simp] theorem retire_paging (tf : Bool) (s : State) : (retire tf s).paging = s.paging := rfl

@[simp] theorem retire_ext (tf : Bool) (s : State) : (retire tf s).ext = s.ext := rfl

@[simp] theorem retire_bus (tf : Bool) (s : State) : (retire tf s).bus = s.bus := rfl

@[simp] theorem retire_draws (tf : Bool) (s : State) : (retire tf s).draws = s.draws := rfl

@[simp] theorem retire_mem (tf : Bool) (s : State) : (retire tf s).mem = s.mem := rfl

@[simp] theorem retire_eip (tf : Bool) (s : State) : (retire tf s).eip = s.ctx.nextEip := rfl

@[simp] theorem retire_ctx (tf : Bool) (s : State) : (retire tf s).ctx = Context.idle := rfl

@[simp] theorem retire_flags (tf : Bool) (s : State) : (retire tf s).flags = if s.ctx.ending = .completed then { s.flags with rf := false } else s.flags := rfl

/-! ## settle -/


@[simp] theorem settle_regs (s : State) : (settle s).regs = s.regs := rfl

@[simp] theorem settle_flags (s : State) : (settle s).flags = s.flags := rfl

@[simp] theorem settle_segs (s : State) : (settle s).segs = s.segs := rfl

@[simp] theorem settle_sys (s : State) : (settle s).sys = s.sys := rfl

@[simp] theorem settle_dregs (s : State) : (settle s).dregs = s.dregs := rfl

@[simp] theorem settle_paging (s : State) : (settle s).paging = s.paging := rfl

@[simp] theorem settle_ext (s : State) : (settle s).ext = s.ext := rfl

@[simp] theorem settle_bus (s : State) : (settle s).bus = s.bus := rfl

@[simp] theorem settle_draws (s : State) : (settle s).draws = s.draws := rfl

@[simp] theorem settle_mem (s : State) : (settle s).mem = s.mem := rfl

@[simp] theorem settle_eip (s : State) : (settle s).eip = s.ctx.nextEip := rfl

@[simp] theorem settle_ctx (s : State) : (settle s).ctx = Context.idle := rfl

/-- No single-step trap is pending at a handler's first instruction, and no inhibit holds (R824, D31). -/
@[simp] theorem settle_events (s : State) :
    (settle s).events =
      { s.events.withoutStep with activity := .running, inhibit := .off, begun := .no, held := none } := rfl

@[simp] theorem Events.withoutStep_traps (e : Events) : e.withoutStep.traps = { e.traps with bs := false } := rfl

/-! ## begin -/


@[simp] theorem begin_regs (s : State) (p : Instr × Nat) : (begin s p).regs = s.regs := rfl

@[simp] theorem begin_eip (s : State) (p : Instr × Nat) : (begin s p).eip = s.eip := rfl

@[simp] theorem begin_flags (s : State) (p : Instr × Nat) : (begin s p).flags = s.flags := rfl

@[simp] theorem begin_segs (s : State) (p : Instr × Nat) : (begin s p).segs = s.segs := rfl

@[simp] theorem begin_sys (s : State) (p : Instr × Nat) : (begin s p).sys = s.sys := rfl

@[simp] theorem begin_dregs (s : State) (p : Instr × Nat) : (begin s p).dregs = s.dregs := rfl

@[simp] theorem begin_paging (s : State) (p : Instr × Nat) : (begin s p).paging = s.paging := rfl

@[simp] theorem begin_events (s : State) (p : Instr × Nat) : (begin s p).events = s.events := rfl

@[simp] theorem begin_ext (s : State) (p : Instr × Nat) : (begin s p).ext = s.ext := rfl

@[simp] theorem begin_bus (s : State) (p : Instr × Nat) : (begin s p).bus = s.bus := rfl

@[simp] theorem begin_draws (s : State) (p : Instr × Nat) : (begin s p).draws = s.draws := rfl

@[simp] theorem begin_mem (s : State) (p : Instr × Nat) : (begin s p).mem = s.mem.tick := rfl

/-! ## enterShutdown -/


@[simp] theorem enterShutdown_regs (s : State) : (enterShutdown s).regs = s.regs := rfl

@[simp] theorem enterShutdown_eip (s : State) : (enterShutdown s).eip = s.eip := rfl

@[simp] theorem enterShutdown_flags (s : State) : (enterShutdown s).flags = s.flags := rfl

@[simp] theorem enterShutdown_segs (s : State) : (enterShutdown s).segs = s.segs := rfl

@[simp] theorem enterShutdown_sys (s : State) : (enterShutdown s).sys = s.sys := rfl

@[simp] theorem enterShutdown_dregs (s : State) : (enterShutdown s).dregs = s.dregs := rfl

@[simp] theorem enterShutdown_paging (s : State) : (enterShutdown s).paging = s.paging := rfl

@[simp] theorem enterShutdown_ext (s : State) : (enterShutdown s).ext = s.ext := rfl

@[simp] theorem enterShutdown_draws (s : State) : (enterShutdown s).draws = s.draws := rfl

@[simp] theorem enterShutdown_mem (s : State) : (enterShutdown s).mem = s.mem := rfl

@[simp] theorem enterShutdown_ctx (s : State) : (enterShutdown s).ctx = Context.idle := rfl

@[simp] theorem enterShutdown_bus (s : State) : (enterShutdown s).bus = .shutdownIndication :: s.bus := rfl

/-! ## nmiTaken -/


@[simp] theorem nmiTaken_regs (s : State) : (nmiTaken s).regs = s.regs := rfl

@[simp] theorem nmiTaken_eip (s : State) : (nmiTaken s).eip = s.eip := rfl

@[simp] theorem nmiTaken_flags (s : State) : (nmiTaken s).flags = s.flags := rfl

@[simp] theorem nmiTaken_segs (s : State) : (nmiTaken s).segs = s.segs := rfl

@[simp] theorem nmiTaken_sys (s : State) : (nmiTaken s).sys = s.sys := rfl

@[simp] theorem nmiTaken_dregs (s : State) : (nmiTaken s).dregs = s.dregs := rfl

@[simp] theorem nmiTaken_paging (s : State) : (nmiTaken s).paging = s.paging := rfl

@[simp] theorem nmiTaken_ext (s : State) : (nmiTaken s).ext = s.ext := rfl

@[simp] theorem nmiTaken_ctx (s : State) : (nmiTaken s).ctx = s.ctx := rfl

@[simp] theorem nmiTaken_bus (s : State) : (nmiTaken s).bus = s.bus := rfl

@[simp] theorem nmiTaken_draws (s : State) : (nmiTaken s).draws = s.draws := rfl

@[simp] theorem nmiTaken_mem (s : State) : (nmiTaken s).mem = s.mem := rfl

/-! ## withSeg -/


@[simp] theorem withSeg_regs (sg : Seg) (s : State) : (withSeg sg s).regs = s.regs := rfl

@[simp] theorem withSeg_eip (sg : Seg) (s : State) : (withSeg sg s).eip = s.eip := rfl

@[simp] theorem withSeg_flags (sg : Seg) (s : State) : (withSeg sg s).flags = s.flags := rfl

@[simp] theorem withSeg_segs (sg : Seg) (s : State) : (withSeg sg s).segs = s.segs := rfl

@[simp] theorem withSeg_sys (sg : Seg) (s : State) : (withSeg sg s).sys = s.sys := rfl

@[simp] theorem withSeg_dregs (sg : Seg) (s : State) : (withSeg sg s).dregs = s.dregs := rfl

@[simp] theorem withSeg_paging (sg : Seg) (s : State) : (withSeg sg s).paging = s.paging := rfl

@[simp] theorem withSeg_events (sg : Seg) (s : State) : (withSeg sg s).events = s.events := rfl

@[simp] theorem withSeg_ext (sg : Seg) (s : State) : (withSeg sg s).ext = s.ext := rfl

@[simp] theorem withSeg_bus (sg : Seg) (s : State) : (withSeg sg s).bus = s.bus := rfl

@[simp] theorem withSeg_draws (sg : Seg) (s : State) : (withSeg sg s).draws = s.draws := rfl

@[simp] theorem withSeg_mem (sg : Seg) (s : State) : (withSeg sg s).mem = s.mem := rfl

@[simp] theorem withSeg_ctx (sg : Seg) (s : State) : (withSeg sg s).ctx = { s.ctx with seg := some sg } := rfl

/-! ## withOpSize -/


@[simp] theorem withOpSize_regs (s : State) : (withOpSize s).regs = s.regs := rfl

@[simp] theorem withOpSize_eip (s : State) : (withOpSize s).eip = s.eip := rfl

@[simp] theorem withOpSize_flags (s : State) : (withOpSize s).flags = s.flags := rfl

@[simp] theorem withOpSize_segs (s : State) : (withOpSize s).segs = s.segs := rfl

@[simp] theorem withOpSize_sys (s : State) : (withOpSize s).sys = s.sys := rfl

@[simp] theorem withOpSize_dregs (s : State) : (withOpSize s).dregs = s.dregs := rfl

@[simp] theorem withOpSize_paging (s : State) : (withOpSize s).paging = s.paging := rfl

@[simp] theorem withOpSize_events (s : State) : (withOpSize s).events = s.events := rfl

@[simp] theorem withOpSize_ext (s : State) : (withOpSize s).ext = s.ext := rfl

@[simp] theorem withOpSize_bus (s : State) : (withOpSize s).bus = s.bus := rfl

@[simp] theorem withOpSize_draws (s : State) : (withOpSize s).draws = s.draws := rfl

@[simp] theorem withOpSize_mem (s : State) : (withOpSize s).mem = s.mem := rfl

@[simp] theorem withOpSize_ctx (s : State) : (withOpSize s).ctx = { s.ctx with op32 := !s.default32 } := rfl

/-! ## withAddrSize -/


@[simp] theorem withAddrSize_regs (s : State) : (withAddrSize s).regs = s.regs := rfl

@[simp] theorem withAddrSize_eip (s : State) : (withAddrSize s).eip = s.eip := rfl

@[simp] theorem withAddrSize_flags (s : State) : (withAddrSize s).flags = s.flags := rfl

@[simp] theorem withAddrSize_segs (s : State) : (withAddrSize s).segs = s.segs := rfl

@[simp] theorem withAddrSize_sys (s : State) : (withAddrSize s).sys = s.sys := rfl

@[simp] theorem withAddrSize_dregs (s : State) : (withAddrSize s).dregs = s.dregs := rfl

@[simp] theorem withAddrSize_paging (s : State) : (withAddrSize s).paging = s.paging := rfl

@[simp] theorem withAddrSize_events (s : State) : (withAddrSize s).events = s.events := rfl

@[simp] theorem withAddrSize_ext (s : State) : (withAddrSize s).ext = s.ext := rfl

@[simp] theorem withAddrSize_bus (s : State) : (withAddrSize s).bus = s.bus := rfl

@[simp] theorem withAddrSize_draws (s : State) : (withAddrSize s).draws = s.draws := rfl

@[simp] theorem withAddrSize_mem (s : State) : (withAddrSize s).mem = s.mem := rfl

@[simp] theorem withAddrSize_ctx (s : State) : (withAddrSize s).ctx = { s.ctx with addr32 := !s.default32 } := rfl

/-! ## withRepeat -/


@[simp] theorem withRepeat_regs (k : Rep) (s : State) : (withRepeat k s).regs = s.regs := rfl

@[simp] theorem withRepeat_eip (k : Rep) (s : State) : (withRepeat k s).eip = s.eip := rfl

@[simp] theorem withRepeat_flags (k : Rep) (s : State) : (withRepeat k s).flags = s.flags := rfl

@[simp] theorem withRepeat_segs (k : Rep) (s : State) : (withRepeat k s).segs = s.segs := rfl

@[simp] theorem withRepeat_sys (k : Rep) (s : State) : (withRepeat k s).sys = s.sys := rfl

@[simp] theorem withRepeat_dregs (k : Rep) (s : State) : (withRepeat k s).dregs = s.dregs := rfl

@[simp] theorem withRepeat_paging (k : Rep) (s : State) : (withRepeat k s).paging = s.paging := rfl

@[simp] theorem withRepeat_events (k : Rep) (s : State) : (withRepeat k s).events = s.events := rfl

@[simp] theorem withRepeat_ext (k : Rep) (s : State) : (withRepeat k s).ext = s.ext := rfl

@[simp] theorem withRepeat_bus (k : Rep) (s : State) : (withRepeat k s).bus = s.bus := rfl

@[simp] theorem withRepeat_draws (k : Rep) (s : State) : (withRepeat k s).draws = s.draws := rfl

@[simp] theorem withRepeat_mem (k : Rep) (s : State) : (withRepeat k s).mem = s.mem := rfl

@[simp] theorem withRepeat_ctx (k : Rep) (s : State) : (withRepeat k s).ctx = { s.ctx with rep := k } := rfl

/-! ## toReset -/


@[simp] theorem toReset_ext (s : State) : (s.toReset).ext = s.ext := rfl

@[simp] theorem toReset_bus (s : State) : (s.toReset).bus = s.bus := rfl

@[simp] theorem toReset_draws (s : State) : (s.toReset).draws = s.draws := rfl

@[simp] theorem toReset_mem (s : State) : (s.toReset).mem = s.mem := rfl

@[simp] theorem toReset_regs (s : State) : (s.toReset).regs = Regs.reset s.ext.platform s.ext.undefReset := rfl

@[simp] theorem toReset_eip (s : State) : (s.toReset).eip = 0xFFF0 := rfl

@[simp] theorem toReset_flags (s : State) : (s.toReset).flags = Flags.reset := rfl

@[simp] theorem toReset_segs (s : State) : (s.toReset).segs = SegRegs.reset := rfl

@[simp] theorem toReset_sys (s : State) : (s.toReset).sys = SysRegs.reset s.ext.platform s.ext.undefReset := rfl

@[simp] theorem toReset_dregs (s : State) : (s.toReset).dregs = DebugRegs.reset s.ext.undefReset := rfl

@[simp] theorem toReset_paging (s : State) : (s.toReset).paging = PagingUnit.reset s.ext.undefReset := rfl

@[simp] theorem toReset_events (s : State) : (s.toReset).events = Events.reset := rfl

@[simp] theorem toReset_ctx (s : State) : (s.toReset).ctx = Context.idle := rfl

/-! ## withTop -/


@[simp] theorem withTop_eip (wide : Bool) (s : State) (p : Dword) : (s.withTop wide p).eip = s.eip := rfl

@[simp] theorem withTop_flags (wide : Bool) (s : State) (p : Dword) : (s.withTop wide p).flags = s.flags := rfl

@[simp] theorem withTop_segs (wide : Bool) (s : State) (p : Dword) : (s.withTop wide p).segs = s.segs := rfl

@[simp] theorem withTop_sys (wide : Bool) (s : State) (p : Dword) : (s.withTop wide p).sys = s.sys := rfl

@[simp] theorem withTop_dregs (wide : Bool) (s : State) (p : Dword) : (s.withTop wide p).dregs = s.dregs := rfl

@[simp] theorem withTop_paging (wide : Bool) (s : State) (p : Dword) : (s.withTop wide p).paging = s.paging := rfl

@[simp] theorem withTop_events (wide : Bool) (s : State) (p : Dword) : (s.withTop wide p).events = s.events := rfl

@[simp] theorem withTop_ext (wide : Bool) (s : State) (p : Dword) : (s.withTop wide p).ext = s.ext := rfl

@[simp] theorem withTop_ctx (wide : Bool) (s : State) (p : Dword) : (s.withTop wide p).ctx = s.ctx := rfl

@[simp] theorem withTop_bus (wide : Bool) (s : State) (p : Dword) : (s.withTop wide p).bus = s.bus := rfl

@[simp] theorem withTop_draws (wide : Bool) (s : State) (p : Dword) : (s.withTop wide p).draws = s.draws := rfl

@[simp] theorem withTop_mem (wide : Bool) (s : State) (p : Dword) : (s.withTop wide p).mem = s.mem := rfl

/-! ## popped -/


@[simp] theorem popped_eip (s : State) (n : Nat) : (s.popped n).eip = s.eip := rfl

@[simp] theorem popped_flags (s : State) (n : Nat) : (s.popped n).flags = s.flags := rfl

@[simp] theorem popped_segs (s : State) (n : Nat) : (s.popped n).segs = s.segs := rfl

@[simp] theorem popped_sys (s : State) (n : Nat) : (s.popped n).sys = s.sys := rfl

@[simp] theorem popped_dregs (s : State) (n : Nat) : (s.popped n).dregs = s.dregs := rfl

@[simp] theorem popped_paging (s : State) (n : Nat) : (s.popped n).paging = s.paging := rfl

@[simp] theorem popped_events (s : State) (n : Nat) : (s.popped n).events = s.events := rfl

@[simp] theorem popped_ext (s : State) (n : Nat) : (s.popped n).ext = s.ext := rfl

@[simp] theorem popped_ctx (s : State) (n : Nat) : (s.popped n).ctx = s.ctx := rfl

@[simp] theorem popped_bus (s : State) (n : Nat) : (s.popped n).bus = s.bus := rfl

@[simp] theorem popped_draws (s : State) (n : Nat) : (s.popped n).draws = s.draws := rfl

@[simp] theorem popped_mem (s : State) (n : Nat) : (s.popped n).mem = s.mem := rfl

/-! ## rollback -/


@[simp] theorem rollback_regs (s t : State) : (rollback s t).regs = s.regs := rfl

@[simp] theorem rollback_eip (s t : State) : (rollback s t).eip = s.eip := rfl

@[simp] theorem rollback_flags (s t : State) : (rollback s t).flags = s.flags := rfl

@[simp] theorem rollback_segs (s t : State) : (rollback s t).segs = s.segs := rfl

@[simp] theorem rollback_events (s t : State) : (rollback s t).events = s.events := rfl

@[simp] theorem rollback_ext (s t : State) : (rollback s t).ext = s.ext := rfl

@[simp] theorem rollback_ctx (s t : State) : (rollback s t).ctx = s.ctx := rfl

@[simp] theorem rollback_mem (s t : State) : (rollback s t).mem = t.mem := rfl

@[simp] theorem rollback_paging (s t : State) : (rollback s t).paging = t.paging := rfl

@[simp] theorem rollback_dregs (s t : State) : (rollback s t).dregs = t.dregs := rfl

@[simp] theorem rollback_bus (s t : State) : (rollback s t).bus = t.bus := rfl

@[simp] theorem rollback_draws (s t : State) : (rollback s t).draws = t.draws := rfl

@[simp] theorem rollback_sys (s t : State) : (rollback s t).sys = { s.sys with cr2 := t.sys.cr2 } := rfl

@[simp] theorem rollback_self (s : State) : rollback s s = s := rfl

/-! ## withValue -/


@[simp] theorem withValue_eip (s : State) (sz : Size) (p : Place) (v : BitVec sz.bits) :
    (s.withValue sz p v).eip = s.eip := by cases p <;> rfl

@[simp] theorem withValue_flags (s : State) (sz : Size) (p : Place) (v : BitVec sz.bits) :
    (s.withValue sz p v).flags = s.flags := by cases p <;> rfl

@[simp] theorem withValue_segs (s : State) (sz : Size) (p : Place) (v : BitVec sz.bits) :
    (s.withValue sz p v).segs = s.segs := by cases p <;> rfl

@[simp] theorem withValue_sys (s : State) (sz : Size) (p : Place) (v : BitVec sz.bits) :
    (s.withValue sz p v).sys = s.sys := by cases p <;> rfl

@[simp] theorem withValue_dregs (s : State) (sz : Size) (p : Place) (v : BitVec sz.bits) :
    (s.withValue sz p v).dregs = s.dregs := by cases p <;> rfl

@[simp] theorem withValue_paging (s : State) (sz : Size) (p : Place) (v : BitVec sz.bits) :
    (s.withValue sz p v).paging = s.paging := by cases p <;> rfl

@[simp] theorem withValue_events (s : State) (sz : Size) (p : Place) (v : BitVec sz.bits) :
    (s.withValue sz p v).events = s.events := by cases p <;> rfl

@[simp] theorem withValue_ext (s : State) (sz : Size) (p : Place) (v : BitVec sz.bits) :
    (s.withValue sz p v).ext = s.ext := by cases p <;> rfl

@[simp] theorem withValue_ctx (s : State) (sz : Size) (p : Place) (v : BitVec sz.bits) :
    (s.withValue sz p v).ctx = s.ctx := by cases p <;> rfl

@[simp] theorem withValue_bus (s : State) (sz : Size) (p : Place) (v : BitVec sz.bits) :
    (s.withValue sz p v).bus = s.bus := by cases p <;> rfl

@[simp] theorem withValue_draws (s : State) (sz : Size) (p : Place) (v : BitVec sz.bits) :
    (s.withValue sz p v).draws = s.draws := by cases p <;> rfl

@[simp] theorem withValue_reg (s : State) (sz : Size) (r : Reg) (v : BitVec sz.bits) :
    s.withValue sz (.reg r) v = { s with regs := s.regs.write sz r v } := rfl

@[simp] theorem withValue_place (s : State) (sz : Size) (sp : List Nat) (v : BitVec sz.bits) :
    s.withValue sz (.mem sp) v = { s with mem := Memory.store s.mem sp (v.setWidth 32) } := rfl

/-! ## freeFlags -/


@[simp] theorem freeFlags_regs (l : List StatusFlag) (s : State) : (freeFlags l s).regs = s.regs := by
  induction l generalizing s with
  | nil => rfl
  | cons k rest ih => exact ih _

@[simp] theorem freeFlags_eip (l : List StatusFlag) (s : State) : (freeFlags l s).eip = s.eip := by
  induction l generalizing s with
  | nil => rfl
  | cons k rest ih => exact ih _

@[simp] theorem freeFlags_segs (l : List StatusFlag) (s : State) : (freeFlags l s).segs = s.segs := by
  induction l generalizing s with
  | nil => rfl
  | cons k rest ih => exact ih _

@[simp] theorem freeFlags_sys (l : List StatusFlag) (s : State) : (freeFlags l s).sys = s.sys := by
  induction l generalizing s with
  | nil => rfl
  | cons k rest ih => exact ih _

@[simp] theorem freeFlags_dregs (l : List StatusFlag) (s : State) : (freeFlags l s).dregs = s.dregs := by
  induction l generalizing s with
  | nil => rfl
  | cons k rest ih => exact ih _

@[simp] theorem freeFlags_paging (l : List StatusFlag) (s : State) : (freeFlags l s).paging = s.paging := by
  induction l generalizing s with
  | nil => rfl
  | cons k rest ih => exact ih _

@[simp] theorem freeFlags_events (l : List StatusFlag) (s : State) : (freeFlags l s).events = s.events := by
  induction l generalizing s with
  | nil => rfl
  | cons k rest ih => exact ih _

@[simp] theorem freeFlags_ext (l : List StatusFlag) (s : State) : (freeFlags l s).ext = s.ext := by
  induction l generalizing s with
  | nil => rfl
  | cons k rest ih => exact ih _

@[simp] theorem freeFlags_ctx (l : List StatusFlag) (s : State) : (freeFlags l s).ctx = s.ctx := by
  induction l generalizing s with
  | nil => rfl
  | cons k rest ih => exact ih _

@[simp] theorem freeFlags_bus (l : List StatusFlag) (s : State) : (freeFlags l s).bus = s.bus := by
  induction l generalizing s with
  | nil => rfl
  | cons k rest ih => exact ih _

@[simp] theorem freeFlags_mem (l : List StatusFlag) (s : State) : (freeFlags l s).mem = s.mem := by
  induction l generalizing s with
  | nil => rfl
  | cons k rest ih => exact ih _

@[simp] theorem freeFlags_nil (s : State) : freeFlags [] s = s := rfl

/-! ## withMatches -/


@[simp] theorem withMatches_regs (t s : State) : (t.withMatches s).regs = t.regs := rfl

@[simp] theorem withMatches_eip (t s : State) : (t.withMatches s).eip = t.eip := rfl

@[simp] theorem withMatches_flags (t s : State) : (t.withMatches s).flags = t.flags := rfl

@[simp] theorem withMatches_segs (t s : State) : (t.withMatches s).segs = t.segs := rfl

@[simp] theorem withMatches_sys (t s : State) : (t.withMatches s).sys = t.sys := rfl

@[simp] theorem withMatches_dregs (t s : State) : (t.withMatches s).dregs = t.dregs := rfl

@[simp] theorem withMatches_paging (t s : State) : (t.withMatches s).paging = t.paging := rfl

@[simp] theorem withMatches_ext (t s : State) : (t.withMatches s).ext = t.ext := rfl

@[simp] theorem withMatches_ctx (t s : State) : (t.withMatches s).ctx = t.ctx := rfl

@[simp] theorem withMatches_bus (t s : State) : (t.withMatches s).bus = t.bus := rfl

@[simp] theorem withMatches_draws (t s : State) : (t.withMatches s).draws = t.draws := rfl

@[simp] theorem withMatches_mem (t s : State) : (t.withMatches s).mem = t.mem := rfl

@[simp] theorem withMatches_events (t s : State) :
    (t.withMatches s).events = { t.events with traps := { t.events.traps with b := s.events.traps.b } } := rfl

/-! ## The flags that a status flag leaves alone -/


@[simp] theorem put_tf (f : Flags) (k : StatusFlag) (b : Bool) : (f.put k b).tf = f.tf := by cases k <;> rfl

@[simp] theorem put_ie (f : Flags) (k : StatusFlag) (b : Bool) : (f.put k b).ie = f.ie := by cases k <;> rfl

@[simp] theorem put_df (f : Flags) (k : StatusFlag) (b : Bool) : (f.put k b).df = f.df := by cases k <;> rfl

@[simp] theorem put_iopl (f : Flags) (k : StatusFlag) (b : Bool) : (f.put k b).iopl = f.iopl := by cases k <;> rfl

@[simp] theorem put_nt (f : Flags) (k : StatusFlag) (b : Bool) : (f.put k b).nt = f.nt := by cases k <;> rfl

@[simp] theorem put_rf (f : Flags) (k : StatusFlag) (b : Bool) : (f.put k b).rf = f.rf := by cases k <;> rfl

@[simp] theorem put_vm (f : Flags) (k : StatusFlag) (b : Bool) : (f.put k b).vm = f.vm := by cases k <;> rfl

/-! ## The modes look at CR0, VM and the descriptor registers alone -/


/-- Protected mode is CR0.PE with VM clear (R841). -/
theorem prot_eq (s : State) : s.prot = (s.pe && !s.flags.vm) := rfl

/-- The operand size that the w field selects has 8, 16 or 32 bits (R262). -/
theorem bits_cases (sz : Size) : sz.bits = 8 ∨ sz.bits = 16 ∨ sz.bits = 32 := by cases sz <;> simp [Size.bits]

/-- A size in bits is eight times the size in bytes. -/
theorem bits_eq_bytes (sz : Size) : sz.bits = 8 * sz.bytes := by cases sz <;> rfl

end Sys2Proof.Machine
end

