-- ==== Sys2Proof/Laws/Access.lean ====
section
/-! SUPPORT. What an operand access can do: a computation that finds an operand changes at most memory (accessed and dirty
bits), the TLB, the count of free values and the data breakpoints that have matched; without paging it is the checks of the
segment and nothing else. -/

namespace Sys2Proof.Machine

/-! ## The states that an access can leave -/

theorem accessed_refl (s : State) : accessed s s := rfl

theorem accessed_trans {s t u : State} (h : accessed s t) (k : accessed t u) : accessed s u := by
  unfold accessed at *
  rw [k, h]

/-- What an access leaves alone. -/
theorem accessed_keeps {s t : State} (h : accessed s t) :
    t.regs = s.regs ∧ t.eip = s.eip ∧ t.flags = s.flags ∧ t.segs = s.segs ∧ t.sys = s.sys ∧ t.dregs = s.dregs ∧
    t.ext = s.ext ∧ t.ctx = s.ctx ∧ t.bus = s.bus := by
  rw [h]
  exact ⟨rfl, rfl, rfl, rfl, rfl, rfl, rfl, rfl, rfl⟩

/-- A computation that only finds an operand. -/
def Finds {α : Type} (x : Exec α) : Prop := ∀ s a t, x s = .ok a t → accessed s t

theorem finds_pure {α : Type} (a : α) : Finds (pure a : Exec α) := by
  intro s b t h
  simp only [exec_pure_apply, EStateM.Result.ok.injEq] at h
  rw [← h.2]
  exact accessed_refl s

theorem finds_bind {α β : Type} {x : Exec α} {f : α → Exec β} (hx : Finds x) (hf : ∀ a, Finds (f a)) :
    Finds (x >>= f) := by
  intro s b t h
  obtain ⟨a, u, h1, h2⟩ := exec_bind_ok h
  exact accessed_trans (hx s a u h1) (hf a u b t h2)

theorem finds_getState : Finds getState := by
  intro s a t h
  simp only [getState_apply, EStateM.Result.ok.injEq] at h
  rw [← h.2]
  exact accessed_refl s

theorem finds_stop {α : Type} (x : Stop) : Finds (stopWith x : Exec α) := by
  intro s a t h
  simp at h

theorem finds_raise {α : Type} (e : Exc) : Finds (raise e : Exec α) := finds_stop _

theorem finds_require (c : Bool) (e : Exc) : Finds (require c e) := by
  intro s a t h
  rw [(require_ok h).2]
  exact accessed_refl s

theorem finds_when (c : Bool) {x : Exec Unit} (hx : Finds x) : Finds (when_ c x) := by
  cases c
  · exact finds_pure ()
  · exact hx

theorem finds_ite {α : Type} (c : Prop) [Decidable c] {x y : Exec α} (hx : Finds x) (hy : Finds y) :
    Finds (if c then x else y) := by
  split
  · exact hx
  · exact hy

theorem finds_draw : Finds draw := by
  intro s a t h
  simp only [draw_apply, EStateM.Result.ok.injEq] at h
  rw [← h.2]
  rfl

theorem finds_drawChoice : Finds drawChoice := by
  intro s a t h
  simp only [drawChoice_apply, EStateM.Result.ok.injEq] at h
  rw [← h.2]
  rfl

theorem finds_loadSpan (sp : List Nat) : Finds (loadSpan sp) := by
  intro s a t h
  simp only [loadSpan_apply, EStateM.Result.ok.injEq] at h
  rw [← h.2]
  exact accessed_refl s

theorem finds_storeSpan (sp : List Nat) (v : Dword) : Finds (storeSpan sp v) := by
  intro s a t h
  simp only [storeSpan_apply, EStateM.Result.ok.injEq] at h
  rw [← h.2]
  rfl

theorem finds_setTlb (k : Nat) (e : TlbEntry) : Finds (setTlb k e) := by
  intro s a t h
  simp only [setTlb, update_apply, EStateM.Result.ok.injEq] at h
  rw [← h.2]
  rfl

/-! ## Paging -/

theorem finds_tlbVictim (tag : BitVec 20) : Finds (tlbVictim tag) := by
  refine finds_bind finds_getState fun s => ?_
  split
  · exact finds_pure _
  · exact finds_bind finds_draw fun v => finds_pure _

theorem finds_tlbInsert (e : TlbEntry) : Finds (tlbInsert e) :=
  finds_bind finds_drawChoice fun _ => finds_bind (finds_tlbVictim _) fun _ => finds_when _ (finds_setTlb _ _)

theorem finds_pageFault {α : Type} (lin : Dword) (p w u : Bool) : Finds (pageFault lin p w u : Exec α) := by
  intro s a t h
  simp [pageFault] at h

theorem finds_walk (lin : Dword) (write user : Bool) : Finds (walk lin write user) := by
  refine finds_bind finds_getState fun s => finds_bind (finds_loadSpan _) fun pde => finds_ite _ ?_ ?_
  · refine finds_bind (finds_when _ (finds_storeSpan _ _)) fun _ =>
      finds_bind (finds_loadSpan _) fun pte => finds_ite _ (finds_ite _ ?_ ?_) ?_
    · exact finds_bind (finds_when _ (finds_storeSpan _ _)) fun _ =>
        finds_bind (finds_tlbInsert _) fun _ => finds_pure _
    · exact finds_pageFault _ _ _ _
    · exact finds_pageFault _ _ _ _
  · exact finds_pageFault _ _ _ _

/-- What a translation can do (R200): accessed and dirty bits, the TLB, free values; nothing else. -/
theorem finds_translate (lin : Dword) (write user : Bool) : Finds (translate lin write user) := by
  refine finds_bind finds_getState fun s => finds_ite _ ?_ (finds_pure _)
  have walked : Finds (walk lin write user >>= fun e => pure (framed e lin)) :=
    finds_bind (finds_walk _ _ _) fun e => finds_pure _
  dsimp only
  split
  · refine finds_ite _ (finds_ite _ (finds_pure _) (finds_bind finds_drawChoice fun held => ?_)) walked
    exact finds_ite _ (finds_pure _) (finds_bind (finds_setTlb _ _) fun _ => walked)
  · exact walked

theorem finds_linSpan (lin : Dword) (n : Nat) (write user : Bool) : Finds (linSpan lin n write user) :=
  finds_bind (finds_translate _ _ _) fun _ => finds_ite _ (finds_pure _)
    (finds_bind (finds_translate _ _ _) fun _ => finds_pure _)

theorem finds_linRead (lin : Dword) (n : Nat) : Finds (linRead lin n) :=
  finds_bind (finds_linSpan _ _ _ _) fun _ => finds_loadSpan _

/-! ## Segments, operands, the stack -/

theorem finds_segLinear (sg : Seg) (off : Dword) (n : Nat) (write : Bool) : Finds (segLinear sg off n write) :=
  finds_bind finds_getState fun _ => finds_bind (finds_require _ _) fun _ => finds_pure _

theorem finds_noteAccess (lin : Dword) (n : Nat) (write : Bool) : Finds (noteAccess lin n write) := by
  intro s a t h
  simp only [noteAccess, update_apply, EStateM.Result.ok.injEq] at h
  rw [← h.2]
  rfl

/-- What an access through a segment register can do (R165, R200, R822). -/
theorem finds_segSpan (sg : Seg) (off : Dword) (n : Nat) (write : Bool) : Finds (segSpan sg off n write) :=
  finds_bind (finds_segLinear _ _ _ _) fun _ => finds_bind finds_getState fun _ =>
    finds_bind (finds_linSpan _ _ _ _) fun _ => finds_bind (finds_noteAccess _ _ _) fun _ => finds_pure _

theorem finds_memRead (sg : Seg) (off : Dword) (n : Nat) : Finds (memRead sg off n) :=
  finds_bind (finds_segSpan _ _ _ _) fun _ => finds_loadSpan _

theorem finds_effAddr (m : Mem) : Finds (effAddr m) := by
  refine finds_bind finds_getState fun _ => finds_bind (finds_when _ ?_) fun _ => finds_pure _
  intro s a t h
  simp only [update_apply, EStateM.Result.ok.injEq] at h
  rw [← h.2]
  rfl

/-- What finding an r/m operand can do (R326). -/
theorem finds_place (sz : Size) (rm : RM) (write : Bool) : Finds (place sz rm write) := by
  cases rm with
  | reg r => exact finds_pure _
  | mem m => exact finds_bind (finds_effAddr m) fun _ => finds_bind (finds_segSpan _ _ _ _) fun _ => finds_pure _

theorem finds_requireStack (delta n : Nat) : Finds (requireStack delta n) :=
  finds_bind finds_getState fun _ => finds_require _ _

theorem finds_peek (delta n : Nat) : Finds (peek delta n) :=
  finds_bind (finds_requireStack _ _) fun _ => finds_bind finds_getState fun _ => finds_memRead _ _ _

theorem finds_stackRead (off : Dword) (n : Nat) : Finds (stackRead off n) :=
  finds_bind finds_getState fun _ => finds_bind (finds_require _ _) fun _ => finds_memRead _ _ _

theorem finds_checkFrame (n : Nat) : Finds (checkFrame n) :=
  finds_bind (finds_requireStack _ _) fun _ => finds_bind finds_getState fun _ =>
    finds_bind (finds_segLinear _ _ _ _) fun _ => finds_pure _

theorem finds_readDescAt (lin : Dword) : Finds (readDescAt lin) :=
  finds_bind (finds_linSpan _ _ _ _) fun _ => finds_bind (finds_loadSpan _) fun _ =>
    finds_bind (finds_loadSpan _) fun _ => finds_pure _

theorem finds_readDesc (sel : Word) (bad : Exc) : Finds (readDesc sel bad) := by
  refine finds_bind finds_getState fun s => ?_
  split
  · exact finds_readDescAt _
  · exact finds_raise _

/-- Marking a descriptor accessed changes memory and the TLB alone (R184). -/
theorem finds_setAccessed (sel : Word) (d : Desc) : Finds (setAccessed sel d) := by
  refine finds_when _ (finds_bind finds_getState fun s => ?_)
  split
  · exact finds_bind (finds_linSpan _ _ _ _) fun _ => finds_bind (finds_loadSpan _) fun _ => finds_storeSpan _ _
  · exact finds_pure _

/-! ## Without paging -/

/-- Without paging a linear address is physical (R133). -/
theorem translate_unpaged {s : State} (h : s.unpaged) (lin : Dword) (write user : Bool) :
    translate lin write user s = .ok lin s := by
  have h' : (s.pe && s.pg) = false := h
  simp only [translate, exec_bind_apply, getState_apply, h']
  rfl

/-- Without paging the bytes of an access follow one another from its linear address (R164). -/
theorem linSpan_unpaged {s : State} (h : s.unpaged) (lin : Dword) (n : Nat) (hn : n ≤ 4096) (write user : Bool) :
    linSpan lin n write user s = .ok (linearBytes lin n) s := by
  have hl := lin.isLt
  simp only [linSpan, exec_bind_apply, translate_unpaged h]
  split
  · rename_i h1
    simp only [exec_pure_apply, linearBytes, EStateM.Result.ok.injEq, and_true]
    refine List.map_congr_left fun k hk => ?_
    rw [List.mem_range] at hk
    omega
  · rename_i h1
    simp only [exec_bind_apply, translate_unpaged h, exec_pure_apply, linearBytes, EStateM.Result.ok.injEq, and_true]
    have e : n = (4096 - lin.toNat % 4096) + (n - (4096 - lin.toNat % 4096)) := by omega
    conv => rhs; rw [e, List.range_add, List.map_append, List.map_map]
    congr 1
    · refine List.map_congr_left fun k hk => ?_
      rw [List.mem_range] at hk
      omega
    · refine List.map_congr_left fun k hk => ?_
      rw [List.mem_range] at hk
      simp only [Function.comp_apply, BitVec.toNat_add, BitVec.toNat_ofNat]
      omega

/-- Without paging an access through a segment register is the check of the segment, the bytes from base plus offset, and the
mark of a data breakpoint (R164 to R168, R822). -/
theorem segSpan_unpaged {s : State} (h : s.unpaged) (sg : Seg) (off : Dword) (n : Nat) (hn : n ≤ 4096) (write : Bool) :
    segSpan sg off n write s =
      if accessOk s.prot (s.segs.get sg) write && limitOk s.prot (s.segs.get sg) off n then
        .ok (linearBytes ((s.segs.get sg).base + off) n)
          { s with events := { s.events with traps := { s.events.traps with
              b := s.events.traps.b |||
                breakpointBits s.dregs fun i => dataMatch s.dregs i ((s.segs.get sg).base + off) n write } } }
      else .error (.exc (segFault sg)) s := by
  simp only [segSpan, segLinear, exec_bind_apply, getState_apply]
  cases accessOk s.prot (s.segs.get sg) write && limitOk s.prot (s.segs.get sg) off n
  · rfl
  · simp only [require_true, exec_pure_apply, linSpan_unpaged h _ _ hn, noteAccess, update_apply, if_true]

/-- Without paging finding an operand changes neither memory nor the TLB. -/
theorem segSpan_unpaged_keeps {s t : State} (h : s.unpaged) {sg : Seg} {off : Dword} {n : Nat} (hn : n ≤ 4096)
    {write : Bool} {sp : List Nat} (k : segSpan sg off n write s = .ok sp t) :
    t.mem = s.mem ∧ t.paging = s.paging ∧ t.draws = s.draws ∧ t.unpaged := by
  rw [segSpan_unpaged h _ _ _ hn] at k
  split at k
  · simp only [EStateM.Result.ok.injEq] at k
    rw [← k.2]
    exact ⟨rfl, rfl, rfl, h⟩
  · simp at k

/-- The descriptor of a selector, without paging (R163). -/
theorem readDesc_unpaged {s : State} (h : s.unpaged) (sel : Word) (bad : Exc) :
    readDesc sel bad s =
      match descAddr s sel with
      | some a => .ok (descriptorAt s.mem a) s
      | none => .error (.exc bad) s := by
  simp only [readDesc, exec_bind_apply, getState_apply]
  cases descAddr s sel with
  | none => rfl
  | some a => simp [readDescAt, linSpan_unpaged h _ 8 (by decide), descriptorAt]

/-- The accessed bit of the descriptor of a selector set, without paging (R184). -/
theorem setAccessed_unpaged {s : State} (h : s.unpaged) (sel : Word) (d : Desc) (a : Dword)
    (ha : descAddr s sel = some a) : setAccessed sel d s = .ok () { s with mem := markAccessed s.mem a d } := by
  unfold setAccessed markAccessed
  cases hd : d.attr.s && !d.attr.typ.getLsbD 0
  · rfl
  · have h1 : linearBytes (a + 5) 1 = [(a + 5).toNat] := by
      have := (a + 5).isLt
      simp only [linearBytes, List.range_one, List.map_cons, List.map_nil, Nat.add_zero]
      rw [Nat.mod_eq_of_lt this]
    simp only [when_true, writeRights, exec_bind_apply, getState_apply, ha, linSpan_unpaged h _ 1 (by decide), h1,
      loadSpan_apply, storeSpan_apply, if_true]
    simp [Memory.load]

end Sys2Proof.Machine
end

