-- ==== Sys2Proof/Laws/Prefix.lean ====
section
/-! SUPPORT. What runs behind a prefix byte is `exec` of the instruction behind it (spec/30_encoding.md R252). -/

namespace Sys2Proof.Machine

/-- Running the instruction behind a prefix is `exec` of it. -/
theorem runInner_eq_exec (i : Instr) (s : State) : runInner i s = exec i s := by cases i <;> rfl

theorem exec_csPrefix (i : Instr) (s : State) : exec (.csPrefix i) s = exec i (withSeg .cs s) :=
  runInner_eq_exec i _

theorem exec_dsPrefix (i : Instr) (s : State) : exec (.dsPrefix i) s = exec i (withSeg .ds s) :=
  runInner_eq_exec i _

theorem exec_esPrefix (i : Instr) (s : State) : exec (.esPrefix i) s = exec i (withSeg .es s) :=
  runInner_eq_exec i _

theorem exec_fsPrefix (i : Instr) (s : State) : exec (.fsPrefix i) s = exec i (withSeg .fs s) :=
  runInner_eq_exec i _

theorem exec_gsPrefix (i : Instr) (s : State) : exec (.gsPrefix i) s = exec i (withSeg .gs s) :=
  runInner_eq_exec i _

theorem exec_ssPrefix (i : Instr) (s : State) : exec (.ssPrefix i) s = exec i (withSeg .ss s) :=
  runInner_eq_exec i _

theorem exec_opSizePrefix (i : Instr) (s : State) : exec (.opSizePrefix i) s = exec i (withOpSize s) :=
  runInner_eq_exec i _

theorem exec_addrSizePrefix (i : Instr) (s : State) : exec (.addrSizePrefix i) s = exec i (withAddrSize s) :=
  runInner_eq_exec i _

theorem exec_repPrefix (i : Instr) (s : State) : exec (.repPrefix i) s = exec i (withRepeat .rep s) :=
  runInner_eq_exec i _

theorem exec_repnePrefix (i : Instr) (s : State) : exec (.repnePrefix i) s = exec i (withRepeat .repne s) :=
  runInner_eq_exec i _

/-- LOCK before a form that it may precede changes nothing (spec/20_memory.md R147). -/
theorem exec_lockPrefix {i : Instr} (h : lockable i = true) (s : State) : exec (.lockPrefix i) s = exec i s := by
  rw [← runInner_eq_exec i s]
  show (if lockable i then runInner i s else _) = _
  rw [if_pos h]

/-- LOCK before any other form raises #6 (R147). -/
theorem exec_lockPrefix_of_not {i : Instr} (h : lockable i = false) (s : State) :
    exec (.lockPrefix i) s = runInstr (raise .invalidOpcode) s := by
  show (if lockable i then runInner i s else _) = _
  rw [if_neg (by simp [h])]

end Sys2Proof.Machine
end

