-- ==== Sys2Proof/Laws/Ops.lean ====
section
/-! SUPPORT. What the shared operations over the stack do where they succeed, how a delivery that succeeds ends, and far
transfers and software interrupts as the operation that they run. -/

namespace Sys2Proof.Machine

/-! ## The stack (spec/40_data_transfer.md R350, R351) -/

@[simp] theorem setStackPtr_apply (v : Dword) (s : State) :
    setStackPtr v s =
      .ok () { s with regs := { s.regs with esp := if s.stack32 then v else putLow16 s.regs.esp (low16 v) } } := rfl

/-- A stack pointer that a push finds never depends on anything but the stack's width, and finding it changes nothing. -/
theorem pushPtr_ok {ptr new : Dword} {n : Nat} {s t : State} (h : pushPtr ptr n s = .ok new t) :
    new = ptrDown s.stack32 ptr n ∧ t = s := by
  simp only [pushPtr, exec_bind_apply, getState_apply] at h
  split at h
  · split at h <;> simp at h
  · simp only [exec_pure_apply, EStateM.Result.ok.injEq] at h
    exact ⟨h.1.symm, h.2.symm⟩

/-- A claimed slot is the span below the stack top, and the stack pointer is all that the claim changes beside what an
operand access changes. -/
theorem claimSlot_ok {n : Nat} {sp : List Nat} {s t : State} (h : claimSlot n s = .ok sp t) :
    ∃ u, segSpan .ss (ptrDown s.stack32 (stackPtr s) n) n true s = .ok sp u ∧ accessed s u ∧
      setStackPtr (ptrDown s.stack32 (stackPtr s) n) u = .ok () t := by
  obtain ⟨_, _, h1, h⟩ := exec_bind_ok h
  simp only [getState_apply, EStateM.Result.ok.injEq] at h1
  obtain ⟨rfl, rfl⟩ := h1
  obtain ⟨new, _, h2, h⟩ := exec_bind_ok h
  obtain ⟨rfl, rfl⟩ := pushPtr_ok h2
  obtain ⟨sp', u, h3, h⟩ := exec_bind_ok h
  obtain ⟨_, v, h4, h5⟩ := exec_bind_ok h
  simp only [exec_pure_apply, EStateM.Result.ok.injEq] at h5
  obtain ⟨rfl, rfl⟩ := h5
  exact ⟨u, h3, finds_segSpan _ _ _ _ _ _ _ h3, h4⟩

/-- Two slots are claimed one after the other: where the first push does not pass, the second is not looked at (R350). -/
theorem claimSlots_two (n : Nat) (v w : Dword) (s : State) :
    claimSlots n [v, w] s =
      match claimSlot n s with
      | .error x t => .error x t
      | .ok sp t =>
        match claimSlot n t with
        | .error x u => .error x u
        | .ok sp' u => .ok [sp, sp'] u := by
  simp only [claimSlots, exec_bind_apply, exec_pure_apply]
  cases claimSlot n s with
  | error x t => rfl
  | ok sp t =>
    simp only
    cases claimSlot n t <;> rfl

/-- A push that succeeds stores into the slot that it claims. -/
theorem push_ok {sz : Size} {v : Dword} {s t : State} (h : push sz v s = .ok () t) :
    ∃ sp u, claimSlot sz.bytes s = .ok sp u ∧ t = { u with mem := Memory.store u.mem sp v } := by
  obtain ⟨sp, u, h1, h2⟩ := exec_bind_ok h
  simp only [storeSpan_apply, EStateM.Result.ok.injEq, true_and] at h2
  exact ⟨sp, u, h1, h2.symm⟩

@[simp] theorem requireStack_apply (delta n : Nat) (s : State) :
    requireStack delta n s =
      if (stackPtr s).toNat + delta + n ≤ stackEnd s then .ok () s else .error (.exc (.stack 0)) s := by
  simp only [requireStack, exec_bind_apply, getState_apply]
  split <;> rename_i h <;> simp [h]

/-- What a read above the stack top is: the stack's end is checked, then it is an access through SS (R351). -/
theorem peek_apply (delta n : Nat) (s : State) :
    peek delta n s =
      if (stackPtr s).toNat + delta + n ≤ stackEnd s then memRead .ss (stackPtr s + BitVec.ofNat 32 delta) n s
      else .error (.exc (.stack 0)) s := by
  simp only [peek, exec_bind_apply, requireStack_apply]
  by_cases h : (stackPtr s).toNat + delta + n ≤ stackEnd s <;> simp [h]

/-- What a read of the stack at another offset is: the stack's end is checked, then it is an access through SS (R175). -/
theorem stackRead_apply (off : Dword) (n : Nat) (s : State) :
    stackRead off n s =
      if off.toNat + n ≤ stackEnd s then memRead .ss off n s else .error (.exc (.stack 0)) s := by
  simp only [stackRead, exec_bind_apply, getState_apply]
  by_cases h : off.toNat + n ≤ stackEnd s <;> simp [h]

/-- Without paging an access through a segment register that does not pass has changed nothing. -/
theorem segSpan_stop_unpaged {s t : State} (h : s.unpaged) {sg : Seg} {off : Dword} {n : Nat} (hn : n ≤ 4096) {write : Bool}
    {x : Stop} (k : segSpan sg off n write s = .error x t) : t = s := by
  rw [segSpan_unpaged h _ _ _ hn] at k
  split at k
  · simp at k
  · simp only [EStateM.Result.error.injEq] at k
    exact k.2.symm

/-- Without paging a push that does not pass has changed nothing. -/
theorem push_stop_unpaged {s t : State} (h : s.unpaged) {sz : Size} {v : Dword} {x : Stop} (k : push sz v s = .error x t) :
    t = s := by
  have claim : ∀ {x t}, claimSlot sz.bytes s = .error x t → t = s := by
    intro x t k
    simp only [claimSlot, exec_bind_apply, getState_apply] at k
    cases hp : pushPtr (stackPtr s) sz.bytes s with
    | error e u =>
      rw [hp] at k
      simp only [pushPtr, exec_bind_apply, getState_apply] at hp
      split at hp
      · split at hp <;> simp at hp <;> simp at k <;> rw [← k.2, ← hp.2]
      · simp at hp
    | ok new u =>
      obtain rfl := (pushPtr_ok hp).2
      rw [hp] at k
      simp only at k
      cases hs : segSpan .ss new sz.bytes true u with
      | error e w =>
        rw [hs] at k
        simp only [EStateM.Result.error.injEq] at k
        rw [← k.2]
        exact segSpan_stop_unpaged h (by cases sz <;> decide) hs
      | ok sp w => rw [hs] at k; simp at k
  simp only [push, exec_bind_apply] at k
  cases hc : claimSlot sz.bytes s with
  | error e u => rw [hc] at k; simp only [EStateM.Result.error.injEq] at k; rw [← k.2]; exact claim hc
  | ok sp u => rw [hc] at k; simp at k

/-- A pop that succeeds reads the stack top and moves the stack pointer up. -/
theorem pop_ok {sz : Size} {v : Dword} {s t : State} (h : pop sz s = .ok v t) :
    ∃ u, peek 0 sz.bytes s = .ok v u ∧ accessed s u ∧ release sz.bytes u = .ok () t := by
  obtain ⟨w, u, h1, h⟩ := exec_bind_ok h
  obtain ⟨_, x, h2, h3⟩ := exec_bind_ok h
  simp only [exec_pure_apply, EStateM.Result.ok.injEq] at h3
  obtain ⟨rfl, rfl⟩ := h3
  exact ⟨u, h1, finds_peek _ _ _ _ _ h1, h2⟩

/-- Values go into their slots one after the other; nothing but memory changes. -/
theorem fillSlots_apply (slots : List (List Nat)) (values : List Dword) (s : State) :
    fillSlots slots values s =
      .ok () { s with mem := (slots.zip values).foldl (fun m v => Memory.store m v.1 v.2) s.mem } := by
  induction slots generalizing values s with
  | nil => rfl
  | cons sp rest ih =>
    cases values with
    | nil => rfl
    | cons v vs =>
      simp only [fillSlots, exec_bind_apply, storeSpan_apply, List.zip_cons_cons, List.foldl_cons]
      exact ih vs _

/-! ## Deliveries (spec/60_exceptions.md R740, R722) -/

@[simp] theorem mapStop_apply {α : Type} (f : Stop → Stop) (x : Exec α) (s : State) :
    mapStop f x s = match x s with | .ok a t => .ok a t | .error e t => .error (f e) t := rfl

/-- The accesses of a computation whose matches do not count: the state it leaves has the matches it began with. -/
@[simp] theorem unmatched_apply {α : Type} (x : Exec α) (s : State) :
    unmatched x s =
      match x s with
      | .ok a t => .ok a (t.withMatches s)
      | .error e t => .error e (t.withMatches s) := rfl

/-- A delivery in protected mode that raises an exception raises it with the EXT bit of its source (R756). -/
theorem deliver_raises {ev : Event} {s t : State} {e : Exc} (nested : Bool) (hp : s.pe = true)
    (h : deliverProtected ev s = .error (.exc e) t) :
    deliver nested ev s = .error (.exc (withExt ev.source e)) (t.withMatches s) := by
  simp only [deliver, exec_bind_apply, getState_apply, hp, if_true, unmatched_apply, mapStop_apply, h, addExt]

@[simp] theorem withExt_protection (ev : Event) (c : Word) : withExt ev.source (.protection c) = .protection (ev.ext c) := by
  unfold withExt Event.ext
  cases ev.source <;> simp [Exc.protection]

@[simp] theorem withExt_notPresent (ev : Event) (c : Word) : withExt ev.source (.notPresent c) = .notPresent (ev.ext c) := by
  unfold withExt Event.ext
  cases ev.source <;> simp [Exc.notPresent]

/-- An interrupt or exception whose delivery succeeds: the handler's first instruction is next. -/
theorem takeEvent_ok {ev : Event} {s t : State} (h : deliver false ev s = .ok () t) :
    takeEvent ev s = .next (settle t) := by
  show deliverChain 8 false false ev s = _
  rw [deliverChain, h]

/-- An instruction that raises an exception whose delivery succeeds. -/
theorem runInstr_delivers {body : Exec Unit} {s t u : State} {e : Exc} (h : body s = .error (.exc e) t)
    (k : deliver false (exceptionEvent (rollback s t) e) (rollback s t) = .ok () u) :
    runInstr body s = .next (settle u) := by
  rw [runInstr_exc h, takeEvent_ok k]

/-- An instruction that delivers a software interrupt is that delivery (R640 to R642). -/
theorem exec_interrupts {s : State} {i : Instr} {ev : Event} (h : s.interrupts i ev) :
    exec i s = runInstr (deliver false ev) s := by
  have hs : softwareInterrupt ev.vector s = deliver false ev s := by
    simp only [softwareInterrupt, exec_bind_apply, getState_apply, ← h.1]
  obtain ⟨rfl, hv⟩ | ⟨rfl, hv⟩ | ⟨rfl, hv, ho⟩ := h.2
  · have hi : s.v86Trapped = false := by
      unfold State.v86Trapped State.v86
      cases hm : s.pe && s.flags.vm
      · rfl
      · rw [hv hm]; rfl
    exact runInstr_congr (by simp only [requireV86Iopl, exec_bind_apply, getState_apply, hi, Bool.not_false, require_true, hs])
  · rw [hv] at hs
    exact runInstr_congr hs
  · rw [hv] at hs
    exact runInstr_congr (by simp only [exec_bind_apply, getState_apply, ho, when_true, hs])

/-- A far pointer read from memory is one that JMP and CALL name (R576, R578). -/
theorem readFarPointer_ok {m : Mem} {s t : State} {p : Word × Dword} (h : readFarPointer m s = .ok p t) :
    s.farPointer t (.jmpFarMem m) (.callFarMem m) p.1 p.2 := by
  obtain ⟨_, _, h1, h⟩ := exec_bind_ok h
  simp only [getState_apply, EStateM.Result.ok.injEq] at h1
  obtain ⟨rfl, rfl⟩ := h1
  obtain ⟨⟨sg, o⟩, a, ha, h⟩ := exec_bind_ok h
  obtain ⟨off, b, hb, h⟩ := exec_bind_ok h
  obtain ⟨v, c, hc, h⟩ := exec_bind_ok h
  simp only [exec_pure_apply, EStateM.Result.ok.injEq] at h
  obtain ⟨rfl, rfl⟩ := h
  exact .inr ⟨m, sg, o, a, b, v, rfl, rfl, ha, hb, hc, rfl⟩

/-- A far JMP and a far CALL are the transfer to the pointer that they name, from the state that has read it (R575 to R578). -/
theorem exec_farPointer {s r : State} {jmp call : Instr} {sel : Word} {off : Dword} (h : s.farPointer r jmp call sel off) :
    exec jmp s = runInstr (fun _ => farJump sel off r) s ∧ exec call s = runInstr (fun _ => farCall sel off r) s := by
  obtain ⟨p, rfl, rfl, rfl, rfl, rfl⟩ | ⟨m, sg, o, a, b, v, rfl, rfl, ha, hb, hc, rfl⟩ := h
  · exact ⟨rfl, rfl⟩
  · have hr : readFarPointer m s = .ok (v.setWidth 16, off) r := by
      simp only [readFarPointer, exec_bind_apply, getState_apply, ha, hb, hc, exec_pure_apply, low16]
    exact ⟨runInstr_congr (by simp only [exec_bind_apply, hr]), runInstr_congr (by simp only [exec_bind_apply, hr])⟩

@[simp] theorem rollback_refl (s : State) : rollback s s = s := rfl

end Sys2Proof.Machine
end

