-- ==== Sys2Proof/Laws/PerInstr.lean ====
section
/-! SUPPORT. Statements made per instruction, one lemma for each constructor. -/

namespace Sys2Proof

/-- The encoding of the instruction begins with a byte that the decoder takes for a prefix (spec/30_encoding.md R252): a
prefix byte itself, or the repeat byte of a row of its own (R512). -/
def Instr.opensWithPrefixByte : Instr → Bool
  | .csPrefix _ | .dsPrefix _ | .esPrefix _ | .fsPrefix _ | .gsPrefix _ | .ssPrefix _ | .opSizePrefix _
  | .addrSizePrefix _ | .lockPrefix _ | .repPrefix _ | .repnePrefix _ => true
  | .repInsF3 _ | .repInsF2 _ | .repLodsF3 _ | .repLodsF2 _ | .repMovsF3 _ | .repMovsF2 _ | .repOutsF3 _
  | .repOutsF2 _ | .repStosF3 _ | .repStosF2 _ | .repeCmps _ | .repneCmps _ | .repeScas _ | .repneScas _ => true
  | _ => false

namespace Laws.EncodingOpens

/-- The encoding of a well-formed instruction has a first byte, and the decoder takes it for a prefix exactly where the
instruction opens with one. -/
def Statement (i : Instr) : Prop :=
  ∀ d32 : Bool, i.wellFormed d32 = true →
    ∃ b rest, encode i = b :: rest ∧ (prefixByte b).isSome = i.opensWithPrefixByte

theorem addRmReg (d : Bool) (w : Bool) (rm : RM) (r : Reg) : Statement (.addRmReg d w rm r) := by
  cases d <;> cases w <;> exact fun _ _ => ⟨_, _, rfl, rfl⟩
theorem addRmImm (s : Bool) (w : Bool) (rm : RM) (imm : Imm) : Statement (.addRmImm s w rm imm) := by
  cases s <;> cases w <;> exact fun _ _ => ⟨_, _, rfl, rfl⟩
theorem addAccImm (w : Bool) (imm : Imm) : Statement (.addAccImm w imm) := by
  cases w <;> exact fun _ _ => ⟨_, _, rfl, rfl⟩
theorem orRmReg (d : Bool) (w : Bool) (rm : RM) (r : Reg) : Statement (.orRmReg d w rm r) := by
  cases d <;> cases w <;> exact fun _ _ => ⟨_, _, rfl, rfl⟩
theorem orRmImm (s : Bool) (w : Bool) (rm : RM) (imm : Imm) : Statement (.orRmImm s w rm imm) := by
  cases s <;> cases w <;> exact fun _ _ => ⟨_, _, rfl, rfl⟩
theorem orAccImm (w : Bool) (imm : Imm) : Statement (.orAccImm w imm) := by
  cases w <;> exact fun _ _ => ⟨_, _, rfl, rfl⟩
theorem adcRmReg (d : Bool) (w : Bool) (rm : RM) (r : Reg) : Statement (.adcRmReg d w rm r) := by
  cases d <;> cases w <;> exact fun _ _ => ⟨_, _, rfl, rfl⟩
theorem adcRmImm (s : Bool) (w : Bool) (rm : RM) (imm : Imm) : Statement (.adcRmImm s w rm imm) := by
  cases s <;> cases w <;> exact fun _ _ => ⟨_, _, rfl, rfl⟩
theorem adcAccImm (w : Bool) (imm : Imm) : Statement (.adcAccImm w imm) := by
  cases w <;> exact fun _ _ => ⟨_, _, rfl, rfl⟩
theorem sbbRmReg (d : Bool) (w : Bool) (rm : RM) (r : Reg) : Statement (.sbbRmReg d w rm r) := by
  cases d <;> cases w <;> exact fun _ _ => ⟨_, _, rfl, rfl⟩
theorem sbbRmImm (s : Bool) (w : Bool) (rm : RM) (imm : Imm) : Statement (.sbbRmImm s w rm imm) := by
  cases s <;> cases w <;> exact fun _ _ => ⟨_, _, rfl, rfl⟩
theorem sbbAccImm (w : Bool) (imm : Imm) : Statement (.sbbAccImm w imm) := by
  cases w <;> exact fun _ _ => ⟨_, _, rfl, rfl⟩
theorem andRmReg (d : Bool) (w : Bool) (rm : RM) (r : Reg) : Statement (.andRmReg d w rm r) := by
  cases d <;> cases w <;> exact fun _ _ => ⟨_, _, rfl, rfl⟩
theorem andRmImm (s : Bool) (w : Bool) (rm : RM) (imm : Imm) : Statement (.andRmImm s w rm imm) := by
  cases s <;> cases w <;> exact fun _ _ => ⟨_, _, rfl, rfl⟩
theorem andAccImm (w : Bool) (imm : Imm) : Statement (.andAccImm w imm) := by
  cases w <;> exact fun _ _ => ⟨_, _, rfl, rfl⟩
theorem subRmReg (d : Bool) (w : Bool) (rm : RM) (r : Reg) : Statement (.subRmReg d w rm r) := by
  cases d <;> cases w <;> exact fun _ _ => ⟨_, _, rfl, rfl⟩
theorem subRmImm (s : Bool) (w : Bool) (rm : RM) (imm : Imm) : Statement (.subRmImm s w rm imm) := by
  cases s <;> cases w <;> exact fun _ _ => ⟨_, _, rfl, rfl⟩
theorem subAccImm (w : Bool) (imm : Imm) : Statement (.subAccImm w imm) := by
  cases w <;> exact fun _ _ => ⟨_, _, rfl, rfl⟩
theorem xorRmReg (d : Bool) (w : Bool) (rm : RM) (r : Reg) : Statement (.xorRmReg d w rm r) := by
  cases d <;> cases w <;> exact fun _ _ => ⟨_, _, rfl, rfl⟩
theorem xorRmImm (s : Bool) (w : Bool) (rm : RM) (imm : Imm) : Statement (.xorRmImm s w rm imm) := by
  cases s <;> cases w <;> exact fun _ _ => ⟨_, _, rfl, rfl⟩
theorem xorAccImm (w : Bool) (imm : Imm) : Statement (.xorAccImm w imm) := by
  cases w <;> exact fun _ _ => ⟨_, _, rfl, rfl⟩
theorem cmpRmReg (d : Bool) (w : Bool) (rm : RM) (r : Reg) : Statement (.cmpRmReg d w rm r) := by
  cases d <;> cases w <;> exact fun _ _ => ⟨_, _, rfl, rfl⟩
theorem cmpRmImm (s : Bool) (w : Bool) (rm : RM) (imm : Imm) : Statement (.cmpRmImm s w rm imm) := by
  cases s <;> cases w <;> exact fun _ _ => ⟨_, _, rfl, rfl⟩
theorem cmpAccImm (w : Bool) (imm : Imm) : Statement (.cmpAccImm w imm) := by
  cases w <;> exact fun _ _ => ⟨_, _, rfl, rfl⟩
theorem testRmReg (w : Bool) (rm : RM) (r : Reg) : Statement (.testRmReg w rm r) := by
  cases w <;> exact fun _ _ => ⟨_, _, rfl, rfl⟩
theorem testRmImm (w : Bool) (rm : RM) (imm : Imm) : Statement (.testRmImm w rm imm) := by
  cases w <;> exact fun _ _ => ⟨_, _, rfl, rfl⟩
theorem testAccImm (w : Bool) (imm : Imm) : Statement (.testAccImm w imm) := by
  cases w <;> exact fun _ _ => ⟨_, _, rfl, rfl⟩
theorem notRm (w : Bool) (rm : RM) : Statement (.notRm w rm) := by
  cases w <;> exact fun _ _ => ⟨_, _, rfl, rfl⟩
theorem negRm (w : Bool) (rm : RM) : Statement (.negRm w rm) := by
  cases w <;> exact fun _ _ => ⟨_, _, rfl, rfl⟩
theorem mulRm (w : Bool) (rm : RM) : Statement (.mulRm w rm) := by
  cases w <;> exact fun _ _ => ⟨_, _, rfl, rfl⟩
theorem imulRm (w : Bool) (rm : RM) : Statement (.imulRm w rm) := by
  cases w <;> exact fun _ _ => ⟨_, _, rfl, rfl⟩
theorem imulRegRm (r : Reg) (rm : RM) : Statement (.imulRegRm r rm) := fun _ _ => ⟨_, _, rfl, rfl⟩
theorem imulRegRmImm (s : Bool) (r : Reg) (rm : RM) (imm : Imm) : Statement (.imulRegRmImm s r rm imm) := by
  cases s <;> exact fun _ _ => ⟨_, _, rfl, rfl⟩
theorem divRm (w : Bool) (rm : RM) : Statement (.divRm w rm) := by
  cases w <;> exact fun _ _ => ⟨_, _, rfl, rfl⟩
theorem idivRm (w : Bool) (rm : RM) : Statement (.idivRm w rm) := by
  cases w <;> exact fun _ _ => ⟨_, _, rfl, rfl⟩
theorem incRm (w : Bool) (rm : RM) : Statement (.incRm w rm) := by
  cases w <;> exact fun _ _ => ⟨_, _, rfl, rfl⟩
theorem incReg (r : Reg) : Statement (.incReg r) := by
  cases r <;> exact fun _ _ => ⟨_, _, rfl, rfl⟩
theorem decRm (w : Bool) (rm : RM) : Statement (.decRm w rm) := by
  cases w <;> exact fun _ _ => ⟨_, _, rfl, rfl⟩
theorem decReg (r : Reg) : Statement (.decReg r) := by
  cases r <;> exact fun _ _ => ⟨_, _, rfl, rfl⟩
theorem aaa : Statement (.aaa) := fun _ _ => ⟨_, _, rfl, rfl⟩
theorem aas : Statement (.aas) := fun _ _ => ⟨_, _, rfl, rfl⟩
theorem daa : Statement (.daa) := fun _ _ => ⟨_, _, rfl, rfl⟩
theorem das : Statement (.das) := fun _ _ => ⟨_, _, rfl, rfl⟩
theorem aad : Statement (.aad) := fun _ _ => ⟨_, _, rfl, rfl⟩
theorem aam : Statement (.aam) := fun _ _ => ⟨_, _, rfl, rfl⟩
theorem cbw : Statement (.cbw) := fun _ _ => ⟨_, _, rfl, rfl⟩
theorem cwd : Statement (.cwd) := fun _ _ => ⟨_, _, rfl, rfl⟩
theorem movRmReg (w : Bool) (rm : RM) (r : Reg) : Statement (.movRmReg w rm r) := by
  cases w <;> exact fun _ _ => ⟨_, _, rfl, rfl⟩
theorem movRegRm (w : Bool) (r : Reg) (rm : RM) : Statement (.movRegRm w r rm) := by
  cases w <;> exact fun _ _ => ⟨_, _, rfl, rfl⟩
theorem movRmImm (w : Bool) (rm : RM) (imm : Imm) : Statement (.movRmImm w rm imm) := by
  cases w <;> exact fun _ _ => ⟨_, _, rfl, rfl⟩
theorem movRegImm (w : Bool) (r : Reg) (imm : Imm) : Statement (.movRegImm w r imm) := by
  cases w <;> cases r <;> exact fun _ _ => ⟨_, _, rfl, rfl⟩
theorem movAccMoffs (w : Bool) (off : Full) : Statement (.movAccMoffs w off) := by
  cases w <;> exact fun _ _ => ⟨_, _, rfl, rfl⟩
theorem movMoffsAcc (w : Bool) (off : Full) : Statement (.movMoffsAcc w off) := by
  cases w <;> exact fun _ _ => ⟨_, _, rfl, rfl⟩
theorem movSegRm (sg : Seg) (rm : RM) : Statement (.movSegRm sg rm) := fun _ _ => ⟨_, _, rfl, rfl⟩
theorem movRmSeg (rm : RM) (sg : Seg) : Statement (.movRmSeg rm sg) := fun _ _ => ⟨_, _, rfl, rfl⟩
theorem movsx (w : Bool) (r : Reg) (rm : RM) : Statement (.movsx w r rm) := fun _ _ => ⟨_, _, rfl, rfl⟩
theorem movzx (w : Bool) (r : Reg) (rm : RM) : Statement (.movzx w r rm) := fun _ _ => ⟨_, _, rfl, rfl⟩
theorem pushRm (rm : RM) : Statement (.pushRm rm) := fun _ _ => ⟨_, _, rfl, rfl⟩
theorem pushReg (r : Reg) : Statement (.pushReg r) := by
  cases r <;> exact fun _ _ => ⟨_, _, rfl, rfl⟩
theorem pushImm (s : Bool) (imm : Imm) : Statement (.pushImm s imm) := by
  cases s <;> exact fun _ _ => ⟨_, _, rfl, rfl⟩
theorem pushSeg (sg : Seg) : Statement (.pushSeg sg) := by
  cases sg <;> exact fun d h => by cases d <;> first | exact ⟨_, _, rfl, rfl⟩ | cases h
theorem pushFs : Statement (.pushFs) := fun _ _ => ⟨_, _, rfl, rfl⟩
theorem pushGs : Statement (.pushGs) := fun _ _ => ⟨_, _, rfl, rfl⟩
theorem popRm (rm : RM) : Statement (.popRm rm) := fun _ _ => ⟨_, _, rfl, rfl⟩
theorem popReg (r : Reg) : Statement (.popReg r) := by
  cases r <;> exact fun _ _ => ⟨_, _, rfl, rfl⟩
theorem popEs : Statement (.popEs) := fun _ _ => ⟨_, _, rfl, rfl⟩
theorem popSs : Statement (.popSs) := fun _ _ => ⟨_, _, rfl, rfl⟩
theorem popDs : Statement (.popDs) := fun _ _ => ⟨_, _, rfl, rfl⟩
theorem popFs : Statement (.popFs) := fun _ _ => ⟨_, _, rfl, rfl⟩
theorem popGs : Statement (.popGs) := fun _ _ => ⟨_, _, rfl, rfl⟩
theorem pusha : Statement (.pusha) := fun _ _ => ⟨_, _, rfl, rfl⟩
theorem popa : Statement (.popa) := fun _ _ => ⟨_, _, rfl, rfl⟩
theorem xchgRmReg (w : Bool) (rm : RM) (r : Reg) : Statement (.xchgRmReg w rm r) := by
  cases w <;> exact fun _ _ => ⟨_, _, rfl, rfl⟩
theorem xchgAcc (r : Reg) : Statement (.xchgAcc r) := by
  cases r <;> exact fun _ _ => ⟨_, _, rfl, rfl⟩
theorem inImm (w : Bool) (port : BitVec 8) : Statement (.inImm w port) := by
  cases w <;> exact fun _ _ => ⟨_, _, rfl, rfl⟩
theorem inDx (w : Bool) : Statement (.inDx w) := by
  cases w <;> exact fun _ _ => ⟨_, _, rfl, rfl⟩
theorem outImm (w : Bool) (port : BitVec 8) : Statement (.outImm w port) := by
  cases w <;> exact fun _ _ => ⟨_, _, rfl, rfl⟩
theorem outDx (w : Bool) : Statement (.outDx w) := by
  cases w <;> exact fun _ _ => ⟨_, _, rfl, rfl⟩
theorem lea (r : Reg) (m : Mem) : Statement (.lea r m) := fun _ _ => ⟨_, _, rfl, rfl⟩
theorem lds (r : Reg) (m : Mem) : Statement (.lds r m) := fun _ _ => ⟨_, _, rfl, rfl⟩
theorem les (r : Reg) (m : Mem) : Statement (.les r m) := fun _ _ => ⟨_, _, rfl, rfl⟩
theorem lfs (r : Reg) (m : Mem) : Statement (.lfs r m) := fun _ _ => ⟨_, _, rfl, rfl⟩
theorem lgs (r : Reg) (m : Mem) : Statement (.lgs r m) := fun _ _ => ⟨_, _, rfl, rfl⟩
theorem lss (r : Reg) (m : Mem) : Statement (.lss r m) := fun _ _ => ⟨_, _, rfl, rfl⟩
theorem clc : Statement (.clc) := fun _ _ => ⟨_, _, rfl, rfl⟩
theorem cld : Statement (.cld) := fun _ _ => ⟨_, _, rfl, rfl⟩
theorem cli : Statement (.cli) := fun _ _ => ⟨_, _, rfl, rfl⟩
theorem cmc : Statement (.cmc) := fun _ _ => ⟨_, _, rfl, rfl⟩
theorem lahf : Statement (.lahf) := fun _ _ => ⟨_, _, rfl, rfl⟩
theorem pushf : Statement (.pushf) := fun _ _ => ⟨_, _, rfl, rfl⟩
theorem popf : Statement (.popf) := fun _ _ => ⟨_, _, rfl, rfl⟩
theorem sahf : Statement (.sahf) := fun _ _ => ⟨_, _, rfl, rfl⟩
theorem stc : Statement (.stc) := fun _ _ => ⟨_, _, rfl, rfl⟩
theorem std : Statement (.std) := fun _ _ => ⟨_, _, rfl, rfl⟩
theorem sti : Statement (.sti) := fun _ _ => ⟨_, _, rfl, rfl⟩
theorem clts : Statement (.clts) := fun _ _ => ⟨_, _, rfl, rfl⟩
theorem rolOne (w : Bool) (rm : RM) : Statement (.rolOne w rm) := by
  cases w <;> exact fun _ _ => ⟨_, _, rfl, rfl⟩
theorem rolCl (w : Bool) (rm : RM) : Statement (.rolCl w rm) := by
  cases w <;> exact fun _ _ => ⟨_, _, rfl, rfl⟩
theorem rolImm (w : Bool) (rm : RM) (n : BitVec 8) : Statement (.rolImm w rm n) := by
  cases w <;> exact fun _ _ => ⟨_, _, rfl, rfl⟩
theorem rorOne (w : Bool) (rm : RM) : Statement (.rorOne w rm) := by
  cases w <;> exact fun _ _ => ⟨_, _, rfl, rfl⟩
theorem rorCl (w : Bool) (rm : RM) : Statement (.rorCl w rm) := by
  cases w <;> exact fun _ _ => ⟨_, _, rfl, rfl⟩
theorem rorImm (w : Bool) (rm : RM) (n : BitVec 8) : Statement (.rorImm w rm n) := by
  cases w <;> exact fun _ _ => ⟨_, _, rfl, rfl⟩
theorem rclOne (w : Bool) (rm : RM) : Statement (.rclOne w rm) := by
  cases w <;> exact fun _ _ => ⟨_, _, rfl, rfl⟩
theorem rclCl (w : Bool) (rm : RM) : Statement (.rclCl w rm) := by
  cases w <;> exact fun _ _ => ⟨_, _, rfl, rfl⟩
theorem rclImm (w : Bool) (rm : RM) (n : BitVec 8) : Statement (.rclImm w rm n) := by
  cases w <;> exact fun _ _ => ⟨_, _, rfl, rfl⟩
theorem rcrOne (w : Bool) (rm : RM) : Statement (.rcrOne w rm) := by
  cases w <;> exact fun _ _ => ⟨_, _, rfl, rfl⟩
theorem rcrCl (w : Bool) (rm : RM) : Statement (.rcrCl w rm) := by
  cases w <;> exact fun _ _ => ⟨_, _, rfl, rfl⟩
theorem rcrImm (w : Bool) (rm : RM) (n : BitVec 8) : Statement (.rcrImm w rm n) := by
  cases w <;> exact fun _ _ => ⟨_, _, rfl, rfl⟩
theorem shlOne (w : Bool) (rm : RM) : Statement (.shlOne w rm) := by
  cases w <;> exact fun _ _ => ⟨_, _, rfl, rfl⟩
theorem shlCl (w : Bool) (rm : RM) : Statement (.shlCl w rm) := by
  cases w <;> exact fun _ _ => ⟨_, _, rfl, rfl⟩
theorem shlImm (w : Bool) (rm : RM) (n : BitVec 8) : Statement (.shlImm w rm n) := by
  cases w <;> exact fun _ _ => ⟨_, _, rfl, rfl⟩
theorem shrOne (w : Bool) (rm : RM) : Statement (.shrOne w rm) := by
  cases w <;> exact fun _ _ => ⟨_, _, rfl, rfl⟩
theorem shrCl (w : Bool) (rm : RM) : Statement (.shrCl w rm) := by
  cases w <;> exact fun _ _ => ⟨_, _, rfl, rfl⟩
theorem shrImm (w : Bool) (rm : RM) (n : BitVec 8) : Statement (.shrImm w rm n) := by
  cases w <;> exact fun _ _ => ⟨_, _, rfl, rfl⟩
theorem sarOne (w : Bool) (rm : RM) : Statement (.sarOne w rm) := by
  cases w <;> exact fun _ _ => ⟨_, _, rfl, rfl⟩
theorem sarCl (w : Bool) (rm : RM) : Statement (.sarCl w rm) := by
  cases w <;> exact fun _ _ => ⟨_, _, rfl, rfl⟩
theorem sarImm (w : Bool) (rm : RM) (n : BitVec 8) : Statement (.sarImm w rm n) := by
  cases w <;> exact fun _ _ => ⟨_, _, rfl, rfl⟩
theorem shldImm (rm : RM) (r : Reg) (n : BitVec 8) : Statement (.shldImm rm r n) := fun _ _ => ⟨_, _, rfl, rfl⟩
theorem shldCl (rm : RM) (r : Reg) : Statement (.shldCl rm r) := fun _ _ => ⟨_, _, rfl, rfl⟩
theorem shrdImm (rm : RM) (r : Reg) (n : BitVec 8) : Statement (.shrdImm rm r n) := fun _ _ => ⟨_, _, rfl, rfl⟩
theorem shrdCl (rm : RM) (r : Reg) : Statement (.shrdCl rm r) := fun _ _ => ⟨_, _, rfl, rfl⟩
theorem cmps (w : Bool) : Statement (.cmps w) := by
  cases w <;> exact fun _ _ => ⟨_, _, rfl, rfl⟩
theorem ins (w : Bool) : Statement (.ins w) := by
  cases w <;> exact fun _ _ => ⟨_, _, rfl, rfl⟩
theorem lods (w : Bool) : Statement (.lods w) := by
  cases w <;> exact fun _ _ => ⟨_, _, rfl, rfl⟩
theorem movs (w : Bool) : Statement (.movs w) := by
  cases w <;> exact fun _ _ => ⟨_, _, rfl, rfl⟩
theorem outs (w : Bool) : Statement (.outs w) := by
  cases w <;> exact fun _ _ => ⟨_, _, rfl, rfl⟩
theorem scas (w : Bool) : Statement (.scas w) := by
  cases w <;> exact fun _ _ => ⟨_, _, rfl, rfl⟩
theorem stos (w : Bool) : Statement (.stos w) := by
  cases w <;> exact fun _ _ => ⟨_, _, rfl, rfl⟩
theorem xlat : Statement (.xlat) := fun _ _ => ⟨_, _, rfl, rfl⟩
theorem repInsF3 (w : Bool) : Statement (.repInsF3 w) := fun _ _ => ⟨_, _, rfl, rfl⟩
theorem repInsF2 (w : Bool) : Statement (.repInsF2 w) := fun _ _ => ⟨_, _, rfl, rfl⟩
theorem repLodsF3 (w : Bool) : Statement (.repLodsF3 w) := fun _ _ => ⟨_, _, rfl, rfl⟩
theorem repLodsF2 (w : Bool) : Statement (.repLodsF2 w) := fun _ _ => ⟨_, _, rfl, rfl⟩
theorem repMovsF3 (w : Bool) : Statement (.repMovsF3 w) := fun _ _ => ⟨_, _, rfl, rfl⟩
theorem repMovsF2 (w : Bool) : Statement (.repMovsF2 w) := fun _ _ => ⟨_, _, rfl, rfl⟩
theorem repOutsF3 (w : Bool) : Statement (.repOutsF3 w) := fun _ _ => ⟨_, _, rfl, rfl⟩
theorem repOutsF2 (w : Bool) : Statement (.repOutsF2 w) := fun _ _ => ⟨_, _, rfl, rfl⟩
theorem repStosF3 (w : Bool) : Statement (.repStosF3 w) := fun _ _ => ⟨_, _, rfl, rfl⟩
theorem repStosF2 (w : Bool) : Statement (.repStosF2 w) := fun _ _ => ⟨_, _, rfl, rfl⟩
theorem repeCmps (w : Bool) : Statement (.repeCmps w) := fun _ _ => ⟨_, _, rfl, rfl⟩
theorem repneCmps (w : Bool) : Statement (.repneCmps w) := fun _ _ => ⟨_, _, rfl, rfl⟩
theorem repeScas (w : Bool) : Statement (.repeScas w) := fun _ _ => ⟨_, _, rfl, rfl⟩
theorem repneScas (w : Bool) : Statement (.repneScas w) := fun _ _ => ⟨_, _, rfl, rfl⟩
theorem bsf (r : Reg) (rm : RM) : Statement (.bsf r rm) := fun _ _ => ⟨_, _, rfl, rfl⟩
theorem bsr (r : Reg) (rm : RM) : Statement (.bsr r rm) := fun _ _ => ⟨_, _, rfl, rfl⟩
theorem btImm (rm : RM) (n : BitVec 8) : Statement (.btImm rm n) := fun _ _ => ⟨_, _, rfl, rfl⟩
theorem btReg (rm : RM) (r : Reg) : Statement (.btReg rm r) := fun _ _ => ⟨_, _, rfl, rfl⟩
theorem btcImm (rm : RM) (n : BitVec 8) : Statement (.btcImm rm n) := fun _ _ => ⟨_, _, rfl, rfl⟩
theorem btcReg (rm : RM) (r : Reg) : Statement (.btcReg rm r) := fun _ _ => ⟨_, _, rfl, rfl⟩
theorem btrImm (rm : RM) (n : BitVec 8) : Statement (.btrImm rm n) := fun _ _ => ⟨_, _, rfl, rfl⟩
theorem btrReg (rm : RM) (r : Reg) : Statement (.btrReg rm r) := fun _ _ => ⟨_, _, rfl, rfl⟩
theorem btsImm (rm : RM) (n : BitVec 8) : Statement (.btsImm rm n) := fun _ _ => ⟨_, _, rfl, rfl⟩
theorem btsReg (rm : RM) (r : Reg) : Statement (.btsReg rm r) := fun _ _ => ⟨_, _, rfl, rfl⟩
theorem jmpShort (disp : BitVec 8) : Statement (.jmpShort disp) := fun _ _ => ⟨_, _, rfl, rfl⟩
theorem jmpNear (disp : Full) : Statement (.jmpNear disp) := fun _ _ => ⟨_, _, rfl, rfl⟩
theorem jmpRm (rm : RM) : Statement (.jmpRm rm) := fun _ _ => ⟨_, _, rfl, rfl⟩
theorem jmpFar (p : FarPtr) : Statement (.jmpFar p) := fun _ _ => ⟨_, _, rfl, rfl⟩
theorem jmpFarMem (m : Mem) : Statement (.jmpFarMem m) := fun _ _ => ⟨_, _, rfl, rfl⟩
theorem callNear (disp : Full) : Statement (.callNear disp) := fun _ _ => ⟨_, _, rfl, rfl⟩
theorem callRm (rm : RM) : Statement (.callRm rm) := fun _ _ => ⟨_, _, rfl, rfl⟩
theorem callFar (p : FarPtr) : Statement (.callFar p) := fun _ _ => ⟨_, _, rfl, rfl⟩
theorem callFarMem (m : Mem) : Statement (.callFarMem m) := fun _ _ => ⟨_, _, rfl, rfl⟩
theorem retNear : Statement (.retNear) := fun _ _ => ⟨_, _, rfl, rfl⟩
theorem retNearImm (n : BitVec 16) : Statement (.retNearImm n) := fun _ _ => ⟨_, _, rfl, rfl⟩
theorem retFar : Statement (.retFar) := fun _ _ => ⟨_, _, rfl, rfl⟩
theorem retFarImm (n : BitVec 16) : Statement (.retFarImm n) := fun _ _ => ⟨_, _, rfl, rfl⟩
theorem joShort (disp : BitVec 8) : Statement (.joShort disp) := fun _ _ => ⟨_, _, rfl, rfl⟩
theorem joNear (disp : Full) : Statement (.joNear disp) := fun _ _ => ⟨_, _, rfl, rfl⟩
theorem jnoShort (disp : BitVec 8) : Statement (.jnoShort disp) := fun _ _ => ⟨_, _, rfl, rfl⟩
theorem jnoNear (disp : Full) : Statement (.jnoNear disp) := fun _ _ => ⟨_, _, rfl, rfl⟩
theorem jbShort (disp : BitVec 8) : Statement (.jbShort disp) := fun _ _ => ⟨_, _, rfl, rfl⟩
theorem jbNear (disp : Full) : Statement (.jbNear disp) := fun _ _ => ⟨_, _, rfl, rfl⟩
theorem jnbShort (disp : BitVec 8) : Statement (.jnbShort disp) := fun _ _ => ⟨_, _, rfl, rfl⟩
theorem jnbNear (disp : Full) : Statement (.jnbNear disp) := fun _ _ => ⟨_, _, rfl, rfl⟩
theorem jeShort (disp : BitVec 8) : Statement (.jeShort disp) := fun _ _ => ⟨_, _, rfl, rfl⟩
theorem jeNear (disp : Full) : Statement (.jeNear disp) := fun _ _ => ⟨_, _, rfl, rfl⟩
theorem jneShort (disp : BitVec 8) : Statement (.jneShort disp) := fun _ _ => ⟨_, _, rfl, rfl⟩
theorem jneNear (disp : Full) : Statement (.jneNear disp) := fun _ _ => ⟨_, _, rfl, rfl⟩
theorem jbeShort (disp : BitVec 8) : Statement (.jbeShort disp) := fun _ _ => ⟨_, _, rfl, rfl⟩
theorem jbeNear (disp : Full) : Statement (.jbeNear disp) := fun _ _ => ⟨_, _, rfl, rfl⟩
theorem jnbeShort (disp : BitVec 8) : Statement (.jnbeShort disp) := fun _ _ => ⟨_, _, rfl, rfl⟩
theorem jnbeNear (disp : Full) : Statement (.jnbeNear disp) := fun _ _ => ⟨_, _, rfl, rfl⟩
theorem jsShort (disp : BitVec 8) : Statement (.jsShort disp) := fun _ _ => ⟨_, _, rfl, rfl⟩
theorem jsNear (disp : Full) : Statement (.jsNear disp) := fun _ _ => ⟨_, _, rfl, rfl⟩
theorem jnsShort (disp : BitVec 8) : Statement (.jnsShort disp) := fun _ _ => ⟨_, _, rfl, rfl⟩
theorem jnsNear (disp : Full) : Statement (.jnsNear disp) := fun _ _ => ⟨_, _, rfl, rfl⟩
theorem jpShort (disp : BitVec 8) : Statement (.jpShort disp) := fun _ _ => ⟨_, _, rfl, rfl⟩
theorem jpNear (disp : Full) : Statement (.jpNear disp) := fun _ _ => ⟨_, _, rfl, rfl⟩
theorem jnpShort (disp : BitVec 8) : Statement (.jnpShort disp) := fun _ _ => ⟨_, _, rfl, rfl⟩
theorem jnpNear (disp : Full) : Statement (.jnpNear disp) := fun _ _ => ⟨_, _, rfl, rfl⟩
theorem jlShort (disp : BitVec 8) : Statement (.jlShort disp) := fun _ _ => ⟨_, _, rfl, rfl⟩
theorem jlNear (disp : Full) : Statement (.jlNear disp) := fun _ _ => ⟨_, _, rfl, rfl⟩
theorem jnlShort (disp : BitVec 8) : Statement (.jnlShort disp) := fun _ _ => ⟨_, _, rfl, rfl⟩
theorem jnlNear (disp : Full) : Statement (.jnlNear disp) := fun _ _ => ⟨_, _, rfl, rfl⟩
theorem jleShort (disp : BitVec 8) : Statement (.jleShort disp) := fun _ _ => ⟨_, _, rfl, rfl⟩
theorem jleNear (disp : Full) : Statement (.jleNear disp) := fun _ _ => ⟨_, _, rfl, rfl⟩
theorem jnleShort (disp : BitVec 8) : Statement (.jnleShort disp) := fun _ _ => ⟨_, _, rfl, rfl⟩
theorem jnleNear (disp : Full) : Statement (.jnleNear disp) := fun _ _ => ⟨_, _, rfl, rfl⟩
theorem seto (rm : RM) : Statement (.seto rm) := fun _ _ => ⟨_, _, rfl, rfl⟩
theorem setno (rm : RM) : Statement (.setno rm) := fun _ _ => ⟨_, _, rfl, rfl⟩
theorem setb (rm : RM) : Statement (.setb rm) := fun _ _ => ⟨_, _, rfl, rfl⟩
theorem setnb (rm : RM) : Statement (.setnb rm) := fun _ _ => ⟨_, _, rfl, rfl⟩
theorem sete (rm : RM) : Statement (.sete rm) := fun _ _ => ⟨_, _, rfl, rfl⟩
theorem setne (rm : RM) : Statement (.setne rm) := fun _ _ => ⟨_, _, rfl, rfl⟩
theorem setbe (rm : RM) : Statement (.setbe rm) := fun _ _ => ⟨_, _, rfl, rfl⟩
theorem setnbe (rm : RM) : Statement (.setnbe rm) := fun _ _ => ⟨_, _, rfl, rfl⟩
theorem sets (rm : RM) : Statement (.sets rm) := fun _ _ => ⟨_, _, rfl, rfl⟩
theorem setns (rm : RM) : Statement (.setns rm) := fun _ _ => ⟨_, _, rfl, rfl⟩
theorem setp (rm : RM) : Statement (.setp rm) := fun _ _ => ⟨_, _, rfl, rfl⟩
theorem setnp (rm : RM) : Statement (.setnp rm) := fun _ _ => ⟨_, _, rfl, rfl⟩
theorem setl (rm : RM) : Statement (.setl rm) := fun _ _ => ⟨_, _, rfl, rfl⟩
theorem setnl (rm : RM) : Statement (.setnl rm) := fun _ _ => ⟨_, _, rfl, rfl⟩
theorem setle (rm : RM) : Statement (.setle rm) := fun _ _ => ⟨_, _, rfl, rfl⟩
theorem setnle (rm : RM) : Statement (.setnle rm) := fun _ _ => ⟨_, _, rfl, rfl⟩
theorem jcxz (disp : BitVec 8) : Statement (.jcxz disp) := fun _ _ => ⟨_, _, rfl, rfl⟩
theorem loop (disp : BitVec 8) : Statement (.loop disp) := fun _ _ => ⟨_, _, rfl, rfl⟩
theorem loopz (disp : BitVec 8) : Statement (.loopz disp) := fun _ _ => ⟨_, _, rfl, rfl⟩
theorem loopnz (disp : BitVec 8) : Statement (.loopnz disp) := fun _ _ => ⟨_, _, rfl, rfl⟩
theorem enter (n : BitVec 16) (level : BitVec 8) : Statement (.enter n level) := fun _ _ => ⟨_, _, rfl, rfl⟩
theorem leave : Statement (.leave) := fun _ _ => ⟨_, _, rfl, rfl⟩
theorem int (n : BitVec 8) : Statement (.int n) := fun _ _ => ⟨_, _, rfl, rfl⟩
theorem int3 : Statement (.int3) := fun _ _ => ⟨_, _, rfl, rfl⟩
theorem into : Statement (.into) := fun _ _ => ⟨_, _, rfl, rfl⟩
theorem bound (r : Reg) (m : Mem) : Statement (.bound r m) := fun _ _ => ⟨_, _, rfl, rfl⟩
theorem iret : Statement (.iret) := fun _ _ => ⟨_, _, rfl, rfl⟩
theorem hlt : Statement (.hlt) := fun _ _ => ⟨_, _, rfl, rfl⟩
theorem movCrReg (x : CReg) (r : Reg) : Statement (.movCrReg x r) := fun _ _ => ⟨_, _, rfl, rfl⟩
theorem movRegCr (r : Reg) (x : CReg) : Statement (.movRegCr r x) := fun _ _ => ⟨_, _, rfl, rfl⟩
theorem movDrReg (x : DReg) (r : Reg) : Statement (.movDrReg x r) := fun _ _ => ⟨_, _, rfl, rfl⟩
theorem movRegDr (r : Reg) (x : DReg) : Statement (.movRegDr r x) := fun _ _ => ⟨_, _, rfl, rfl⟩
theorem movTrReg (x : TReg) (r : Reg) : Statement (.movTrReg x r) := fun _ _ => ⟨_, _, rfl, rfl⟩
theorem movRegTr (r : Reg) (x : TReg) : Statement (.movRegTr r x) := fun _ _ => ⟨_, _, rfl, rfl⟩
theorem nop : Statement (.nop) := fun _ _ => ⟨_, _, rfl, rfl⟩
theorem wait : Statement (.wait) := fun _ _ => ⟨_, _, rfl, rfl⟩
theorem esc (op : BitVec 3) (sub : BitVec 3) (rm : RM) : Statement (.esc op sub rm) := by
  have h : ∀ op : BitVec 3, (prefixByte (0xD8 ||| op.zeroExtend 8)).isSome = false := by decide
  exact fun _ _ => ⟨_, _, rfl, h op⟩
theorem arpl (rm : RM) (r : Reg) : Statement (.arpl rm r) := fun _ _ => ⟨_, _, rfl, rfl⟩
theorem lar (r : Reg) (rm : RM) : Statement (.lar r rm) := fun _ _ => ⟨_, _, rfl, rfl⟩
theorem lsl (r : Reg) (rm : RM) : Statement (.lsl r rm) := fun _ _ => ⟨_, _, rfl, rfl⟩
theorem sldt (rm : RM) : Statement (.sldt rm) := fun _ _ => ⟨_, _, rfl, rfl⟩
theorem str (rm : RM) : Statement (.str rm) := fun _ _ => ⟨_, _, rfl, rfl⟩
theorem lldt (rm : RM) : Statement (.lldt rm) := fun _ _ => ⟨_, _, rfl, rfl⟩
theorem ltr (rm : RM) : Statement (.ltr rm) := fun _ _ => ⟨_, _, rfl, rfl⟩
theorem verr (rm : RM) : Statement (.verr rm) := fun _ _ => ⟨_, _, rfl, rfl⟩
theorem verw (rm : RM) : Statement (.verw rm) := fun _ _ => ⟨_, _, rfl, rfl⟩
theorem sgdt (m : Mem) : Statement (.sgdt m) := fun _ _ => ⟨_, _, rfl, rfl⟩
theorem sidt (m : Mem) : Statement (.sidt m) := fun _ _ => ⟨_, _, rfl, rfl⟩
theorem lgdt (m : Mem) : Statement (.lgdt m) := fun _ _ => ⟨_, _, rfl, rfl⟩
theorem lidt (m : Mem) : Statement (.lidt m) := fun _ _ => ⟨_, _, rfl, rfl⟩
theorem smsw (rm : RM) : Statement (.smsw rm) := fun _ _ => ⟨_, _, rfl, rfl⟩
theorem lmsw (rm : RM) : Statement (.lmsw rm) := fun _ _ => ⟨_, _, rfl, rfl⟩
theorem csPrefix (inner : Instr) : Statement (.csPrefix inner) := fun _ _ => ⟨_, _, rfl, rfl⟩
theorem dsPrefix (inner : Instr) : Statement (.dsPrefix inner) := fun _ _ => ⟨_, _, rfl, rfl⟩
theorem esPrefix (inner : Instr) : Statement (.esPrefix inner) := fun _ _ => ⟨_, _, rfl, rfl⟩
theorem fsPrefix (inner : Instr) : Statement (.fsPrefix inner) := fun _ _ => ⟨_, _, rfl, rfl⟩
theorem gsPrefix (inner : Instr) : Statement (.gsPrefix inner) := fun _ _ => ⟨_, _, rfl, rfl⟩
theorem ssPrefix (inner : Instr) : Statement (.ssPrefix inner) := fun _ _ => ⟨_, _, rfl, rfl⟩
theorem opSizePrefix (inner : Instr) : Statement (.opSizePrefix inner) := fun _ _ => ⟨_, _, rfl, rfl⟩
theorem addrSizePrefix (inner : Instr) : Statement (.addrSizePrefix inner) := fun _ _ => ⟨_, _, rfl, rfl⟩
theorem lockPrefix (inner : Instr) : Statement (.lockPrefix inner) := fun _ _ => ⟨_, _, rfl, rfl⟩
theorem repPrefix (inner : Instr) : Statement (.repPrefix inner) := fun _ _ => ⟨_, _, rfl, rfl⟩
theorem repnePrefix (inner : Instr) : Statement (.repnePrefix inner) := fun _ _ => ⟨_, _, rfl, rfl⟩

end Laws.EncodingOpens

end Sys2Proof
end

