-- ==== Sys2Proof/Tests/Slice0.lean ====
section
/-! SUPPORT. Tests: ill-formed terms that WellFormed refuses, words written out from the spec's encodings, single steps
with the results that the spec's test vectors and rules give, and for every statement with hypotheses a state and
operands that meet them. The kernel evaluates a step (`decide +kernel`), which the elaborator alone does slowly. -/

set_option Elab.async false

namespace Sys2Proof.Tests

open Sys2Proof Sys2Proof.Machine

/-- The bytes of each instruction decode to it, whole. -/
def decodes (d32 : Bool) (l : List (List Byte × Instr)) : Bool :=
  l.all fun p =>
    match decode d32 p.1 with
    | .ok (i, n) => decide (i = p.2) && decide (n = p.1.length)
    | .error _ => false

/-- A step completes. -/
def runs (s : State) : Bool :=
  match step s with
  | .next _ => true
  | _ => false

theorem next_of {s : State} (h : runs s = true) : ∃ t, step s = .next t := by
  unfold runs at h
  cases h' : step s <;> simp [h'] at h ⊢

/-! ## Ill-formed terms, one for each check of WellFormed.lean, with the boundary that the check accepts -/

theorem test_wellformed_refuses_the_wrong_address_size :
    Instr.wellFormed true (.notRm true (.mem (.direct16 0))) = false ∧
    Instr.wellFormed true (.notRm true (.mem (.based16 .bx .none))) = false ∧
    Instr.wellFormed false (.notRm true (.mem (.direct32 0))) = false ∧
    Instr.wellFormed false (.notRm true (.mem (.based32 .eax .none))) = false ∧
    Instr.wellFormed false (.notRm true (.mem (.sib .x1 none .eax .none))) = false ∧
    Instr.wellFormed false (.notRm true (.mem (.sibDisp .x1 none 0))) = false ∧
    Instr.wellFormed false (.addrSizePrefix (.notRm true (.mem (.direct32 0)))) = true := by decide

theorem test_wellformed_refuses_operands_that_mod_rm_does_not_have :
    Instr.wellFormed false (.notRm true (.mem (.based16 .bp .none))) = false ∧
    Instr.wellFormed true (.notRm true (.mem (.based32 .esp .none))) = false ∧
    Instr.wellFormed true (.notRm true (.mem (.based32 .ebp .none))) = false ∧
    Instr.wellFormed true (.notRm true (.mem (.sib .x1 (some .esp) .eax .none))) = false ∧
    Instr.wellFormed true (.notRm true (.mem (.sib .x1 none .ebp .none))) = false ∧
    Instr.wellFormed true (.notRm true (.mem (.sibDisp .x1 (some .esp) 0))) = false ∧
    Instr.wellFormed true (.notRm true (.mem (.sib .x1 none .ebp (.d8 0)))) = true := by decide

theorem test_wellformed_refuses_immediates_of_another_size :
    Instr.wellFormed false (.addRmImm false true (.reg .eax) (.i8 0)) = false ∧
    Instr.wellFormed false (.addRmImm true true (.reg .eax) (.i16 0)) = false ∧
    Instr.wellFormed false (.addRmImm false false (.reg .eax) (.i16 0)) = false ∧
    Instr.wellFormed true (.addRmImm false true (.reg .eax) (.i16 0)) = false ∧
    Instr.wellFormed false (.addRmImm false true (.reg .eax) (.i32 0)) = false ∧
    Instr.wellFormed false (.opSizePrefix (.addRmImm false true (.reg .eax) (.i32 0))) = true ∧
    Instr.wellFormed false (.addRmImm true false (.reg .eax) (.i8 0)) = false := by decide

theorem test_wellformed_refuses_displacements_of_another_size :
    Instr.wellFormed false (.jmpNear (.w32 0)) = false ∧ Instr.wellFormed true (.jmpNear (.w16 0)) = false ∧
    Instr.wellFormed false (.movAccMoffs true (.w32 0)) = false ∧
    Instr.wellFormed true (.movAccMoffs true (.w16 0)) = false ∧
    Instr.wellFormed true (.addrSizePrefix (.movAccMoffs true (.w16 0))) = true := by decide

theorem test_wellformed_refuses_registers_that_a_field_does_not_name :
    Instr.wellFormed false (.pushSeg .fs) = false ∧ Instr.wellFormed false (.pushSeg .gs) = false ∧
    Instr.wellFormed false (.movSegRm .cs (.reg .eax)) = false ∧ Instr.wellFormed false (.xchgAcc .eax) = false ∧
    Instr.wellFormed false (.pushSeg .cs) = true := by decide

theorem test_wellformed_refuses_a_general_repeat_of_a_string_instruction :
    Instr.wellFormed false (.repPrefix (.movs true)) = false ∧
    Instr.wellFormed false (.repnePrefix (.scas true)) = false ∧ Instr.wellFormed false (.repPrefix .nop) = true := by
  decide

/-! ## Decoding: one word of every row, its fields filled in by hand from the row's encoding -/

theorem test_decode_arithmetic : decodes false
    [([0x00, 0xDE], .addRmReg false false (.reg .esi) .ebx),
     ([0x81, 0x47, 0x9C, 0x34, 0x12], .addRmImm false true (.mem (.based16 .bx (.d8 0x9C))) (.i16 0x1234)),
     ([0x05, 0x34, 0x12], .addAccImm true (.i16 0x1234)),
     ([0x13, 0xDE], .adcRmReg true true (.reg .esi) .ebx),
     ([0x81, 0x57, 0x9C, 0x34, 0x12], .adcRmImm false true (.mem (.based16 .bx (.d8 0x9C))) (.i16 0x1234)),
     ([0x14, 0x85], .adcAccImm false (.i8 0x85)),
     ([0x19, 0xDE], .sbbRmReg false true (.reg .esi) .ebx),
     ([0x83, 0x5F, 0x9C, 0x85], .sbbRmImm true true (.mem (.based16 .bx (.d8 0x9C))) (.i8 0x85)),
     ([0x1D, 0x34, 0x12], .sbbAccImm true (.i16 0x1234)),
     ([0x2B, 0xDE], .subRmReg true true (.reg .esi) .ebx),
     ([0x80, 0x6F, 0x9C, 0x85], .subRmImm false false (.mem (.based16 .bx (.d8 0x9C))) (.i8 0x85)),
     ([0x2D, 0x34, 0x12], .subAccImm true (.i16 0x1234)),
     ([0x39, 0xDE], .cmpRmReg false true (.reg .esi) .ebx),
     ([0x83, 0x7F, 0x9C, 0x85], .cmpRmImm true true (.mem (.based16 .bx (.d8 0x9C))) (.i8 0x85)),
     ([0x3D, 0x34, 0x12], .cmpAccImm true (.i16 0x1234)),
     ([0xF6, 0x5F, 0x9C], .negRm false (.mem (.based16 .bx (.d8 0x9C)))),
     ([0xF7, 0xE6], .mulRm true (.reg .esi)),
     ([0xF7, 0xEE], .imulRm true (.reg .esi)),
     ([0x0F, 0xAF, 0x5F, 0x9C], .imulRegRm .ebx (.mem (.based16 .bx (.d8 0x9C)))),
     ([0x69, 0xDE, 0x34, 0x12], .imulRegRmImm false .ebx (.reg .esi) (.i16 0x1234)),
     ([0xF7, 0xF6], .divRm true (.reg .esi)),
     ([0xF7, 0x7F, 0x9C], .idivRm true (.mem (.based16 .bx (.d8 0x9C)))),
     ([0xFF, 0xC6], .incRm true (.reg .esi)),
     ([0x43], .incReg .ebx),
     ([0xFF, 0x4F, 0x9C], .decRm true (.mem (.based16 .bx (.d8 0x9C)))),
     ([0x4B], .decReg .ebx),
     ([0x37], .aaa),
     ([0x3F], .aas),
     ([0x27], .daa),
     ([0x2F], .das),
     ([0xD5, 0x0A], .aad),
     ([0xD4, 0x0A], .aam),
     ([0x98], .cbw),
     ([0x99], .cwd)] = true := by
  decide

theorem test_decode_logic_and_shift_1 : decodes false
    [([0x0B, 0xDE], .orRmReg true true (.reg .esi) .ebx),
     ([0x80, 0x4F, 0x9C, 0x85], .orRmImm false false (.mem (.based16 .bx (.d8 0x9C))) (.i8 0x85)),
     ([0x0D, 0x34, 0x12], .orAccImm true (.i16 0x1234)),
     ([0x20, 0xDE], .andRmReg false false (.reg .esi) .ebx),
     ([0x81, 0x67, 0x9C, 0x34, 0x12], .andRmImm false true (.mem (.based16 .bx (.d8 0x9C))) (.i16 0x1234)),
     ([0x25, 0x34, 0x12], .andAccImm true (.i16 0x1234)),
     ([0x33, 0xDE], .xorRmReg true true (.reg .esi) .ebx),
     ([0x81, 0x77, 0x9C, 0x34, 0x12], .xorRmImm false true (.mem (.based16 .bx (.d8 0x9C))) (.i16 0x1234)),
     ([0x34, 0x85], .xorAccImm false (.i8 0x85)),
     ([0x84, 0xDE], .testRmReg false (.reg .esi) .ebx),
     ([0xF7, 0x47, 0x9C, 0x34, 0x12], .testRmImm true (.mem (.based16 .bx (.d8 0x9C))) (.i16 0x1234)),
     ([0xA9, 0x34, 0x12], .testAccImm true (.i16 0x1234)),
     ([0xF7, 0xD6], .notRm true (.reg .esi)),
     ([0xD0, 0xC6], .rolOne false (.reg .esi)),
     ([0xD3, 0x47, 0x9C], .rolCl true (.mem (.based16 .bx (.d8 0x9C)))),
     ([0xC1, 0xC6, 0x21], .rolImm true (.reg .esi) 0x21),
     ([0xD1, 0xCE], .rorOne true (.reg .esi)),
     ([0xD2, 0x4F, 0x9C], .rorCl false (.mem (.based16 .bx (.d8 0x9C)))),
     ([0xC1, 0xCE, 0x21], .rorImm true (.reg .esi) 0x21),
     ([0xD1, 0xD6], .rclOne true (.reg .esi)),
     ([0xD3, 0x57, 0x9C], .rclCl true (.mem (.based16 .bx (.d8 0x9C)))),
     ([0xC0, 0xD6, 0x21], .rclImm false (.reg .esi) 0x21),
     ([0xD1, 0xDE], .rcrOne true (.reg .esi)),
     ([0xD3, 0x5F, 0x9C], .rcrCl true (.mem (.based16 .bx (.d8 0x9C)))),
     ([0xC1, 0xDE, 0x21], .rcrImm true (.reg .esi) 0x21),
     ([0xD0, 0xE6], .shlOne false (.reg .esi)),
     ([0xD3, 0x67, 0x9C], .shlCl true (.mem (.based16 .bx (.d8 0x9C)))),
     ([0xC1, 0xE6, 0x21], .shlImm true (.reg .esi) 0x21),
     ([0xD1, 0xEE], .shrOne true (.reg .esi)),
     ([0xD2, 0x6F, 0x9C], .shrCl false (.mem (.based16 .bx (.d8 0x9C)))),
     ([0xC1, 0xEE, 0x21], .shrImm true (.reg .esi) 0x21),
     ([0xD1, 0xFE], .sarOne true (.reg .esi)),
     ([0xD3, 0x7F, 0x9C], .sarCl true (.mem (.based16 .bx (.d8 0x9C)))),
     ([0xC0, 0xFE, 0x21], .sarImm false (.reg .esi) 0x21),
     ([0x0F, 0xA4, 0xDE, 0x21], .shldImm (.reg .esi) .ebx 0x21),
     ([0x0F, 0xA5, 0x5F, 0x9C], .shldCl (.mem (.based16 .bx (.d8 0x9C))) .ebx)] = true := by
  decide

theorem test_decode_logic_and_shift_2 : decodes false
    [([0x0F, 0xAC, 0xDE, 0x21], .shrdImm (.reg .esi) .ebx 0x21),
     ([0x0F, 0xAD, 0xDE], .shrdCl (.reg .esi) .ebx)] = true := by
  decide

theorem test_decode_data_transfer : decodes false
    [([0x89, 0xDE], .movRmReg true (.reg .esi) .ebx),
     ([0x8A, 0xDE], .movRegRm false .ebx (.reg .esi)),
     ([0xC7, 0x47, 0x9C, 0x34, 0x12], .movRmImm true (.mem (.based16 .bx (.d8 0x9C))) (.i16 0x1234)),
     ([0xBB, 0x34, 0x12], .movRegImm true .ebx (.i16 0x1234)),
     ([0xA1, 0xCD, 0xAB], .movAccMoffs true (.w16 0xABCD)),
     ([0xA2, 0xCD, 0xAB], .movMoffsAcc false (.w16 0xABCD)),
     ([0x8E, 0xDE], .movSegRm .ds (.reg .esi)),
     ([0x8C, 0xDE], .movRmSeg (.reg .esi) .ds),
     ([0x0F, 0xBF, 0x5F, 0x9C], .movsx true .ebx (.mem (.based16 .bx (.d8 0x9C)))),
     ([0x0F, 0xB6, 0xDE], .movzx false .ebx (.reg .esi)),
     ([0xFF, 0xF6], .pushRm (.reg .esi)),
     ([0x53], .pushReg .ebx),
     ([0x6A, 0x85], .pushImm true (.i8 0x85)),
     ([0x1E], .pushSeg .ds),
     ([0x0F, 0xA0], .pushFs),
     ([0x0F, 0xA8], .pushGs),
     ([0x8F, 0xC6], .popRm (.reg .esi)),
     ([0x5B], .popReg .ebx),
     ([0x07], .popEs),
     ([0x17], .popSs),
     ([0x1F], .popDs),
     ([0x0F, 0xA1], .popFs),
     ([0x0F, 0xA9], .popGs),
     ([0x60], .pusha),
     ([0x61], .popa),
     ([0x86, 0xDE], .xchgRmReg false (.reg .esi) .ebx),
     ([0x93], .xchgAcc .ebx),
     ([0xE5, 0x21], .inImm true 0x21),
     ([0xED], .inDx true),
     ([0xE6, 0x21], .outImm false 0x21),
     ([0xEF], .outDx true),
     ([0x8D, 0x5F, 0x9C], .lea .ebx (.based16 .bx (.d8 0x9C)))] = true := by
  decide

theorem test_decode_segment_and_flag_control : decodes false
    [([0xC5, 0x5F, 0x9C], .lds .ebx (.based16 .bx (.d8 0x9C))),
     ([0xC4, 0x5F, 0x9C], .les .ebx (.based16 .bx (.d8 0x9C))),
     ([0x0F, 0xB4, 0x5F, 0x9C], .lfs .ebx (.based16 .bx (.d8 0x9C))),
     ([0x0F, 0xB5, 0x5F, 0x9C], .lgs .ebx (.based16 .bx (.d8 0x9C))),
     ([0x0F, 0xB2, 0x5F, 0x9C], .lss .ebx (.based16 .bx (.d8 0x9C))),
     ([0xF8], .clc),
     ([0xFC], .cld),
     ([0xFA], .cli),
     ([0xF5], .cmc),
     ([0x9F], .lahf),
     ([0x9C], .pushf),
     ([0x9D], .popf),
     ([0x9E], .sahf),
     ([0xF9], .stc),
     ([0xFD], .std),
     ([0xFB], .sti),
     ([0x0F, 0x06], .clts)] = true := by
  decide

theorem test_decode_string : decodes false
    [([0xA7], .cmps true),
     ([0x6D], .ins true),
     ([0xAD], .lods true),
     ([0xA4], .movs false),
     ([0x6F], .outs true),
     ([0xAF], .scas true),
     ([0xAB], .stos true),
     ([0xD7], .xlat),
     ([0xF3, 0x6D], .repInsF3 true),
     ([0xF2, 0x6D], .repInsF2 true),
     ([0xF3, 0xAD], .repLodsF3 true),
     ([0xF2, 0xAC], .repLodsF2 false),
     ([0xF3, 0xA5], .repMovsF3 true),
     ([0xF2, 0xA5], .repMovsF2 true),
     ([0xF3, 0x6F], .repOutsF3 true),
     ([0xF2, 0x6E], .repOutsF2 false),
     ([0xF3, 0xAB], .repStosF3 true),
     ([0xF2, 0xAB], .repStosF2 true),
     ([0xF3, 0xA7], .repeCmps true),
     ([0xF2, 0xA6], .repneCmps false),
     ([0xF3, 0xAF], .repeScas true),
     ([0xF2, 0xAF], .repneScas true)] = true := by
  decide

theorem test_decode_bit : decodes false
    [([0x0F, 0xBC, 0xDE], .bsf .ebx (.reg .esi)),
     ([0x0F, 0xBD, 0xDE], .bsr .ebx (.reg .esi)),
     ([0x0F, 0xBA, 0x67, 0x9C, 0x21], .btImm (.mem (.based16 .bx (.d8 0x9C))) 0x21),
     ([0x0F, 0xA3, 0xDE], .btReg (.reg .esi) .ebx),
     ([0x0F, 0xBA, 0xFE, 0x21], .btcImm (.reg .esi) 0x21),
     ([0x0F, 0xBB, 0x5F, 0x9C], .btcReg (.mem (.based16 .bx (.d8 0x9C))) .ebx),
     ([0x0F, 0xBA, 0xF6, 0x21], .btrImm (.reg .esi) 0x21),
     ([0x0F, 0xB3, 0xDE], .btrReg (.reg .esi) .ebx),
     ([0x0F, 0xBA, 0x6F, 0x9C, 0x21], .btsImm (.mem (.based16 .bx (.d8 0x9C))) 0x21),
     ([0x0F, 0xAB, 0xDE], .btsReg (.reg .esi) .ebx)] = true := by
  decide

theorem test_decode_control_transfer_1 : decodes false
    [([0xEB, 0x21], .jmpShort 0x21),
     ([0xE9, 0xCD, 0xAB], .jmpNear (.w16 0xABCD)),
     ([0xFF, 0xE6], .jmpRm (.reg .esi)),
     ([0xEA, 0xCD, 0xAB, 0x78, 0x56], .jmpFar ⟨.w16 0xABCD, 0x5678⟩),
     ([0xFF, 0x6F, 0x9C], .jmpFarMem (.based16 .bx (.d8 0x9C))),
     ([0xE8, 0xCD, 0xAB], .callNear (.w16 0xABCD)),
     ([0xFF, 0xD6], .callRm (.reg .esi)),
     ([0x9A, 0xCD, 0xAB, 0x78, 0x56], .callFar ⟨.w16 0xABCD, 0x5678⟩),
     ([0xFF, 0x5F, 0x9C], .callFarMem (.based16 .bx (.d8 0x9C))),
     ([0xC3], .retNear),
     ([0xC2, 0x78, 0x56], .retNearImm 0x5678),
     ([0xCB], .retFar),
     ([0xCA, 0x78, 0x56], .retFarImm 0x5678),
     ([0x70, 0x21], .joShort 0x21),
     ([0x0F, 0x80, 0xCD, 0xAB], .joNear (.w16 0xABCD)),
     ([0x71, 0x21], .jnoShort 0x21),
     ([0x0F, 0x81, 0xCD, 0xAB], .jnoNear (.w16 0xABCD)),
     ([0x72, 0x21], .jbShort 0x21),
     ([0x0F, 0x82, 0xCD, 0xAB], .jbNear (.w16 0xABCD)),
     ([0x73, 0x21], .jnbShort 0x21),
     ([0x0F, 0x83, 0xCD, 0xAB], .jnbNear (.w16 0xABCD)),
     ([0x74, 0x21], .jeShort 0x21),
     ([0x0F, 0x84, 0xCD, 0xAB], .jeNear (.w16 0xABCD)),
     ([0x75, 0x21], .jneShort 0x21),
     ([0x0F, 0x85, 0xCD, 0xAB], .jneNear (.w16 0xABCD)),
     ([0x76, 0x21], .jbeShort 0x21),
     ([0x0F, 0x86, 0xCD, 0xAB], .jbeNear (.w16 0xABCD)),
     ([0x77, 0x21], .jnbeShort 0x21),
     ([0x0F, 0x87, 0xCD, 0xAB], .jnbeNear (.w16 0xABCD)),
     ([0x78, 0x21], .jsShort 0x21),
     ([0x0F, 0x88, 0xCD, 0xAB], .jsNear (.w16 0xABCD)),
     ([0x79, 0x21], .jnsShort 0x21),
     ([0x0F, 0x89, 0xCD, 0xAB], .jnsNear (.w16 0xABCD)),
     ([0x7A, 0x21], .jpShort 0x21),
     ([0x0F, 0x8A, 0xCD, 0xAB], .jpNear (.w16 0xABCD)),
     ([0x7B, 0x21], .jnpShort 0x21)] = true := by
  decide

theorem test_decode_control_transfer_2 : decodes false
    [([0x0F, 0x8B, 0xCD, 0xAB], .jnpNear (.w16 0xABCD)),
     ([0x7C, 0x21], .jlShort 0x21),
     ([0x0F, 0x8C, 0xCD, 0xAB], .jlNear (.w16 0xABCD)),
     ([0x7D, 0x21], .jnlShort 0x21),
     ([0x0F, 0x8D, 0xCD, 0xAB], .jnlNear (.w16 0xABCD)),
     ([0x7E, 0x21], .jleShort 0x21),
     ([0x0F, 0x8E, 0xCD, 0xAB], .jleNear (.w16 0xABCD)),
     ([0x7F, 0x21], .jnleShort 0x21),
     ([0x0F, 0x8F, 0xCD, 0xAB], .jnleNear (.w16 0xABCD)),
     ([0xE3, 0x21], .jcxz 0x21),
     ([0xE2, 0x21], .loop 0x21),
     ([0xE1, 0x21], .loopz 0x21),
     ([0xE0, 0x21], .loopnz 0x21)] = true := by
  decide

theorem test_decode_setcc_enter_leave : decodes false
    [([0x0F, 0x90, 0xC6], .seto (.reg .esi)),
     ([0x0F, 0x91, 0x47, 0x9C], .setno (.mem (.based16 .bx (.d8 0x9C)))),
     ([0x0F, 0x92, 0xC6], .setb (.reg .esi)),
     ([0x0F, 0x93, 0xC6], .setnb (.reg .esi)),
     ([0x0F, 0x94, 0x47, 0x9C], .sete (.mem (.based16 .bx (.d8 0x9C)))),
     ([0x0F, 0x95, 0xC6], .setne (.reg .esi)),
     ([0x0F, 0x96, 0xC6], .setbe (.reg .esi)),
     ([0x0F, 0x97, 0x47, 0x9C], .setnbe (.mem (.based16 .bx (.d8 0x9C)))),
     ([0x0F, 0x98, 0xC6], .sets (.reg .esi)),
     ([0x0F, 0x99, 0xC6], .setns (.reg .esi)),
     ([0x0F, 0x9A, 0x47, 0x9C], .setp (.mem (.based16 .bx (.d8 0x9C)))),
     ([0x0F, 0x9B, 0xC6], .setnp (.reg .esi)),
     ([0x0F, 0x9C, 0xC6], .setl (.reg .esi)),
     ([0x0F, 0x9D, 0x47, 0x9C], .setnl (.mem (.based16 .bx (.d8 0x9C)))),
     ([0x0F, 0x9E, 0xC6], .setle (.reg .esi)),
     ([0x0F, 0x9F, 0xC6], .setnle (.reg .esi)),
     ([0xC8, 0x78, 0x56, 0x21], .enter 0x5678 0x21),
     ([0xC9], .leave)] = true := by
  decide

theorem test_decode_interrupt : decodes false
    [([0xCD, 0x21], .int 0x21),
     ([0xCC], .int3),
     ([0xCE], .into),
     ([0x62, 0x5F, 0x9C], .bound .ebx (.based16 .bx (.d8 0x9C))),
     ([0xCF], .iret)] = true := by
  decide

theorem test_decode_processor_control : decodes false
    [([0xF4], .hlt),
     ([0x0F, 0x22, 0xDB], .movCrReg .cr3 .ebx),
     ([0x0F, 0x20, 0xDB], .movRegCr .ebx .cr3),
     ([0x0F, 0x23, 0xFB], .movDrReg .dr7 .ebx),
     ([0x0F, 0x21, 0xFB], .movRegDr .ebx .dr7),
     ([0x0F, 0x26, 0xF3], .movTrReg .tr6 .ebx),
     ([0x0F, 0x24, 0xF3], .movRegTr .ebx .tr6),
     ([0x90], .nop),
     ([0x9B], .wait),
     ([0xDB, 0xE6], .esc 3 4 (.reg .esi))] = true := by
  decide

theorem test_decode_protection_control : decodes false
    [([0x63, 0x5F, 0x9C], .arpl (.mem (.based16 .bx (.d8 0x9C))) .ebx),
     ([0x0F, 0x02, 0xDE], .lar .ebx (.reg .esi)),
     ([0x0F, 0x03, 0xDE], .lsl .ebx (.reg .esi)),
     ([0x0F, 0x00, 0x47, 0x9C], .sldt (.mem (.based16 .bx (.d8 0x9C)))),
     ([0x0F, 0x00, 0xCE], .str (.reg .esi)),
     ([0x0F, 0x00, 0xD6], .lldt (.reg .esi)),
     ([0x0F, 0x00, 0x5F, 0x9C], .ltr (.mem (.based16 .bx (.d8 0x9C)))),
     ([0x0F, 0x00, 0xE6], .verr (.reg .esi)),
     ([0x0F, 0x00, 0xEE], .verw (.reg .esi)),
     ([0x0F, 0x01, 0x47, 0x9C], .sgdt (.based16 .bx (.d8 0x9C))),
     ([0x0F, 0x01, 0x4F, 0x9C], .sidt (.based16 .bx (.d8 0x9C))),
     ([0x0F, 0x01, 0x57, 0x9C], .lgdt (.based16 .bx (.d8 0x9C))),
     ([0x0F, 0x01, 0x5F, 0x9C], .lidt (.based16 .bx (.d8 0x9C))),
     ([0x0F, 0x01, 0xE6], .smsw (.reg .esi)),
     ([0x0F, 0x01, 0xF6], .lmsw (.reg .esi))] = true := by
  decide

theorem test_decode_prefixes : decodes false
    [([0x2E, 0x90], .csPrefix .nop),
     ([0x3E, 0x90], .dsPrefix .nop),
     ([0x26, 0x90], .esPrefix .nop),
     ([0x64, 0x90], .fsPrefix .nop),
     ([0x65, 0x90], .gsPrefix .nop),
     ([0x36, 0x90], .ssPrefix .nop),
     ([0x66, 0x90], .opSizePrefix .nop),
     ([0x67, 0x90], .addrSizePrefix .nop),
     ([0xF0, 0x90], .lockPrefix .nop),
     ([0xF3, 0x90], .repPrefix .nop),
     ([0xF2, 0x90], .repnePrefix .nop)] = true := by
  decide

/-- Words of spec/95_test_vectors.md and operand forms of 32-bit code. -/
theorem test_decode_32_bit_forms : decodes true
    [([0x8D, 0x44, 0x24, 0x04], .lea .eax (.sib .x1 none .esp (.d8 4))),
     ([0x8B, 0x04, 0x8D, 0x00, 0x10, 0x00, 0x00], .movRegRm true .eax (.mem (.sibDisp .x4 (some .ecx) 0x1000))),
     ([0x8B, 0x05, 0x78, 0x56, 0x34, 0x12], .movRegRm true .eax (.mem (.direct32 0x12345678))),
     ([0x8B, 0x94, 0x5D, 0x00, 0x01, 0x00, 0x00], .movRegRm true .edx (.mem (.sib .x2 (some .ebx) .ebp (.d32 0x100)))),
     ([0x67, 0x8B, 0x46, 0xFE], .addrSizePrefix (.movRegRm true .eax (.mem (.based16 .bp (.d8 0xFE))))),
     ([0x66, 0xB8, 0x34, 0x12], .opSizePrefix (.movRegImm true .eax (.i16 0x1234)))] = true := by
  decide

/-! ## Small states -/

/-- Every general register 0. -/
def zeroRegs : Regs := { eax := 0, ecx := 0, edx := 0, ebx := 0, esp := 0, ebp := 0, esi := 0, edi := 0 }

/-- Real mode at 1000h:0100h with the other segments at 0 and SP = 0100h. -/
def real : State :=
  { State.reset with
    regs := { zeroRegs with esp := 0x100 }
    eip := 0x100
    segs := { State.reset.segs with cs := { SegReg.real0 with sel := 0x1000, base := 0x10000 } } }

/-- A flat 32-bit segment of level 0. -/
def flatSeg (sel : Word) (typ : BitVec 4) : SegReg :=
  { sel := sel, base := 0, limit := 0xFFFFFFFF, attr := { p := true, dpl := 0, s := true, typ := typ, g := true, db := true }
    valid := true }

/-- Flat 32-bit protected mode at level 0 with EIP = 10000h and ESP = 1000h. The GDT at 2000h: 1 flat code, 2 flat data,
3 an available 386 TSS; the IDT at 3000h: vectors 0 and 13 are interrupt gates to 0008h:5000h. -/
def flat : State :=
  { real with
    regs := { zeroRegs with esp := 0x1000 }
    eip := 0x10000
    segs := { es := flatSeg 0x10 3, cs := flatSeg 8 0xB, ss := flatSeg 0x10 3, ds := flatSeg 0x10 3, fs := flatSeg 0x10 3
              gs := flatSeg 0x10 3 }
    sys := { real.sys with cr0 := 0x11, gdtr := { base := 0x2000, limit := 0x1F }, idtr := { base := 0x3000, limit := 0x7FF } } }

/-- The tables of `flat`. -/
def tables : List Host.Cell :=
  [(0x2008, 0xFF), (0x2009, 0xFF), (0x200D, 0x9A), (0x200E, 0xCF), (0x2010, 0xFF), (0x2011, 0xFF), (0x2015, 0x92), (0x2016, 0xCF),
   (0x2018, 0x67), (0x201B, 0x60), (0x201D, 0x89), (0x3001, 0x50), (0x3002, 0x08), (0x3005, 0x8E), (0x3069, 0x50), (0x306A, 0x08),
   (0x306D, 0x8E)]

/-- The state after a step that runs the given bytes at CS:EIP, with the tables of `flat` in memory. -/
def run (s : State) (bytes : List Byte) : Option State :=
  let s := if s.pe then { s with mem := { s.mem with cells := s.mem.cells ++ tables } } else s
  match step (placeInstruction s bytes) with
  | .next t => some t
  | _ => none

/-- What is seen of the state after such a step. -/
def sees {α : Type} (s : State) (bytes : List Byte) (f : State → α) : Option α := (run s bytes).map f

/-- The word at a physical address. -/
def at2 (s : State) (a : Nat) : Dword := Memory.load s.mem [a, a + 1]

/-- The doubleword at a physical address. -/
def at4 (s : State) (a : Nat) : Dword := Memory.load s.mem [a, a + 1, a + 2, a + 3]

/-- OF, SF, ZF, AF, PF and CF. -/
def status (s : State) : List Bool := [s.flags.ov, s.flags.sf, s.flags.zf, s.flags.af, s.flags.pf, s.flags.cf]

/-! ## Steps: the vectors of spec/95_test_vectors.md part B -/

theorem test_mov_reg_32 : sees { flat with regs := { flat.regs with ebx := 0x11223344 } } [0x89, 0xD8]
    (fun t => t.regs.eax) = some 0x11223344 := by decide +kernel

theorem test_mov_reg_16_keeps_upper_half :
    sees { real with regs := { real.regs with eax := 0xAAAA0000, ebx := 0x1234 } } [0x89, 0xD8]
      (fun t => t.regs.eax) = some 0xAAAA1234 := by decide +kernel

theorem test_mov_al_ah : sees { real with regs := { real.regs with eax := 0x1200 } } [0x88, 0xE0]
    (fun t => t.regs.eax) = some 0x1212 := by decide +kernel

theorem test_mov_mem_imm_little_endian : sees real [0xC7, 0x06, 0x00, 0x05, 0x34, 0x12]
    (fun t => (Memory.read t.mem 0x500, Memory.read t.mem 0x501)) = some (0x34, 0x12) := by decide +kernel

theorem test_movsx : sees { flat with regs := { flat.regs with ebx := 0x80 } } [0x0F, 0xBE, 0xC3]
    (fun t => t.regs.eax) = some 0xFFFFFF80 := by decide +kernel

theorem test_movzx : sees { flat with regs := { flat.regs with eax := 0xFFFFFFFF, ebx := 0x80 } } [0x0F, 0xB6, 0xC3]
    (fun t => t.regs.eax) = some 0x80 := by decide +kernel

theorem test_push_reg : sees { real with regs := { real.regs with eax := 0xBEEF } } [0x50]
    (fun t => (Memory.read t.mem 0xFE, Memory.read t.mem 0xFF, t.regs.esp)) = some (0xEF, 0xBE, 0xFE) := by decide +kernel

theorem test_push_esp : sees flat [0x54] (fun t => (at4 t 0xFFC, t.regs.esp)) = some (0x1000, 0xFFC) := by decide +kernel

theorem test_push_wraps_at_64k : sees { real with regs := { real.regs with eax := 0x1234, esp := 0 } } [0x50]
    (fun t => (at2 t 0xFFFE, t.regs.esp)) = some (0x1234, 0xFFFE) := by decide +kernel

theorem test_push_across_ffff_shuts_down : sees { real with regs := { real.regs with esp := 1 } } [0x50]
    (fun t => (t.events.activity, t.regs.esp)) = some (.shutdown, 1) := by decide +kernel

theorem test_push_imm_sign_extends : sees flat [0x6A, 0xFF] (fun t => at4 t 0xFFC) = some 0xFFFFFFFF := by decide +kernel

theorem test_pusha :
    sees { real with regs := { eax := 1, ecx := 2, edx := 3, ebx := 4, esp := 0x100, ebp := 5, esi := 6, edi := 7 } } [0x60]
      (fun t => (t.regs.esp, at2 t 0xFE, at2 t 0xF8, at2 t 0xF6, at2 t 0xF0)) = some (0xF0, 1, 4, 0x100, 7) := by decide +kernel

theorem test_popa_skips_the_stack_pointer :
    sees { real with regs := { real.regs with esp := 0xF0 }, mem := .ram [(0xF0, 7), (0xF6, 0x55), (0xFE, 1)] } [0x61]
      (fun t => (t.regs.eax, t.regs.edi, t.regs.esp)) = some (1, 7, 0x100) := by decide +kernel

theorem test_xchg : sees { flat with regs := { flat.regs with ebx := 1, ecx := 2 } } [0x87, 0xD9]
    (fun t => (t.regs.ebx, t.regs.ecx)) = some (2, 1) := by decide +kernel

theorem test_in_shows_on_the_bus : sees { flat with flags := { flat.flags with iopl := 3 } } [0xE6, 0x60]
    (fun t => t.bus) = some [.ioWrite 0x60 1 0] := by decide +kernel

theorem test_lea : sees flat [0x8D, 0x44, 0x24, 0x04] (fun t => t.regs.eax) = some 0x1004 := by decide +kernel

theorem test_lea_wraps_at_16_bits :
    sees { real with regs := { real.regs with eax := 0xFFFFFFFF, ebx := 0xFFFF, esi := 2 } } [0x66, 0x8D, 0x00]
      (fun t => t.regs.eax) = some 1 := by decide +kernel

theorem test_lds :
    sees { real with mem := .ram [(0x200, 0x78), (0x201, 0x56), (0x202, 0x34), (0x203, 0x12)] } [0xC5, 0x1E, 0x00, 0x02]
      (fun t => (t.regs.ebx, t.segs.ds.sel, t.segs.ds.base)) = some (0x5678, 0x1234, 0x12340) := by decide +kernel

theorem test_mov_ds_real : sees { real with regs := { real.regs with eax := 0x1234 } } [0x8E, 0xD8]
    (fun t => (t.segs.ds.sel, t.segs.ds.base, t.segs.ds.limit)) = some (0x1234, 0x12340, 0xFFFF) := by decide +kernel

theorem test_mov_ds_null : sees flat [0x8E, 0xD8] (fun t => (t.segs.ds.sel, t.segs.ds.valid)) = some (0, false) := by
  decide +kernel

theorem test_lahf : sees { real with flags := { real.flags with cf := true } } [0x9F]
    (fun t => t.regs.eax) = some 0x300 := by decide +kernel

theorem test_sahf : sees { real with regs := { real.regs with eax := 0xD500 } } [0x9E]
    (fun t => status t) = some [false, true, true, true, true, true] := by decide +kernel

theorem test_pushf_after_reset : sees real [0x9C] (fun t => at2 t 0xFE) = some 2 := by decide +kernel

theorem test_popf_level_3_keeps_if :
    sees { flat with flags := { flat.flags with ie := true }, sys := { flat.sys with cpl := 3 } } [0x66, 0x9D]
      (fun t => t.flags.image) = some 0x202 := by decide +kernel

theorem test_popf_level_0 : sees { flat with mem := .ram [(0x1000, 0xFF), (0x1001, 0xFF)] } [0x66, 0x9D]
    (fun t => t.flags.image) = some 0x7FD7 := by decide +kernel

theorem test_sti_inhibits_once : sees real [0xFB] (fun t => (t.flags.ie, t.events.inhibit)) = some (true, .intr) := by
  decide +kernel

theorem test_add_carry : sees { real with regs := { real.regs with eax := 0xFF, ebx := 1 } } [0x00, 0xD8]
    (fun t => (t.regs.eax, status t, t.eip)) = some (0, [false, false, true, true, true, true], 0x102) := by decide +kernel

theorem test_add_overflow : sees { real with regs := { real.regs with eax := 0x7F } } [0x04, 0x01]
    (fun t => (t.regs.eax, status t)) = some (0x80, [true, true, false, true, false, false]) := by decide +kernel

theorem test_adc :
    sees { real with regs := { real.regs with eax := 0xFF }, flags := { real.flags with cf := true } } [0x10, 0xD8]
      (fun t => (t.regs.eax, status t)) = some (0, [false, false, true, true, true, true]) := by decide +kernel

theorem test_inc_keeps_carry :
    sees { real with regs := { real.regs with eax := 0x7FFF }, flags := { real.flags with cf := true } } [0x40]
      (fun t => (t.regs.eax, status t)) = some (0x8000, [true, true, false, true, true, true]) := by decide +kernel

theorem test_sub_borrow : sees { real with regs := { real.regs with ebx := 1 } } [0x28, 0xD8]
    (fun t => (t.regs.eax, status t)) = some (0xFF, [false, true, false, true, true, true]) := by decide +kernel

theorem test_sub_overflow : sees { real with regs := { real.regs with eax := 0x80, ebx := 1 } } [0x28, 0xD8]
    (fun t => (t.regs.eax, status t)) = some (0x7F, [true, false, false, true, false, false]) := by decide +kernel

theorem test_sbb :
    sees { real with regs := { real.regs with ebx := 0xFF }, flags := { real.flags with cf := true } } [0x18, 0xD8]
      (fun t => (t.regs.eax, status t)) = some (0, [false, false, true, true, true, true]) := by decide +kernel

theorem test_dec_keeps_carry : sees real [0x48]
    (fun t => (t.regs.eax, status t)) = some (0xFFFF, [false, true, false, true, true, false]) := by decide +kernel

theorem test_cmp : sees { real with regs := { real.regs with eax := 5 } } [0x3C, 0x05]
    (fun t => (t.regs.eax, status t)) = some (5, [false, false, true, false, true, false]) := by decide +kernel

theorem test_neg_most_negative : sees { real with regs := { real.regs with eax := 0x80 } } [0xF6, 0xD8]
    (fun t => (t.regs.eax, status t)) = some (0x80, [true, true, false, false, false, true]) := by decide +kernel

theorem test_neg_zero : sees real [0xF6, 0xD8]
    (fun t => (t.regs.eax, status t)) = some (0, [false, false, true, false, true, false]) := by decide +kernel

theorem test_aaa : sees { real with regs := { real.regs with eax := 0xB } } [0x37]
    (fun t => (t.regs.eax, t.flags.cf, t.flags.af)) = some (0x101, true, true) := by decide +kernel

theorem test_aas : sees { real with regs := { real.regs with eax := 0x1FF } } [0x3F]
    (fun t => (t.regs.eax, t.flags.cf, t.flags.af)) = some (9, true, true) := by decide +kernel

theorem test_daa : sees { real with regs := { real.regs with eax := 0x9A } } [0x27]
    (fun t => (t.regs.eax, t.flags.cf, t.flags.af, t.flags.zf)) = some (0, true, true, true) := by decide +kernel

theorem test_das :
    sees { real with regs := { real.regs with eax := 0xFF }, flags := { real.flags with cf := true, af := true } } [0x2F]
      (fun t => (t.regs.eax, t.flags.cf)) = some (0x99, true) := by decide +kernel

theorem test_aad : sees { real with regs := { real.regs with eax := 0x205 } } [0xD5, 0x0A]
    (fun t => t.regs.eax) = some 0x19 := by decide +kernel

theorem test_aam : sees { real with regs := { real.regs with eax := 0x3F } } [0xD4, 0x0A]
    (fun t => t.regs.eax) = some 0x603 := by decide +kernel

theorem test_mul_byte : sees { real with regs := { real.regs with eax := 0x10, ebx := 0x10 } } [0xF6, 0xE3]
    (fun t => (t.regs.eax, t.flags.cf, t.flags.ov)) = some (0x100, true, true) := by decide +kernel

theorem test_mul_dword : sees { flat with regs := { flat.regs with eax := 0xFFFFFFFF, ebx := 2 } } [0xF7, 0xE3]
    (fun t => (t.regs.edx, t.regs.eax, t.flags.cf)) = some (1, 0xFFFFFFFE, true) := by decide +kernel

theorem test_imul_byte : sees { real with regs := { real.regs with eax := 0xFF, ebx := 2 } } [0xF6, 0xEB]
    (fun t => (t.regs.eax, t.flags.cf, t.flags.ov)) = some (0xFFFE, false, false) := by decide +kernel

theorem test_imul_reg : sees { real with regs := { real.regs with eax := 0x100, ebx := 0x100 } } [0x0F, 0xAF, 0xC3]
    (fun t => (t.regs.eax, t.flags.cf, t.flags.ov)) = some (0, true, true) := by decide +kernel

theorem test_imul_imm : sees { flat with regs := { flat.regs with ebx := 3 } } [0x6B, 0xC3, 0x07]
    (fun t => (t.regs.eax, t.flags.cf, t.flags.ov)) = some (0x15, false, false) := by decide +kernel

theorem test_div : sees { real with regs := { real.regs with eax := 0x64, ebx := 7 } } [0xF6, 0xF3]
    (fun t => t.regs.eax) = some 0x20E := by decide +kernel

theorem test_div_does_not_fit :
    sees { real with regs := { real.regs with eax := 0x100, ebx := 1 }, mem := .ram [(0, 0x34), (1, 0x12)] } [0xF6, 0xF3]
      (fun t => (t.regs.eax, t.eip, at2 t 0xFA, at2 t 0xFC)) = some (0x100, 0x1234, 0x100, 0x1000) := by decide +kernel

theorem test_idiv : sees { real with regs := { real.regs with eax := 0xFFF9, ebx := 2 } } [0xF6, 0xFB]
    (fun t => t.regs.eax) = some 0xFFFD := by decide +kernel

theorem test_idiv_does_not_fit : sees { real with regs := { real.regs with eax := 0x8000, ebx := 0xFF } } [0xF6, 0xFB]
    (fun t => (t.regs.eax, t.segs.cs.sel, t.regs.esp)) = some (0x8000, 0, 0xFA) := by decide +kernel

theorem test_cbw : sees { real with regs := { real.regs with eax := 0x80 } } [0x98]
    (fun t => t.regs.eax) = some 0xFF80 := by decide +kernel

theorem test_cdq : sees { flat with regs := { flat.regs with eax := 0x80000000 } } [0x99]
    (fun t => t.regs.edx) = some 0xFFFFFFFF := by decide +kernel

theorem test_and : sees { real with regs := { real.regs with eax := 0xF5 } } [0x24, 0x0F]
    (fun t => (t.regs.eax, t.flags.sf, t.flags.zf, t.flags.pf)) = some (5, false, false, true) := by decide +kernel

theorem test_test : sees { real with regs := { real.regs with eax := 0x7F } } [0xA8, 0x80]
    (fun t => (t.regs.eax, t.flags.sf, t.flags.zf, t.flags.pf)) = some (0x7F, false, true, true) := by decide +kernel

theorem test_or : sees { real with regs := { real.regs with eax := 1 } } [0x0C, 0x80]
    (fun t => (t.regs.eax, t.flags.sf, t.flags.zf, t.flags.pf)) = some (0x81, true, false, true) := by decide +kernel

theorem test_xor : sees { flat with regs := { flat.regs with eax := 0x12345678 } } [0x31, 0xC0]
    (fun t => (t.regs.eax, t.flags.zf, t.flags.cf, t.flags.ov)) = some (0, true, false, false) := by decide +kernel

theorem test_not : sees { real with regs := { real.regs with eax := 0x55 } } [0xF6, 0xD0]
    (fun t => (t.regs.eax, t.flags)) = some (0xAA, real.flags) := by decide +kernel

theorem test_rol : sees { real with regs := { real.regs with eax := 0x81 } } [0xD0, 0xC0]
    (fun t => (t.regs.eax, t.flags.cf, t.flags.ov)) = some (3, true, true) := by decide +kernel

theorem test_ror : sees { real with regs := { real.regs with eax := 1 } } [0xD0, 0xC8]
    (fun t => (t.regs.eax, t.flags.cf, t.flags.ov)) = some (0x80, true, true) := by decide +kernel

theorem test_rcl : sees { real with regs := { real.regs with eax := 0x80 } } [0xD0, 0xD0]
    (fun t => (t.regs.eax, t.flags.cf, t.flags.ov)) = some (0, true, true) := by decide +kernel

theorem test_rcr : sees { real with regs := { real.regs with eax := 1 } } [0xD0, 0xD8]
    (fun t => (t.regs.eax, t.flags.cf, t.flags.ov)) = some (0, true, false) := by decide +kernel

theorem test_shl : sees { real with regs := { real.regs with eax := 0x1F } } [0xC0, 0xE0, 0x04]
    (fun t => (t.regs.eax, t.flags.cf, t.flags.sf, t.flags.zf, t.flags.pf)) = some (0xF0, true, true, false, true) := by
  decide +kernel

theorem test_shl_count_is_five_bits : sees { flat with regs := { flat.regs with eax := 1, ecx := 0x21 } } [0xD3, 0xE0]
    (fun t => t.regs.eax) = some 2 := by decide +kernel

theorem test_shr : sees { real with regs := { real.regs with eax := 0x8001 } } [0xD1, 0xE8]
    (fun t => (t.regs.eax, t.flags.cf, t.flags.ov, t.flags.zf)) = some (0x4000, true, true, false) := by decide +kernel

theorem test_sar : sees { real with regs := { real.regs with eax := 0x81 } } [0xD0, 0xF8]
    (fun t => (t.regs.eax, t.flags.cf, t.flags.ov, t.flags.sf)) = some (0xC0, true, false, true) := by decide +kernel

theorem test_shld :
    sees { real with regs := { real.regs with eax := 0x1234, ebx := 0xABCD } } [0x0F, 0xA4, 0xD8, 0x04]
      (fun t => (t.regs.eax, t.flags.cf)) = some (0x234A, true) := by decide +kernel

theorem test_shrd :
    sees { real with regs := { real.regs with eax := 0x1234, ebx := 0xABCD } } [0x0F, 0xAC, 0xD8, 0x04]
      (fun t => (t.regs.eax, t.flags.cf)) = some (0xD123, false) := by decide +kernel

/-- With a masked count of 0 the operand, beyond the limit here, is not read (R480). -/
theorem test_shld_count_zero :
    sees real [0x0F, 0xA4, 0x06, 0xFF, 0xFF, 0x20] (fun t => (t.eip, t.segs.cs.sel)) = some (0x106, 0x1000) := by
  decide +kernel

/-- RF has the fault of GD ignored (R41); without it exception 1 is taken. -/
theorem test_mov_dr_with_gd :
    let s (rf : Bool) : State :=
      { real with flags := { real.flags with rf := rf }, dregs := { real.dregs with dr7 := 0x2000 }
                  regs := { real.regs with eax := 5 } }
    sees (s true) [0x0F, 0x23, 0xC0] (fun t => (t.eip, t.dregs.dr0, t.dregs.dr7)) = some (0x103, 5, 0x2000) ∧
    sees (s false) [0x0F, 0x23, 0xC0] (fun t => (t.segs.cs.sel, t.dregs.dr0, t.dregs.dr7)) = some (0, 0, 0) := by
  decide +kernel

/-- A single-step trap that MOV SS has held back is dropped by INT 3 and by a fault, and stays due after NOP (R824, D31). -/
theorem test_delivery_drops_single_step :
    let s : State :=
      { real with flags := { real.flags with tf := true }
                  events := { real.events with inhibit := .all, traps := { b := 0, bs := true, bt := false } } }
    sees s [0xCC] (fun t => t.events.traps.bs) = some false ∧ sees s [0xD6] (fun t => t.events.traps.bs) = some false ∧
    sees s [0x90] (fun t => t.events.traps.bs) = some true := by decide +kernel

theorem test_rep_movs_one_element :
    sees { real with regs := { real.regs with esi := 0x300, edi := 0x400, ecx := 4 }, mem := .ram [(0x300, 0x41)] } [0xF3, 0xA4]
      (fun t => (Memory.read t.mem 0x400, t.regs.esi, t.regs.edi, t.regs.ecx, t.eip)) =
        some (0x41, 0x301, 0x401, 3, 0x100) := by decide +kernel

theorem test_rep_movs_count_zero : sees real [0xF3, 0xA4] (fun t => (t.regs, t.eip)) = some (real.regs, 0x102) := by
  decide +kernel

theorem test_cmps_backwards :
    sees { real with regs := { real.regs with esi := 0x300, edi := 0x400 }, flags := { real.flags with df := true }
                     mem := .ram [(0x300, 0x41), (0x400, 0x41)] } [0xA6]
      (fun t => (t.regs.esi, t.regs.edi, t.flags.zf, t.flags.cf)) = some (0x2FF, 0x3FF, true, false) := by decide +kernel

theorem test_repe_cmps_ends :
    sees { real with regs := { real.regs with esi := 0x300, edi := 0x400, ecx := 3 }
                     mem := .ram [(0x300, 0x43), (0x400, 0x58)] } [0xF3, 0xA6]
      (fun t => (t.regs.ecx, t.flags.zf, t.flags.cf, t.eip)) = some (2, false, true, 0x102) := by decide +kernel

theorem test_repne_scas_goes_on : sees { real with regs := { real.regs with ecx := 0xFFFF }, mem := .ram [(0, 0x41)] } [0xF2, 0xAE]
    (fun t => (t.regs.ecx, t.regs.edi, t.flags.zf, t.eip)) = some (0xFFFE, 1, false, 0x100) := by decide +kernel

theorem test_stos : sees { real with regs := { real.regs with eax := 0xABCD, edi := 0x400 } } [0xAB]
    (fun t => (at2 t 0x400, t.regs.edi)) = some (0xABCD, 0x402) := by decide +kernel

theorem test_lods : sees { real with regs := { real.regs with esi := 0x400 }, mem := .ram [(0x400, 9)] } [0xAC]
    (fun t => (t.regs.eax, t.regs.esi)) = some (9, 0x401) := by decide +kernel

theorem test_outs : sees { real with regs := { real.regs with edx := 0x60, esi := 0x400 }, mem := .ram [(0x400, 9)] } [0x6E]
    (fun t => (t.bus, t.regs.esi)) = some ([.ioWrite 0x60 1 9], 0x401) := by decide +kernel

theorem test_xlat : sees { real with regs := { real.regs with ebx := 0x1000, eax := 5 }, mem := .ram [(0x1005, 0x9C)] } [0xD7]
    (fun t => t.regs.eax) = some 0x9C := by decide +kernel

theorem test_bsf : sees { flat with regs := { flat.regs with ebx := 0x48 } } [0x0F, 0xBC, 0xC3]
    (fun t => (t.regs.eax, t.flags.zf)) = some (3, false) := by decide +kernel

theorem test_bsr : sees { flat with regs := { flat.regs with ebx := 0x48 } } [0x0F, 0xBD, 0xC3]
    (fun t => (t.regs.eax, t.flags.zf)) = some (6, false) := by decide +kernel

theorem test_bt_imm_modulo : sees { real with regs := { real.regs with eax := 0x80 } } [0x0F, 0xBA, 0xE0, 0x17]
    (fun t => t.flags.cf) = some true := by decide +kernel

theorem test_bt_bit_string_below :
    sees { flat with regs := { flat.regs with eax := 0xFFFFFFFF, ebx := 0x400 }, mem := .ram [(0x3FF, 0x80)] } [0x0F, 0xA3, 0x03]
      (fun t => t.flags.cf) = some true := by decide +kernel

theorem test_btc : sees { real with regs := { real.regs with eax := 1 } } [0x0F, 0xBA, 0xF8, 0x00]
    (fun t => (t.regs.eax, t.flags.cf)) = some (0, true) := by decide +kernel

theorem test_btr : sees { real with regs := { real.regs with eax := 0x8001 } } [0x0F, 0xBA, 0xF0, 0x0F]
    (fun t => (t.regs.eax, t.flags.cf)) = some (1, true) := by decide +kernel

theorem test_lock_bts : sees { flat with regs := { flat.regs with ebx := 0x400 } } [0xF0, 0x0F, 0xAB, 0x03]
    (fun t => (at4 t 0x400, t.flags.cf)) = some (1, false) := by decide +kernel

theorem test_jmp_short_to_itself : sees real [0xEB, 0xFE] (fun t => t.eip) = some 0x100 := by decide +kernel

theorem test_jmp_near : sees real [0xE9, 0xFD, 0x0F] (fun t => t.eip) = some 0x1100 := by decide +kernel

theorem test_je_taken : sees { real with flags := { real.flags with zf := true } } [0x0F, 0x84, 0x00, 0x01]
    (fun t => t.eip) = some 0x204 := by decide +kernel

theorem test_je_not_taken : sees real [0x74, 0x05] (fun t => t.eip) = some 0x102 := by decide +kernel

theorem test_jcxz_looks_at_cx : sees { real with regs := { real.regs with ecx := 0x10000 } } [0xE3, 0x10]
    (fun t => t.eip) = some 0x112 := by decide +kernel

theorem test_loop_wraps_cx : sees real [0xE2, 0xFE] (fun t => (t.regs.ecx, t.eip)) = some (0xFFFF, 0x100) := by decide +kernel

theorem test_call_near : sees { real with regs := { real.regs with esp := 0x200 } } [0xE8, 0x10, 0x00]
    (fun t => (at2 t 0x1FE, t.regs.esp, t.eip)) = some (0x103, 0x1FE, 0x113) := by decide +kernel

theorem test_ret_imm :
    sees { real with regs := { real.regs with esp := 0x1FE }, mem := .ram [(0x1FE, 0x03), (0x1FF, 0x01)] } [0xC2, 0x04, 0x00]
      (fun t => (t.eip, t.regs.esp)) = some (0x103, 0x204) := by decide +kernel

theorem test_jmp_far_real : sees real [0xEA, 0x00, 0x00, 0xFF, 0xFF]
    (fun t => (t.segs.cs.sel, t.segs.cs.base, t.eip)) = some (0xFFFF, 0xFFFF0, 0) := by decide +kernel

theorem test_call_far_real : sees real [0x9A, 0x34, 0x12, 0x00, 0x20]
    (fun t => (at2 t 0xFE, at2 t 0xFC, t.segs.cs.sel, t.eip, t.regs.esp)) = some (0x1000, 0x105, 0x2000, 0x1234, 0xFC) := by
  decide +kernel

theorem test_jmp_far_protected : sees flat [0xEA, 0x00, 0x10, 0x00, 0x00, 0x08, 0x00]
    (fun t => (t.segs.cs.sel, t.segs.cs.limit, t.eip, Memory.read t.mem 0x200D)) = some (8, 0xFFFFFFFF, 0x1000, 0x9B) := by
  decide +kernel

theorem test_jmp_far_null_selector : sees flat [0xEA, 0x00, 0x10, 0x00, 0x00, 0x00, 0x00]
    (fun t => (t.eip, t.regs.esp)) = some (0x5000, 0xFF0) := by decide +kernel

theorem test_sete : sees { real with flags := { real.flags with zf := true } } [0x0F, 0x94, 0xC0]
    (fun t => t.regs.eax) = some 1 := by decide +kernel

theorem test_enter_level_1 : sees { flat with regs := { flat.regs with ebp := 0x2000 } } [0xC8, 0x08, 0x00, 0x01]
    (fun t => (at4 t 0xFFC, at4 t 0xFF8, t.regs.ebp, t.regs.esp)) = some (0x2000, 0xFFC, 0xFFC, 0xFF0) := by decide +kernel

theorem test_leave : sees { flat with regs := { flat.regs with ebp := 0xFFC, esp := 0xFF4 }, mem := .ram [(0xFFD, 0x20)] } [0xC9]
    (fun t => (t.regs.ebp, t.regs.esp)) = some (0x2000, 0x1000) := by decide +kernel

theorem test_int_real :
    sees { real with regs := { real.regs with esp := 0x200 }, flags := { real.flags with ie := true }
                     mem := .ram [(0x84, 0x34), (0x85, 0x12), (0x86, 0x78), (0x87, 0x56)] } [0xCD, 0x21]
      (fun t => (at2 t 0x1FE, at2 t 0x1FC, at2 t 0x1FA, t.regs.esp, t.segs.cs.sel, t.eip)) =
        some (0x202, 0x1000, 0x102, 0x1FA, 0x5678, 0x1234) := by decide +kernel

theorem test_iret_real :
    sees { real with regs := { real.regs with esp := 0x1FA }
                     mem := .ram [(0x1FA, 0x02), (0x1FB, 0x01), (0x1FD, 0x10), (0x1FE, 0x02), (0x1FF, 0x02)] } [0xCF]
      (fun t => (t.eip, t.segs.cs.sel, t.flags.image, t.regs.esp)) = some (0x102, 0x1000, 0x202, 0x200) := by decide +kernel

theorem test_int3_vector : sees { real with mem := .ram [(0xC, 0x77)] } [0xCC]
    (fun t => (t.eip, at2 t 0xFA)) = some (0x77, 0x101) := by decide +kernel

theorem test_into_without_overflow : sees real [0xCE] (fun t => (t.eip, t.regs.esp)) = some (0x101, 0x100) := by decide +kernel

theorem test_bound_inside : sees { real with regs := { real.regs with eax := 5 }, mem := .ram [(0x302, 9)] } [0x62, 0x06, 0x00, 0x03]
    (fun t => t.eip) = some 0x104 := by decide +kernel

theorem test_bound_outside :
    sees { real with regs := { real.regs with eax := 0xA }, mem := .ram [(0x14, 0x77), (0x302, 9)] } [0x62, 0x06, 0x00, 0x03]
      (fun t => (t.eip, at2 t 0xFA)) = some (0x77, 0x100) := by decide +kernel

theorem test_iret_to_v86 :
    sees { flat with mem := .ram [(0x1001, 1), (0x1005, 0x10), (0x1008, 2), (0x1009, 0x32), (0x100A, 2), (0x100C, 0xFE), (0x100D, 0xFF),
                             (0x1011, 0x20)] } [0xCF]
      (fun t => (t.flags.vm, t.segs.cs.base, t.eip, t.segs.ss.sel, t.regs.esp, t.sys.cpl)) =
        some (true, 0x10000, 0x100, 0x2000, 0xFFFE, 3) := by decide +kernel

theorem test_hlt : sees real [0xF4] (fun t => (t.events.activity, t.eip, t.bus)) = some (.halted, 0x101, [.haltIndication]) := by
  decide +kernel

theorem test_mov_cr0_sets_pe : sees { real with regs := { real.regs with eax := 0x11 } } [0x0F, 0x22, 0xC0]
    (fun t => t.pe) = some true := by decide +kernel

theorem test_mov_cr0_pg_without_pe : sees { real with regs := { real.regs with eax := 0x80000000 } } [0x0F, 0x22, 0xC0]
    (fun t => (t.sys.cr0, at2 t 0xFA)) = some (0x10, 0x100) := by decide +kernel

theorem test_mov_cr3 : sees { real with regs := { real.regs with eax := 0x123FFF } } [0x0F, 0x22, 0xD8]
    (fun t => t.sys.cr3) = some 0x123000 := by decide +kernel

theorem test_mov_dr_general_detect : sees { real with dregs := { real.dregs with dr7 := 0x2000 } } [0x0F, 0x21, 0xF8]
    (fun t => (t.dregs.dr6, t.dregs.dr7, t.regs.eax, at2 t 0xFA)) = some (0x2000, 0, 0, 0x100) := by decide +kernel

theorem test_esc_emulated : sees { real with sys := { real.sys with cr0 := 0x14 }, mem := .ram [(0x1C, 0x77)] } [0xD9, 0x06, 0x00, 0x10]
    (fun t => (t.eip, at2 t 0xFA)) = some (0x77, 0x100) := by decide +kernel

theorem test_wait_task_switched : sees { real with sys := { real.sys with cr0 := 0x1A }, mem := .ram [(0x1C, 0x77)] } [0x9B]
    (fun t => (t.eip, at2 t 0xFA)) = some (0x77, 0x100) := by decide +kernel

theorem test_arpl : sees { flat with regs := { flat.regs with eax := 3, ebx := 8 } } [0x63, 0xC3]
    (fun t => (t.regs.ebx, t.flags.zf)) = some (0xB, true) := by decide +kernel

theorem test_arpl_real : sees { real with mem := .ram [(0x18, 0x77)] } [0x63, 0xC3]
    (fun t => (t.eip, at2 t 0xFA)) = some (0x77, 0x100) := by decide +kernel

theorem test_lar : sees { flat with regs := { flat.regs with ebx := 8 } } [0x0F, 0x02, 0xC3]
    (fun t => (t.regs.eax, t.flags.zf)) = some (0x00C09B00, true) := by decide +kernel

theorem test_lsl : sees { flat with regs := { flat.regs with ebx := 8 } } [0x0F, 0x03, 0xC3]
    (fun t => (t.regs.eax, t.flags.zf)) = some (0xFFFFFFFF, true) := by decide +kernel

theorem test_lar_beyond_the_table : sees { flat with regs := { flat.regs with ebx := 0x200 } } [0x0F, 0x02, 0xC3]
    (fun t => (t.regs.eax, t.flags.zf)) = some (0, false) := by decide +kernel

theorem test_lgdt_drops_a_byte :
    sees { real with mem := .ram [(0x300, 0xFF), (0x301, 0xFF), (0x302, 0x78), (0x303, 0x56), (0x304, 0x34), (0x305, 0x12)] }
      [0x0F, 0x01, 0x16, 0x00, 0x03] (fun t => t.sys.gdtr) = some { base := 0x345678, limit := 0xFFFF } := by decide +kernel

theorem test_lmsw_never_clears_pe : sees { flat with regs := { flat.regs with eax := 0xE } } [0x0F, 0x01, 0xF0]
    (fun t => t.sys.cr0) = some 0x1F := by decide +kernel

theorem test_ltr : sees { flat with regs := { flat.regs with eax := 0x18 } } [0x0F, 0x00, 0xD8]
    (fun t => (t.sys.tr.sel, t.sys.tr.attr.typ, Memory.read t.mem 0x201D)) = some (0x18, 0xB, 0x8B) := by decide +kernel

theorem test_sidt_after_reset : sees real [0x66, 0x0F, 0x01, 0x0E, 0x00, 0x05]
    (fun t => (at2 t 0x500, Memory.read t.mem 0x502, Memory.read t.mem 0x504)) = some (0x3FF, 0, 0) := by decide +kernel

theorem test_smsw : sees { real with sys := { real.sys with cr0 := 0x19 } } [0x0F, 0x01, 0xE0]
    (fun t => t.regs.eax &&& 0x1F) = some 0x19 := by decide +kernel

/-! ## Steps by the rules' own text -/

/-- R512, D22: a repeated instruction goes on as it was decoded, whatever is at CS:EIP by now. -/
theorem test_rep_goes_on_as_decoded :
    (match step { real with regs := { real.regs with eax := 0x41, ecx := 2, edi := 0x400 }
                            events := { real.events with begun := .rep, held := some (.repStosF3 false, 2) }
                            mem := .ram [(0x10100, 0x90)] } with
     | .next t => some (Memory.read t.mem 0x400, t.regs.ecx, t.regs.edi, t.eip)
     | _ => none) = some (0x41, 1, 0x401, 0x100) := by decide +kernel

/-- R351: the word at offset FFFFh of a 16-bit stack is not there, whatever the limit. -/
theorem test_pop_across_ffff :
    sees { real with regs := { real.regs with esp := 0xFFFF }, mem := .ram [(0x30, 0x77)]
                     segs := { real.segs with ss := { real.segs.ss with limit := 0x1FFFF } } } [0x58]
      (fun t => (t.eip, at2 t 0xFFF9)) = some (0x77, 0x100) := by decide +kernel

/-- R175, R623: LEAVE reads its word at offset FFFFh of a 16-bit stack no more than a pop does (log entry 54). -/
theorem test_leave_across_ffff :
    sees { real with regs := { real.regs with ebp := 0xFFFF }, mem := .ram [(0x30, 0x77)]
                     segs := { real.segs with ss := { real.segs.ss with limit := 0x1FFFF } } } [0xC9]
      (fun t => (t.eip, at2 t 0xFA, t.regs.ebp)) = some (0x77, 0x100, 0xFFFF) := by decide +kernel

/-- R595: the frame SP to SP + 2b - 1 of a far return does not wrap. -/
theorem test_far_return_frame_past_ffff :
    sees { real with regs := { real.regs with esp := 0xFFFE }, mem := .ram [(0x30, 0x77)] } [0xCB]
      (fun t => (t.eip, at2 t 0xFFF8)) = some (0x77, 0x100) := by decide +kernel

/-- D6: a write to read-only memory is dropped. -/
theorem test_write_to_rom_is_dropped :
    sees { real with mem := { Memory.ram [(0x500, 9)] with
                              map := [{ first := 0, last := 0x7FF, kind := .rom }, { first := 0x800, last := 0xFFFFFFFF, kind := .ram }] } }
      [0xC6, 0x06, 0x00, 0x05, 0x34] (fun t => (Memory.read t.mem 0x500, t.eip)) = some (9, 0x105) := by decide +kernel

/-! ## Witnesses: states and operands that meet the hypotheses of the statements, clause by clause -/

/-- The computation completes. -/
def isOk {α : Type} (r : EStateM.Result Stop State α) : Bool :=
  match r with
  | .ok _ _ => true
  | .error _ _ => false

theorem ok_of {α : Type} {r : EStateM.Result Stop State α} (h : isOk r = true) : ∃ a t, r = .ok a t := by
  cases r with
  | ok a t => exact ⟨a, t, rfl⟩
  | error e t => cases h

/-- The computation completes and changes nothing. -/
def keeps (r : EStateM.Result Stop State Unit) (s : State) : Bool :=
  match r with
  | .ok _ t => decide (t = s)
  | .error _ _ => false

theorem keeps_of {r : EStateM.Result Stop State Unit} {s : State} (h : keeps r s = true) : r = .ok () s := by
  cases r with
  | ok a t => simp only [keeps, decide_eq_true_eq] at h; rw [h]
  | error e t => cases h

/-- The computation raises the exception of a vector. -/
def raisesVector {α : Type} (r : EStateM.Result Stop State α) (v : Byte) : Bool :=
  match r with
  | .error (.exc e) _ => e.vector == v
  | _ => false

theorem ok_then {α β : Type} {x : Exec α} {f : α → Exec β} {s : State} (h : isOk ((x >>= f) s) = true) :
    ∃ a t b u, x s = .ok a t ∧ f a t = .ok b u := by
  obtain ⟨b, u, h⟩ := ok_of h
  obtain ⟨a, t, h1, h2⟩ := exec_bind_ok h
  exact ⟨a, t, b, u, h1, h2⟩

theorem ok_then_then {α β γ : Type} {x : Exec α} {f : α → Exec β} {g : α → β → Exec γ} {s : State}
    (h : isOk ((x >>= fun a => f a >>= fun b => g a b) s) = true) :
    ∃ a t b u c v, x s = .ok a t ∧ f a t = .ok b u ∧ g a b u = .ok c v := by
  obtain ⟨a, t, c, v, h1, h2⟩ := ok_then h
  obtain ⟨b, u, h3, h4⟩ := exec_bind_ok h2
  exact ⟨a, t, b, u, c, v, h1, h3, h4⟩

/-- `flat` with its tables in memory. -/
def prot : State := { flat with mem := .ram tables }

/-- The same at level 3. -/
def user : State := { prot with sys := { prot.sys with cpl := 3 } }

/-- Virtual M8086 mode at 1000h:0100h with IOPL = 3. -/
def v86 : State :=
  { prot with
    regs := real.regs, eip := 0x100, flags := { flat.flags with vm := true, iopl := 3 }, sys := user.sys
    segs := { es := segV86 0, cs := segV86 0x1000, ss := segV86 0, ds := segV86 0, fs := segV86 0, gs := segV86 0 } }

/-- The stack pointer set. -/
def withSp (s : State) (sp : Dword) : State := { s with regs := { s.regs with esp := sp } }

/-- Paging on with the directory at 8000h and one table at 9000h, of the given entries for linear page 0. -/
def paged (pde pte : Byte) : State :=
  { prot with
    mem := .ram [(0x8000, pde), (0x8001, 0x90), (0x9000, pte), (0x9001, 0x70)]
    sys := { prot.sys with cr0 := 0x80000011, cr3 := 0x8000 } }

/-- The operand and address sizes of 32-bit code. -/
def wideCtx : Context := { Context.idle with op32 := true, addr32 := true }

theorem witness_AluFormsWriteResultAndFlags :
    (∃ p t, place .b (.mem (.direct16 0xFFFF)) true real = .ok p t) ∧ (∃ p t, place .w (.reg .ebx) true real = .ok p t) ∧
    ∃ p t, place .w (.mem (.direct16 0xFFFE)) false real = .ok p t :=
  ⟨ok_of (by decide +kernel), ok_of (by decide +kernel), ok_of (by decide +kernel)⟩

theorem witness_AluFormsWriteResultAndFlags_reading : ∃ p t, place .d (.mem (.direct32 0xFFFFFFFC)) false prot = .ok p t :=
  ok_of (by decide +kernel)

theorem witness_OneOperandFormsReplaceTheirOperand :
    ∃ p t, place (prot.sizeOf true) (.mem (.direct32 0xFFFFFFFE)) true prot = .ok p t := ok_of (by decide +kernel)

theorem witness_MultiplicationsAndDivisions :
    (∃ p t, place (real.sizeOf false) (.mem (.direct16 0xFFFF)) false real = .ok p t) ∧
    ∃ p t, place real.opSize (.mem (.direct16 0xFFFE)) false real = .ok p t :=
  ⟨ok_of (by decide +kernel), ok_of (by decide +kernel)⟩

/-- A byte division of AX by BL. -/
def dividing (ax bl : Dword) : State := { real with regs := { real.regs with eax := ax, ebx := bl } }

/-- Dividend and divisor of `dividing`, unsigned and signed. -/
def dividendAndDivisor (s : State) : Nat × Nat × Int × Int :=
  ((s.regs.read .b (highReg .b)).toNat * 2 ^ 8 + (s.regs.read .b .eax).toNat, (s.valueAt .b (.reg .ebx)).toNat,
   (s.regs.read .b (highReg .b)).toInt * 2 ^ 8 + (s.regs.read .b .eax).toNat, (s.valueAt .b (.reg .ebx)).toInt)

theorem witness_MultiplicationsAndDivisions_divide :
    (∀ ax bl, place .b (.reg .ebx) false (dividing ax bl) = .ok (.reg .ebx) (dividing ax bl)) ∧
    dividendAndDivisor (dividing 0xFF 1) = (255, 1, 255, 1) ∧ dividendAndDivisor (dividing 0x100 1) = (256, 1, 256, 1) ∧
    dividendAndDivisor (dividing 1 0) = (1, 0, 1, 0) ∧ dividendAndDivisor (dividing 0x7F 1) = (127, 1, 127, 1) ∧
    dividendAndDivisor (dividing 0xFF80 1) = (65408, 1, -128, 1) ∧
    dividendAndDivisor (dividing 0x80 1) = (128, 1, 128, 1) ∧
    dividendAndDivisor (dividing 0xFF7F 1) = (65407, 1, -129, 1) :=
  ⟨fun _ _ => rfl, by decide +kernel⟩

theorem witness_AccumulatorAdjustmentsFollowTheirRules :
    real.ctx.op32 = false ∧ { prot with ctx := wideCtx }.ctx.op32 = true := by decide +kernel

theorem witness_MovesExchangesAndAddresses :
    (∃ p t, place .w (.mem (.direct16 0xFFFE)) true real = .ok p t) ∧
    (∃ sp t, segSpan .ds (fullOffset (.w16 0xFFFE)) 2 false real = .ok sp t) ∧
    (∃ sp t, segSpan .ds (fullOffset (.w16 0xFFFE)) 2 true real = .ok sp t) ∧
    ∃ p t, place .b (.mem (.direct16 0xFFFF)) false real = .ok p t :=
  ⟨ok_of (by decide +kernel), ok_of (by decide +kernel), ok_of (by decide +kernel), ok_of (by decide +kernel)⟩

theorem witness_MovesExchangesAndAddresses_exchange :
    (∃ p t, place .w (.mem (.direct16 0xFFFE)) true real = .ok p t) ∧
    (∃ a t, effAddr (.based16 .bp .none) real = .ok a t) ∧ ∃ sp t, segSpan .ds 0xFFFF 1 false real = .ok sp t :=
  ⟨ok_of (by decide +kernel), ok_of (by decide +kernel), ok_of (by decide +kernel)⟩

theorem witness_StoredBytesReadBackLittleEndian :
    [0xFFFFFFFE, 0xFFFFFFFF, 0, 1].Nodup ∧ [0xFFFFFFFE, 0xFFFFFFFF, 0, 1].length ≤ 4 ∧
    [0xFFFFFFFE, 0xFFFFFFFF, 0, 1][3]? = some 1 ∧
    (∀ a, a ∈ [0xFFFFFFFE, 0xFFFFFFFF, 0, 1] → (Memory.ram []).kindAt a = some .ram) ∧
    (∀ a, a ∈ [0xFFFF, 0x10000] →
      { Memory.ram [] with map := [{ first := 0, last := 0xFFFF, kind := .rom }] }.kindAt a = some .rom ∨
      { Memory.ram [] with map := [{ first := 0, last := 0xFFFF, kind := .rom }] }.kindAt a = none) := by decide +kernel

/-- A data segment of protected mode: bits 3:1 of the type, limit and B bit. -/
def dataSeg (typ : BitVec 4) (limit : Dword) (b : Bool) : State :=
  { prot with segs := { prot.segs with
      ds := { flatSeg 0x10 typ with limit := limit, attr := { (flatSeg 0x10 typ).attr with db := b } } } }

/-- Accesses at and beyond the limit of expand-up and expand-down segments, one to read-only data, and a null segment. -/
theorem witness_SegmentAccessesCheckTypeAndLimit :
    (dataSeg 3 0xFFF false).unpaged ∧
    (∃ sp t, segSpan .ds 0xFFE 2 true (dataSeg 3 0xFFF false) = .ok sp t) ∧
    (∃ sp t, segSpan .ds 0x1000 4096 false (dataSeg 7 0xFFF false) = .ok sp t) ∧
    isOk (segSpan .ds 0xFFF 2 true (dataSeg 3 0xFFF false)) = false ∧
    isOk (segSpan .ds 0xFFF 1 true (dataSeg 7 0xFFF false)) = false ∧
    isOk (segSpan .ds 0xFFFF 2 true (dataSeg 7 0xFFF false)) = false ∧
    isOk (segSpan .ds 0 1 true (dataSeg 1 0xFFF false)) = false :=
  ⟨by unfold State.unpaged; decide +kernel, ok_of (by decide +kernel), ok_of (by decide +kernel), by decide +kernel⟩

/-- An operand found, one beyond the limit of DS and one of SS, a slot and a pop that the stack does not hold, a page that is not
present, and that page in the last bytes of an operand. -/
theorem witness_OperandAccessesCompleteOrFaultWhole :
    prot.unpaged ∧ (∃ p t, place .d (.mem (.direct32 0)) true prot = .ok p t) ∧ place .d (.reg .eax) true prot = .ok (.reg .eax) prot ∧
    raisesVector (place .w (.mem (.direct16 0xFFFF)) false real) 13 = true ∧
    raisesVector (place .w (.mem (.based16 .bp (.d16 0xFFFF))) true real) 12 = true ∧
    raisesVector (claimSlot 2 (withSp v86 1)) 12 = true ∧ raisesVector (peek 0 2 (withSp real 0xFFFF)) 12 = true ∧
    real.ctx.rep = .off ∧ raisesVector (segSpan .es 0xFFFF 2 true real) 13 = true ∧
    raisesVector (place .d (.mem (.direct32 0)) false (paged 6 7)) 14 = true ∧
    (1 : BitVec 8).toNat % 32 ≠ 0 ∧ ({ zeroRegs with ecx := 0x1F }.get8 .ecx).toNat % 32 ≠ 0 ∧
    raisesVector (place .b (.mem (.direct32 0)) true { paged 7 5 with sys := { (paged 7 5).sys with cpl := 3 } }) 14 = true :=
  ⟨by unfold State.unpaged; decide +kernel, ok_of (by decide +kernel), rfl, by decide +kernel⟩

theorem witness_PartialRegisterWritesKeepTheOtherBits :
    (31 < 32 ∧ 16 ≤ 31) ∧ ¬((7 : Nat) < 7) ∧ Reg.ecx ≠ Reg.eax := by decide

theorem witness_SegmentRegisterLoadsByMode : real.pe = false ∧ v86.pe = true ∧ v86.flags.vm = true := by decide +kernel

/-- A table with one descriptor, GDT 1, of the given byte 5. -/
def oneDescriptor (rights : Byte) (cpl : BitVec 2) : State :=
  { prot with mem := .ram [(0x200D, rights)], sys := { prot.sys with cpl := cpl } }

/-- Null, beyond the table, not readable, not allowed, not present and loaded. -/
theorem witness_SegmentRegisterLoadsByMode_protected :
    prot.unpaged ∧ prot.prot = true ∧ (3 &&& 0xFFFC : Word) = 0 ∧ descAddr prot 0x20 = none ∧
    descAddr prot 0x18 = some 0x2018 ∧ descAddr (oneDescriptor 0x92 3) 8 = some 0x2008 ∧
    (descriptorAt (oneDescriptor 0x98 0).mem 0x2008).attr.readable = false ∧
    (descriptorAt (oneDescriptor 0x92 3).mem 0x2008).attr.dpl.toNat = 0 ∧
    (descriptorAt (oneDescriptor 0x12 0).mem 0x2008).attr.p = false ∧
    (descriptorAt (oneDescriptor 0x12 0).mem 0x2008).attr.readable = true ∧
    (descriptorAt (oneDescriptor 0x9F 3).mem 0x2008).attr.readable = true ∧
    (descriptorAt (oneDescriptor 0x92 0).mem 0x2008).attr.writable = true ∧
    (descriptorAt (oneDescriptor 0x92 0).mem 0x2008).attr.p = true := by
  unfold State.unpaged; decide +kernel

theorem witness_SegmentRegisterMoves :
    (∃ p t b u, place .w (.reg .eax) false prot = .ok p t ∧ (fun _ => loadSeg .ds 0x10) p t = .ok b u) ∧
    place .w (.reg .eax) false real = .ok (.reg .eax) real ∧
    place .w (.reg .eax) true real = .ok (.reg .eax) real ∧ real.ctx.op32 = false ∧ { prot with ctx := wideCtx }.ctx.op32 = true ∧
    ∃ a t v b w c, effAddr (.direct16 0xFFFC) real = .ok a t ∧ memRead a.1 a.2 2 t = .ok v b ∧
      (memRead a.1 (a.2 + 2) 2 >>= fun x => loadSeg .ds (x.setWidth 16)) b = .ok w c :=
  ⟨ok_then (by decide +kernel), rfl, rfl, by decide +kernel, by decide +kernel,
   ok_then_then (x := effAddr (.direct16 0xFFFC)) (s := real) (f := fun a => memRead a.1 a.2 2)
     (g := fun a _ => memRead a.1 (a.2 + 2) 2 >>= fun x => loadSeg .ds (x.setWidth 16)) (by decide +kernel)⟩

/-- SP = 1 and SP = 3 cross, SP = 0 and SP = 2 do not; the upper half of ESP does not count. -/
theorem witness_StackPointerMovesAndWraps :
    (0 < (withSp real 0xABCD0001).regs.esp.toNat % 2 ^ 16 ∧ (withSp real 0xABCD0001).regs.esp.toNat % 2 ^ 16 < 2) ∧
    (0 < (withSp v86 3).regs.esp.toNat % 2 ^ 16 ∧ (withSp v86 3).regs.esp.toNat % 2 ^ 16 < 4) ∧
    (∃ sp t, segSpan .ss 0xFFFE 2 true (withSp real 0) = .ok sp t) ∧ (∃ sp t, segSpan .ss 0 2 true (withSp real 2) = .ok sp t) ∧
    (∃ sp t, segSpan .ss 0xFFFFFFFC 4 true (withSp prot 0) = .ok sp t) ∧ (∃ sp t, segSpan .ss 0xFFFE 2 false (withSp real 0xFFFE) = .ok sp t) ∧
    (0xFFFE + 0 + 2 ≤ 2 ^ 16 ∧ 2 ^ 16 < 0xFFFF + 0 + 2) ∧
    (accessOk false real.segs.ss false = true ∧ limitOk false real.segs.ss (BitVec.ofNat 32 0xFFFA) 6 = true) :=
  ⟨by decide +kernel, by decide +kernel, ok_of (by decide +kernel), ok_of (by decide +kernel), ok_of (by decide +kernel),
   ok_of (by decide +kernel), by decide, by decide +kernel⟩

theorem witness_PushesStoreBelowTheTop :
    (∃ p t sp u, place .w (.mem (.direct16 0xFFFE)) false real = .ok p t ∧ (fun _ => claimSlot 2) p t = .ok sp u) ∧
    (∃ sp t, claimSlot 2 (withSp real 0) = .ok sp t) ∧
    ({ prot with ctx := wideCtx }.ctx.op32 = true ∧ ∃ sp t, claimSlot 4 { prot with ctx := wideCtx, draws := 1 } = .ok sp t) ∧
    v86.flags.iopl = 3 :=
  ⟨ok_then (by decide +kernel), ok_of (by decide +kernel), ⟨rfl, ok_of (by decide +kernel)⟩, by decide +kernel⟩

theorem witness_PopsLoadFromTheTop :
    (∃ v t, peek 0 2 (withSp real 0xFFFE) = .ok v t) ∧
    (∃ p u, place .w (.mem (.direct16 0)) true ((withSp real 0xFFFE).popped 2) = .ok p u) ∧
    (∃ v t b u, peek 0 2 real = .ok v t ∧ (fun v => loadSeg .ss (v.setWidth 16)) v t = .ok b u) ∧ real.pe = false :=
  ⟨ok_of (by decide +kernel), ok_of (by decide +kernel), ok_then (by decide +kernel), by decide +kernel⟩

/-- The eight slots of PUSHA at stack top 16, from stack top 0 (the first wraps to FFFEh), and from 5 (the third would cross
FFFFh); with a limit of 0FFFh and stack top 0 none is held. Pops that wrap between two slots and one that crosses FFFFh. -/
theorem witness_PushAllAndPopAll :
    let below (top k : Nat) : Nat := (top + 2 ^ 16 - 2 * k) % 2 ^ 16
    let held (s : State) (off : Nat) : Bool := limitOk s.prot s.segs.ss (BitVec.ofNat 32 off) 2
    real.unpaged ∧ accessOk real.prot real.segs.ss true = true ∧
    (∀ k, k < 8 → ¬(0 < below 16 k ∧ below 16 k < 2) ∧ held real (below 16 (k + 1)) = true) ∧
    (∀ k, k < 8 → ¬(0 < below 0 k ∧ below 0 k < 2) ∧ held real (below 0 (k + 1)) = true) ∧
    ((∀ k, k < 2 → ¬(0 < below 5 k ∧ below 5 k < 2) ∧ held real (below 5 (k + 1)) = true) ∧ below 5 2 = 1 ∧ real.pe = false ∧
      v86.pe = true) ∧
    held { real with segs := { real.segs with ss := { real.segs.ss with limit := 0xFFF } } } (below 0 1) = false ∧
    (withSp real 0xFFF0).regs.esp.toNat + 8 * 2 ≤ 2 ^ 16 ∧
    (∀ k, k < 8 → (0xFFFC + 2 * k) % 2 ^ 16 + 2 ≤ 2 ^ 16 ∧
      limitOk real.prot real.segs.ss (BitVec.ofNat 32 ((0xFFFC + 2 * k) % 2 ^ 16)) 2 = true) ∧
    (∃ k, k < 8 ∧ ¬((0xFFFD + 2 * k) % 2 ^ 16 + 2 ≤ 2 ^ 16)) := by
  unfold State.unpaged; decide +kernel

/-- A 386 TSS at 6000h whose I/O map is at 68h: all ports up to 7 permitted. -/
def mapped : State :=
  { user with
    sys := { user.sys with tr := { SegReg.empty with base := 0x6000, limit := 0x68, attr := { Attr.none with p := true, typ := 0xB } } }
    mem := .ram [(0x6066, 0x68)] }

/-- Permitted by level, by the map, beyond the map, by a 286 TSS; the last port that an access reaches and one more. -/
theorem witness_PortAccessesArePermittedAndMade :
    mapped.unpaged ∧ isOk (ioCheck 0xFFFF 4 real) = true ∧ isOk (ioCheck 7 1 mapped) = true ∧ isOk (ioCheck 7 2 mapped) = false ∧
    isOk (ioCheck 7 1 { mapped with sys := { mapped.sys with tr := { mapped.sys.tr with attr := { Attr.none with p := true, typ := 3 } } } }) = false ∧
    (0xFFFE : Word).toNat + 2 ≤ 2 ^ 16 ∧ 2 ^ 16 < (0xFFFF : Word).toNat + 2 := by
  unfold State.unpaged; decide +kernel

theorem witness_FlagInstructionsChangeTheirFlag :
    real.pe = false ∧ (v86.pe = true ∧ v86.flags.vm = true ∧ v86.flags.iopl = 3) ∧ (prot.flags.vm = false ∧ prot.sys.cpl = 0) ∧
    (user.pe = true ∧ user.flags.vm = false ∧ user.sys.cpl ≠ 0 ∧ ¬(user.sys.cpl.toNat ≤ user.flags.iopl.toNat)) := by decide +kernel

theorem witness_DeniedInstructionsTakeAnException :
    real.pe = false ∧ (user.pe = true ∧ user.sys.cpl ≠ 0 ∧ user.flags.vm = false ∧ user.flags.iopl.toNat < user.sys.cpl.toNat) ∧
    (v86.pe = true ∧ v86.flags.vm = true) ∧ { v86.flags with iopl := 2 }.iopl ≠ 3 := by decide +kernel

theorem witness_ShiftsAndRotatesWriteResultAndFlags :
    (∃ p t, place .w (.mem (.direct16 0xFFFE)) true real = .ok p t) ∧ (32 % 32 = 0 ∧ 33 % 32 = 1 ∧ 31 % 32 = 31) :=
  ⟨ok_of (by decide +kernel), by decide⟩

theorem witness_ShiftResultsAreArithmetic :
    (0 < 1 ∧ 1 < 32) ∧ (0 < 31 ∧ 31 < 32) ∧ (shifted .rol (0x80#8) false 1).cf = some true := by decide +kernel

theorem witness_DoubleShiftsMoveBitsOfTheRegisterIn :
    (∃ p t, place real.opSize (.mem (.direct16 0xFFFE)) true real = .ok p t) ∧
    ((0x20 : BitVec 8).toNat % 32 = 0 ∧ (real.regs.get8 .ecx).toNat % 32 = 0) ∧ (0 < 16 % 32 ∧ 16 % 32 ≤ real.opSize.bits) ∧ real.opSize.bits < 17 % 32 :=
  ⟨ok_of (by decide +kernel), by decide +kernel⟩

/-- Source and destination at the last byte of their segments. -/
def stringAt : State := { real with regs := { real.regs with esi := 0xFFFF, edi := 0xFFFF, ecx := 2, edx := 0xFFFE } }

theorem witness_StringElementsMoveTheirIndexes :
    (∃ v t sp u, memRead .ds 0xFFFF 1 stringAt = .ok v t ∧ (fun _ => segSpan .es 0xFFFF 1 true) v t = .ok sp u) ∧
    (∃ v t x u, memRead .ds 0xFFFF 1 stringAt = .ok v t ∧ (fun _ => memRead .es 0xFFFF 1) v t = .ok x u) ∧
    (∃ a t sp u, ioCheck 0xFFFE 2 stringAt = .ok a t ∧ (fun _ => segSpan .es 0xFFFE 2 true) a t = .ok sp u) ∧
    (∃ a t v u, ioCheck 0xFFFE 2 stringAt = .ok a t ∧ (fun _ => memRead .ds 0xFFFE 2) a t = .ok v u) ∧
    (0xFFFE : Word).toNat + 2 ≤ 2 ^ 16 ∧ stringAt.ctx.rep = .off :=
  ⟨ok_then (by decide +kernel), ok_then (by decide +kernel), ok_then (by decide +kernel), ok_then (by decide +kernel),
   by decide, rfl⟩

/-- A repeated instruction of the given count. -/
def repeated (k : Rep) (count : Dword) (zf : Bool) : State :=
  { real with regs := { real.regs with ecx := count }, ctx := { real.ctx with rep := k }, flags := { real.flags with zf := zf } }

/-- Count 0 (of CX alone), 1 and 2; an element that ends the comparison and one that does not. -/
theorem witness_RepeatPrefixesRepeatByTheCount :
    (repeated .rep 0x10000 false).regs.ecx.toNat % 2 ^ 16 = 0 ∧ (∃ a t, movsElement false (repeated .rep 1 false) = .ok a t) ∧
    (∃ a t, movsElement false (repeated .repne 2 false) = .ok a t) ∧
    (∃ a t, scasElement false (repeated .rep 0x1FFFF false) = .ok a t) ∧ ∃ a t, cmpsElement false (repeated .repne 2 false) = .ok a t :=
  ⟨by decide +kernel, ok_of (by decide +kernel), ok_of (by decide +kernel), ok_of (by decide +kernel), ok_of (by decide +kernel)⟩

theorem witness_BitInstructionsFindAndChangeBits :
    (∃ p t, place .d (.mem (.direct32 0)) false prot = .ok p t) ∧
    ((0x80000000 : Dword).getLsbD 31 = true ∧ ∀ j, j < 31 → (0x80000000 : Dword).getLsbD j = false) ∧
    (∃ p t, place .d (.mem (.direct32 0)) true prot = .ok p t) ∧
    ∃ a t sp u, effAddr (.direct32 4) prot = .ok a t ∧ (fun a => segSpan a.1 (BitVec.ofInt 32 (a.2.toNat + 4 * (-1))) 4 true) a t = .ok sp u :=
  ⟨ok_of (by decide +kernel), by decide +kernel, ok_of (by decide +kernel), ok_then (by decide +kernel)⟩

/-- A limit of CS and a next instruction. -/
def near (limit next : Dword) : State :=
  { real with segs := { real.segs with cs := { real.segs.cs with limit := limit } }, ctx := { real.ctx with nextEip := next } }

/-- A target at the limit and one above it. -/
theorem witness_ConditionsSelectJumpAndByte :
    (near 0x1FF 0x17F).ctx.nextEip.toNat + (0x7F + 1) = 0x1FF ∧ (near 0x1FF 0x180).segs.cs.limit.toNat < 0x180 + 0x80 ∧
    real.flags.ov = false ∧ ∃ p t, place .b (.mem (.direct16 0xFFFF)) true real = .ok p t :=
  ⟨by decide +kernel, by decide +kernel, rfl, ok_of (by decide +kernel)⟩

theorem witness_NearTransfers : ∃ p t, place real.opSize (.mem (.direct16 0xFFFE)) false real = .ok p t :=
  ok_of (by decide +kernel)

theorem witness_NearTransfers_calls :
    (0x1FF ≤ (near 0x1FF 0x100).segs.cs.limit.toNat ∧ ¬0x200 ≤ (near 0x1FF 0x100).segs.cs.limit.toNat) ∧
    (∃ sp u, claimSlot 2 (near 0x1FF 0x100) = .ok sp u) ∧
    (∃ p t sp u, place .w (.reg .ebx) false real = .ok p t ∧ (fun _ => claimSlot 2) p t = .ok sp u) ∧
    ∃ v t, peek 0 2 (withSp real 0xFFFE) = .ok v t :=
  ⟨by decide +kernel, ok_of (by decide +kernel), ok_then (by decide +kernel), ok_of (by decide +kernel)⟩

/-- R581, R853, R854: with SP = 6 and a 32-bit operand size the second push shuts the processor down; SP is as before (log entry
63). -/
theorem test_far_call_shuts_down_at_its_second_push :
    sees (withSp real 6) [0x66, 0x9A, 0x34, 0x12, 0, 0, 0x00, 0x20] (fun t => (t.events.activity, t.regs.esp, at4 t 2)) =
      some (.shutdown, 6, 0) := by decide +kernel

theorem witness_RealFarTransfersLoadCs :
    (real.prot = false ∧ v86.prot = false) ∧ real.segs.cs.limit.toNat = 0xFFFF ∧
    (isOk (claimSlot 2 (withSp real 1)) = false ∧ isOk (claimSlot 2 (withSp real 3)) = true ∧
      isOk ((claimSlot 2 >>= fun _ => claimSlot 2) (withSp real 3)) = false) ∧
    (∃ sp u sp' w, claimSlot 2 (withSp real 4) = .ok sp u ∧ (fun _ => claimSlot 2) sp u = .ok sp' w) ∧
    (∃ a t v b w c, effAddr (.direct16 0xFFFC) real = .ok a t ∧ (fun a => memRead a.1 a.2 2) a t = .ok v b ∧
      (fun a _ => memRead a.1 (a.2 + 2) 2) a v b = .ok w c) ∧
    ∃ off a sel b, peek 0 2 real = .ok off a ∧ (fun _ => peek 2 2) off a = .ok sel b :=
  ⟨by decide +kernel, by decide +kernel, by decide +kernel, ok_then (by decide +kernel),
   ok_then_then (x := effAddr (.direct16 0xFFFC)) (s := real) (f := fun a => memRead a.1 a.2 2)
     (g := fun a _ => memRead a.1 (a.2 + 2) 2) (by decide +kernel),
   ok_then (by decide +kernel)⟩

/-- GDT 1 with the given byte 5 and limit, and a far pointer at the stack top. -/
def farAt (rights : Byte) (limit : Word) : State :=
  { prot with mem := .ram [(0x1001, 1), (0x1002, 8), (0x2008, limit.setWidth 8), (0x2009, (limit >>> 8).setWidth 8), (0x200D, rights)] }

/-- Null, beyond the table, not allowed, not present, at the limit, above it, and a return. -/
theorem witness_ProtectedFarTransfersCheckTheDescriptor :
    (prot.prot = true ∧ prot.unpaged ∧ descAddr prot 8 = some 0x2008 ∧ descAddr prot 0x20 = none) ∧
    (let d (s : State) := descriptorAt s.mem 0x2008
     (d (farAt 0x9A 0xFFF)).attr.s = true ∧ (d (farAt 0x9A 0xFFF)).attr.typ.getLsbD 3 = true ∧ (d (farAt 0x9A 0xFFF)).attr.p = true ∧
     (d (farAt 0x9A 0xFFF)).attr.dpl = prot.sys.cpl ∧ (d (farAt 0xFA 0xFFF)).attr.dpl ≠ prot.sys.cpl ∧
     (d (farAt 0x1A 0xFFF)).attr.p = false ∧ (d (farAt 0x9A 0xFFF)).limit = 0xFFF ∧ (d (farAt 0x9E 0xFFF)).attr.typ.getLsbD 2 = true) ∧
    (∃ sp u sp' w, claimSlot 4 prot = .ok sp u ∧ (fun _ => claimSlot 4) sp u = .ok sp' w) ∧
    checkPushes 2 4 (stackPtr prot) prot = .ok () prot ∧ checkFrame 8 (farAt 0x9A 0xFFF) = .ok () (farAt 0x9A 0xFFF) ∧
    (∃ off a sel b, peek 0 4 (farAt 0x9A 0xFFF) = .ok off a ∧ (fun _ => peek 4 2) off a = .ok sel b) ∧
    (∃ a t v b w c, effAddr (.direct32 0xFFFFFFF8) prot = .ok a t ∧ (fun a => memRead a.1 a.2 4) a t = .ok v b ∧
      (fun a _ => memRead a.1 (a.2 + 4) 2) a v b = .ok w c) ∧
    isOk (checkFrame 8 { prot with segs := { prot.segs with ss := { prot.segs.ss with limit := 0x1006 } } }) = false :=
  ⟨by unfold State.unpaged; decide +kernel, by decide +kernel, ok_then (by decide +kernel), keeps_of (by decide +kernel),
   keeps_of (by decide +kernel), ok_then (by decide +kernel),
   ok_then_then (x := effAddr (.direct32 0xFFFFFFF8)) (s := prot) (f := fun a => memRead a.1 a.2 4)
     (g := fun a _ => memRead a.1 (a.2 + 4) 2) (by decide +kernel), by decide +kernel⟩

/-- Protected mode with more tables: GDT 3 a 386 TSS at 6000h whose task is a 32-bit one of level 0, 4 a call gate to
0008h:5000h with one parameter, 5 and 6 code and data of level 3, 7 a busy 386 TSS at 6000h, 8 a task gate to GDT 3; the IDT's
vector 14 a task gate to GDT 3. The current TSS is at 7000h: the stack of level 0 is 0010h:3000h, the back link names GDT 7. Cells
given come first. -/
def system (cpl : BitVec 2) (extra : List Host.Cell) : State :=
  { prot with
    sys := { prot.sys with
      cpl := cpl, gdtr := { base := 0x2000, limit := 0x47 }
      tr := { SegReg.empty with base := 0x7000, limit := 0x67, attr := { Attr.none with p := true, typ := 0xB }, valid := true } }
    mem := .ram (extra ++
      [(0x2021, 0x50), (0x2022, 8), (0x2024, 1), (0x2025, 0xEC), (0x2028, 0xFF), (0x2029, 0xFF), (0x202D, 0xFA), (0x202E, 0xCF),
       (0x2030, 0xFF), (0x2031, 0xFF), (0x2035, 0xF2), (0x2036, 0xCF), (0x2038, 0x67), (0x203B, 0x60), (0x203D, 0x8B),
       (0x2042, 0x18), (0x2045, 0xE5), (0x3072, 0x18), (0x3075, 0xE5), (0x6021, 1), (0x6024, 2), (0x604C, 8), (0x6050, 0x10),
       (0x7000, 0x38), (0x7005, 0x30), (0x7008, 0x10)] ++ tables) }

/-- A call gate of the given bytes 2 (selector), 5 (rights). -/
def gate (cpl : BitVec 2) (sel rights : Byte) : State := system cpl [(0x2022, sel), (0x2025, rights)]

/-- The code segment that a gate names, of the given byte 5 and limit. -/
def gateTo (cpl : BitVec 2) (rights limit : Byte) : State :=
  system cpl [(0x2008, limit), (0x2009, 0x4F), (0x200D, rights), (0x200E, 0x40)]

/-- The stack of level 0 in the TSS and the descriptor of GDT 2. -/
def stackOf (sel rights : Byte) : State := system 3 [(0x7008, sel), (0x2015, rights)]

/-- A far pointer in memory to the given selector, and what the table of the state that has read it holds. -/
def pointsTo (s : State) (m : Mem) (sel : Word) (a : Dword) : Bool :=
  match readFarPointer m s with
  | .ok p t => p.1 == sel && descAddr t sel == some a && (descriptorAt t.mem a).lo == (descriptorAt s.mem a).lo
  | .error _ _ => false

theorem farPointer_of {s : State} {m : Mem} {sel : Word} {a : Dword} (h : pointsTo s m sel a = true) :
    ∃ o r, s.farPointer r (.jmpFarMem m) (.callFarMem m) sel o ∧ descAddr r sel = some a ∧
      (descriptorAt r.mem a).lo = (descriptorAt s.mem a).lo := by
  unfold pointsTo at h
  split at h
  · rename_i p t hp
    simp only [Bool.and_eq_true, beq_iff_eq] at h
    obtain ⟨⟨rfl, h2⟩, h3⟩ := h
    exact ⟨p.2, t, readFarPointer_ok hp, h2, h3⟩
  · cases h

/-- The tables of `system` with a 48-bit pointer to the given selector at 500h, read by 32-bit code. -/
def pointed (cpl : BitVec 2) (sel : Byte) : State := { system cpl [(0x501, 0x50), (0x504, sel)] with ctx := wideCtx }

/-- A pointer in the instruction and pointers in memory to a call gate, to a TSS and to a task gate. -/
theorem witness_CallGatesEnterTheirTarget_pointers :
    (∀ (s : State) (p : FarPtr), s.farPointer s (.jmpFar p) (.callFar p) p.sel (fullOffset p.off)) ∧
    (∃ o r, (pointed 3 0x23).farPointer r (.jmpFarMem (.direct32 0x500)) (.callFarMem (.direct32 0x500)) 0x23 o ∧
      descAddr r 0x23 = some 0x2020 ∧ (descriptorAt r.mem 0x2020).lo = (descriptorAt (pointed 3 0x23).mem 0x2020).lo) :=
  ⟨fun _ p => .inl ⟨p, rfl, rfl, rfl, rfl, rfl⟩, farPointer_of (by decide +kernel)⟩

/-- Pointers to a TSS and to a task gate; a task of an interrupt whose EIP is beyond the limit of its CS. -/
theorem witness_TaskSwitchesSaveAndLoadTasks_pointers :
    (∃ o r, (pointed 0 0x18).farPointer r (.jmpFarMem (.direct32 0x500)) (.callFarMem (.direct32 0x500)) 0x18 o ∧
      descAddr r 0x18 = some 0x2018 ∧ (descriptorAt r.mem 0x2018).lo = (descriptorAt (pointed 0 0x18).mem 0x2018).lo) ∧
    (∃ o r, (pointed 0 0x40).farPointer r (.jmpFarMem (.direct32 0x500)) (.callFarMem (.direct32 0x500)) 0x40 o ∧
      descAddr r 0x40 = some 0x2040 ∧ (descriptorAt r.mem 0x2040).lo = (descriptorAt (pointed 0 0x40).mem 0x2040).lo) ∧
    isOk ((taskSwitch 0x18 (descriptorAt (system 3 []).mem 0x2018) .int 0x123 >>= fun _ => getState >>= fun u =>
      require (decide (u.segs.cs.limit.toNat < u.eip.toNat)) (.protection 0))
        (system 3 [(0x2009, 0), (0x200E, 0x40)])) = true :=
  ⟨farPointer_of (by decide +kernel), farPointer_of (by decide +kernel), by decide +kernel⟩

/-- R576, R593: a JMP through memory to a TSS goes on in its task; R590, R591: a CALL through memory and a call gate on the
stack of level 0. -/
theorem test_far_pointers_to_a_task_and_a_gate :
    sees (pointed 0 0x18) [0xFF, 0x2D, 0x00, 0x05, 0x00, 0x00] (fun t => (t.sys.tr.sel, t.eip)) = some (0x18, 0x100) ∧
    sees (pointed 3 0x23) [0xFF, 0x1D, 0x00, 0x05, 0x00, 0x00] (fun t => (t.sys.cpl, t.eip)) = some (0, 0x5000) := by
  decide +kernel

/-- Without room for two pushes at the caller's level and for five on the inner stack. -/
theorem witness_CallGatesEnterTheirTarget_room :
    isOk (checkPushes 2 4 (stackPtr (withSp (gate 0 8 0xEC) 8)) (withSp (gate 0 8 0xEC) 8)) = true ∧
    isOk (let s := { gate 0 8 0xEC with segs := { (gate 0 8 0xEC).segs with ss := { (gate 0 8 0xEC).segs.ss with limit := 0xFFB } } }
          checkPushes 2 4 (stackPtr s) s) = false ∧
    isOk (let s := system 3 [(0x2010, 0xEF), (0x2011, 0x2F), (0x2016, 0x40)]
          let u := s.onInnerStack 0 0x10 (descriptorAt s.mem 0x2010) 0x3000
          checkPushes 5 4 (stackPtr u) u) = false := by decide +kernel

/-- Not open, not present, a null, absent or unfit target, one not present, the caller's level, beyond and at the limit; no
stack in the TSS, one that is null, absent, unfit or not present, and one that takes the pushes. -/
theorem witness_CallGatesEnterTheirTarget :
    (let s := gate 3 8 0xEC
     s.prot = true ∧ s.unpaged ∧ (0x20 : Word) &&& 0xFFFC ≠ 0 ∧ descAddr s 0x20 = some 0x2020 ∧
     (descriptorAt s.mem 0x2020).attr.s = false ∧ (descriptorAt s.mem 0x2020).attr.typ = 12 ∧
     (descriptorAt s.mem 0x2020).attr.p = true ∧ (descriptorAt s.mem 0x2020).attr.dpl = 3 ∧ descAddr s 8 = some 0x2008 ∧
     s.tssEntry 0 = some (0x10, 0x3000) ∧ descAddr s 0x10 = some 0x2010 ∧ (descriptorAt s.mem 0x2010).attr.dpl = 0 ∧
     (descriptorAt s.mem 0x2010).attr.writable = true ∧ (descriptorAt s.mem 0x2010).attr.p = true ∧
     (stackPtr s).toNat + 0 * 4 + 4 ≤ stackEnd s ∧ accessOk s.prot s.segs.ss false = true ∧
     limitOk s.prot s.segs.ss (s.above 0) 4 = true) ∧
    (let u := (gate 3 8 0xEC).onInnerStack 0 0x10 (descriptorAt (gate 3 8 0xEC).mem 0x2010) 0x3000
     checkPushes 5 4 (stackPtr u) u = .ok () u) ∧
    ((descriptorAt (gate 3 8 0xCC).mem 0x2020).attr.dpl = 2 ∧ (descriptorAt (gate 3 8 0x6C).mem 0x2020).attr.p = false ∧
     ((descriptorAt (gate 3 3 0xEC).mem 0x2020).lo.extractLsb' 16 16 : Word) &&& 0xFFFC = 0 ∧
     descAddr (gate 3 0x48 0xEC) 0x48 = none ∧ (descriptorAt (gate 3 0x10 0xEC).mem 0x2010).attr.typ.getLsbD 3 = false) ∧
    ((descriptorAt (gateTo 0 0x1A 0xFF).mem 0x2008).attr.p = false ∧ (descriptorAt (gateTo 0 0x9A 0xFF).mem 0x2008).attr.dpl = 0 ∧
     (descriptorAt (gateTo 0 0x9A 0xFF).mem 0x2008).limit.toNat < 0x5000 ∧
     (descriptorAt (gateTo 3 0x9E 0xFF).mem 0x2008).attr.typ.getLsbD 2 = true) ∧
    checkPushes 2 4 (stackPtr (gate 0 8 0xEC)) (gate 0 8 0xEC) = .ok () (gate 0 8 0xEC) ∧
    ({ system 3 [] with sys := { (system 3 []).sys with tr := { (system 3 []).sys.tr with limit := 10 } } }.tssEntry 0 = none ∧
     (stackOf 3 0x92).tssEntry 0 = some (3, 0x3000) ∧ descAddr (stackOf 0x48 0x92) 0x48 = none ∧
     (descriptorAt (stackOf 0x10 0x90).mem 0x2010).attr.writable = false ∧ (descriptorAt (stackOf 0x10 0x12).mem 0x2010).attr.p = false) ∧
    { system 3 [] with segs := { (system 3 []).segs with ss := { (system 3 []).segs.ss with limit := 0x1002 } } }.segs.ss.limit.toNat <
      0x1003 :=
  ⟨by unfold State.unpaged; decide +kernel, keeps_of (by decide +kernel), by decide +kernel, by decide +kernel,
   keeps_of (by decide +kernel), by decide +kernel⟩

/-- The image of a task of level 0 with an empty LDT. -/
def image : TaskImage :=
  { cr3 := some 0, eip := 0x100, flags := 2, ldt := 0, regs := List.replicate 8 0, segs := [0, 8, 0x10, 0, 0, 0], t := true }

/-- The state that has loaded the registers of `image`. -/
def imageLoaded : State :=
  let v := system 3 []
  let empty (r : SegReg) (x : Word) : SegReg := { r with sel := x, valid := false }
  { v with
    eip := 0x100, flags := Flags.ofImage 2, regs := zeroRegs
    segs := { es := empty v.segs.es 0, cs := empty v.segs.cs 8, ss := empty v.segs.ss 0x10, ds := empty v.segs.ds 0
              fs := empty v.segs.fs 0, gs := empty v.segs.gs 0 }
    sys := { v.sys with cr3 := 0, ldtr := empty v.sys.ldtr 0 }
    dregs := { v.dregs with dr7 := v.dregs.dr7 &&& 0xFFFFFEAA }
    ctx := { v.ctx with nextEip := 0x100 } }

/-- TSS limits at and below the least; a task's segments loaded one after the other; selectors that are null, local, absent,
unfit, not present and good; a TSS and a task gate to jump to; a task switch that completes, one that fails before the switch
and one in the new task; an interrupt through a task gate. -/
theorem witness_TaskSwitchesSaveAndLoadTasks :
    ((descriptorAt (system 0 []).mem 0x2018).limit.toNat = 0x67 ∧
     (descriptorAt (system 0 [(0x2018, 0x65)]).mem 0x2018).limit.toNat = 0x65 ∧
     (descriptorAt (system 0 [(0x2018, 0x64)]).mem 0x2018).limit.toNat < 0x65) ∧
    (∃ r1 r2 r3 r4 r5 r6 r7, loadTaskLdt 0 imageLoaded = .ok () r1 ∧ loadTaskCode 8 r1 = .ok () r2 ∧
      loadStackSeg 0x10 0 (.invalidTss 0x10) .invalidTss r2 = .ok () r3 ∧ loadDataSeg .ds 0 .invalidTss r3 = .ok () r4 ∧
      loadDataSeg .es 0 .invalidTss r4 = .ok () r5 ∧ loadDataSeg .fs 0 .invalidTss r5 = .ok () r6 ∧
      loadDataSeg .gs 0 .invalidTss r6 = .ok () r7) ∧
    (image.regs.length = 8 ∧ image.segs.length = 6 ∧ (Flags.ofImage image.flags).vm = false ∧ (Flags.ofImage 0x20002).vm = true) ∧
    ((3 : Word) &&& 0xFFFC = 0 ∧ (0xC : Word).getLsbD 2 = true ∧ descAddr (system 0 []) 0x48 = none ∧
     descAddr (system 0 []) 8 = some 0x2008 ∧ (descriptorAt (system 0 [(0x200D, 0x82)]).mem 0x2008).attr.typ = 2 ∧
     (descriptorAt (system 0 [(0x200D, 0x1A)]).mem 0x2008).attr.p = false) ∧
    (descAddr (system 0 []) 0x18 = some 0x2018 ∧ (descriptorAt (system 0 []).mem 0x2018).attr.typ = 9 ∧
     (descriptorAt (system 0 []).mem 0x2018).attr.s = false ∧ (descriptorAt (system 0 []).mem 0x2018).attr.p = true ∧
     descAddr (system 0 []) 0x40 = some 0x2040 ∧ (descriptorAt (system 0 []).mem 0x2040).attr.typ = 5 ∧
     ((descriptorAt (system 0 []).mem 0x2040).lo.extractLsb' 16 16 : Word) = 0x18) ∧
    (∃ u, taskSwitch 0x18 (descriptorAt (system 0 []).mem 0x2018) .jmp 0 (system 0 []) = .ok () u) ∧
    raisesVector (taskSwitch 0x18 (descriptorAt (system 0 [(0x2018, 0x64)]).mem 0x2018) .call 0 (system 0 [(0x2018, 0x64)])) 10 = true ∧
    isOk (taskSwitch 0x18 (descriptorAt (system 0 [(0x604C, 0x10)]).mem 0x2018) .call 0 (system 0 [(0x604C, 0x10)])) = false ∧
    (8 * 14 + 7 ≤ (system 3 []).sys.idtr.limit.toNat ∧ (descriptorAt (system 3 []).mem 0x3070).attr.typ = 5 ∧
     (descriptorAt (system 3 []).mem 0x3070).attr.p = true ∧ (descriptorAt (system 3 []).mem 0x3070).attr.s = false ∧
     ∃ u x sp, taskSwitch 0x18 (descriptorAt (system 3 []).mem 0x2018) .int 0x123 (system 3 []) = .ok () u ∧
       u.eip.toNat ≤ u.segs.cs.limit.toNat ∧ claimSlot 4 { u with draws := u.draws + 1 } = .ok sp x) := by
  refine ⟨by decide +kernel, ?_, by decide +kernel, by decide +kernel, by decide +kernel, ?_, by decide +kernel, by decide +kernel,
    by decide +kernel, by decide +kernel, by decide +kernel, by decide +kernel, ?_⟩
  · have h : isOk ((loadTaskLdt 0 >>= fun _ => loadTaskCode 8 >>= fun _ => loadStackSeg 0x10 0 (.invalidTss 0x10) .invalidTss >>=
        fun _ => loadDataSeg .ds 0 .invalidTss >>= fun _ => loadDataSeg .es 0 .invalidTss >>= fun _ =>
          loadDataSeg .fs 0 .invalidTss >>= fun _ => loadDataSeg .gs 0 .invalidTss) imageLoaded) = true := by decide +kernel
    obtain ⟨_, r7, h⟩ := ok_of h
    obtain ⟨_, r1, h1, h⟩ := exec_bind_ok h
    obtain ⟨_, r2, h2, h⟩ := exec_bind_ok h
    obtain ⟨_, r3, h3, h⟩ := exec_bind_ok h
    obtain ⟨_, r4, h4, h⟩ := exec_bind_ok h
    obtain ⟨_, r5, h5, h⟩ := exec_bind_ok h
    obtain ⟨_, r6, h6, h⟩ := exec_bind_ok h
    exact ⟨r1, r2, r3, r4, r5, r6, r7, h1, h2, h3, h4, h5, h6, h⟩
  · obtain ⟨_, u, h⟩ := ok_of (by decide +kernel :
      isOk (taskSwitch 0x18 (descriptorAt (system 0 []).mem 0x2018) .jmp 0 (system 0 [])) = true)
    exact ⟨u, h⟩
  · have h : isOk ((taskSwitch 0x18 (descriptorAt (system 3 []).mem 0x2018) .int 0x123 >>= fun _ => getState >>= fun u =>
        require (decide (u.eip.toNat ≤ u.segs.cs.limit.toNat)) (.protection 0) >>= fun _ =>
          update (fun u => { u with draws := u.draws + 1 }) >>= fun _ => claimSlot 4) (system 3 [])) = true := by decide +kernel
    obtain ⟨sp, x, h⟩ := ok_of h
    obtain ⟨_, u, h1, k1⟩ := exec_bind_ok h
    obtain ⟨_, _, h2, k2⟩ := exec_bind_ok k1
    simp only [getState_apply, EStateM.Result.ok.injEq] at h2
    obtain ⟨rfl, rfl⟩ := h2
    obtain ⟨_, _, h3, k3⟩ := exec_bind_ok k2
    obtain ⟨h4, rfl⟩ := require_ok h3
    exact ⟨_, x, sp, h1, by simpa using h4, k3⟩

theorem witness_EnterAndLeaveBuildTheFrame :
    (∃ a t, push .w real.regs.ebp real = .ok a t) ∧ (32 % 32 = 0 ∧ 0 < 31 % 32) ∧
    (∃ c u b x, copyDisplay .w 0x100 30 (withSp real 0x200) = .ok c u ∧ (fun _ => push .w 0x100) c u = .ok b x) ∧
    (∃ v b c d, memRead .ss 0xFE 2 real = .ok v b ∧ (fun v => push .w v) v b = .ok c d) ∧ ∃ v t, memRead .ss 0xFFFE 2 real = .ok v t :=
  ⟨ok_of (by decide +kernel), by decide, ok_then (by decide +kernel), ok_then (by decide +kernel), ok_of (by decide +kernel)⟩

/-- A stack segment whose limit lies below SP. -/
def shortStack (s : State) : State := { s with segs := { s.segs with ss := { s.segs.ss with limit := 0xF } } }

/-- A computation that stops, with an exception of the given vector or with a shutdown. -/
def stopsWith {α : Type} (r : EStateM.Result Stop State α) (v : Option Byte) : Bool :=
  match r with
  | .error (.exc e) _ => v == some e.vector
  | .error .shutdown _ => v == none
  | _ => false

/-- The first push, a push of the display, one of its reads and the last push do not pass; a read of two bytes that ends at
FFFFh and one that runs past it. -/
theorem witness_EnterAndLeaveBuildTheFrame_stops :
    real.unpaged ∧ stopsWith (push .w 0 (withSp real 1)) none = true ∧
    (stopsWith (push .w 0 (shortStack real)) (some 12) = true ∧ isOk (push .w 0 (withSp real 3)) = true ∧
      stopsWith ((push .w 0 >>= fun _ => push .w 1) (withSp real 3)) none = true) ∧
    (stopsWith ((push .w 0 >>= fun _ => copyDisplay .w 0x100 1) (withSp real 3)) none = true ∧
      stopsWith (copyDisplay .w 1 1 real) (some 12) = true ∧ isOk (memRead .ss 0xFE 2 real) = true ∧
      stopsWith (memRead .ss 0xFE 2 (shortStack real)) (some 12) = true) ∧
    ((0xFFFE : Dword).toNat + 2 = 2 ^ 16 ∧ 2 ^ 16 < (0xFFFF : Dword).toNat + 2) := by
  unfold State.unpaged; decide +kernel

/-- R622, D26: an ENTER of level 1 whose second push shuts the processor down leaves its first push in memory and SP as it was. -/
theorem test_enter_stops_in_the_middle :
    sees { withSp real 3 with regs := { (withSp real 3).regs with ebp := 0x1234 } } [0xC8, 0x00, 0x00, 0x01]
      (fun t => (t.events.activity, at2 t 1, t.regs.esp, t.regs.ebp)) = some (.shutdown, 0x1234, 3, 0x1234) := by decide +kernel

theorem witness_InterruptInstructionsEnterAndReturn :
    ((withSp real 6).realReady 0xFF ∧ real.flags.ov = false ∧ { real.flags with ov := true }.ov = true) ∧
    (∃ a t lo b hi c, effAddr (.direct16 0xFFFC) real = .ok a t ∧ (fun a => memRead a.1 a.2 2) a t = .ok lo b ∧
      (fun a _ => memRead a.1 (a.2 + 2) 2) a lo b = .ok hi c) ∧
    ((0 : Int) ≤ (real.regs.read .w .eax).toInt ∧ ¬(real.regs.read .w .esp).toInt ≤ 0) ∧ v86.prot = false ∧ v86.flags.iopl = 3 ∧
    checkFrame 6 (withSp real 0xFFFA) = .ok () (withSp real 0xFFFA) ∧ isOk (checkFrame 6 (withSp real 0xFFFB)) = false ∧
    ∃ off a sel b img c, peek 0 2 (withSp real 0xFFFA) = .ok off a ∧ (fun _ => peek 2 2) off a = .ok sel b ∧
      (fun _ _ => peek 4 2) off sel b = .ok img c :=
  ⟨by unfold State.realReady; decide +kernel,
   ok_then_then (x := effAddr (.direct16 0xFFFC)) (s := real) (f := fun a => memRead a.1 a.2 2)
     (g := fun a _ => memRead a.1 (a.2 + 2) 2) (by decide +kernel),
   by decide +kernel, by decide +kernel, by decide +kernel, keeps_of (by decide +kernel), by decide +kernel,
   ok_then_then (f := fun _ => peek 2 2) (g := fun _ _ => peek 4 2) (by decide +kernel)⟩

theorem witness_InterruptReturnUndoesTheInterrupt :
    (withSp real 6).realReady 0xFF ∧ real.ctx.op32 = false ∧ real.ctx.nextEip.toNat < 2 ^ 16 ∧
    real.ctx.nextEip.toNat ≤ real.segs.cs.limit.toNat ∧ real.segs.cs.base = BitVec.ofNat 32 (16 * real.segs.cs.sel.toNat) ∧
    real.segs.cs.valid = true ∧
    (∀ a, a ∈ linearBytes (0 : Dword) 6 → (withSp real 6).mem.kindAt a = some .ram) := by unfold State.realReady; decide +kernel

/-- A 32-bit frame at the stack top of level 0: EIP = 5000h, then the given selector, flags, ESP = 2000h and SS. -/
def framed (cs : Byte) (flags : List Byte) (ss : Byte) (extra : List Host.Cell) : State :=
  { system 0 (extra ++
      [(0x1001, 0x50), (0x1004, cs), (0x1008, flags.getD 0 0), (0x1009, flags.getD 1 0), (0x100A, flags.getD 2 0), (0x100D, 0x20),
       (0x1010, ss)]) with
    ctx := wideCtx }

/-- An IRET to the same and to an outer level, its code segment null, absent, unfit and not present, its stack null, absent, unfit,
not present and good; to V86 mode; with NT set, to a task that is busy, unfit and not named; frames that the stack does not
hold; a RET to an outer level. -/
theorem witness_ReturnsInProtectedMode :
    (let s := framed 8 [2] 0 []
     s.prot = true ∧ s.unpaged ∧ s.flags.nt = false ∧ s.ctx.op32 = true ∧ s.stacked 0 4 = 0x5000 ∧ s.stacked 4 2 = 8 ∧
     descAddr s 8 = some 0x2008 ∧ (descriptorAt s.mem 0x2008).attr.dpl = 0 ∧ 0x5000 ≤ (descriptorAt s.mem 0x2008).limit.toNat) ∧
    (let s := framed 0x2B [2] 0x33 []
     s.stacked 4 2 = 0x2B ∧ descAddr s 0x2B = some 0x2028 ∧ (descriptorAt s.mem 0x2028).attr.dpl = 3 ∧
     (descriptorAt s.mem 0x2028).attr.p = true ∧ s.stacked 16 2 = 0x33 ∧ s.stacked 12 4 = 0x2000 ∧ descAddr s 0x33 = some 0x2030 ∧
     (descriptorAt s.mem 0x2030).attr.writable = true ∧ (descriptorAt s.mem 0x2030).attr.dpl = 3 ∧ (descriptorAt s.mem 0x2030).attr.p = true) ∧
    checkFrame 12 (framed 8 [2] 0 []) = .ok () (framed 8 [2] 0 []) ∧ checkFrame 20 (framed 0x2B [2] 0x33 []) = .ok () (framed 0x2B [2] 0x33 []) ∧
    checkFrame 36 (framed 8 [2, 2, 2] 0 []) = .ok () (framed 8 [2, 2, 2] 0 []) ∧ checkFrame 8 (framed 0x2B [0x00] 0x33 []) = .ok () (framed 0x2B [0x00] 0x33 []) ∧
    ((framed 8 [2, 2, 2] 0 []).stacked 8 4).getLsbD 17 = true ∧
    ((framed 3 [2] 0 []).stacked 4 2 &&& 0xFFFC = 0 ∧ descAddr (framed 0x48 [2] 0 []) 0x48 = none ∧
     (descriptorAt (framed 0x10 [2] 0 []).mem 0x2010).attr.typ.getLsbD 3 = false ∧
     (descriptorAt (framed 8 [2] 0 [(0x200D, 0x1A)]).mem 0x2008).attr.p = false ∧
     (descriptorAt (framed 8 [2] 0 [(0x2009, 0x4F), (0x200E, 0x40)]).mem 0x2008).limit.toNat < 0x5000) ∧
    ((framed 0x2B [2] 3 []).stacked 16 2 &&& 0xFFFC = 0 ∧ descAddr (framed 0x2B [2] 0x4B []) 0x4B = none ∧
     (descriptorAt (framed 0x2B [2] 0x33 [(0x2035, 0xF0)]).mem 0x2030).attr.writable = false ∧
     (descriptorAt (framed 0x2B [2] 0x33 [(0x2035, 0x72)]).mem 0x2030).attr.p = false) ∧
    (let link (b : Byte) : Word := (((framed 8 [2] 0 [(0x7000, b)]).mem.load (linearBytes 0x7000 2)).setWidth 16 : Word)
     link 0x38 = 0x38 ∧ link 0x3C = 0x3C ∧ link 3 = 3 ∧ descAddr (system 0 []) 0x38 = some 0x2038 ∧
     (descriptorAt (system 0 []).mem 0x2038).attr.typ = 11 ∧ (descriptorAt (system 0 []).mem 0x2018).attr.typ = 9 ∧
     (descriptorAt (system 0 [(0x203D, 0x0B)]).mem 0x2038).attr.p = false) ∧
    (∃ u, taskSwitch 0x38 (descriptorAt (system 0 []).mem 0x2038) .iret 0x10001 (system 0 []) = .ok () u) ∧
    (isOk (checkFrame 12 (withSp (framed 8 [2] 0 []) 0xFFFFFFF6)) = false ∧ isOk (checkFrame 36 (withSp (framed 8 [2] 0 []) 0xFFFFFFDE)) = false) :=
  ⟨by unfold State.unpaged; decide +kernel, by decide +kernel, keeps_of (by decide +kernel), keeps_of (by decide +kernel),
   keeps_of (by decide +kernel), keeps_of (by decide +kernel), by decide +kernel, by decide +kernel, by decide +kernel, by decide +kernel,
   (ok_of (by decide +kernel)).elim fun _ h => h, by decide +kernel⟩

/-- An interrupt table of the given limit. -/
def idtLimit (l : Word) : State := { real with sys := { real.sys with idtr := { base := 0, limit := l } } }

theorem witness_RealExceptionsEnterTheirHandler :
    (idtLimit 0x37).realReady Exc.divide.vector ∧ (idtLimit 0x37).realReady (Exc.protection 0).vector ∧
    ((idtLimit 0x23).pe = false ∧ (idtLimit 0x23).sys.idtr.limit.toNat < 4 * (Exc.protection 0).vector.toNat + 3 ∧
      (Exc.protection 0).vector ≠ 8 ∧ (idtLimit 0x23).realReady 8) ∧
    (idtLimit 0x22).sys.idtr.limit.toNat < 4 * (Exc.protection 0).vector.toNat + 3 ∧ (idtLimit 0x22).sys.idtr.limit.toNat < 4 * 8 + 3 := by
  unfold State.realReady; decide +kernel

/-- Vector 13 of `prot` and the code segment that its gate names, and the four slots of its delivery. -/
theorem witness_GatesOfTheSameLevelAreEntered :
    (prot.prot = true ∧ prot.unpaged ∧ 8 * 13 + 7 ≤ prot.sys.idtr.limit.toNat) ∧
    (let g := descriptorAt prot.mem (prot.sys.idtr.base + BitVec.ofNat 32 (8 * 13))
     let d := descriptorAt prot.mem 0x2008
     g.attr.s = false ∧ g.attr.typ.toNat % 8 = 6 ∧ g.attr.p = true ∧ prot.sys.cpl.toNat ≤ g.attr.dpl.toNat ∧
     (g.lo.extractLsb' 16 16 : Word) = 8 ∧ descAddr prot 8 = some 0x2008 ∧ d.attr.s = true ∧ d.attr.typ.getLsbD 3 = true ∧
     d.attr.p = true ∧ d.attr.dpl = prot.sys.cpl ∧ 0x5000 ≤ d.limit.toNat) ∧
    checkPushes 4 4 (stackPtr prot) { prot with draws := prot.draws + 2 } = .ok () { prot with draws := prot.draws + 2 } ∧
    ∃ slots u, claimSlots 4 (List.replicate 4 0) { prot with draws := prot.draws + 2 } = .ok slots u :=
  ⟨by unfold State.unpaged; decide +kernel, by decide +kernel, keeps_of (by decide +kernel), ok_of (by decide +kernel)⟩

/-- The event of a software interrupt. -/
def software (s : State) (v : Byte) : Event :=
  { vector := v, code := none, source := .software, retEip := s.ctx.nextEip, rf := s.flags.rf, nmi := false }

/-- Vector 13 and 14 with the IDT's last byte at the limit and one beyond it; a gate of a wrong type, of level 0 and not present;
a task gate to a local, null, absent, unfit and not present selector; a gate to a null, absent, unfit and not present segment and
to one of a level below; no room for the pushes, and an offset beyond the limit; INT n, INT 3 and INTO. -/
theorem witness_GatesOfTheSameLevelAreEntered_fails :
    (8 * 13 + 7 ≤ ({ prot.sys.idtr with limit := 0x6F } : TableReg).limit.toNat ∧
      ¬8 * 13 + 7 ≤ ({ prot.sys.idtr with limit := 0x6E } : TableReg).limit.toNat) ∧
    (let g (v : Byte) (l : List Host.Cell) : Desc := let s := system 3 l; descriptorAt s.mem (s.sys.idtr.base + BitVec.ofNat 32 (8 * v.toNat))
     (g 13 [(0x306D, 0x8C)]).attr.typ.toNat ∉ [5, 6, 7, 14, 15] ∧ (g 13 []).attr.dpl = 0 ∧ (g 13 [(0x306D, 0x0E)]).attr.p = false ∧
     ((g 14 [(0x3072, 0x1C)]).lo.extractLsb' 16 16 : Word).getLsbD 2 = true ∧
     ((g 14 [(0x3072, 3)]).lo.extractLsb' 16 16 : Word) &&& 0xFFFC = 0 ∧ descAddr (system 3 []) 0x48 = none ∧
     ((g 13 [(0x306A, 3)]).lo.extractLsb' 16 16 : Word) &&& 0xFFFC = 0) ∧
    (let d (a : Dword) (l : List Host.Cell) : Attr := (descriptorAt (system 0 l).mem a).attr
     (d 0x2008 []).s = true ∧ (d 0x2018 [(0x201D, 0x09)]).typ = 9 ∧ (d 0x2018 [(0x201D, 0x09)]).p = false ∧
     (d 0x2010 []).typ.getLsbD 3 = false ∧ (d 0x2008 [(0x200D, 0x1A)]).p = false ∧ ¬(d 0x2028 []).dpl.toNat ≤ (system 0 []).sys.cpl.toNat) ∧
    isOk (checkPushes 4 4 (stackPtr (shortStack prot)) (shortStack prot)) = false ∧
    (descriptorAt (gateTo 0 0x9A 0xFF).mem 0x2008).limit.toNat < 0x5000 ∧
    (prot.interrupts (.int 13) (software prot 13) ∧ v86.interrupts (.int 13) (software v86 13) ∧
      prot.interrupts .int3 (software prot 3) ∧
      (let s := { prot with flags := { prot.flags with ov := true } }; s.interrupts .into (software s 4))) :=
  ⟨by decide +kernel, by decide +kernel, by decide +kernel, by decide +kernel, by decide +kernel,
   ⟨⟨rfl, .inl ⟨rfl, by decide +kernel⟩⟩, ⟨rfl, .inl ⟨rfl, fun _ => rfl⟩⟩, ⟨rfl, .inr (.inl ⟨rfl, rfl⟩)⟩, ⟨rfl, .inr (.inr ⟨rfl, rfl, rfl⟩)⟩⟩⟩

/-- R641, R751: INT 3 at level 3 through a gate of DPL 3 to level 0; an INT n whose gate has DPL 0 raises #13 with the code of
its entry. -/
theorem test_software_interrupts_at_level_3 :
    sees (system 3 [(0x3019, 0x50), (0x301A, 8), (0x301D, 0xEE)]) [0xCC] (fun t => (t.eip, t.sys.cpl)) = some (0x5000, 0) ∧
    (match deliver false (software (system 3 []) 13) (system 3 []) with
     | .ok _ _ => none
     | .error x _ => some x) = some (.exc (.protection 0x6A)) := by decide +kernel

/-- The stack of level 0 ends below its pointer in the TSS. -/
theorem witness_InnerGatesAndGatesFromVirtualMode_room :
    isOk (let s := system 3 [(0x2010, 0xEF), (0x2011, 0x2F), (0x2016, 0x40)]
          let u := ({ s with draws := 3 } : State).onInnerStack 0 0x10 (descriptorAt s.mem 0x2010) 0x3000
          checkPushes 6 4 (stackPtr u) u) = false := by decide +kernel

/-- Vector 13 of level 3 and of V86 mode, whose gate leads to level 0: the stack in the TSS that is there and that is not, null,
absent, unfit and not present; a conforming target from V86 mode; an INT by a gate that level 3 may use. -/
theorem witness_InnerGatesAndGatesFromVirtualMode :
    ((system 3 []).pe = true ∧ (system 3 []).unpaged ∧ 8 * 13 + 7 ≤ (system 3 []).sys.idtr.limit.toNat) ∧
    (let s := system 3 [(0x306D, 0xEE)]
     let g := descriptorAt s.mem (s.sys.idtr.base + BitVec.ofNat 32 (8 * 13))
     let d := descriptorAt s.mem 0x2008
     let sd := descriptorAt s.mem 0x2010
     g.attr.s = false ∧ g.attr.typ = 0xE ∧ g.attr.p = true ∧ s.sys.cpl.toNat ≤ g.attr.dpl.toNat ∧
     (let s := system 3 [(0x306D, 0xE6)]
      (descriptorAt s.mem (s.sys.idtr.base + BitVec.ofNat 32 (8 * 13))).attr.typ = 6) ∧
     (g.lo.extractLsb' 16 16 : Word) = 8 ∧ descAddr s 8 = some 0x2008 ∧ d.attr.s = true ∧ d.attr.typ.getLsbD 3 = true ∧
     d.attr.typ.getLsbD 2 = false ∧ d.attr.p = true ∧ d.attr.dpl.toNat < s.sys.cpl.toNat ∧ 0x5000 ≤ d.limit.toNat ∧
     s.tssEntry 0 = some (0x10, 0x3000) ∧ descAddr s 0x10 = some 0x2010 ∧ sd.attr.writable = true ∧ sd.attr.dpl = 0 ∧ sd.attr.p = true) ∧
    (let b : State := { system 3 [] with draws := 3 }
     let u := b.onInnerStack 0 0x10 (descriptorAt (system 3 []).mem 0x2010) 0x3000
     checkPushes 6 4 (stackPtr u) u = .ok () u) ∧
    (let b : State := { system 3 [] with flags := { v86.flags with vm := false }, draws := 6 }
     let u := b.onInnerStack 0 0x10 (descriptorAt (system 3 []).mem 0x2010) 0x3000
     checkPushes 9 4 (stackPtr u) u = .ok () u) ∧
    ({ system 3 [] with sys := { (system 3 []).sys with tr := { (system 3 []).sys.tr with limit := 10 } } }.tssEntry 0 = none ∧
     (stackOf 3 0x92).tssEntry 0 = some (3, 0x3000) ∧ descAddr (stackOf 0x48 0x92) 0x48 = none ∧
     (descriptorAt (stackOf 0x10 0xF2).mem 0x2010).attr.dpl ≠ 0 ∧ (descriptorAt (stackOf 0x10 0x12).mem 0x2010).attr.p = false) ∧
    (descriptorAt (gateTo 3 0x9E 0xFF).mem 0x2008).attr.typ.getLsbD 2 = true ∧ v86.flags.vm = true ∧ v86.flags.iopl = 3 :=
  ⟨by unfold State.unpaged; decide +kernel, by decide +kernel, keeps_of (by decide +kernel), keeps_of (by decide +kernel), by decide +kernel⟩

/-- A delivery of an exception. -/
def faulting (v : Byte) (source : Source) : Event :=
  { vector := v, code := none, source := source, retEip := 0, rf := false, nmi := false }

/-- From V86 mode a 386 gate to level 0 is entered; a 286 gate raises #13 with the selector of its target (U47). -/
theorem test_286_gate_from_v86 :
    let from86 (rights : Byte) : State := let s := system 3 [(0x306D, rights)]; { s with flags := { v86.flags with vm := true } }
    let code (rights : Byte) : Option Stop :=
      match deliver false (faulting 13 .software) (from86 rights) with
      | .ok _ _ => none
      | .error x _ => some x
    code 0xEE = none ∧ code 0xE6 = some (.exc (.protection 8)) := by decide +kernel

/-- Deliveries that fail: of a contributory exception, of a page fault, of a double fault, of an interrupt; with a page fault where
the table is not present; in real mode without room on the stack; and the double fault after them, which succeeds or fails. -/
theorem witness_DoubleFaultsAndShutdown :
    (let s := system 0 [(0x306D, 0x0E), (0x3045, 0x8E), (0x3041, 0x50), (0x3042, 8)]
     raisesVector (deliver false (faulting 13 .exception) s) 11 = true ∧ isOk (deliver true (faulting 8 .exception) s) = true) ∧
    (let s := system 0 []
     raisesVector (deliver false (faulting 8 .exception) s) 13 = true ∧ raisesVector (deliver false (faulting 10 .exception) s) 13 = true ∧
     raisesVector (deliver true (faulting 8 .exception) s) 13 = true ∧ raisesVector (deliver false (faulting 0x20 .ext) s) 13 = true ∧
     isOk (deliver true (faulting 13 .exception) s) = true ∧ raisesVector (deliver false (faulting 6 .exception) s) 13 = true) ∧
    raisesVector (deliver false (faulting 14 .exception) (paged 6 7)) 14 = true ∧
    raisesVector (deliver false (faulting 11 .exception) (paged 6 7)) 14 = true ∧
    (match deliver false (faulting 13 .exception) (withSp real 1) with
     | .error .shutdown _ => true
     | _ => false) = true := by decide +kernel

/-- A processor with an NMI, an INTR, or neither, halted or shut down. -/
def external (nmi intr : Bool) (a : Activity) : State :=
  { real with
    flags := { real.flags with ie := true }, ext := { real.ext with intr := intr, intVector := 0x20 }
    events := { real.events with nmiPending := nmi, activity := a } }

theorem witness_ExternalInterruptsAreTaken :
    (external true true .halted).ext.reset = false ∧ debugDue (external true true .halted) = false ∧
    (external true true .halted).realReady 2 ∧ (external false true .halted).realReady 0x20 ∧
    (external false true .halted).ext.intr = true ∧ (external false true .halted).flags.ie = true ∧
    (external false true .halted).events.inhibit = .off ∧ (external false false .halted).events.activity = .halted ∧
    (external false true .shutdown).events.nmiPending = false ∧ real.pe = false ∧ (prot.flags.vm = false ∧ prot.sys.cpl = 0) ∧
    ((external true false .shutdown).realReady 2 ∧ (external true false .shutdown).sys.idtr.limit.toNat ≥ 0x17 ∧
      (idtLimit 0x16).sys.idtr.limit.toNat < 0x17 ∧ (withSp real 5).regs.esp.toNat % 2 ^ 16 ≤ 5) ∧
    (isOk (deliver false { faulting 2 .ext with nmi := true } (nmiTaken (system 0 [(0x3011, 0x50), (0x3012, 8), (0x3015, 0x8E)]))) = true ∧
      isOk (deliver false { faulting 2 .ext with nmi := true } (nmiTaken prot)) = false) ∧
    (let s := shortStack (external true false .shutdown)
     s.pe = false ∧ 0x17 ≤ s.sys.idtr.limit.toNat ∧ 5 < s.regs.esp.toNat % 2 ^ 16 ∧
     raisesVector (deliver false (externalEvent s 2 true) (nmiTaken s)) 12 = true) := by unfold State.realReady; decide +kernel

theorem witness_InstructionsEndAndTrap :
    let t := retire true real
    real.ctx.ending = .completed ∧ { real.ctx with ending := Ending.vectored }.ending ≠ .completed ∧ real.pe = false ∧
    t.ext.reset = false ∧ t.events.activity = .running ∧ t.events.traps.bs = true ∧ t.events.inhibit ≠ .all ∧
    (∃ a u, deliver false (exceptionEvent real .invalidOpcode) real = .ok a u) :=
  ⟨by decide +kernel, by decide +kernel, by decide +kernel, by decide +kernel, by decide +kernel, by decide +kernel,
   by decide +kernel, ok_of (by decide +kernel)⟩

/-- Breakpoint 0 at an address, of the given R/W and LEN fields and enables. -/
def watched (a : Dword) (fields : Dword) : State := { prot with dregs := { prot.dregs with dr0 := a, dr7 := (fields <<< 16) ||| 1 } }

/-- Accesses that meet the last byte of a field and that do not, a write where only writes match and a read; an instruction
breakpoint with and without RF; a pending trap with and without the inhibit. -/
theorem witness_BreakpointsMatchAndTrap :
    (∃ sp t, segSpan .ds 0x503 1 true (watched 0x502 0xD) = .ok sp t) ∧ (∃ sp t, segSpan .ds 0x504 1 true (watched 0x502 0xD) = .ok sp t) ∧
    (∃ sp t, segSpan .ds 0x4FF 2 false (watched 0x500 3) = .ok sp t) ∧ (∃ sp t, segSpan .ds 0x500 4 false (watched 0x500 1) = .ok sp t) ∧
    (let s := watched 0x10000 0
     s.ext.reset = false ∧ s.events.activity = .running ∧ s.dregs.dr7 = 1 ∧ s.dregs.dr0 = s.segs.cs.base + s.eip ∧ s.flags.rf = false ∧
     s.events.begun = .no ∧ { s.flags with rf := true }.rf = true) ∧
    (let e : Events := { prot.events with traps := { b := 8, bs := true, bt := false } }
     e.inhibit ≠ .all ∧ e.traps.b ≠ 0 ∧ { e with inhibit := .all }.inhibit = .all) :=
  ⟨ok_of (by decide +kernel), ok_of (by decide +kernel), ok_of (by decide +kernel), ok_of (by decide +kernel), by decide +kernel, by decide +kernel⟩

theorem witness_SpecialRegisterMoves :
    real.pe = false ∧ (prot.flags.vm = false ∧ prot.sys.cpl = 0) ∧ real.dregs.dr7.getLsbD 13 = false ∧
    ((0x80000000 : Dword).getLsbD 31 = true ∧ (0x80000000 : Dword).getLsbD 0 = false) ∧ (0x2000 : Dword).getLsbD 13 = true ∧
    { real.flags with rf := true }.rf = true ∧ real.flags.rf = false := by
  decide +kernel

/-- A TLB test command and the entry that it finds in way 3 of set 7. -/
def tlbTest (c : Dword) : State :=
  { real with
    regs := { real.regs with eax := 0x00007D40 + c }
    paging := { real.paging with
      tlb := real.paging.tlb.set 31 { valid := true, tag := 7, phys := 0x12345, dirty := true, user := false, writable := true }
      tr7 := 0x1234501C } }

theorem witness_TestRegisterWritesReachTheTlb :
    (let v := (tlbTest 0).regs.eax
     v.getLsbD 0 = false ∧ (tlbTest 0).paging.tr7.getLsbD 4 = true ∧ (v.getLsbD 10 != v.getLsbD 9) = true ∧
     (v.getLsbD 8 != v.getLsbD 7) = true ∧ (v.getLsbD 6 != v.getLsbD 5) = true) ∧
    (let s := { tlbTest 1 with regs := { real.regs with eax := 0x00007CC1 } }
     s.regs.eax.getLsbD 0 = true ∧ tr6Matches s.regs.eax (s.paging.tlb.getD 31 TlbEntry.empty) = true ∧
     ∀ k, k < 3 → tr6Matches s.regs.eax (s.paging.tlb.getD (28 + k) TlbEntry.empty) = false) ∧
    ∀ k, k < 4 → tr6Matches 0x00006CC1 ((tlbTest 1).paging.tlb.getD (24 + k) TlbEntry.empty) = false := by decide +kernel

/-- A platform without a coprocessor, and inputs. -/
def coprocessor (c : Config.Coprocessor) (busy error : Bool) (requests : List OperandRequest) : State :=
  { real with ext := { real.ext with busy := busy, error := error, requests := requests
                                     platform := { real.ext.platform with coprocessor := c } } }

theorem witness_CoprocessorInstructionsAskTheCoprocessor :
    real.ext.platform.coprocessor ≠ .none ∧ (coprocessor .none false false []).ext.platform.coprocessor = .none ∧
    ((0x1A : Dword).getLsbD 3 = true ∧ (0x1A : Dword).getLsbD 1 = true) ∧ real.sys.cr0.getLsbD 3 = false ∧
    real.sys.cr0.getLsbD 2 = false ∧ (coprocessor .m387 true false []).ext.busy = true ∧
    (coprocessor .m80287 false true []).ext.error = true ∧
    (coprocessor .m387 false false [.toMemory false 5]).ext.requests = [.toMemory false 5] ∧
    (coprocessor .m387 false false [.fromMemory true]).ext.requests = [.fromMemory true] ∧
    (∃ a t sp u, effAddr (.direct16 0xFFFC) real = .ok a t ∧ (fun a => segSpan a.1 a.2 4 false) a t = .ok sp u) ∧
    (∃ a t sp u sp' w, effAddr (.direct16 0xFFFA) (coprocessor .m387 false false [.toMemory true 5, .fromMemory false]) = .ok a t ∧
      (fun a => segSpan a.1 a.2 4 true) a t = .ok sp u ∧ (fun a _ => segSpan a.1 (a.2 + 4) 2 false) a sp u = .ok sp' w) ∧
    (∃ a t sp u, effAddr (.direct16 0xFFFE) real = .ok a t ∧ (fun a => segSpan a.1 a.2 2 true) a t = .ok sp u) ∧
    ∃ lin t, segLinear .ds 0xFFFE 1 false real = .ok lin t :=
  ⟨by decide +kernel, by decide +kernel, by decide +kernel, by decide +kernel, by decide +kernel, by decide +kernel,
   by decide +kernel, by decide +kernel, by decide +kernel, ok_then (by decide +kernel),
   ok_then_then (x := effAddr (.direct16 0xFFFA)) (s := coprocessor .m387 false false [.toMemory true 5, .fromMemory false])
     (f := fun a => segSpan a.1 a.2 4 true) (g := fun a _ => segSpan a.1 (a.2 + 4) 2 false) (by decide +kernel),
   ok_then (by decide +kernel), ok_of (by decide +kernel)⟩

/-- A state-storing form with ERROR# asserted, requests that FNSTSW AX finds none in, and an operand whose first byte is beyond
the limit. -/
theorem witness_CoprocessorInstructionsAskTheCoprocessor_status :
    ((coprocessor .m387 false true []).ext.busy = false ∧ (coprocessor .m387 false true []).ext.error = true) ∧
    (∀ wide x rest, (coprocessor .m387 false false [.fromMemory true]).ext.requests ≠ .toMemory wide x :: rest) ∧
    (∀ wide x rest, (coprocessor .m387 false false []).ext.requests ≠ .toMemory wide x :: rest) ∧
    (∃ a t, effAddr (.direct32 0x10000) real = .ok a t) ∧ raisesVector (segLinear .ds 0x10000 1 false real) 13 = true :=
  ⟨by decide +kernel, nofun, nofun, ok_of (by decide +kernel), by decide +kernel⟩

theorem witness_SelectorTestsAnswerInZf :
    prot.prot = true ∧ prot.unpaged ∧
    (∃ a t v u, effAddr (.direct32 0xFFFFFFFE) { prot with ctx := wideCtx } = .ok a t ∧ (fun a => memRead a.1 a.2 2) a t = .ok v u) ∧
    place .w (.reg .eax) false prot = .ok (.reg .eax) prot ∧ (prot.valueAt .w (.reg .eax) &&& 0xFFFC : Word) = 0 ∧
    descAddr prot 0x20 = none ∧ descAddr prot 0x1B = some 0x2018 ∧
    (descriptorAt prot.mem 0x2018).attr.dpl.toNat < (0x1B : Word).toNat % 4 ∧ prot.sys.cpl.toNat ≤ (descriptorAt prot.mem 0x2008).attr.dpl.toNat :=
  ⟨by decide +kernel, by unfold State.unpaged; decide +kernel, ok_then (by decide +kernel), rfl, by decide +kernel⟩

theorem witness_SystemSegmentsAndRegisters :
    (prot.prot = true ∧ prot.unpaged ∧ prot.sys.cpl = 0 ∧ (0x1C : Word).getLsbD 2 = true) ∧ descAddr prot 0x20 = none ∧
    descAddr prot 0x18 = some 0x2018 ∧ (descriptorAt prot.mem 0x2018).attr.typ = 9 ∧ (descriptorAt prot.mem 0x2018).attr.s = false ∧
    (descriptorAt prot.mem 0x2018).attr.p = true ∧ (descriptorAt (oneDescriptor 0x82 0).mem 0x2008).attr.typ = 2 ∧
    (descriptorAt (oneDescriptor 0x02 0).mem 0x2008).attr.p = false ∧ (descriptorAt (oneDescriptor 0x8B 0).mem 0x2008).attr.typ = 0xB := by
  unfold State.unpaged; decide +kernel

theorem witness_SystemSegmentsAndRegisters_tables :
    (∃ p t, place .w (.mem (.direct32 0xFFFFFFFE)) true prot = .ok p t) ∧ place .w (.reg .eax) false real = .ok (.reg .eax) real ∧
    (∃ a t x b y c, effAddr (.direct16 0xFFFA) real = .ok a t ∧ (fun a => memRead a.1 a.2 2) a t = .ok x b ∧
      (fun a _ => memRead a.1 (a.2 + 2) 4) a x b = .ok y c) ∧
    ∃ a t sp b sp' c, effAddr (.direct16 0xFFFA) real = .ok a t ∧ (fun a => segSpan a.1 a.2 2 true) a t = .ok sp b ∧
      (fun a _ => segSpan a.1 (a.2 + 2) 4 true) a sp b = .ok sp' c :=
  ⟨ok_of (by decide +kernel), rfl,
   ok_then_then (x := effAddr (.direct16 0xFFFA)) (s := real) (f := fun a => memRead a.1 a.2 2)
     (g := fun a _ => memRead a.1 (a.2 + 2) 4) (by decide +kernel),
   ok_then_then (x := effAddr (.direct16 0xFFFA)) (s := real) (f := fun a => segSpan a.1 a.2 2 true) (g := fun a _ => segSpan a.1 (a.2 + 2) 4 true) (by decide +kernel)⟩

/-- A listed form behind a prefix, and one that is not listed. -/
theorem witness_PrefixesChangeTheContext :
    (∃ p t, place .w (.mem (.direct16 0xFFFE)) false { real with ctx := { real.ctx with seg := some .es } } = .ok p t) ∧
    (∃ p t, place .w (.mem (.direct16 0xFFFE)) true real = .ok p t) ∧
    (Instr.btcReg (.mem (.direct16 0)) .edi ∈ [Instr.btcImm (.mem (.direct16 0)) 0, .btcReg (.mem (.direct16 0)) .edi]) ∧
    [Instr.esPrefix, .opSizePrefix].foldr (fun f x => f x) .nop = .esPrefix (.opSizePrefix .nop) :=
  ⟨ok_of (by decide +kernel), ok_of (by decide +kernel), by decide +kernel, rfl⟩

theorem witness_RepeatPrefixesAreIgnoredElsewhere :
    (∀ w, Instr.nop ∉ [Instr.cmps w, .ins w, .lods w, .movs w, .outs w, .scas w, .stos w]) ∧
    ∀ f j, f ∈ [Instr.csPrefix, .dsPrefix, .esPrefix, .fsPrefix, .gsPrefix, .ssPrefix, .opSizePrefix, .addrSizePrefix, .lockPrefix,
      .repPrefix, .repnePrefix] → Instr.nop ≠ f j := by
  refine ⟨by decide, fun f j h => ?_⟩
  simp only [List.mem_cons, List.not_mem_nil, or_false] at h
  rcases h with h | h | h | h | h | h | h | h | h | h | h <;> subst h <;> exact nofun

/-- A cached translation of linear page 0 to the page of `paged`. -/
def cached (pde pte : Byte) (dirty : Bool) : State :=
  { paged pde pte with
    paging := { prot.paging with
      tlb := tlbEmpty.set 3 { valid := true, tag := 0, phys := 7, dirty := dirty, user := true, writable := true } } }

/-- R581, R350: with SP = 3 in V86 mode the first push of a far CALL meets its page fault before the second one meets #12(0). -/
theorem test_far_call_pushes_in_turn :
    let s (pte : Byte) : State :=
      let c := cached 0x27 pte (pte == 0x67)
      { withSp v86 3 with mem := c.mem, paging := c.paging, sys := { c.sys with cpl := 3 } }
    raisesVector (farCallReal 0 0 (s 0x26)) 14 = true ∧ raisesVector (farCallReal 0 0 (s 0x67)) 12 = true := by decide +kernel

/-- Not present in the directory and in the table, denied, allowed for reading alone, allowed; a cached translation, as the
tables say and otherwise, and one that does not permit a write; an access over two pages without paging, and one whose second
page is not present. -/
theorem witness_PageWalksTranslateOrFault :
    prot.unpaged ∧ ¬(paged 7 7).unpaged ∧ (∀ e, e ∈ (paged 7 7).paging.tlb → e.valid = false) ∧
    (paged 7 7).paging.tlb.length = 32 ∧ Memory.load (paged 6 7).mem (linearBytes 0x8000 4) = 0x9006 ∧
    Memory.load (paged 7 6).mem (linearBytes 0x9000 4) = 0x7006 ∧ isOk (translate 0 true true (paged 7 5)) = false ∧
    Memory.load (paged 7 7).mem (linearBytes 0x9000 4) = 0x7007 ∧
    (tlbPermits (tlbEntry (cached 0x27 0x27 false).paging.tlb 3) false true = true ∧
      tlbPermits (tlbEntry (cached 0x27 0x27 false).paging.tlb 3) true true = false ∧
      tlbFresh (cached 0x27 0x27 false) (tlbEntry (cached 0x27 0x27 false).paging.tlb 3) 0 = true ∧
      tlbFresh (cached 0x27 0x25 false) (tlbEntry (cached 0x27 0x25 false).paging.tlb 3) 0 = false) ∧
    (∃ p t, translate 0xFFF true false prot = .ok p t) ∧
    (isOk (translate 0xFFF false true (cached 0x27 0x27 false)) = true ∧
      isOk (translate 0x1000 false true (cached 0x27 0x27 false)) = false) :=
  ⟨by unfold State.unpaged; decide +kernel, by unfold State.unpaged; decide +kernel, by decide +kernel, by decide +kernel,
   by decide +kernel, by decide +kernel, by decide +kernel, by decide +kernel, by decide +kernel, ok_of (by decide +kernel),
   by decide +kernel⟩

theorem witness_ResetSetsTheRegistersOfTheSpec : { user with ext := { user.ext with reset := true } }.ext.reset = true := rfl

/-- A step of a state that has the invariants, in real mode, in protected mode and in virtual M8086 mode. -/
theorem witness_StepsKeepMemoryCanonical :
    Memory.wf (placeInstruction prot [0x50]).mem = true ∧ (∃ t, step (placeInstruction prot [0x50]) = .next t) :=
  ⟨by decide +kernel, (by decide +kernel : runs (placeInstruction prot [0x50]) = true) |> next_of⟩

theorem witness_StepsKeepTheMachineInvariants :
    (let s := placeInstruction v86 [0xCD, 13]
     (s.legalMode ∧ s.pageBase ∧ s.tlbSize ∧ s.between) ∧ ∃ t, step s = .next t) ∧
    (let s := placeInstruction real [0x0F, 0x22, 0xC0]
     (s.legalMode ∧ s.pageBase ∧ s.tlbSize ∧ s.between) ∧ ∃ t, step s = .next t) :=
  ⟨⟨by unfold State.legalMode State.pageBase State.tlbSize State.between; decide +kernel,
    next_of (by decide +kernel : runs (placeInstruction v86 [0xCD, 13]) = true)⟩,
   by unfold State.legalMode State.pageBase State.tlbSize State.between; decide +kernel,
   next_of (by decide +kernel : runs (placeInstruction real [0x0F, 0x22, 0xC0]) = true)⟩

theorem witness_DecodingAndEncodingAgree :
    Instr.wellFormed false (.lockPrefix (.addRmImm true true (.mem (.based16 .bp (.d8 0xFF))) (.i8 0x80))) = true ∧
    Instr.wellFormed true (.opSizePrefix (.movRegImm true .edi (.i16 0xFFFF))) = true ∧
    decodes true [([0x66, 0xBF, 0xFF, 0xFF], .opSizePrefix (.movRegImm true .edi (.i16 0xFFFF)))] = true := by decide +kernel

/-- The opcode bytes at the ends of the listed ranges, unlisted fields with every mod, and 80h and 82h. -/
theorem witness_UnlistedEncodingsAreRejected :
    (0xFF : Byte).toNat ∉ [0x00, 0x01] ∧ ¬(0x80 ≤ (0x7F : Byte).toNat ∧ (0x7F : Byte).toNat ≤ 0x9F) ∧ (0x09 : Byte) ≠ 0x0A ∧
    ((0x3F : Byte).extractLsb' 3 3).toNat = 7 ∧ ((0xFF : Byte).extractLsb' 3 3).toNat = 7 ∧ ((0x08 : Byte).extractLsb' 3 3).toNat ≠ 0 ∧
    ((0xC8 : Byte).extractLsb' 3 3).toNat ∉ [0, 2, 3] ∧ (0x00 : Byte).extractLsb' 6 2 ≠ 3 ∧ [(0 : Byte), 0, 0, 0, 0].length = 5 := by
  decide

theorem witness_StepRunsTheDecodedInstruction :
    let s := placeInstruction real [0xCD, 0x21]
    (s.quiet ∧ ∃ p t, fetch s = .ok p t) ∧
    (let h : State := { real with events := { real.events with begun := .rep, held := some (.repMovsF3 false, 2) } }
     h.ext.reset = false ∧ h.events.activity = .running ∧ debugDue h = false ∧ nmiDue h = false ∧ intrDue h = false) :=
  ⟨⟨by unfold State.quiet; decide +kernel, ok_of (by decide +kernel)⟩, by decide +kernel⟩

/-- The last byte of a code segment: an instruction that ends there, an unlisted opcode, and one that does not end. -/
def lastByte (b : Byte) : State := { real with eip := 0xFFFF, mem := .ram [(0x1FFFF, b)] }

theorem witness_FetchDecodesTheCodeBytes :
    (lastByte 0x90).unpaged ∧ (∀ k, k < 1 → ((lastByte 0x90).eip + BitVec.ofNat 32 k).toNat ≤ (lastByte 0x90).segs.cs.limit.toNat) ∧
    (lastByte 0x90).segs.cs.limit.toNat < ((lastByte 0x90).eip + BitVec.ofNat 32 1).toNat ∧ (lastByte 0xD6).quiet ∧
    decodes false [([0x90], .nop)] = true ∧ decode false [0xD6] = .error .invalidOpcode ∧ decode false [0xE9] = .error .truncated ∧
    (∀ k, k < 15 → (real.eip + BitVec.ofNat 32 k).toNat ≤ real.segs.cs.limit.toNat) ∧
    (let s (eip : Dword) : State := { cached 0x27 0x27 false with eip := eip }
     isOk (translate 0xFFE false false (s 0xFFE)) = true ∧ isOk (translate 0x1000 false false (s 0xFFE)) = false ∧
     isOk (translate 0x1000 false false (s 0x1000)) = false ∧ ¬(s 0xFFE).unpaged ∧ decode true [0x90, 0] = .ok (.nop, 1) ∧
     decode true [0, 0] = .ok (.addRmReg false false (.mem (.based32 .eax .none)) .eax, 2) ∧ decode true [0xE9, 0] = .error .truncated) ∧
    (∀ c : Byte, decode true ([0xE9, 0] ++ c :: List.replicate 0 0) = .error .truncated) ∧
    ∃ i, decode true ([0xE9, 0] ++ (0 : Byte) :: List.replicate 2 0) = .ok (i, 5) :=
  ⟨by unfold State.unpaged; decide +kernel, by decide +kernel, by decide +kernel, by unfold State.quiet; decide +kernel,
   by decide +kernel, rfl, rfl, by decide +kernel,
   ⟨by decide +kernel, by decide +kernel, by decide +kernel, by unfold State.unpaged; decide +kernel, rfl, rfl, rfl⟩, fun _ => rfl, _, rfl⟩

end Sys2Proof.Tests
end

/-! Partial writes of the general registers (spec/30_encoding.md R266, R270): first the three ways to put a part into a
doubleword, bit by bit, then the byte and word registers over `Regs.get`. -/

namespace Sys2Proof.Machine

/-! ## A part put into a doubleword -/

/-- The upper `n` bits of a value before a new lower part of `k` bits: each bit comes from the part or from the value. -/
theorem getLsbD_extractLsb'_append {n k : Nat} (old : BitVec (n + k)) (v : BitVec k) (i : Nat) :
    (old.extractLsb' k n ++ v).getLsbD i = if i < k then v.getLsbD i else old.getLsbD i := by
  rw [BitVec.getLsbD_append]
  split
  · rfl
  · next notLower =>
    have index : k + (i - k) = i := by omega
    rw [BitVec.getLsbD_extractLsb', index]
    have inside (bit : old.getLsbD i = true) : i < n + k := BitVec.lt_of_getLsbD bit
    grind

theorem getLsbD_putLow16 (old : Dword) (v : Word) (i : Nat) :
    (putLow16 old v).getLsbD i = if i < 16 then v.getLsbD i else old.getLsbD i :=
  getLsbD_extractLsb'_append (n := 16) (k := 16) old v i

theorem getLsbD_putLow8 (old : Dword) (b : Byte) (i : Nat) :
    (putLow8 old b).getLsbD i = if i < 8 then b.getLsbD i else old.getLsbD i :=
  getLsbD_extractLsb'_append (n := 24) (k := 8) old b i

theorem getLsbD_putHigh8 (old : Dword) (b : Byte) (i : Nat) :
    (putHigh8 old b).getLsbD i = if 8 ≤ i ∧ i < 16 then b.getLsbD (i - 8) else old.getLsbD i := by
  refine BitVec.getLsbD_append.trans ?_
  rcases Nat.lt_or_ge i 8 with low | high
  · simp [low, Nat.not_le.mpr low]
  · rw [if_neg (Nat.not_lt.mpr high), BitVec.getLsbD_append]
    grind

@[simp] theorem setWidth_putLow16 (old : Dword) (v : Word) : (putLow16 old v).setWidth 16 = v :=
  BitVec.setWidth_append_eq_right

@[simp] theorem extractLsb'_putLow8 (old : Dword) (b : Byte) : (putLow8 old b).extractLsb' 0 8 = b :=
  BitVec.extractLsb'_append_eq_right

@[simp] theorem extractLsb'_putHigh8 (old : Dword) (b : Byte) : (putHigh8 old b).extractLsb' 8 8 = b := by
  refine BitVec.eq_of_getLsbD_eq fun i hi => ?_
  have inByte : 8 + i < 16 := by omega
  simp [getLsbD_putHigh8, hi, inByte]

/-! ## Byte registers -/

/-- What a write to a byte register leaves in its home: the byte put into the half that its number names (R270). -/
theorem Regs.get_set8_home (g : Regs) (r : Reg) (b : Byte) :
    (g.set8 r b).get (byteHome r) =
      if byteIsHigh r then putHigh8 (g.get (byteHome r)) b else putLow8 (g.get (byteHome r)) b :=
  g.get_set_same _ _

@[simp] theorem Regs.get8_set8 (g : Regs) (r : Reg) (b : Byte) : (g.set8 r b).get8 r = b := by
  rw [Regs.get8, Regs.get_set8_home]
  cases byteIsHigh r with
  | false => exact extractLsb'_putLow8 _ b
  | true => exact extractLsb'_putHigh8 _ b

theorem Regs.get_set8_of_ne (g : Regs) {r q : Reg} (b : Byte) (ne : q ≠ byteHome r) :
    (g.set8 r b).get q = g.get q :=
  (g.get_set _ q _).trans (if_neg ne)

/-- The bits of the home outside the byte written keep their value (R266). -/
theorem Regs.getLsbD_set8_home (g : Regs) (r : Reg) (b : Byte) {i : Nat}
    (outside : ¬(if byteIsHigh r then 8 ≤ i ∧ i < 16 else i < 8)) :
    ((g.set8 r b).get (byteHome r)).getLsbD i = (g.get (byteHome r)).getLsbD i := by
  rw [Regs.get_set8_home]
  cases high : byteIsHigh r <;> rw [high] at outside
  case false => exact (getLsbD_putLow8 _ b i).trans (if_neg outside)
  case true => exact (getLsbD_putHigh8 _ b i).trans (if_neg outside)

/-! ## General registers written as operands of a size -/

/-- A general register written as an operand of any size reads back at that size (R32, R270). -/
@[simp] theorem Regs.read_write (g : Regs) (sz : Size) (r : Reg) (v : BitVec sz.bits) :
    (g.write sz r v).read sz r = v := by
  cases sz with
  | b => exact g.get8_set8 r v
  | w => exact (congrArg (BitVec.setWidth 16) (g.get_set_same r _)).trans (setWidth_putLow16 _ v)
  | d => exact g.get_set_same r v

/-- A word or doubleword written to a general register leaves the other registers unchanged (R266). -/
theorem Regs.get_write_of_ne (g : Regs) {sz : Size} {r q : Reg} (v : BitVec sz.bits) (notByte : sz ≠ .b) (ne : q ≠ r) :
    (g.write sz r v).get q = g.get q := by
  cases sz with
  | b => exact absurd rfl notByte
  | w | d => exact (g.get_set r q _).trans (if_neg ne)

/-- The upper half of a register keeps its value when its word is written (R266). -/
theorem Regs.getLsbD_write_word (g : Regs) (r : Reg) (v : Word) {i : Nat} (above : 16 ≤ i) :
    ((g.write .w r v).get r).getLsbD i = (g.get r).getLsbD i := by
  have written : (g.write .w r v).get r = putLow16 (g.get r) v := g.get_set_same r _
  rw [written, getLsbD_putLow16, if_neg (Nat.not_lt.mpr above)]

/-- Settles O11: the register and the half that the statement finds from the number are `byteHome` and `byteIsHigh`;
its parts are then the read-back, frame and bit lemmas above. -/
theorem partialRegisterWritesKeepTheOtherBits : Obligations.PartialRegisterWritesKeepTheOtherBits := by
  intro g r other b v d i _ home high
  have home_eq : home = byteHome r := by cases r <;> rfl
  have high_eq : high = byteIsHigh r := by cases r <;> rfl
  rw [home_eq, high_eq]
  exact ⟨g.read_write .b r b, g.read_write .w r v, g.read_write .d r d,
    fun ne => g.get_set8_of_ne b ne,
    fun outside => g.getLsbD_set8_home r b outside,
    fun ne => ⟨g.get_write_of_ne (sz := .w) v (by decide) ne, g.get_write_of_ne (sz := .d) d (by decide) ne⟩,
    fun above => g.getLsbD_write_word r v above⟩

end Sys2Proof.Machine

/-! The instructions on single flags (spec/41_segment_flag_control.md R385 to R389, R394, R395) and NOP: first how an opcode
without operands decodes, then an instruction behind a check, then the two checks of mode and level. -/

namespace Sys2Proof

/-! ## Opcodes without operands -/

/-- Where the decoder takes some bytes off the front, they are the instruction and their number its length. -/
theorem decode_append {d32 : Bool} {bytes rest : List Byte} {i : Instr}
    (taken : decodeFrom { d32 := d32, has66 := false, has67 := false } (bytes ++ rest) = .ok (i, rest)) :
    decode d32 (bytes ++ rest) = .ok (i, bytes.length) := by
  simp [decode, taken]

/-- An opcode byte that selects a row without operands is the whole instruction (R300). -/
theorem decode_plainRow {op : Byte} {i : Instr} (d32 : Bool) (rest : List Byte) (noPrefix : prefixByte op = none)
    (oneByte : op ≠ 0x0F) (row : findRow opcodeMap op = some (plainRow op i)) :
    decode d32 (op :: rest) = .ok (i, 1) := by
  refine decode_append (bytes := [op]) ?_
  rw [List.singleton_append, decodeFrom, noPrefix]
  simp only [decodeOpcode, if_neg oneByte, row]
  rfl

/-- After 0Fh the second byte selects alike (R302). -/
theorem decode_plainRow_0F {op : Byte} {i : Instr} (d32 : Bool) (rest : List Byte)
    (row : findRow opcodeMap0F op = some (plainRow op i)) :
    decode d32 (0x0F :: op :: rest) = .ok (i, 2) := by
  refine decode_append (bytes := [0x0F, op]) ?_
  have noPrefix : prefixByte 0x0F = none := rfl
  rw [List.cons_append, decodeFrom, noPrefix]
  simp only [decodeOpcode, if_true, Parser.bind, List.singleton_append, pByte, row]
  rfl

end Sys2Proof

namespace Sys2Proof.Machine

/-! ## Instructions behind a check -/

/-- An instruction whose check passes is what stands behind the check. -/
theorem runInstr_check_passes {check body : Exec Unit} {s : State} (h : check s = .ok () s) :
    runInstr (check >>= fun _ => body) s = runInstr body s :=
  runInstr_congr (by rw [exec_bind_apply, h])

/-- An instruction whose check denies it takes the exception with nothing changed (R722). -/
theorem runInstr_check_denies {check body : Exec Unit} {s : State} {e : Exc} (h : check s = .error (.exc e) s) :
    runInstr (check >>= fun _ => body) s = s.raises s e :=
  runInstr_exc (by rw [exec_bind_apply, h])

/-! ## The checks of mode and level -/

@[simp] theorem requireIo_apply (s : State) : requireIo s = require s.ioAllowed (.protection 0) s := rfl

@[simp] theorem requirePrivilege_apply (s : State) : requirePrivilege s = require s.privileged (.protection 0) s := rfl

/-- IF may be changed in real mode, in V86 mode with IOPL 3, and elsewhere where CPL <= IOPL (R387, R842). -/
theorem State.ioAllowed_iff (s : State) :
    s.ioAllowed = true ↔
      s.pe = false ∨ (if s.flags.vm then s.flags.iopl = 3 else s.sys.cpl.toNat ≤ s.flags.iopl.toNat) := by
  unfold State.ioAllowed
  cases s.pe <;> cases s.flags.vm <;> simp

/-- Level 0 is real mode, or protected mode with CPL 0 (R840, R842). -/
theorem State.privileged_iff (s : State) : s.privileged = true ↔ s.pe = false ∨ (s.flags.vm = false ∧ s.sys.cpl = 0) := by
  simp [State.privileged]

theorem requireIo_passes {s : State} (allowed : s.ioAllowed = true) : requireIo s = .ok () s := by
  rw [requireIo_apply, allowed, require_true]

theorem requireIo_denies {s : State} (denied : ¬s.ioAllowed = true) : requireIo s = .error (.exc (.protection 0)) s := by
  rw [requireIo_apply, Bool.eq_false_of_not_eq_true denied, require_false]

theorem requirePrivilege_passes {s : State} (allowed : s.privileged = true) : requirePrivilege s = .ok () s := by
  rw [requirePrivilege_apply, allowed, require_true]

theorem requirePrivilege_denies {s : State} (denied : ¬s.privileged = true) :
    requirePrivilege s = .error (.exc (.protection 0)) s := by
  rw [requirePrivilege_apply, Bool.eq_false_of_not_eq_true denied, require_false]

/-! ## The instructions on single flags -/

/-- An instruction that only changes flags completes with them changed. -/
theorem runInstr_updateFlags (f : Flags → Flags) (s : State) :
    runInstr (updateFlags f) s = .next (retire s.flags.tf { s with flags := f s.flags }) :=
  runInstr_ok (updateFlags_apply f s)

theorem exec_clc (s : State) :
    exec .clc s = .next (retire s.flags.tf { s with flags := { s.flags with cf := false } }) :=
  runInstr_updateFlags (fun f => { f with cf := false }) s

theorem exec_stc (s : State) :
    exec .stc s = .next (retire s.flags.tf { s with flags := { s.flags with cf := true } }) :=
  runInstr_updateFlags (fun f => { f with cf := true }) s

theorem exec_cmc (s : State) :
    exec .cmc s = .next (retire s.flags.tf { s with flags := { s.flags with cf := !s.flags.cf } }) :=
  runInstr_updateFlags (fun f => { f with cf := !f.cf }) s

theorem exec_cld (s : State) :
    exec .cld s = .next (retire s.flags.tf { s with flags := { s.flags with df := false } }) :=
  runInstr_updateFlags (fun f => { f with df := false }) s

theorem exec_std (s : State) :
    exec .std s = .next (retire s.flags.tf { s with flags := { s.flags with df := true } }) :=
  runInstr_updateFlags (fun f => { f with df := true }) s

theorem exec_nop (s : State) : exec .nop s = .next (retire s.flags.tf s) :=
  runInstr_ok (exec_pure_apply () s)

theorem exec_cli_allowed {s : State} (allowed : s.ioAllowed = true) :
    exec .cli s = .next (retire s.flags.tf { s with flags := { s.flags with ie := false } }) :=
  (runInstr_check_passes (requireIo_passes allowed)).trans (runInstr_updateFlags _ s)

theorem exec_cli_denied {s : State} (denied : ¬s.ioAllowed = true) : exec .cli s = s.raises s (.protection 0) :=
  runInstr_check_denies (requireIo_denies denied)

/-- CLTS keeps every bit of CR0 but bit 3, TS (R388). -/
theorem exec_clts_allowed {s : State} (allowed : s.privileged = true) :
    exec .clts s = .next (retire s.flags.tf { s with sys := { s.sys with cr0 := s.sys.cr0 &&& ~~~8 } }) :=
  (runInstr_check_passes (requirePrivilege_passes allowed)).trans (runInstr_ok (update_apply _ s))

theorem exec_clts_denied {s : State} (denied : ¬s.privileged = true) : exec .clts s = s.raises s (.protection 0) :=
  runInstr_check_denies (requirePrivilege_denies denied)

/-- Settles O19: the opcodes select rows without operands; the unconditional instructions are one change of the flags,
and CLI and CLTS one behind a check, which passes exactly as the statement says. -/
theorem flagInstructionsChangeTheirFlag : Obligations.FlagInstructionsChangeTheirFlag := by
  refine ⟨fun d32 rest => ?decoding, fun s => ?meaning⟩
  case decoding =>
    have one {op : Byte} {i : Instr} := decode_plainRow (op := op) (i := i) d32 rest
    exact ⟨one rfl (by decide) rfl, one rfl (by decide) rfl, one rfl (by decide) rfl, one rfl (by decide) rfl,
      one rfl (by decide) rfl, one rfl (by decide) rfl, one rfl (by decide) rfl, decode_plainRow_0F d32 rest rfl⟩
  case meaning =>
    intro next f io level0
    have io_iff : s.ioAllowed = true ↔ io := s.ioAllowed_iff
    have level0_iff : s.privileged = true ↔ level0 := s.privileged_iff
    exact ⟨exec_clc s, exec_stc s, exec_cmc s, exec_cld s, exec_std s, exec_nop s,
      fun allowed => exec_cli_allowed (io_iff.mpr allowed),
      fun denied => exec_cli_denied (mt io_iff.mp denied),
      fun allowed => exec_clts_allowed (level0_iff.mpr allowed),
      fun denied => exec_clts_denied (mt level0_iff.mp denied)⟩

end Sys2Proof.Machine

/-! What every computation of the model keeps of the state (spec/20_memory.md R133, R216; spec/10_state.md R54, R57): memory in
its canonical form with the same map, the size of the TLB, the page boundary of CR3, and the mode. A computation is followed
whether it completes or stops, because an exception leaves what R723 lets stand. -/

namespace Sys2Proof.Machine

/-! ## The relation -/

/-- What no computation of the model changes or spoils. -/
structure Steady (s t : State) : Prop where
  wf : s.mem.wf = true → t.mem.wf = true
  map : t.mem.map = s.mem.map
  tlb : t.paging.tlb.length = s.paging.tlb.length
  pageBase : s.pageBase → t.pageBase

/-- What every computation keeps that does not write CR0 and does not load VM: PE, PG, and VM is not set. One that is `fixed`
keeps VM and CPL as they are. -/
structure Kept (fixed : Bool) (s t : State) : Prop extends Steady s t where
  pe : t.pe = s.pe
  pg : t.pg = s.pg
  vm : t.flags.vm = true → s.flags.vm = true
  level : fixed = true → t.flags.vm = s.flags.vm ∧ t.sys.cpl = s.sys.cpl

theorem Steady.refl (s : State) : Steady s s := ⟨id, rfl, rfl, id⟩

theorem Steady.trans {s t u : State} (h : Steady s t) (k : Steady t u) : Steady s u :=
  ⟨k.wf ∘ h.wf, k.map.trans h.map, k.tlb.trans h.tlb, k.pageBase ∘ h.pageBase⟩

theorem Kept.refl {k : Bool} (s : State) : Kept k s s := ⟨Steady.refl s, rfl, rfl, id, fun _ => ⟨rfl, rfl⟩⟩

theorem Kept.trans {k : Bool} {s t u : State} (h : Kept k s t) (g : Kept k t u) : Kept k s u :=
  ⟨h.toSteady.trans g.toSteady, g.pe.trans h.pe, g.pg.trans h.pg, h.vm ∘ g.vm,
    fun e => ⟨(g.level e).1.trans (h.level e).1, (g.level e).2.trans (h.level e).2⟩⟩

/-- A fixed change is one of any kind. -/
theorem Kept.weaken {k : Bool} {s t : State} (h : Kept true s t) : Kept k s t :=
  ⟨h.toSteady, h.pe, h.pg, h.vm, fun _ => h.level rfl⟩

/-- A change of any other part of the state. -/
theorem Kept.of_same {k : Bool} {s t : State} (mem : t.mem = s.mem) (tlb : t.paging.tlb = s.paging.tlb)
    (cr0 : t.sys.cr0 = s.sys.cr0) (cr3 : t.sys.cr3 = s.sys.cr3) (cpl : t.sys.cpl = s.sys.cpl)
    (vm : t.flags.vm = s.flags.vm) : Kept k s t where
  wf h := by rwa [mem]
  map := by rw [mem]
  tlb := by rw [tlb]
  pageBase h := by unfold State.pageBase at *; rwa [cr3]
  pe := by simp only [State.pe, cr0]
  pg := by simp only [State.pg, cr0]
  vm h := by rwa [← vm]
  level _ := ⟨vm, cpl⟩

/-- Byte addresses of the 4 Gbyte (R133). -/
def InRange (sp : List Nat) : Prop := ∀ a ∈ sp, a < 2 ^ 32

theorem InRange.take {sp : List Nat} (h : InRange sp) (n : Nat) : InRange (sp.take n) :=
  fun a m => h a (List.mem_of_mem_take m)

theorem InRange.drop {sp : List Nat} (h : InRange sp) (n : Nat) : InRange (sp.drop n) :=
  fun a m => h a (List.mem_of_mem_drop m)

theorem InRange.field {sp : List Nat} (h : InRange sp) (off n : Nat) : InRange (field sp off n) := (h.drop off).take n

theorem inRange_nil : InRange [] := fun _ m => absurd m List.not_mem_nil

theorem Kept.store {k : Bool} (s : State) {sp : List Nat} (h : InRange sp) (v : Dword) :
    Kept k s { s with mem := Memory.store s.mem sp v } :=
  ⟨⟨fun wf => Memory.store_wf sp v _ wf h, Memory.map_store sp v _, rfl, id⟩, rfl, rfl, id, fun _ => ⟨rfl, rfl⟩⟩

/-! ## Computations within the relation -/

/-- The exception is to be taken in the new task (R795). -/
def Stop.InNewTask (e : Stop) : Prop := ∃ x, e = .excInNewTask x

/-- A computation that keeps what `Kept` says, wherever it ends, and raises no exception in a new task. -/
def Within {α : Type} (k : Bool) (x : Exec α) : Prop :=
  ∀ s, (∀ a t, x s = .ok a t → Kept k s t) ∧ ∀ e t, x s = .error e t → Kept k s t ∧ ¬e.InNewTask

/-- Whatever a computation answers has a property. -/
def Gives {α : Type} (x : Exec α) (p : α → Prop) : Prop := ∀ s a t, x s = .ok a t → p a

section
variable {α β : Type} {k : Bool}

theorem Within.weaken {x : Exec α} (h : Within true x) : Within k x := fun s =>
  ⟨fun a t e => ((h s).1 a t e).weaken, fun a t e => ⟨((h s).2 a t e).1.weaken, ((h s).2 a t e).2⟩⟩

theorem within_ok {x : Exec α} (h : ∀ s, ∃ a t, x s = .ok a t ∧ Kept k s t) : Within k x := by
  intro s
  obtain ⟨a, t, e, kept⟩ := h s
  refine ⟨fun a' t' e' => ?_, fun a' t' e' => ?_⟩
  · rw [e] at e'
    cases e'
    exact kept
  · rw [e] at e'
    cases e'

theorem within_pure (a : α) : Within k (pure a : Exec α) := within_ok fun s => ⟨a, s, rfl, Kept.refl s⟩

theorem within_getState : Within k getState := within_ok fun s => ⟨s, s, rfl, Kept.refl s⟩

theorem within_update {f : State → State} (h : ∀ s, Kept k s (f s)) : Within k (update f) :=
  within_ok fun s => ⟨(), f s, rfl, h s⟩

/-- A sequence, where what the first part answers has a property that the second one needs. -/
theorem within_bind_of {x : Exec α} {f : α → Exec β} {p : α → Prop} (hx : Within k x) (gives : Gives x p)
    (hf : ∀ a, p a → Within k (f a)) : Within k (x >>= f) := by
  intro s
  rw [exec_bind_apply]
  cases e : x s with
  | error y t =>
    refine ⟨fun _ _ h => (nomatch h), fun _ _ h => ?_⟩
    cases h
    exact (hx s).2 y t e
  | ok a t =>
    have first := (hx s).1 a t e
    have second := hf a (gives s a t e) t
    exact ⟨fun b u h => first.trans (second.1 b u h),
      fun y u h => ⟨first.trans (second.2 y u h).1, (second.2 y u h).2⟩⟩

theorem within_bind {x : Exec α} {f : α → Exec β} (hx : Within k x) (hf : ∀ a, Within k (f a)) : Within k (x >>= f) :=
  within_bind_of hx (p := fun _ => True) (fun _ _ _ _ => trivial) fun a _ => hf a

/-- The state that a computation begins with. -/
theorem within_read {f : State → Exec α} (h : ∀ s, Within k (f s)) : Within k (getState >>= f) :=
  within_bind within_getState h

theorem within_stop {x : Stop} (h : ¬x.InNewTask) : Within k (stopWith x : Exec α) := fun s =>
  ⟨fun _ _ e => (nomatch e), fun y t e => by cases e; exact ⟨Kept.refl s, h⟩⟩

theorem within_raise (e : Exc) : Within k (raise e : Exec α) := within_stop fun ⟨_, h⟩ => nomatch h

theorem within_ite (c : Prop) [Decidable c] {x y : Exec α} (hx : Within k x) (hy : Within k y) :
    Within k (if c then x else y) := by
  split
  · exact hx
  · exact hy

theorem within_require (c : Bool) (e : Exc) : Within k (require c e) := by
  cases c
  · exact within_raise e
  · exact within_pure ()

theorem within_when (c : Bool) {x : Exec Unit} (hx : Within k x) : Within k (when_ c x) := by
  cases c
  · exact within_pure ()
  · exact hx

/-- After a requirement its condition holds. -/
theorem gives_require (c : Bool) (e : Exc) : Gives (require c e) fun _ => c = true := fun _ _ _ h => (require_ok h).1

/-- What follows a requirement may use its condition. -/
theorem within_require_bind {c : Bool} {e : Exc} {f : Unit → Exec β} (h : c = true → Within k (f ())) :
    Within k (require c e >>= f) :=
  within_bind_of (within_require c e) (gives_require c e) fun _ hc => h hc

theorem within_eachDo {l : List α} {f : α → Exec Unit} (h : ∀ a, Within k (f a)) : Within k (eachDo l f) := by
  induction l with
  | nil => exact within_pure ()
  | cons a rest ih => exact within_bind (h a) fun _ => ih

theorem within_eachGet {l : List α} {f : α → Exec β} (h : ∀ a, Within k (f a)) : Within k (eachGet l f) := by
  induction l with
  | nil => exact within_pure _
  | cons a rest ih => exact within_bind (h a) fun _ => within_bind ih fun _ => within_pure _

/-- Another name for a reason to stop, where it does not name a new task. -/
theorem within_mapStop {f : Stop → Stop} {x : Exec α} (hf : ∀ e, (f e).InNewTask → e.InNewTask) (hx : Within k x) :
    Within k (mapStop f x) := by
  intro s
  rw [mapStop_apply]
  cases e : x s with
  | ok a t => exact ⟨fun b u h => by cases h; exact (hx s).1 _ _ e, fun _ _ h => nomatch h⟩
  | error y t =>
    refine ⟨fun _ _ h => (nomatch h), fun z u h => ?_⟩
    cases h
    exact ⟨((hx s).2 y t e).1, fun n => ((hx s).2 y t e).2 (hf y n)⟩

theorem gives_pure {a : α} {p : α → Prop} (h : p a) : Gives (pure a) p := fun _ _ _ e => by cases e; exact h

theorem gives_raise {e : Exc} {p : α → Prop} : Gives (raise e) p := fun _ _ _ h => nomatch h

/-- The answer of a sequence, where the answer of the first part has a property. -/
theorem gives_bind_of {x : Exec α} {f : α → Exec β} {p : α → Prop} {q : β → Prop} (gives : Gives x p)
    (h : ∀ a, p a → Gives (f a) q) : Gives (x >>= f) q := by
  intro s b t e
  obtain ⟨a, u, hx, hf⟩ := exec_bind_ok e
  exact h a (gives s a u hx) u b t hf

theorem gives_bind {x : Exec α} {f : α → Exec β} {q : β → Prop} (h : ∀ a, Gives (f a) q) : Gives (x >>= f) q :=
  gives_bind_of (p := fun _ => True) (fun _ _ _ _ => trivial) fun a _ => h a

theorem gives_ite {c : Prop} [Decidable c] {x y : Exec α} {p : α → Prop} (hx : Gives x p) (hy : Gives y p) :
    Gives (if c then x else y) p := by
  split
  · exact hx
  · exact hy

end

/-! ## The small operations -/

section
variable {k : Bool}

theorem within_draw : Within k draw := within_ok fun _ => ⟨_, _, rfl, .of_same rfl rfl rfl rfl rfl rfl⟩

theorem within_drawBit : Within k drawBit := within_ok fun _ => ⟨_, _, rfl, .of_same rfl rfl rfl rfl rfl rfl⟩

theorem within_drawChoice : Within k drawChoice := within_ok fun _ => ⟨_, _, rfl, .of_same rfl rfl rfl rfl rfl rfl⟩

theorem within_emit (e : BusEvent) : Within k (emit e) := within_update fun _ => .of_same rfl rfl rfl rfl rfl rfl

theorem within_loadSpan (sp : List Nat) : Within k (loadSpan sp) := within_ok fun s => ⟨_, s, rfl, Kept.refl s⟩

theorem within_storeSpan {sp : List Nat} (h : InRange sp) (v : Dword) : Within k (storeSpan sp v) :=
  within_update fun s => .store s h v

theorem within_readReg (sz : Size) (r : Reg) : Within k (readReg sz r) := within_ok fun s => ⟨_, s, rfl, Kept.refl s⟩

theorem within_writeReg (sz : Size) (r : Reg) (v : BitVec sz.bits) : Within k (writeReg sz r v) :=
  within_update fun _ => .of_same rfl rfl rfl rfl rfl rfl

theorem within_setSeg (sg : Seg) (v : SegReg) : Within k (setSeg sg v) :=
  within_update fun _ => .of_same rfl rfl rfl rfl rfl rfl

/-- Flags changed without VM. -/
theorem within_updateFlags {f : Flags → Flags} (h : ∀ g, (f g).vm = g.vm) : Within k (updateFlags f) :=
  within_update fun s => .of_same rfl rfl rfl rfl rfl (h s.flags)

theorem within_setNext (eip : Dword) : Within k (setNext eip) := within_update fun _ => .of_same rfl rfl rfl rfl rfl rfl

theorem within_setEnding (e : Ending) : Within k (setEnding e) := within_update fun _ => .of_same rfl rfl rfl rfl rfl rfl

theorem within_undefined (l : List StatusFlag) : Within k (undefined l) :=
  within_eachDo fun _ => within_bind within_drawBit fun _ => within_updateFlags fun _ => by simp

/-! ## Paging -/

theorem within_setTlb (n : Nat) (e : TlbEntry) : Within k (setTlb n e) :=
  within_update fun _ => ⟨⟨id, rfl, List.length_set, id⟩, rfl, rfl, id, fun _ => ⟨rfl, rfl⟩⟩

theorem within_tlbFlush : Within k tlbFlush :=
  within_update fun _ => ⟨⟨id, rfl, List.length_map _, id⟩, rfl, rfl, id, fun _ => ⟨rfl, rfl⟩⟩

theorem within_tlbVictim (tag : BitVec 20) : Within k (tlbVictim tag) := by
  refine within_read fun s => ?_
  split
  · exact within_pure _
  · exact within_bind within_draw fun _ => within_pure _

theorem within_tlbInsert (e : TlbEntry) : Within k (tlbInsert e) :=
  within_bind within_drawChoice fun _ => within_bind (within_tlbVictim _) fun _ => within_when _ (within_setTlb _ _)

theorem within_pageFault {α : Type} (lin : Dword) (p w u : Bool) : Within k (pageFault lin p w u : Exec α) :=
  within_bind (within_update fun _ => .of_same rfl rfl rfl rfl rfl rfl) fun _ => within_raise _

/-- A table entry lies within the 4 Gbyte because its address is a multiple of four (R191). -/
theorem inRange_entrySpan {a : Dword} (h : a.toNat % 4 = 0) : InRange (entrySpan a) := by
  intro b m
  have bound := a.isLt
  simp only [entrySpan, List.mem_cons, List.not_mem_nil, or_false] at m
  omega

/-- A table's base and an index of four-byte entries make a multiple of four. -/
theorem tableAddr_aligned (base index : Dword) : ((base &&& (0xFFFFF000 : Dword)) ||| (index <<< 2)).toNat % 2 ^ 2 = 0 := by
  have left : (base &&& 0xFFFFF000).toNat % 2 ^ 2 = 0 := by
    rw [BitVec.toNat_and, Nat.and_mod_two_pow]
    exact Nat.and_zero _
  have right : (index <<< 2).toNat % 2 ^ 2 = 0 := by
    rw [BitVec.toNat_shiftLeft, Nat.shiftLeft_eq]
    omega
  rw [BitVec.toNat_or, Nat.or_mod_two_pow, left, right, Nat.or_zero]

theorem within_updateEntry {a : Dword} (h : a.toNat % 4 = 0) (old new : Dword) : Within k (updateEntry a old new) :=
  within_when _ (within_storeSpan (inRange_entrySpan h) _)

theorem within_walk (lin : Dword) (write user : Bool) : Within k (walk lin write user) := by
  refine within_read fun s => within_bind (within_loadSpan _) fun pde => within_ite _ ?_ (within_pageFault _ _ _ _)
  refine within_bind (within_updateEntry (tableAddr_aligned _ _) _ _) fun _ => within_bind (within_loadSpan _) fun pte =>
    within_ite _ (within_ite _ ?_ (within_pageFault _ _ _ _)) (within_pageFault _ _ _ _)
  exact within_bind (within_updateEntry (tableAddr_aligned _ _) _ _) fun _ =>
    within_bind (within_tlbInsert _) fun _ => within_pure _

theorem within_translate (lin : Dword) (write user : Bool) : Within k (translate lin write user) := by
  have walked : Within k (walk lin write user >>= fun e => pure (framed e lin)) :=
    within_bind (within_walk _ _ _) fun _ => within_pure _
  refine within_read fun s => within_ite _ ?_ (within_pure _)
  dsimp only
  split
  · refine within_ite _ (within_ite _ (within_pure _) (within_bind within_drawChoice fun held => ?_)) walked
    exact within_ite _ (within_pure _) (within_bind (within_setTlb _ _) fun _ => walked)
  · exact walked

/-- A translation keeps the offset in the page (R191). -/
theorem framed_mod (e : TlbEntry) (lin : Dword) : (framed e lin).toNat % 4096 = lin.toNat % 4096 := by
  have lower := BitVec.toNat_append e.phys (lin.extractLsb' 0 12)
  have inside := (lin.extractLsb' 0 12).isLt
  unfold framed
  rw [lower, Nat.shiftLeft_eq, Nat.mul_comm, ← Nat.two_pow_add_eq_or_of_lt inside, BitVec.extractLsb'_toNat, Nat.shiftRight_zero]
  omega

theorem gives_translate (lin : Dword) (write user : Bool) :
    Gives (translate lin write user) fun p => p.toNat % 4096 = lin.toNat % 4096 := by
  have walked : Gives (walk lin write user >>= fun e => pure (framed e lin)) fun p => p.toNat % 4096 = lin.toNat % 4096 :=
    gives_bind fun e => gives_pure (framed_mod e lin)
  refine gives_bind fun s => gives_ite ?_ (gives_pure rfl)
  dsimp only
  split
  · refine gives_ite (gives_ite (gives_pure (framed_mod _ lin)) (gives_bind fun held => ?_)) walked
    exact gives_ite (gives_pure (framed_mod _ lin)) (gives_bind fun _ => walked)
  · exact walked

theorem within_linSpan (lin : Dword) (n : Nat) (write user : Bool) : Within k (linSpan lin n write user) :=
  within_bind (within_translate _ _ _) fun _ => within_ite _ (within_pure _)
    (within_bind (within_translate _ _ _) fun _ => within_pure _)

/-- Bytes of one page lie within the 4 Gbyte. -/
theorem inRange_page {p : Dword} {n : Nat} (h : p.toNat % 4096 + n ≤ 4096) :
    InRange ((List.range n).map fun i => p.toNat + i) := by
  intro a m
  obtain ⟨i, hi, rfl⟩ := List.mem_map.mp m
  have bound := p.isLt
  have less := List.mem_range.mp hi
  omega

/-- An access of at most a page finds bytes of the 4 Gbyte, on one page or on two (R165). -/
theorem gives_linSpan (lin : Dword) {n : Nat} (small : n ≤ 4096) (write user : Bool) :
    Gives (linSpan lin n write user) InRange := by
  refine gives_bind_of (gives_translate _ _ _) fun p hp => ?_
  dsimp only
  split
  · next onePage => exact gives_pure (inRange_page (by omega))
  · next twoPages =>
    refine gives_bind_of (gives_translate _ _ _) fun q hq => gives_pure fun a m => ?_
    have next : q.toNat % 4096 = 0 := by
      rw [hq, BitVec.toNat_add, BitVec.toNat_ofNat]
      have := lin.isLt
      omega
    rcases List.mem_append.mp m with m | m
    · exact inRange_page (by omega) a m
    · exact inRange_page (by omega) a m

theorem within_linRead (lin : Dword) (n : Nat) : Within k (linRead lin n) :=
  within_bind (within_linSpan _ _ _ _) fun _ => within_loadSpan _

/-! ## Segments, operands and the stack -/

theorem within_readDescAt (lin : Dword) : Within k (readDescAt lin) :=
  within_bind (within_linSpan _ _ _ _) fun _ => within_bind (within_loadSpan _) fun _ =>
    within_bind (within_loadSpan _) fun _ => within_pure _

theorem within_readDesc (sel : Word) (bad : Exc) : Within k (readDesc sel bad) := by
  refine within_read fun s => ?_
  split
  · exact within_readDescAt _
  · exact within_raise _

theorem within_writeRights (sel : Word) (f : Byte → Byte) : Within k (writeRights sel f) := by
  refine within_read fun s => ?_
  split
  · exact within_bind_of (within_linSpan _ _ _ _) (gives_linSpan _ (by decide) _ _) fun _ inside =>
      within_bind (within_loadSpan _) fun _ => within_storeSpan inside _
  · exact within_pure _

theorem within_setAccessed (sel : Word) (d : Desc) : Within k (setAccessed sel d) :=
  within_when _ (within_writeRights _ _)

theorem within_segLinear (sg : Seg) (off : Dword) (n : Nat) (write : Bool) : Within k (segLinear sg off n write) :=
  within_read fun _ => within_bind (within_require _ _) fun _ => within_pure _

theorem within_noteAccess (lin : Dword) (n : Nat) (write : Bool) : Within k (noteAccess lin n write) :=
  within_update fun _ => .of_same rfl rfl rfl rfl rfl rfl

theorem within_segSpan (sg : Seg) (off : Dword) (n : Nat) (write : Bool) : Within k (segSpan sg off n write) :=
  within_bind (within_segLinear _ _ _ _) fun _ => within_read fun _ => within_bind (within_linSpan _ _ _ _) fun _ =>
    within_bind (within_noteAccess _ _ _) fun _ => within_pure _

theorem gives_segSpan (sg : Seg) (off : Dword) {n : Nat} (small : n ≤ 4096) (write : Bool) :
    Gives (segSpan sg off n write) InRange :=
  gives_bind fun _ => gives_bind fun _ => gives_bind_of (gives_linSpan _ small _ _) fun _ inside =>
    gives_bind fun _ => gives_pure inside

theorem within_memRead (sg : Seg) (off : Dword) (n : Nat) : Within k (memRead sg off n) :=
  within_bind (within_segSpan _ _ _ _) fun _ => within_loadSpan _

theorem bytes_le (sz : Size) : sz.bytes ≤ 4096 := by cases sz <;> decide

theorem within_loadDataSeg (sg : Seg) (sel : Word) (bad : Word → Exc) : Within k (loadDataSeg sg sel bad) :=
  within_read fun _ => within_ite _ (within_setSeg _ _) <| within_bind (within_readDesc _ _) fun _ =>
    within_bind (within_require _ _) fun _ => within_bind (within_require _ _) fun _ =>
    within_bind (within_require _ _) fun _ => within_bind (within_setAccessed _ _) fun _ => within_setSeg _ _

theorem within_checkStackSeg (sel : Word) (l : BitVec 2) (badNull : Exc) (bad : Word → Exc) :
    Within k (checkStackSeg sel l badNull bad) :=
  within_bind (within_require _ _) fun _ => within_bind (within_readDesc _ _) fun _ =>
    within_bind (within_require _ _) fun _ => within_bind (within_require _ _) fun _ =>
    within_bind (within_require _ _) fun _ => within_bind (within_require _ _) fun _ => within_pure _

theorem within_loadStackSeg (sel : Word) (l : BitVec 2) (badNull : Exc) (bad : Word → Exc) :
    Within k (loadStackSeg sel l badNull bad) :=
  within_bind (within_checkStackSeg _ _ _ _) fun _ => within_bind (within_setAccessed _ _) fun _ => within_setSeg _ _

theorem within_loadSeg (sg : Seg) (sel : Word) : Within k (loadSeg sg sel) :=
  within_read fun _ => within_ite _ (within_setSeg _ _) <| within_ite _
    (within_ite _ (within_loadStackSeg _ _ _ _) (within_loadDataSeg _ _ _)) (within_setSeg _ _)

theorem within_nullInnerSegs (cpl : BitVec 2) : Within k (nullInnerSegs cpl) :=
  within_update fun _ => .of_same rfl rfl rfl rfl rfl rfl

theorem within_effAddr (m : Mem) : Within k (effAddr m) :=
  within_read fun _ => within_bind (within_when _ (within_update fun _ => .of_same rfl rfl rfl rfl rfl rfl)) fun _ =>
    within_pure _

/-- A place in memory lies within the 4 Gbyte. -/
def Place.InRange (p : Place) : Prop := ∀ sp, p = .mem sp → Machine.InRange sp

theorem Place.inRange_mem {sp : List Nat} (h : Machine.InRange sp) : (Place.mem sp).InRange :=
  fun _ e => by cases e; exact h

theorem Place.inRange_reg (r : Reg) : (Place.reg r).InRange := fun _ e => nomatch e

theorem within_place (sz : Size) (rm : RM) (write : Bool) : Within k (place sz rm write) := by
  cases rm with
  | reg r => exact within_pure _
  | mem m => exact within_bind (within_effAddr m) fun _ => within_bind (within_segSpan _ _ _ _) fun _ => within_pure _

theorem gives_place (sz : Size) (rm : RM) (write : Bool) : Gives (place sz rm write) Place.InRange := by
  cases rm with
  | reg r => exact gives_pure (Place.inRange_reg r)
  | mem m => exact gives_bind fun _ => gives_bind_of (gives_segSpan _ _ (bytes_le sz) _) fun _ inside =>
      gives_pure (Place.inRange_mem inside)

/-- What follows the finding of an operand may use that it lies within the 4 Gbyte. -/
theorem within_place_bind {α : Type} {sz : Size} {rm : RM} {write : Bool} {f : Place → Exec α}
    (h : ∀ p, p.InRange → Within k (f p)) : Within k (place sz rm write >>= f) :=
  within_bind_of (within_place sz rm write) (gives_place sz rm write) h

/-- What follows an access may use that its bytes lie within the 4 Gbyte. -/
theorem within_segSpan_bind {α : Type} {sg : Seg} {off : Dword} {n : Nat} {write : Bool} {f : List Nat → Exec α}
    (small : n ≤ 4096) (h : ∀ sp, InRange sp → Within k (f sp)) : Within k (segSpan sg off n write >>= f) :=
  within_bind_of (within_segSpan sg off n write) (gives_segSpan sg off small write) h

theorem within_readPlace (sz : Size) (p : Place) : Within k (readPlace sz p) :=
  within_ok fun s => ⟨_, s, readPlace_apply sz p s, Kept.refl s⟩

theorem within_writePlace (sz : Size) {p : Place} (h : p.InRange) (v : BitVec sz.bits) : Within k (writePlace sz p v) := by
  cases p with
  | reg r => exact within_writeReg sz r v
  | mem sp => exact within_storeSpan (h sp rfl) _

theorem within_readRM (sz : Size) (rm : RM) : Within k (readRM sz rm) :=
  within_bind (within_place _ _ _) fun _ => within_readPlace _ _

theorem within_writeRM (sz : Size) (rm : RM) (v : BitVec sz.bits) : Within k (writeRM sz rm v) :=
  within_place_bind fun _ inside => within_writePlace _ inside _

theorem within_countDown : Within k countDown := within_update fun _ => .of_same rfl rfl rfl rfl rfl rfl

theorem within_setStackPtr (v : Dword) : Within k (setStackPtr v) := within_update fun _ => .of_same rfl rfl rfl rfl rfl rfl

theorem within_pushPtr (ptr : Dword) (n : Nat) : Within k (pushPtr ptr n) :=
  within_read fun _ => within_ite _ (within_ite _ (within_raise _) (within_stop fun ⟨_, h⟩ => nomatch h)) (within_pure _)

theorem within_checkPushes (count n : Nat) (ptr : Dword) : Within k (checkPushes count n ptr) := by
  induction count generalizing ptr with
  | zero => exact within_pure _
  | succ c ih => exact within_bind (within_pushPtr _ _) fun _ => within_bind (within_segLinear _ _ _ _) fun _ => ih _

theorem within_claimSlot (n : Nat) : Within k (claimSlot n) :=
  within_read fun _ => within_bind (within_pushPtr _ _) fun _ => within_bind (within_segSpan _ _ _ _) fun _ =>
    within_bind (within_setStackPtr _) fun _ => within_pure _

theorem gives_claimSlot {n : Nat} (small : n ≤ 4096) : Gives (claimSlot n) InRange :=
  gives_bind fun _ => gives_bind fun _ => gives_bind_of (gives_segSpan _ _ small _) fun _ inside =>
    gives_bind fun _ => gives_pure inside

theorem within_claimSlots (n : Nat) (values : List Dword) : Within k (claimSlots n values) := by
  induction values with
  | nil => exact within_pure _
  | cons v rest ih => exact within_bind (within_claimSlot n) fun _ => within_bind ih fun _ => within_pure _

theorem gives_claimSlots {n : Nat} (small : n ≤ 4096) (values : List Dword) :
    Gives (claimSlots n values) fun slots => ∀ sp ∈ slots, InRange sp := by
  induction values with
  | nil => exact gives_pure fun _ m => absurd m List.not_mem_nil
  | cons v rest ih =>
    exact gives_bind_of (gives_claimSlot small) fun sp first => gives_bind_of ih fun sps others =>
      gives_pure (List.forall_mem_cons.mpr ⟨first, others⟩)

theorem within_fillSlots {slots : List (List Nat)} (values : List Dword) (h : ∀ sp ∈ slots, InRange sp) :
    Within k (fillSlots slots values) := by
  induction slots generalizing values with
  | nil => exact within_pure _
  | cons sp rest ih =>
    obtain ⟨first, others⟩ := List.forall_mem_cons.mp h
    cases values with
    | nil => exact within_pure _
    | cons v vs => exact within_bind (within_storeSpan first v) fun _ => ih vs others

/-- What follows the claim of stack slots may use that they lie within the 4 Gbyte. -/
theorem within_claimSlots_bind {α : Type} {sz : Size} {values : List Dword} {f : List (List Nat) → Exec α}
    (h : ∀ slots, (∀ sp ∈ slots, InRange sp) → Within k (f slots)) : Within k (claimSlots sz.bytes values >>= f) :=
  within_bind_of (within_claimSlots _ _) (gives_claimSlots (bytes_le sz) _) h

theorem within_push (sz : Size) (v : Dword) : Within k (push sz v) :=
  within_bind_of (within_claimSlot _) (gives_claimSlot (bytes_le sz)) fun _ inside => within_storeSpan inside _

theorem within_requireStack (delta n : Nat) : Within k (requireStack delta n) := within_read fun _ => within_require _ _

theorem within_peek (delta n : Nat) : Within k (peek delta n) :=
  within_bind (within_requireStack _ _) fun _ => within_read fun _ => within_memRead _ _ _

theorem within_stackRead (off : Dword) (n : Nat) : Within k (stackRead off n) :=
  within_read fun _ => within_bind (within_require _ _) fun _ => within_memRead _ _ _

theorem within_checkFrame (n : Nat) : Within k (checkFrame n) :=
  within_bind (within_requireStack _ _) fun _ => within_read fun _ =>
    within_bind (within_segLinear _ _ _ _) fun _ => within_pure _

theorem within_release (n : Nat) : Within k (release n) := within_read fun _ => within_setStackPtr _

theorem within_checkPops (count n : Nat) (ptr : Dword) : Within k (checkPops count n ptr) := by
  induction count generalizing ptr with
  | zero => exact within_pure _
  | succ c ih =>
    exact within_read fun _ => within_bind (within_require _ _) fun _ => within_bind (within_segLinear _ _ _ _) fun _ => ih _

theorem within_pop (sz : Size) : Within k (pop sz) :=
  within_bind (within_peek _ _) fun _ => within_bind (within_release _) fun _ => within_pure _

theorem within_selectorSlot (sz : Size) (sel : Word) : Within k (selectorSlot sz sel) := by
  cases sz with
  | b | w => exact within_pure _
  | d => exact within_bind within_draw fun _ => within_pure _

end
end Sys2Proof.Machine

/-! The shared operations above the stack, and the instructions that keep the mode. -/

namespace Sys2Proof.Machine

section
variable {k : Bool}

/-! ## Loading CS, and deliveries in real mode -/

theorem within_checkTarget (limit off : Dword) (e : Exc) : Within k (checkTarget limit off e) := within_require _ _

theorem within_loadCode (sel : Word) (l : BitVec 2) (d : Desc) : Within k (loadCode sel l d) :=
  within_bind (within_setAccessed _ _) fun _ => within_setSeg _ _

theorem within_loadCodeReal (sel : Word) : Within k (loadCodeReal sel) := within_read fun _ => within_setSeg _ _

theorem within_deliverReal (nested : Bool) (ev : Event) : Within k (deliverReal nested ev) := by
  refine within_read fun s => within_ite _ (within_ite _ (within_stop fun ⟨_, h⟩ => nomatch h) (within_raise _)) ?_
  exact within_bind (within_linRead _ _) fun _ => within_bind (within_checkPushes _ _ _) fun _ =>
    within_claimSlots_bind (sz := .w) fun _ inside => within_bind (within_fillSlots _ inside) fun _ =>
    within_bind (within_updateFlags fun _ => rfl) fun _ => within_bind (within_loadCodeReal _) fun _ => within_setNext _

theorem within_codeValues (code : Option Word) (sz : Size) : Within k (codeValues code sz) := by
  cases code with
  | none => exact within_pure _
  | some c => exact within_bind (within_selectorSlot _ _) fun _ => within_pure _

theorem within_v86Values (s : State) (sz : Size) : Within k (v86Values s sz) := within_eachGet fun _ => within_selectorSlot _ _

theorem within_nullDataSegs : Within k nullDataSegs := within_update fun _ => .of_same rfl rfl rfl rfl rfl rfl

theorem within_returnTarget (sel : Word) : Within k (returnTarget sel) :=
  within_read fun _ => within_bind (within_require _ _) fun _ => within_bind (within_readDesc _ _) fun _ =>
    within_bind (within_require _ _) fun _ => within_bind (within_require _ _) fun _ =>
    within_bind (within_require _ _) fun _ => within_bind (within_require _ _) fun _ => within_pure _

theorem within_loadOuterStack (sz : Size) (sel : Word) (d : Desc) (ptr : Dword) : Within k (loadOuterStack sz sel d ptr) :=
  within_bind (within_setAccessed _ _) fun _ => within_bind (within_setSeg _ _) fun _ =>
    within_update fun _ => .of_same rfl rfl rfl rfl rfl rfl

theorem Flags.load_vm (f : Flags) (img : Dword) (cpl : Nat) (wide : Bool) : (f.load img cpl wide).vm = f.vm := rfl

theorem within_iretReal : Within k iretReal :=
  within_read fun _ => within_bind (within_checkFrame _) fun _ => within_bind (within_peek _ _) fun _ =>
    within_bind (within_peek _ _) fun _ => within_bind (within_peek _ _) fun _ => within_bind (within_checkTarget _ _ _) fun _ =>
    within_bind (within_release _) fun _ => within_bind (within_loadCodeReal _) fun _ =>
    within_bind (within_updateFlags fun f => f.load_vm _ _ _) fun _ => within_setNext _

/-! ## Arithmetic and logic -/

@[simp] theorem Flags.szp_vm {n : Nat} (f : Flags) (r : BitVec n) : (f.szp r).vm = f.vm := by
  simp only [Flags.szp]

@[simp] theorem Flags.add_vm {n : Nat} (f : Flags) (a b : BitVec n) (c : Bool) : (f.add a b c).vm = f.vm := by
  simp only [Flags.add, Flags.szp]

@[simp] theorem Flags.sub_vm {n : Nat} (f : Flags) (a b : BitVec n) (c : Bool) : (f.sub a b c).vm = f.vm := by
  simp only [Flags.sub, Flags.szp]

@[simp] theorem AluOp.flags_vm {n : Nat} (op : AluOp) (f : Flags) (a b : BitVec n) : (op.flags f a b).vm = f.vm := by
  cases op <;> simp [AluOp.flags, Flags.logic]

theorem within_aluFlags {n : Nat} (op : AluOp) (a b : BitVec n) : Within k (aluFlags op a b) :=
  within_bind (within_updateFlags fun f => op.flags_vm f a b) fun _ => within_when _ (within_undefined _)

theorem within_aluPlace (op : AluOp) (sz : Size) {p : Place} (h : p.InRange) (b : BitVec sz.bits) :
    Within k (aluPlace op sz p b) :=
  within_bind (within_readPlace _ _) fun _ => within_read fun _ => within_bind (within_writePlace _ h _) fun _ =>
    within_aluFlags _ _ _

theorem within_aluRmReg (op : AluOp) (d w : Bool) (rm : RM) (r : Reg) : Within k (aluRmReg op d w rm r) :=
  within_read fun _ => within_ite _
    (within_bind (within_readRM _ _) fun _ => within_aluPlace _ _ (Place.inRange_reg r) _)
    (within_place_bind fun _ inside => within_bind (within_readReg _ _) fun _ => within_aluPlace _ _ inside _)

theorem within_aluRmImm (op : AluOp) (w : Bool) (rm : RM) (imm : Imm) : Within k (aluRmImm op w rm imm) :=
  within_read fun _ => within_place_bind fun _ inside => within_aluPlace _ _ inside _

theorem within_aluAccImm (op : AluOp) (w : Bool) (imm : Imm) : Within k (aluAccImm op w imm) :=
  within_read fun _ => within_aluPlace _ _ (Place.inRange_reg _) _

theorem within_cmpRmReg (d w : Bool) (rm : RM) (r : Reg) : Within k (cmpRmReg d w rm r) :=
  within_read fun _ => within_bind (within_readRM _ _) fun _ => within_bind (within_readReg _ _) fun _ =>
    within_ite _ (within_aluFlags _ _ _) (within_aluFlags _ _ _)

theorem within_cmpRmImm (w : Bool) (rm : RM) (imm : Imm) : Within k (cmpRmImm w rm imm) :=
  within_read fun _ => within_bind (within_readRM _ _) fun _ => within_aluFlags _ _ _

theorem within_cmpAccImm (w : Bool) (imm : Imm) : Within k (cmpAccImm w imm) :=
  within_read fun _ => within_bind (within_readReg _ _) fun _ => within_aluFlags _ _ _

theorem within_modifyRM (w : Bool) (rm : RM) {f : {n : Nat} → BitVec n → BitVec n}
    {g : {n : Nat} → BitVec n → Flags → Flags} (h : ∀ {n : Nat} (a : BitVec n) e, (g a e).vm = e.vm) :
    Within k (modifyRM w rm f g) :=
  within_read fun _ => within_place_bind fun _ inside => within_bind (within_readPlace _ _) fun a =>
    within_bind (within_writePlace _ inside _) fun _ => within_updateFlags fun e => h a e

theorem within_asciiAdjust (f : Byte → Byte → Byte) : Within k (asciiAdjust f) :=
  within_read fun _ => within_bind (within_writeReg _ _ _) fun _ => within_bind (within_writeReg _ _ _) fun _ =>
    within_bind (within_updateFlags fun _ => rfl) fun _ => within_undefined _

theorem within_writeWide (sz : Size) (hi lo : BitVec sz.bits) : Within k (writeWide sz hi lo) := by
  cases sz with
  | b | w | d => exact within_bind (within_writeReg _ _ _) fun _ => within_writeReg _ _ _

theorem within_readHigh (sz : Size) : Within k (readHigh sz) := by
  cases sz with
  | b | w | d => exact within_readReg _ _

theorem within_mulFlags (ovf : Bool) : Within k (mulFlags ovf) :=
  within_bind (within_updateFlags fun _ => rfl) fun _ => within_undefined _

theorem within_imulTo (sz : Size) (r : Reg) (a b : BitVec sz.bits) : Within k (imulTo sz r a b) :=
  within_bind (within_writeReg _ _ _) fun _ => within_mulFlags _

theorem within_bitScan (r : Reg) (rm : RM) (index : {n : Nat} → BitVec n → Nat) : Within k (bitScan r rm index) :=
  within_read fun _ => within_bind (within_readRM _ _) fun _ => within_bind (within_updateFlags fun _ => rfl) fun _ =>
    within_ite _ (within_bind within_draw fun _ => within_bind (within_writeReg _ _ _) fun _ => within_undefined _)
      (within_bind (within_writeReg _ _ _) fun _ => within_undefined _)

/-- What a bit instruction selects lies within the 4 Gbyte. -/
def Selects (select : Exec (Place × Nat)) : Prop := Within true select ∧ Gives select fun p => p.1.InRange

theorem selects_bitSelect (rm : RM) (r : Reg) (write : Bool) : Selects (bitSelect rm r write) := by
  cases rm with
  | reg x =>
    exact ⟨within_read fun _ => within_bind (within_readReg _ _) fun _ => within_pure _,
      gives_bind fun _ => gives_bind fun _ => gives_pure (Place.inRange_reg x)⟩
  | mem m =>
    exact ⟨within_read fun _ => within_bind (within_readReg _ _) fun _ => within_bind (within_effAddr _) fun _ =>
        within_bind (within_segSpan _ _ _ _) fun _ => within_pure _,
      gives_bind fun s => gives_bind fun _ => gives_bind fun _ =>
        gives_bind_of (gives_segSpan _ _ (bytes_le _) _) fun _ inside => gives_pure (Place.inRange_mem inside)⟩

theorem selects_bitSelectImm (rm : RM) (n : BitVec 8) (write : Bool) : Selects (bitSelectImm rm n write) :=
  ⟨within_read fun _ => within_bind (within_place _ _ _) fun _ => within_pure _,
    gives_bind fun _ => gives_bind_of (gives_place _ _ _) fun _ inside => gives_pure inside⟩

theorem within_bitFlags (b : Bool) : Within k (bitFlags b) :=
  within_bind (within_updateFlags fun _ => rfl) fun _ => within_undefined _

theorem within_bitTest {select : Exec (Place × Nat)} (h : Selects select) : Within k (bitTest select) :=
  within_bind h.1.weaken fun _ => within_read fun _ => within_bind (within_readPlace _ _) fun _ => within_bitFlags _

theorem within_bitChange {select : Exec (Place × Nat)} (h : Selects select) (f : Bool → Bool) :
    Within k (bitChange select f) :=
  within_bind_of h.1.weaken h.2 fun _ inside => within_read fun _ => within_bind (within_readPlace _ _) fun _ =>
    within_bind (within_writePlace _ inside _) fun _ => within_bitFlags _

theorem within_shiftFlags {n : Nat} (op : ShiftOp) (c : Nat) (r : Shifted n) : Within k (shiftFlags op c r) := by
  have rest : Within k (do
      if c = 1 then updateFlags fun f => { f with ov := r.ov } else undefined [.ov]
      when_ (!op.isRotate) (undefined [.af])) :=
    within_ite _ (within_bind (within_updateFlags fun _ => rfl) fun _ => within_when _ (within_undefined _))
      (within_bind (within_undefined _) fun _ => within_when _ (within_undefined _))
  refine within_bind (within_when _ (within_updateFlags fun f => f.szp_vm _)) fun _ => ?_
  dsimp only
  split
  · exact within_bind (within_updateFlags fun _ => rfl) fun _ => rest
  · exact within_bind (within_undefined _) fun _ => rest

theorem within_shiftRM (op : ShiftOp) (w : Bool) (rm : RM) (count : Nat) : Within k (shiftRM op w rm count) :=
  within_read fun _ => within_place_bind fun _ inside => within_bind (within_readPlace _ _) fun _ =>
    within_ite _ (within_pure _) (within_bind (within_writePlace _ inside _) fun _ => within_shiftFlags _ _ _)

theorem within_shiftDouble (rm : RM) (reg : Reg) (count : Nat) (r : {n : Nat} → BitVec n → BitVec n → Nat → BitVec n)
    (cf : {n : Nat} → BitVec n → Nat → Bool) : Within k (shiftDouble rm reg count r cf) := by
  refine within_ite _ (within_pure _) (within_read fun _ => within_place_bind fun _ inside =>
    within_bind (within_readPlace _ _) fun _ => within_bind (within_readReg _ _) fun _ => within_ite _ ?above ?within)
  case above =>
    exact within_bind within_draw fun _ => within_bind (within_writePlace _ inside _) fun _ => within_undefined _
  case within =>
    exact within_bind (within_writePlace _ inside _) fun _ => within_bind (within_updateFlags fun _ => rfl) fun _ =>
      within_ite _ (within_bind (within_updateFlags fun _ => rfl) fun _ => within_undefined _)
        (within_bind (within_undefined _) fun _ => within_undefined _)

/-! ## Transfers of control that keep the level -/

theorem within_jumpNear (t : Dword) : Within k (jumpNear t) :=
  within_read fun _ => within_bind (within_checkTarget _ _ _) fun _ => within_setNext _

theorem within_jumpRelative (disp : Dword) : Within k (jumpRelative disp) := within_read fun _ => within_jumpNear _

theorem within_callNear (t : Dword) : Within k (callNear t) :=
  within_read fun _ => within_bind (within_checkTarget _ _ _) fun _ => within_bind (within_push _ _) fun _ => within_setNext _

theorem within_returnNear (imm : Nat) : Within k (returnNear imm) :=
  within_read fun _ => within_bind (within_peek _ _) fun _ => within_bind (within_checkTarget _ _ _) fun _ =>
    within_bind (within_release _) fun _ => within_setNext _

theorem within_jumpIf (c : Cond) (disp : Dword) : Within k (jumpIf c disp) :=
  within_read fun _ => within_when _ (within_jumpRelative _)

theorem within_loopWhile (more : Flags → Bool) (disp : BitVec 8) : Within k (loopWhile more disp) :=
  within_bind within_countDown fun _ => within_read fun _ => within_when _ (within_jumpRelative _)

theorem within_farJumpReal (sel : Word) (off : Dword) : Within k (farJumpReal sel off) :=
  within_read fun _ => within_bind (within_checkTarget _ _ _) fun _ => within_bind (within_loadCodeReal _) fun _ =>
    within_setNext _

theorem within_farCallReal (sel : Word) (off : Dword) : Within k (farCallReal sel off) :=
  within_read fun _ => within_bind (within_checkTarget _ _ _) fun _ => within_bind (within_selectorSlot _ _) fun _ =>
    within_claimSlots_bind fun _ inside => within_bind (within_fillSlots _ inside) fun _ =>
    within_bind (within_loadCodeReal _) fun _ => within_setNext _

theorem within_farReturnReal (imm : Nat) : Within k (farReturnReal imm) :=
  within_read fun _ => within_bind (within_peek _ _) fun _ => within_bind (within_peek _ _) fun _ =>
    within_bind (within_checkTarget _ _ _) fun _ => within_bind (within_release _) fun _ =>
    within_bind (within_loadCodeReal _) fun _ => within_setNext _

theorem within_checkCode (sel : Word) (d : Desc) : Within k (checkCode sel d) :=
  within_read fun _ => within_bind (within_require _ _) fun _ => within_require _ _

theorem within_farJumpCode (sel : Word) (d : Desc) (off : Dword) : Within k (farJumpCode sel d off) :=
  within_read fun _ => within_bind (within_checkCode _ _) fun _ => within_bind (within_checkTarget _ _ _) fun _ =>
    within_bind (within_loadCode _ _ _) fun _ => within_setNext _

theorem within_farCallCode (sel : Word) (d : Desc) (off : Dword) : Within k (farCallCode sel d off) :=
  within_read fun _ => within_bind (within_checkCode _ _) fun _ => within_bind (within_checkTarget _ _ _) fun _ =>
    within_bind (within_selectorSlot _ _) fun _ => within_bind (within_checkPushes _ _ _) fun _ =>
    within_claimSlots_bind fun _ inside => within_bind (within_loadCode _ _ _) fun _ =>
    within_bind (within_fillSlots _ inside) fun _ => within_setNext _

theorem within_gateTarget (sel : Word) (g : Desc) : Within k (gateTarget sel g) :=
  within_read fun _ => within_bind (within_require _ _) fun _ => within_bind (within_require _ _) fun _ =>
    within_bind (within_require _ _) fun _ => within_bind (within_readDesc _ _) fun _ =>
    within_bind (within_require _ _) fun _ => within_bind (within_require _ _) fun _ =>
    within_bind (within_require _ _) fun _ => within_pure _

theorem within_farJumpGate (sel : Word) (g : Desc) : Within k (farJumpGate sel g) :=
  within_read fun _ => within_bind (within_gateTarget _ _) fun _ => within_bind (within_require _ _) fun _ =>
    within_bind (within_checkTarget _ _ _) fun _ => within_bind (within_loadCode _ _ _) fun _ => within_setNext _

theorem within_farCallSame (g c : Desc) : Within k (farCallSame g c) :=
  within_read fun _ => within_bind (within_selectorSlot _ _) fun _ => within_bind (within_checkPushes _ _ _) fun _ =>
    within_bind (within_checkTarget _ _ _) fun _ => within_claimSlots_bind fun _ inside =>
    within_bind (within_loadCode _ _ _) fun _ => within_bind (within_fillSlots _ inside) fun _ => within_setNext _

theorem within_farDescriptor (sel : Word) : Within k (farDescriptor sel) :=
  within_bind (within_require _ _) fun _ => within_readDesc _ _

theorem within_readFarPointer (m : Mem) : Within k (readFarPointer m) :=
  within_read fun _ => within_bind (within_effAddr _) fun _ => within_bind (within_memRead _ _ _) fun _ =>
    within_bind (within_memRead _ _ _) fun _ => within_pure _

/-! ## Ports -/

theorem within_portPermitted (base port : Nat) : Within k (portPermitted base port) :=
  within_read fun _ => within_ite _ (within_pure _) (within_bind (within_linRead _ _) fun _ => within_pure _)

theorem within_portsPermitted (base port n : Nat) : Within k (portsPermitted base port n) := by
  induction n generalizing port with
  | zero => exact within_pure _
  | succ n ih => exact within_bind (within_portPermitted _ _) fun _ => within_ite _ (ih _) (within_pure _)

theorem within_ioPermitted (port : Word) (n : Nat) : Within k (ioPermitted port n) :=
  within_read fun _ => within_ite _ (within_pure _)
    (within_bind (within_linRead _ _) fun _ => within_portsPermitted _ _ _)

theorem within_ioCheck (port : Word) (n : Nat) : Within k (ioCheck port n) :=
  within_read fun _ => within_ite _ (within_bind (within_ioPermitted _ _) fun _ => within_require _ _) (within_pure _)

theorem within_portRange (port : Word) (n : Nat) : Within k (portRange port n) :=
  within_ite _ (within_stop fun ⟨_, h⟩ => nomatch h) (within_pure _)

theorem within_ioRead (port : Word) (sz : Size) : Within k (ioRead port sz) :=
  within_bind (within_portRange _ _) fun _ => within_bind within_draw fun _ => within_bind (within_emit _) fun _ =>
    within_pure _

theorem within_ioWrite (port : Word) (sz : Size) (v : BitVec sz.bits) : Within k (ioWrite port sz v) :=
  within_bind (within_portRange _ _) fun _ => within_emit _

theorem within_inputTo (sz : Size) (port : Word) : Within k (inputTo sz port) :=
  within_bind (within_ioCheck _ _) fun _ => within_bind (within_ioRead _ _) fun _ => within_writeReg _ _ _

theorem within_outputFrom (sz : Size) (port : Word) : Within k (outputFrom sz port) :=
  within_bind (within_ioCheck _ _) fun _ => within_bind (within_readReg _ _) fun _ => within_ioWrite _ _ _

/-! ## Moves of segment registers and system words -/

theorem within_inhibitAfterSs (sg : Seg) : Within k (inhibitAfterSs sg) :=
  within_when _ (within_update fun _ => .of_same rfl rfl rfl rfl rfl rfl)

theorem within_writeSystemWord (rm : RM) (v : Word) : Within k (writeSystemWord rm v) := by
  cases rm with
  | mem m => exact within_writeRM _ _ _
  | reg r => exact within_read fun _ => within_ite _ (within_bind within_draw fun _ => within_writeReg _ _ _) (within_writeReg _ _ _)

theorem within_pushSegment (sg : Seg) : Within k (pushSegment sg) :=
  within_read fun _ => within_bind (within_selectorSlot _ _) fun _ => within_push _ _

theorem within_popSegment (sg : Seg) : Within k (popSegment sg) :=
  within_read fun _ => within_bind (within_peek _ _) fun _ => within_bind (within_loadSeg _ _) fun _ =>
    within_bind (within_update fun _ => .of_same rfl rfl rfl rfl rfl rfl) fun _ => within_inhibitAfterSs _

theorem within_loadFarPointer (sg : Seg) (r : Reg) (m : Mem) : Within k (loadFarPointer sg r m) :=
  within_read fun _ => within_bind (within_effAddr _) fun _ => within_bind (within_memRead _ _ _) fun _ =>
    within_bind (within_memRead _ _ _) fun _ => within_bind (within_loadSeg _ _) fun _ => within_writeReg _ _ _

theorem within_requireIo : Within k requireIo := within_read fun _ => within_require _ _

theorem within_requirePrivilege : Within k requirePrivilege := within_read fun _ => within_require _ _

theorem within_requireV86Iopl : Within k requireV86Iopl := within_read fun _ => within_require _ _

theorem within_requireProtected : Within k requireProtected := within_read fun _ => within_require _ _

theorem within_requireDebugAccess : Within k requireDebugAccess :=
  within_read fun _ => within_ite _
    (within_bind (within_update fun _ => .of_same rfl rfl rfl rfl rfl rfl) fun _ => within_raise _) (within_pure _)

/-! ## Test registers and the coprocessor -/

theorem within_testAttr (x nx : Bool) : Within k (testAttr x nx) := within_ite _ within_drawBit (within_pure _)

theorem within_tlbTestWrite (tr6 tr7 : Dword) : Within k (tlbTestWrite tr6 tr7) :=
  within_bind (within_testAttr _ _) fun _ => within_bind (within_testAttr _ _) fun _ =>
    within_bind (within_testAttr _ _) fun _ => within_ite _
      (within_bind (within_pure _) fun _ => within_setTlb _ _)
      (within_bind (within_bind within_draw fun _ => within_pure _) fun _ => within_setTlb _ _)

theorem within_tlbTestLookup (tr6 : Dword) : Within k (tlbTestLookup tr6) := by
  refine within_read fun s => ?_
  dsimp only
  split
  all_goals exact within_bind within_draw fun _ => within_bind within_draw fun _ =>
    within_update fun _ => .of_same rfl rfl rfl rfl rfl rfl

theorem within_writeTest (x : TReg) (v : Dword) : Within k (writeTest x v) := by
  cases x with
  | tr6 =>
    exact within_bind (within_update fun _ => .of_same rfl rfl rfl rfl rfl rfl) fun _ => within_read fun _ =>
      within_ite _ (within_tlbTestLookup _) (within_tlbTestWrite _ _)
  | tr7 => exact within_update fun _ => .of_same rfl rfl rfl rfl rfl rfl

theorem within_waitForCoprocessor : Within k waitForCoprocessor :=
  within_read fun _ => within_bind (within_setNext _) fun _ => within_setEnding _

theorem OperandRequest.bytes_le (et : Bool) (r : OperandRequest) : r.bytes et ≤ 4096 := by
  cases r <;> simp only [OperandRequest.bytes] <;> split <;> decide

theorem within_transferSpans (sg : Seg) (et : Bool) (off : Dword) (l : List OperandRequest) :
    Within k (transferSpans sg et off l) := by
  induction l generalizing off with
  | nil => exact within_pure _
  | cons r rest ih => exact within_bind (within_segSpan _ _ _ _) fun _ => within_bind (ih _) fun _ => within_pure _

theorem gives_transferSpans (sg : Seg) (et : Bool) (off : Dword) (l : List OperandRequest) :
    Gives (transferSpans sg et off l) fun spans => ∀ sp ∈ spans, InRange sp := by
  induction l generalizing off with
  | nil => exact gives_pure fun _ m => absurd m List.not_mem_nil
  | cons r rest ih =>
    exact gives_bind_of (gives_segSpan _ _ (r.bytes_le et) _) fun sp first => gives_bind_of (ih _) fun sps others =>
      gives_pure (List.forall_mem_cons.mpr ⟨first, others⟩)

theorem within_transferOne (r : OperandRequest) {sp : List Nat} (h : InRange sp) : Within k (transferOne r sp) := by
  cases r with
  | fromMemory _ => exact within_bind (within_loadSpan _) fun _ => within_emit _
  | toMemory _ v => exact within_bind (within_storeSpan h v) fun _ => within_emit _

theorem within_transferAll (l : List OperandRequest) {spans : List (List Nat)} (h : ∀ sp ∈ spans, InRange sp) :
    Within k (transferAll l spans) := by
  induction l generalizing spans with
  | nil => exact within_pure _
  | cons r rest ih =>
    cases spans with
    | nil => exact within_pure _
    | cons sp sps =>
      obtain ⟨first, others⟩ := List.forall_mem_cons.mp h
      exact within_bind (within_transferOne r first) fun _ => ih others

theorem within_coprocAnswer (l : List OperandRequest) : Within k (coprocAnswer l) := by
  unfold coprocAnswer
  split
  · exact within_pure _
  · exact within_draw

theorem within_statusToAx (v : Dword) : Within k (statusToAx v) := within_bind (within_emit _) fun _ => within_writeReg _ _ _

theorem within_escFitted (op sub : BitVec 3) (rm : RM) : Within k (escFitted op sub rm) := by
  have last : Within k (update fun t => { t with ext := { t.ext with requests := [] } }) :=
    within_update fun _ => .of_same rfl rfl rfl rfl rfl rfl
  refine within_read fun s => ?_
  cases rm with
  | reg r =>
    exact within_bind (within_emit _) fun _ => within_bind
      (within_when _ (within_bind (within_coprocAnswer _) fun _ => within_statusToAx _)) fun _ => last
  | mem m =>
    exact within_bind (within_effAddr _) fun _ => within_bind (within_segLinear _ _ _ _) fun _ =>
      within_bind_of (within_transferSpans _ _ _ _) (gives_transferSpans _ _ _ _) fun _ inside =>
      within_bind (within_emit _) fun _ => within_bind (within_transferAll _ inside) fun _ => last

theorem within_escAbsent (op sub : BitVec 3) (rm : RM) : Within k (escAbsent op sub rm) := by
  refine within_ite _ ?_ (within_stop fun ⟨_, h⟩ => nomatch h)
  cases rm with
  | reg r =>
    exact within_bind (within_emit _) fun _ => within_when _ (within_bind within_draw fun _ => within_statusToAx _)
  | mem m =>
    exact within_bind (within_effAddr _) fun _ => within_segSpan_bind (by decide) fun _ inside =>
      within_bind (within_emit _) fun _ => within_bind within_draw fun _ => within_bind (within_emit _) fun _ =>
      within_storeSpan inside _

/-! ## Protection control -/

theorem within_setZf (b : Bool) : Within k (setZf b) := within_updateFlags fun _ => rfl

theorem within_adjustRpl (sel ref : Word) {write : Word → Exec Unit} (h : ∀ v, Within k (write v)) :
    Within k (adjustRpl sel ref write) :=
  within_ite _ (within_bind (h _) fun _ => within_setZf _) (within_setZf _)

theorem within_probe (sel : Word) : Within k (probe sel) := by
  refine within_read fun s => within_ite _ (within_pure _) ?_
  split
  · exact within_pure _
  · exact within_bind (within_readDescAt _) fun _ => within_ite _
      (within_bind (within_setAccessed _ _) fun _ => within_pure _) (within_pure _)

theorem within_probeInto (r : Reg) (rm : RM) (valid : Attr → Bool) (value : Desc → Dword) :
    Within k (probeInto r rm valid value) := by
  refine within_bind within_requireProtected fun _ => within_bind (within_readRM _ _) fun _ =>
    within_bind (within_probe _) fun p => within_read fun s => ?_
  cases p with
  | none => exact within_setZf _
  | some d => exact within_ite _ (within_bind (within_writeReg _ _ _) fun _ => within_setZf _) (within_setZf _)

theorem within_verify (rm : RM) (usable : Attr → Bool) : Within k (verify rm usable) := by
  refine within_bind within_requireProtected fun _ => within_bind (within_readRM _ _) fun _ =>
    within_bind (within_probe _) fun p => ?_
  cases p with
  | none | some _ => exact within_setZf _

theorem within_readTableReg (m : Mem) : Within k (readTableReg m) :=
  within_read fun _ => within_bind (within_effAddr _) fun _ => within_bind (within_memRead _ _ _) fun _ =>
    within_bind (within_memRead _ _ _) fun _ => within_pure _

theorem within_writeTableReg (m : Mem) (g : TableReg) : Within k (writeTableReg m g) :=
  within_read fun _ => within_bind (within_effAddr _) fun _ => within_segSpan_bind (by decide) fun _ low =>
    within_segSpan_bind (by decide) fun _ high => within_bind (within_storeSpan low _) fun _ =>
    within_ite _ (within_storeSpan high _) (within_bind within_draw fun _ => within_storeSpan high _)

theorem within_loadLdt (sel : Word) : Within k (loadLdt sel) :=
  within_ite _ (within_update fun _ => .of_same rfl rfl rfl rfl rfl rfl) <|
    within_bind (within_require _ _) fun _ => within_bind (within_readDesc _ _) fun _ =>
    within_bind (within_require _ _) fun _ => within_bind (within_require _ _) fun _ =>
    within_update fun _ => .of_same rfl rfl rfl rfl rfl rfl

theorem within_loadTaskRegister (sel : Word) : Within k (loadTaskRegister sel) :=
  within_bind (within_require _ _) fun _ => within_bind (within_readDesc _ _) fun _ =>
    within_bind (within_require _ _) fun _ => within_bind (within_require _ _) fun _ =>
    within_bind (within_writeRights _ _) fun _ => within_update fun _ => .of_same rfl rfl rfl rfl rfl rfl

/-! ## Frames and strings -/

theorem within_setByte (c : Cond) (rm : RM) : Within k (setByte c rm) := within_read fun _ => within_writeRM _ _ _

theorem within_copyDisplay (sz : Size) (bp : Dword) (n : Nat) : Within k (copyDisplay sz bp n) := by
  induction n generalizing bp with
  | zero => exact within_pure _
  | succ n ih =>
    exact within_read fun _ => within_bind (within_stackRead _ _) fun _ => within_bind (within_push _ _) fun _ => ih _

theorem within_stepSi (n : Nat) : Within k (stepSi n) := within_update fun _ => .of_same rfl rfl rfl rfl rfl rfl

theorem within_stepDi (n : Nat) : Within k (stepDi n) := within_update fun _ => .of_same rfl rfl rfl rfl rfl rfl

theorem within_stringSource (sz : Size) : Within k (stringSource sz) :=
  within_read fun _ => within_bind (within_memRead _ _ _) fun _ => within_pure _

theorem within_stringDest (sz : Size) : Within k (stringDest sz) :=
  within_read fun _ => within_bind (within_memRead _ _ _) fun _ => within_pure _

/-- What follows the finding of a string destination may use that it lies within the 4 Gbyte. -/
theorem within_stringDestSpan_bind {sz : Size} {f : List Nat → Exec Unit} (h : ∀ sp, InRange sp → Within k (f sp)) :
    Within k (stringDestSpan sz >>= f) :=
  within_bind_of (within_read fun _ => within_segSpan _ _ _ _)
    (gives_bind fun _ => gives_segSpan _ _ (bytes_le sz) _) h

theorem within_cmpsElement (w : Bool) : Within k (cmpsElement w) :=
  within_read fun _ => within_bind (within_stringSource _) fun _ => within_bind (within_stringDest _) fun _ =>
    within_bind (within_updateFlags fun _ => rfl) fun _ => within_bind (within_stepSi _) fun _ => within_stepDi _

theorem within_insElement (w : Bool) : Within k (insElement w) :=
  within_read fun _ => within_bind (within_ioCheck _ _) fun _ => within_stringDestSpan_bind fun _ inside =>
    within_bind (within_ioRead _ _) fun _ => within_bind (within_storeSpan inside _) fun _ => within_stepDi _

theorem within_lodsElement (w : Bool) : Within k (lodsElement w) :=
  within_read fun _ => within_bind (within_stringSource _) fun _ => within_bind (within_writeReg _ _ _) fun _ =>
    within_stepSi _

theorem within_movsElement (w : Bool) : Within k (movsElement w) :=
  within_read fun _ => within_bind (within_stringSource _) fun _ => within_stringDestSpan_bind fun _ inside =>
    within_bind (within_storeSpan inside _) fun _ => within_bind (within_stepSi _) fun _ => within_stepDi _

theorem within_outsElement (w : Bool) : Within k (outsElement w) :=
  within_read fun _ => within_bind (within_ioCheck _ _) fun _ => within_bind (within_stringSource _) fun _ =>
    within_bind (within_ioWrite _ _ _) fun _ => within_stepSi _

theorem within_scasElement (w : Bool) : Within k (scasElement w) :=
  within_read fun _ => within_bind (within_stringDest _) fun _ => within_bind (within_readReg _ _) fun _ =>
    within_bind (within_updateFlags fun _ => rfl) fun _ => within_stepDi _

theorem within_stosElement (w : Bool) : Within k (stosElement w) :=
  within_read fun _ => within_stringDestSpan_bind fun _ inside => within_bind (within_readReg _ _) fun _ =>
    within_bind (within_storeSpan inside _) fun _ => within_stepDi _

theorem within_repeated (compares : Bool) {element : Exec Unit} (h : Within k element) :
    Within k (repeated compares element) :=
  within_read fun _ => within_ite _ h <| within_ite _ (within_pure _) <| within_bind h fun _ =>
    within_bind within_countDown fun _ => within_read fun _ => within_ite _ (within_pure _)
      (within_bind (within_setNext _) fun _ => within_setEnding _)

theorem within_withRep (r : Rep) {x : Exec Unit} (h : Within k x) : Within k (withRep r x) :=
  within_bind (within_update fun _ => .of_same rfl rfl rfl rfl rfl rfl) fun _ => h

end
end Sys2Proof.Machine

/-! The computations that change the mode or the level, and every step. -/

namespace Sys2Proof.Machine

/-! ## What keeps the mode legal -/

/-- A change that keeps what `Steady` says, and a legal mode legal. -/
structure Sound (s t : State) : Prop extends Steady s t where
  legal : s.legalMode → t.legalMode

theorem Sound.refl (s : State) : Sound s s := ⟨Steady.refl s, id⟩

theorem Sound.trans {s t u : State} (h : Sound s t) (g : Sound t u) : Sound s u :=
  ⟨h.toSteady.trans g.toSteady, g.legal ∘ h.legal⟩

/-- In protected mode a mode is legal where VM is set at level 3 alone. -/
theorem legalMode_of_pe {s : State} (pe : s.pe = true) (h : s.flags.vm = true → s.sys.cpl = 3) : s.legalMode :=
  ⟨fun vm => ⟨pe, h vm⟩, fun no => absurd (pe.symm.trans no) (by decide), fun _ => pe⟩

/-- A change that keeps CR0, VM and CPL as far as the mode goes. -/
theorem Kept.sound {s t : State} (h : Kept true s t) : Sound s t := by
  obtain ⟨vm, cpl⟩ := h.level rfl
  refine ⟨h.toSteady, fun legal => ?_⟩
  unfold State.legalMode at *
  rwa [h.pe, h.pg, vm, cpl]

/-- From protected mode, where VM is clear, any change that keeps PE and does not set VM is sound. -/
theorem Kept.sound_of_prot {s t : State} (h : Kept false s t) (prot : s.prot = true) : Sound s t := by
  obtain ⟨pe, vm⟩ : s.pe = true ∧ s.flags.vm = false := by simpa [State.prot] using prot
  exact ⟨h.toSteady, fun _ => legalMode_of_pe (h.pe.trans pe) fun set => by rw [h.vm set] at vm; cases vm⟩

/-- How a computation ends from a state: where it completes the change is sound, and so it is where it stops for one of some
reasons; for any other reason it is steady. -/
def LawfulAt {α : Type} (why : Stop → Prop) (x : Exec α) (s : State) : Prop :=
  (∀ a t, x s = .ok a t → Sound s t) ∧ ∀ e t, x s = .error e t → Steady s t ∧ (why e → Sound s t)

section
variable {α β : Type} {why : Stop → Prop} {s : State}

theorem Within.lawfulAt {x : Exec α} (h : Within true x) : LawfulAt why x s :=
  ⟨fun a t e => ((h s).1 a t e).sound, fun y t e => ⟨((h s).2 y t e).1.toSteady, fun _ => ((h s).2 y t e).1.sound⟩⟩

theorem Within.lawfulAt_prot {x : Exec α} (h : Within false x) (prot : s.prot = true) : LawfulAt why x s :=
  ⟨fun a t e => ((h s).1 a t e).sound_of_prot prot,
    fun y t e => ⟨((h s).2 y t e).1.toSteady, fun _ => ((h s).2 y t e).1.sound_of_prot prot⟩⟩

theorem LawfulAt.bind {x : Exec α} {f : α → Exec β} (hx : LawfulAt why x s)
    (hf : ∀ a t, x s = .ok a t → LawfulAt why (f a) t) : LawfulAt why (x >>= f) s := by
  unfold LawfulAt
  rw [exec_bind_apply]
  cases e : x s with
  | error y t =>
    refine ⟨fun _ _ h => (nomatch h), fun _ _ h => ?_⟩
    cases h
    exact hx.2 y t e
  | ok a t =>
    have first := hx.1 a t e
    have second := hf a t e
    exact ⟨fun b u h => first.trans (second.1 b u h), fun y u h =>
      ⟨first.toSteady.trans (second.2 y u h).1, fun w => first.trans ((second.2 y u h).2 w)⟩⟩

/-- Two branches, and what follows both. -/
theorem within_branch {k : Bool} {c : Prop} [Decidable c] {x y : Exec α} {f : α → Exec β} (hx : Within k x)
    (hy : Within k y) (hf : ∀ a, Within k (f a)) : Within k (if c then x >>= f else y >>= f) :=
  within_ite c (within_bind hx hf) (within_bind hy hf)

/-- A sequence whose first part keeps the mode; what follows may use how it leaves the state. -/
theorem Within.lawfulAt_bind {x : Exec α} {f : α → Exec β} (hx : Within true x)
    (hf : ∀ a t, Kept true s t → LawfulAt why (f a) t) : LawfulAt why (x >>= f) s :=
  hx.lawfulAt.bind fun a t e => hf a t ((hx s).1 a t e)

/-- A sequence whose first part keeps the mode, where what it answers has a property. -/
theorem Within.lawfulAt_bind_of {x : Exec α} {f : α → Exec β} {p : α → Prop} (hx : Within true x) (gives : Gives x p)
    (hf : ∀ a t, p a → Kept true s t → LawfulAt why (f a) t) : LawfulAt why (x >>= f) s :=
  hx.lawfulAt.bind fun a t e => hf a t (gives s a t e) ((hx s).1 a t e)

theorem lawfulAt_read {f : State → Exec α} (h : LawfulAt why (f s) s) : LawfulAt why (getState >>= f) s :=
  within_getState.lawfulAt.bind fun _ _ e => by cases e; exact h

theorem lawfulAt_ite {c : Prop} [Decidable c] {x y : Exec α} (hx : c → LawfulAt why x s) (hy : ¬c → LawfulAt why y s) :
    LawfulAt why (if c then x else y) s := by
  split
  · next h => exact hx h
  · next h => exact hy h

/-- Two branches that keep the mode, and what follows both. -/
theorem lawfulAt_branch {c : Prop} [Decidable c] {x y : Exec α} {f : α → Exec β} (hx : Within true x) (hy : Within true y)
    (hf : ∀ a t, Kept true s t → LawfulAt why (f a) t) : LawfulAt why (if c then x >>= f else y >>= f) s :=
  lawfulAt_ite (fun _ => hx.lawfulAt_bind hf) fun _ => hy.lawfulAt_bind hf

theorem lawfulAt_update {f : State → State} (h : Sound s (f s)) : LawfulAt why (update f) s :=
  ⟨fun _ _ e => by cases e; exact h, fun _ _ e => (nomatch e)⟩

/-- After the commit point every exception is one in the new task (R795). -/
theorem lawfulAt_inNewTask {x : Exec α} (h : LawfulAt (fun _ => True) x s) :
    LawfulAt Stop.InNewTask (mapStop inNewTask x) s := by
  unfold LawfulAt
  rw [mapStop_apply]
  cases e : x s with
  | ok a t => exact ⟨fun _ _ k => by cases k; exact h.1 _ _ e, fun _ _ k => (nomatch k)⟩
  | error y t =>
    refine ⟨fun _ _ k => (nomatch k), fun _ _ k => ?_⟩
    cases k
    exact ⟨(h.2 y t e).1, fun _ => (h.2 y t e).2 trivial⟩

/-- The EXT bit does not move an exception into another task. -/
theorem lawfulAt_addExt {x : Exec α} (src : Source) (h : LawfulAt Stop.InNewTask x s) :
    LawfulAt Stop.InNewTask (mapStop (addExt src) x) s := by
  unfold LawfulAt
  rw [mapStop_apply]
  cases e : x s with
  | ok a t => exact ⟨fun _ _ k => by cases k; exact h.1 _ _ e, fun _ _ k => (nomatch k)⟩
  | error y t =>
    refine ⟨fun _ _ k => (nomatch k), fun _ _ k => ?_⟩
    cases k
    refine ⟨(h.2 y t e).1, fun ⟨z, n⟩ => (h.2 y t e).2 ?_⟩
    cases y with
    | excInNewTask z => exact ⟨z, rfl⟩
    | exc | shutdown | fault | refuse => cases n

theorem Sound.withMatches {t : State} (u : State) (h : Sound s t) : Sound s (t.withMatches u) :=
  ⟨⟨h.wf, h.map, h.tlb, h.pageBase⟩, h.legal⟩

theorem lawfulAt_unmatched {x : Exec α} (h : LawfulAt why x s) : LawfulAt why (unmatched x) s := by
  unfold LawfulAt
  rw [unmatched_apply]
  cases e : x s with
  | ok a t => exact ⟨fun _ _ k => by cases k; exact (h.1 a t e).withMatches s, fun _ _ k => (nomatch k)⟩
  | error y t =>
    refine ⟨fun _ _ k => (nomatch k), fun _ _ k => ?_⟩
    cases k
    have steady := (h.2 y t e).1
    exact ⟨⟨steady.wf, steady.map, steady.tlb, steady.pageBase⟩, fun w => ((h.2 y t e).2 w).withMatches s⟩

end

/-- A computation that is lawful from every state. -/
def Lawful {α : Type} (x : Exec α) : Prop := ∀ s, LawfulAt Stop.InNewTask x s

theorem Within.lawful {α : Type} {x : Exec α} (h : Within true x) : Lawful x := fun _ => h.lawfulAt

theorem Lawful.bind {α β : Type} {x : Exec α} {f : α → Exec β} (hx : Lawful x) (hf : ∀ a, Lawful (f a)) : Lawful (x >>= f) :=
  fun s => (hx s).bind fun a t _ => hf a t

/-! ## Changes of the level -/

theorem within_tssStack (l : BitVec 2) : Within true (tssStack l) :=
  within_read fun _ => within_ite _
    (within_bind (within_require _ _) fun _ => within_bind (within_linRead _ _) fun _ =>
      within_bind (within_linRead _ _) fun _ => within_pure _)
    (within_bind (within_require _ _) fun _ => within_bind (within_linRead _ _) fun _ =>
      within_bind (within_linRead _ _) fun _ => within_pure _)

theorem within_setCpl (l : BitVec 2) : Within false (update fun s => { s with sys := { s.sys with cpl := l } }) :=
  within_update fun _ => ⟨⟨id, rfl, rfl, id⟩, rfl, rfl, id, fun h => nomatch h⟩

theorem within_enterInnerStack (l : BitVec 2) : Within false (enterInnerStack l) :=
  within_bind (within_tssStack l).weaken fun _ => within_bind (within_checkStackSeg _ _ _ _) fun _ =>
    within_bind (within_setSeg _ _) fun _ => within_bind (within_setCpl l) fun _ =>
    within_bind (within_setStackPtr _) fun _ => within_pure _

theorem within_onStackOf {α : Type} (s : State) {x : Exec α} (h : Within false x) : Within false (onStackOf s x) := by
  have change : ∀ f : State → State, (∀ u, f u = { u with
      regs := (f u).regs, segs := (f u).segs, sys := { u.sys with cpl := (f u).sys.cpl } }) → Within false (update f) := by
    intro f hf
    refine within_update fun u => ?_
    rw [hf u]
    exact ⟨⟨id, rfl, rfl, id⟩, rfl, rfl, id, fun h => nomatch h⟩
  exact within_read fun t => within_bind (change _ fun _ => rfl) fun _ => within_bind h fun _ =>
    within_bind (change _ fun _ => rfl) fun _ => within_pure _

theorem within_farCallInner (g c : Desc) : Within false (farCallInner g c) :=
  within_read fun s => within_bind (within_enterInnerStack _) fun _ => within_read fun _ =>
    within_bind (within_checkPushes _ _ _) fun _ => within_bind (within_checkTarget _ _ _) fun _ =>
    within_bind (within_onStackOf s (within_eachGet fun _ => within_peek _ _)) fun _ =>
    within_bind (within_selectorSlot _ _) fun _ => within_claimSlots_bind fun _ inside =>
    within_bind (within_setAccessed _ _) fun _ => within_bind (within_loadCode _ _ _) fun _ =>
    within_bind (within_fillSlots _ inside) fun _ => within_setNext _

theorem within_farCallGate (sel : Word) (g : Desc) : Within false (farCallGate sel g) :=
  within_read fun _ => within_bind (within_gateTarget _ _) fun _ => within_ite _ (within_farCallSame _ _) (within_farCallInner _ _)

theorem within_farReturnOuter (sel : Word) (off : Dword) (d : Desc) (imm : Nat) : Within false (farReturnOuter sel off d imm) :=
  within_read fun _ => within_bind (within_checkFrame _) fun _ => within_bind (within_peek _ _) fun _ =>
    within_bind (within_peek _ _) fun _ => within_bind (within_checkStackSeg _ _ _ _) fun _ =>
    within_bind (within_checkTarget _ _ _) fun _ => within_bind (within_setCpl _) fun _ =>
    within_bind (within_loadCode _ _ _) fun _ => within_bind (within_loadOuterStack _ _ _ _) fun _ =>
    within_bind (within_release _) fun _ => within_bind (within_nullInnerSegs _) fun _ => within_setNext _

theorem lawful_farReturn (imm : Nat) : Lawful (farReturn imm) := by
  refine fun s => lawfulAt_read (lawfulAt_ite (fun prot => ?_) fun _ => (within_farReturnReal _).lawfulAt)
  refine Within.lawfulAt_prot ?_ prot
  exact within_bind (within_checkFrame _) fun _ => within_bind (within_peek _ _) fun _ => within_bind (within_peek _ _) fun _ =>
    within_bind (within_returnTarget _) fun _ => within_ite _
      (within_bind (within_checkTarget _ _ _) fun _ => within_bind (within_loadCode _ _ _) fun _ =>
        within_bind (within_release _) fun _ => within_setNext _)
      (within_farReturnOuter _ _ _ _)

/-! ## The task switch -/

theorem within_rightsSpan (changes : Bool) (sel : Word) : Within true (rightsSpan changes sel) := by
  refine within_read fun s => ?_
  split
  · exact within_ite _ (within_linSpan _ _ _ _) (within_pure _)
  · exact within_pure _

theorem gives_rightsSpan (changes : Bool) (sel : Word) : Gives (rightsSpan changes sel) InRange := by
  refine gives_bind fun s => ?_
  split
  · exact gives_ite (gives_linSpan _ (by decide) _ _) (gives_pure inRange_nil)
  · exact gives_pure inRange_nil

theorem within_writeBusy {sp : List Nat} (h : InRange sp) (busy : Bool) : Within true (writeBusy sp busy) :=
  within_bind (within_loadSpan _) fun _ => within_storeSpan h _

theorem within_saveTask32 {sp : List Nat} (h : InRange sp) (eip flags : Dword) : Within true (saveTask32 sp eip flags) :=
  within_read fun _ => within_bind (within_storeSpan (h.field _ _) _) fun _ =>
    within_bind (within_storeSpan (h.field _ _) _) fun _ =>
    within_bind (within_eachDo fun _ => within_storeSpan (h.field _ _) _) fun _ =>
    within_eachDo fun _ => within_storeSpan (h.field _ _) _

theorem within_saveTask16 {sp : List Nat} (h : InRange sp) (eip flags : Dword) : Within true (saveTask16 sp eip flags) :=
  within_read fun _ => within_bind (within_storeSpan (h.field _ _) _) fun _ =>
    within_bind (within_storeSpan (h.field _ _) _) fun _ =>
    within_bind (within_eachDo fun _ => within_storeSpan (h.field _ _) _) fun _ =>
    within_eachDo fun _ => within_storeSpan (h.field _ _) _

theorem within_loadImage32 (sp : List Nat) : Within true (loadImage32 sp) :=
  within_bind (within_loadSpan _) fun _ => within_bind (within_loadSpan _) fun _ => within_bind (within_loadSpan _) fun _ =>
    within_bind (within_eachGet fun _ => within_loadSpan _) fun _ =>
    within_bind (within_eachGet fun _ => within_loadSpan _) fun _ =>
    within_bind (within_loadSpan _) fun _ => within_bind (within_loadSpan _) fun _ => within_pure _

theorem within_loadImage16 (sp : List Nat) : Within true (loadImage16 sp) :=
  within_bind (within_loadSpan _) fun _ => within_bind (within_loadSpan _) fun _ =>
    within_bind (within_eachGet fun _ => within_loadSpan _) fun _ =>
    within_bind (within_eachGet fun _ => within_loadSpan _) fun _ =>
    within_bind (within_loadSpan _) fun _ => within_pure _

theorem within_loadTaskLdt {k : Bool} (sel : Word) : Within k (loadTaskLdt sel) :=
  within_ite _ (within_pure _) <| within_bind (within_require _ _) fun _ => within_bind (within_readDesc _ _) fun _ =>
    within_bind (within_require _ _) fun _ => within_update fun _ => .of_same rfl rfl rfl rfl rfl rfl

theorem within_loadTaskCode (sel : Word) : Within false (loadTaskCode sel) :=
  within_bind (within_setCpl _) fun _ => within_bind (within_require _ _) fun _ => within_bind (within_readDesc _ _) fun _ =>
    within_bind (within_require _ _) fun _ => within_bind (within_require _ _) fun _ =>
    within_bind (within_require _ _) fun _ => within_bind (within_setAccessed _ _) fun _ => within_setSeg _ _

/-- The load of V86 segments never stops; beside the segment registers it sets CPL. -/
theorem loadV86Segs_apply (l : List Word) (s : State) :
    ∃ g, loadV86Segs l s = .ok () { s with segs := g, sys := { s.sys with cpl := 3 } } := by
  have loads : ∀ (l : List (Seg × Word)) s,
      ∃ g, eachDo l (fun p => setSeg p.1 (segV86 p.2)) s = .ok () { s with segs := g } := by
    intro l
    induction l with
    | nil => exact fun s => ⟨s.segs, rfl⟩
    | cons p rest ih =>
      intro s
      obtain ⟨g, done⟩ := ih { s with segs := s.segs.set p.1 (segV86 p.2) }
      exact ⟨g, by rw [eachDo_cons, setSeg_apply]; exact done⟩
  obtain ⟨g, done⟩ := loads (tssSegs.zip l) s
  exact ⟨g, by unfold loadV86Segs; rw [exec_bind_apply, done]; rfl⟩

/-- Bits 11:0 of a page base are 0 (R57). -/
theorem pageBase_mask (v : Dword) : (v &&& 0xFFFFF000) &&& 0xFFF = 0 := by
  rw [BitVec.and_assoc]
  exact BitVec.and_zero

theorem Kept.of_cr3 {k : Bool} (s : State) (v : Dword) :
    Kept k s { s with sys := { s.sys with cr3 := v &&& 0xFFFFF000 } } :=
  ⟨⟨id, rfl, rfl, fun _ => pageBase_mask v⟩, rfl, rfl, id, fun _ => ⟨rfl, rfl⟩⟩

/-- The load of V86 segments leaves a legal mode wherever protection is enabled: CPL is 3. -/
theorem lawfulAt_loadV86Segs {why : Stop → Prop} {s : State} (pe : s.pe = true) (l : List Word) :
    LawfulAt why (loadV86Segs l) s := by
  obtain ⟨g, done⟩ := loadV86Segs_apply l s
  refine ⟨fun _ u e => ?_, fun _ u e => ?_⟩
  · rw [done] at e
    cases e
    exact ⟨⟨id, rfl, rfl, id⟩, fun _ => legalMode_of_pe pe fun _ => rfl⟩
  · rw [done] at e
    cases e

/-- After the commit point of a task switch every change is sound, whether the new task is entered or an exception is taken
in it (R795); here of an image without CR3. -/
theorem lawfulAt_resumeTask_of_none {s : State} (pe : s.pe = true) {img : TaskImage} (noCr3 : img.cr3 = none) (wide : Bool)
    (kind : SwitchKind) : LawfulAt (fun _ => True) (resumeTask img wide kind) s := by
  have trap {k : Bool} : Within k (when_ img.t
      (update fun s => { s with events := { s.events with traps := { s.events.traps with bt := true } } })) :=
    within_when _ (within_update fun _ => .of_same rfl rfl rfl rfl rfl rfl)
  refine lawfulAt_read ?_
  simp only [noCr3]
  refine (lawfulAt_update ⟨⟨id, rfl, rfl, id⟩, fun _ => legalMode_of_pe pe fun vm => if_pos vm⟩).bind fun _ t loaded => ?_
  have tpe : t.pe = true := by
    cases loaded
    exact pe
  have tvm : t.flags.vm = (Flags.ofImage (if wide then img.flags else img.flags &&& 0xFFFF)).vm := by
    cases loaded
    rfl
  refine (within_setNext img.eip).lawfulAt_bind fun _ u ku => (within_loadTaskLdt img.ldt).lawfulAt_bind fun _ v kv => ?_
  have vpe : v.pe = true := kv.pe.trans (ku.pe.trans tpe)
  refine lawfulAt_ite (fun _ => (lawfulAt_loadV86Segs vpe img.segs).bind fun _ _ _ => trap.lawfulAt) fun notVm => ?_
  refine Within.lawfulAt_prot ?_ ?_
  · exact within_bind (within_loadTaskCode _) fun _ => within_read fun _ => within_bind (within_loadStackSeg _ _ _ _) fun _ =>
      within_bind (within_loadDataSeg _ _ _) fun _ => within_bind (within_loadDataSeg _ _ _) fun _ =>
      within_bind (within_loadDataSeg _ _ _) fun _ => within_bind (within_loadDataSeg _ _ _) fun _ => trap
  · rw [State.prot, vpe, (kv.level rfl).1, (ku.level rfl).1, tvm]
    simpa using notVm

/-- CR3 of the new task is loaded before the rest of its image (R795 step 5). -/
theorem resumeTask_cr3 {img : TaskImage} {v : Dword} (hasCr3 : img.cr3 = some v) (wide : Bool) (kind : SwitchKind) :
    resumeTask img wide kind = (do
      let s ← getState
      when_ (v &&& 0xFFFFF000 != s.sys.cr3) tlbFlush
      update fun s => { s with sys := { s.sys with cr3 := v &&& 0xFFFFF000 } }
      resumeTask { img with cr3 := none } wide kind) := by
  unfold resumeTask
  simp only [hasCr3]
  rfl

theorem lawfulAt_resumeTask {s : State} (pe : s.pe = true) (img : TaskImage) (wide : Bool) (kind : SwitchKind) :
    LawfulAt (fun _ => True) (resumeTask img wide kind) s := by
  cases cr3 : img.cr3 with
  | none => exact lawfulAt_resumeTask_of_none pe cr3 wide kind
  | some v =>
    rw [resumeTask_cr3 cr3]
    exact lawfulAt_read <| (within_when _ within_tlbFlush).lawfulAt_bind fun _ t kt =>
      (within_update fun u => Kept.of_cr3 u v).lawfulAt_bind fun _ u ku =>
      lawfulAt_resumeTask_of_none (ku.pe.trans (kt.pe.trans pe)) rfl wide kind

/-- A task switch is sound where protection is enabled (R795). -/
theorem lawfulAt_taskSwitch {s : State} (pe : s.pe = true) (tsel : Word) (t : Desc) (kind : SwitchKind) (retEip : Dword) :
    LawfulAt Stop.InNewTask (taskSwitch tsel t kind retEip) s := by
  have small (c : Bool) {m n : Nat} (hm : m ≤ 4096) (hn : n ≤ 4096) : (if c then m else n) ≤ 4096 := by
    cases c <;> assumption
  have setTs : ∀ (u : State) (tr : SegReg),
      Kept true u { u with sys := { u.sys with tr := tr, cr0 := u.sys.cr0 ||| 8 } } := fun u tr =>
    ⟨⟨id, rfl, rfl, id⟩, by simp [State.pe], by simp [State.pg], id, fun _ => ⟨rfl, rfl⟩⟩
  refine lawfulAt_read ?_
  refine (within_require _ _).lawfulAt_bind fun _ _ k1 => ?_
  refine (within_linSpan _ _ _ _).lawfulAt_bind_of (gives_linSpan _ (small _ (by decide) (by decide)) _ _)
    fun oldSpan _ inOld k2 => ?_
  refine (within_linSpan _ _ _ _).lawfulAt_bind_of (gives_linSpan _ (by decide) _ _) fun linkSpan _ inLink k3 => ?_
  refine (within_linSpan _ _ _ _).lawfulAt_bind fun newSpan _ k4 => ?_
  refine (within_rightsSpan _ _).lawfulAt_bind_of (gives_rightsSpan _ _) fun oldRights _ inOldRights k5 => ?_
  refine (within_rightsSpan _ _).lawfulAt_bind_of (gives_rightsSpan _ _) fun newRights _ inNewRights k6 => ?_
  have upe := k6.pe.trans (k5.pe.trans (k4.pe.trans (k3.pe.trans (k2.pe.trans (k1.pe.trans pe)))))
  refine lawfulAt_branch (within_saveTask32 inOld _ _) (within_saveTask16 inOld _ _) fun _ _ k7 => ?_
  refine lawfulAt_branch (within_storeSpan inLink _) (within_writeBusy inOldRights _) fun _ _ k8 => ?_
  refine (within_when _ (within_writeBusy inNewRights _)).lawfulAt_bind fun _ _ k9 => ?_
  refine (within_update fun u => setTs u _).lawfulAt_bind fun _ _ k10 => ?_
  refine lawfulAt_branch (within_loadImage32 _) (within_loadImage16 _) fun _ _ k11 => ?_
  exact lawfulAt_inNewTask (lawfulAt_resumeTask
    (k11.pe.trans (k10.pe.trans (k9.pe.trans (k8.pe.trans (k7.pe.trans upe))))) _ _ _)

theorem within_readTaskTarget (tsel : Word) : Within true (readTaskTarget tsel) :=
  within_bind (within_require _ _) fun _ => within_bind (within_readDesc _ _) fun _ =>
    within_bind (within_require _ _) fun _ => within_bind (within_require _ _) fun _ => within_pure _

theorem lawful_checkNewTask : Lawful checkNewTask := fun _ =>
  lawfulAt_read (lawfulAt_inNewTask (within_require _ _).lawfulAt)

/-! ## Far transfers -/

theorem lawfulAt_farTask {s : State} (pe : s.pe = true) (kind : SwitchKind) (sel : Word) (d : Desc) :
    LawfulAt Stop.InNewTask (farTask kind sel d) s := by
  have after (t : State) : LawfulAt Stop.InNewTask (do checkNewTask; setEnding .rfLoaded) t :=
    (lawful_checkNewTask t).bind fun _ _ _ => (within_setEnding _).lawfulAt
  refine lawfulAt_read ((within_require _ _).lawfulAt_bind fun _ _ k1 => (within_require _ _).lawfulAt_bind fun _ _ k2 => ?_)
  have upe := k2.pe.trans (k1.pe.trans pe)
  refine lawfulAt_ite (fun _ => ?gate) fun _ => ?tss
  case gate =>
    exact (within_readTaskTarget _).lawfulAt_bind fun _ _ k3 =>
      (lawfulAt_taskSwitch (k3.pe.trans upe) _ _ _ _).bind fun _ t _ => after t
  case tss =>
    exact (within_require _ _).lawfulAt_bind fun _ _ k3 =>
      (lawfulAt_taskSwitch (k3.pe.trans upe) _ _ _ _).bind fun _ t _ => after t

/-- Protected mode has PE set and VM clear (R841). -/
theorem State.prot_iff (s : State) : s.prot = true ↔ s.pe = true ∧ s.flags.vm = false := by simp [State.prot]

theorem Kept.prot {s t : State} (h : Kept true s t) : t.prot = s.prot := by
  rw [State.prot, State.prot, h.pe, (h.level rfl).1]

theorem lawful_farJump (sel : Word) (off : Dword) : Lawful (farJump sel off) := by
  refine fun s => lawfulAt_read (lawfulAt_ite (fun prot => ?_) fun _ => (within_farJumpReal _ _).lawfulAt)
  refine (within_farDescriptor _).lawfulAt_bind fun d t kept => ?_
  exact lawfulAt_ite (fun _ => (within_farJumpCode _ _ _).lawfulAt) fun _ =>
    lawfulAt_ite (fun _ => (within_farJumpGate _ _).lawfulAt) fun _ =>
    lawfulAt_ite (fun _ => lawfulAt_farTask (t.prot_iff.mp (kept.prot.trans prot)).1 _ _ _) fun _ =>
    (within_raise _).lawfulAt

theorem lawful_farCall (sel : Word) (off : Dword) : Lawful (farCall sel off) := by
  refine fun s => lawfulAt_read (lawfulAt_ite (fun prot => ?_) fun _ => (within_farCallReal _ _).lawfulAt)
  refine (within_farDescriptor _).lawfulAt_bind fun d t kept => ?_
  exact lawfulAt_ite (fun _ => (within_farCallCode _ _ _).lawfulAt) fun _ =>
    lawfulAt_ite (fun _ => (within_farCallGate _ _).lawfulAt_prot (kept.prot.trans prot)) fun _ =>
    lawfulAt_ite (fun _ => lawfulAt_farTask (t.prot_iff.mp (kept.prot.trans prot)).1 _ _ _) fun _ =>
    (within_raise _).lawfulAt

/-! ## Deliveries -/

theorem within_clearVm {f : Flags → Flags} (h : ∀ g, (f g).vm = false) : Within false (updateFlags f) :=
  within_update fun s => ⟨⟨id, rfl, rfl, id⟩, rfl, rfl, fun set => by simp [h] at set, fun e => nomatch e⟩

theorem within_deliverGate (ev : Event) (g : Desc) : Within false (deliverGate ev g) := by
  have enters (clearIe : Bool) (off : Dword) : Within false (do
      updateFlags fun f => { f with tf := false, nt := false, rf := false, vm := false, ie := f.ie && !clearIe }
      setNext off) := within_bind (within_clearVm fun _ => rfl) fun _ => within_setNext _
  refine within_read fun s => within_bind (within_require _ _) fun _ => within_bind (within_readDesc _ _) fun _ =>
    within_bind (within_require _ _) fun _ => within_bind (within_require _ _) fun _ => within_bind (within_require _ _) fun _ =>
    within_bind (within_selectorSlot _ _) fun _ => within_bind (within_codeValues _ _) fun _ => within_ite _ ?inner ?same
  case inner =>
    refine within_bind (within_clearVm fun _ => rfl) fun _ => within_bind (within_enterInnerStack _) fun st => ?_
    exact within_branch (within_v86Values _ _) (within_pure _) fun _ => within_bind (within_selectorSlot _ _) fun _ =>
      within_read fun _ => within_bind (within_checkPushes _ _ _) fun _ => within_bind (within_checkTarget _ _ _) fun _ =>
      within_claimSlots_bind fun _ inside => within_bind (within_setAccessed _ _) fun _ =>
      within_bind (within_loadCode _ _ _) fun _ => within_bind (within_fillSlots _ inside) fun _ =>
      within_bind (within_when _ within_nullDataSegs) fun _ => enters _ _
  case same =>
    exact within_bind (within_checkPushes _ _ _) fun _ => within_bind (within_checkTarget _ _ _) fun _ =>
      within_claimSlots_bind fun _ inside => within_bind (within_loadCode _ _ _) fun _ =>
      within_bind (within_fillSlots _ inside) fun _ => enters _ _

/-- What every state has in which a computation completes. -/
def Leaves {α : Type} (x : Exec α) (q : State → Prop) : Prop := ∀ s a t, x s = .ok a t → q t

theorem leaves_bind {α β : Type} {x : Exec α} {f : α → Exec β} {q : State → Prop} (h : ∀ a, Leaves (f a) q) :
    Leaves (x >>= f) q := by
  intro s b t e
  obtain ⟨a, u, _, hf⟩ := exec_bind_ok e
  exact h a u b t hf

theorem leaves_ite {α : Type} {c : Prop} [Decidable c] {x y : Exec α} {q : State → Prop} (hx : Leaves x q) (hy : Leaves y q) :
    Leaves (if c then x else y) q := by
  split
  · exact hx
  · exact hy

/-- A gate leads out of V86 mode (R755). -/
theorem leaves_deliverGate (ev : Event) (g : Desc) : Leaves (deliverGate ev g) fun t => t.flags.vm = false := by
  have enters (clearIe : Bool) (off : Dword) : Leaves (do
      updateFlags fun f => { f with tf := false, nt := false, rf := false, vm := false, ie := f.ie && !clearIe }
      setNext off) fun t => t.flags.vm = false := fun s _ t e => by cases e; rfl
  refine leaves_bind fun s => leaves_bind fun _ => leaves_bind fun _ => leaves_bind fun _ => leaves_bind fun _ =>
    leaves_bind fun _ => leaves_bind fun _ => leaves_bind fun _ => leaves_ite ?inner ?same
  case inner =>
    have pushed {x : Exec (List Dword)} {f : List Dword → Exec Unit} (h : ∀ l, Leaves (f l) fun t => t.flags.vm = false) :
        Leaves (x >>= f) fun t => t.flags.vm = false := leaves_bind h
    refine leaves_bind fun _ => leaves_bind fun _ => leaves_ite (pushed fun _ => ?_) (pushed fun _ => ?_)
    all_goals
      exact leaves_bind fun _ => leaves_bind fun _ => leaves_bind fun _ => leaves_bind fun _ => leaves_bind fun _ =>
        leaves_bind fun _ => leaves_bind fun _ => leaves_bind fun _ => leaves_bind fun _ => enters _ _
  case same =>
    exact leaves_bind fun _ => leaves_bind fun _ => leaves_bind fun _ => leaves_bind fun _ => leaves_bind fun _ => enters _ _

theorem lawfulAt_deliverGate {s : State} (pe : s.pe = true) (ev : Event) (g : Desc) :
    LawfulAt Stop.InNewTask (deliverGate ev g) s := by
  refine ⟨fun a t e => ?_, fun y t e => ?_⟩
  · have kept := (within_deliverGate ev g s).1 a t e
    refine ⟨kept.toSteady, fun _ => legalMode_of_pe (kept.pe.trans pe) fun vm => ?_⟩
    rw [leaves_deliverGate ev g s a t e] at vm
    cases vm
  · obtain ⟨kept, notNew⟩ := (within_deliverGate ev g s).2 y t e
    exact ⟨kept.toSteady, fun new => absurd new notNew⟩

theorem lawfulAt_deliverTask {s : State} (pe : s.pe = true) (ev : Event) (g : Desc) :
    LawfulAt Stop.InNewTask (deliverTask ev g) s := by
  refine (within_readTaskTarget _).lawfulAt_bind fun t _ k1 =>
    (within_updateFlags (f := fun f => { f with rf := ev.rf }) fun _ => rfl).lawfulAt_bind fun _ _ k2 => ?_
  refine (lawfulAt_taskSwitch (k2.pe.trans (k1.pe.trans pe)) _ _ _ _).bind fun _ _ _ => ?_
  refine (within_when _ (within_updateFlags (f := fun f => { f with ie := false }) fun _ => rfl)).lawfulAt_bind fun _ _ _ =>
    (within_codeValues _ _).lawfulAt_bind fun _ _ _ => ?_
  have pushes (values : List Dword) : Within true (do
      let slots ← claimSlots (gateSize t.attr).bytes values
      fillSlots slots values) := within_claimSlots_bind fun _ inside => within_fillSlots _ inside
  exact (lawfulAt_inNewTask (pushes _).lawfulAt).bind fun _ u _ => lawful_checkNewTask u

theorem lawfulAt_deliverProtected {s : State} (pe : s.pe = true) (ev : Event) :
    LawfulAt Stop.InNewTask (deliverProtected ev) s := by
  refine lawfulAt_read ((within_require _ _).lawfulAt_bind fun _ _ k1 => (within_readDescAt _).lawfulAt_bind fun g _ k2 =>
    (within_require _ _).lawfulAt_bind fun _ _ k3 => (within_require _ _).lawfulAt_bind fun _ _ k4 =>
    (within_require _ _).lawfulAt_bind fun _ _ k5 => ?_)
  have upe := k5.pe.trans (k4.pe.trans (k3.pe.trans (k2.pe.trans (k1.pe.trans pe))))
  exact lawfulAt_ite (fun _ => lawfulAt_deliverTask upe ev g) fun _ => lawfulAt_deliverGate upe ev g

theorem lawful_deliver (nested : Bool) (ev : Event) : Lawful (deliver nested ev) := by
  refine fun s => lawfulAt_read (LawfulAt.bind ?_ fun _ _ _ => (within_setEnding _).lawfulAt)
  exact lawfulAt_unmatched (lawfulAt_addExt _ (lawfulAt_ite (fun pe => lawfulAt_deliverProtected pe ev) fun _ =>
    (within_deliverReal _ _).lawfulAt))

theorem lawful_softwareInterrupt (vector : Byte) : Lawful (softwareInterrupt vector) := fun s =>
  lawfulAt_read (lawful_deliver _ _ s)

/-! ## Returns from an interrupt -/

/-- The return to V86 mode sets CPL to 3 with VM (R651). -/
theorem lawfulAt_iretToV86 {s : State} (pe : s.pe = true) (off img : Dword) (sel : Word) :
    LawfulAt Stop.InNewTask (iretToV86 off img sel) s := by
  refine (within_checkFrame _).lawfulAt_bind fun _ _ k1 => (within_peek _ _).lawfulAt_bind fun esp _ k2 =>
    (within_peek _ _).lawfulAt_bind fun ss _ k3 => (within_peek _ _).lawfulAt_bind fun es _ k4 =>
    (within_peek _ _).lawfulAt_bind fun ds _ k5 => (within_peek _ _).lawfulAt_bind fun fs _ k6 =>
    (within_peek _ _).lawfulAt_bind fun gs t k7 => ?_
  have tpe := k7.pe.trans (k6.pe.trans (k5.pe.trans (k4.pe.trans (k3.pe.trans (k2.pe.trans (k1.pe.trans pe))))))
  refine (lawfulAt_loadV86Segs tpe _).bind fun _ u loaded => ?_
  obtain ⟨g, done⟩ := loadV86Segs_apply [low16 es, sel, low16 ss, low16 ds, low16 fs, low16 gs] t
  rw [done] at loaded
  cases loaded
  exact (lawfulAt_update ⟨⟨id, rfl, rfl, id⟩, fun _ => legalMode_of_pe tpe fun _ => rfl⟩).bind fun _ _ _ =>
    (within_setNext _).lawfulAt

theorem lawfulAt_iretProtected {s : State} (prot : s.prot = true) : LawfulAt Stop.InNewTask iretProtected s := by
  refine lawfulAt_read ((within_checkFrame _).lawfulAt_bind fun _ _ k1 => (within_peek _ _).lawfulAt_bind fun off _ k2 =>
    (within_peek _ _).lawfulAt_bind fun selv _ k3 => (within_peek _ _).lawfulAt_bind fun img t k4 => ?_)
  have tprot : t.prot = true := k4.prot.trans (k3.prot.trans (k2.prot.trans (k1.prot.trans prot)))
  refine lawfulAt_ite (fun _ => lawfulAt_iretToV86 (t.prot_iff.mp tprot).1 _ _ _) fun _ => Within.lawfulAt_prot ?_ tprot
  refine within_bind (within_returnTarget _) fun _ => within_ite _ ?same ?outer
  case same =>
    exact within_bind (within_checkTarget _ _ _) fun _ => within_bind (within_loadCode _ _ _) fun _ =>
      within_bind (within_updateFlags fun _ => rfl) fun _ => within_bind (within_release _) fun _ => within_setNext _
  case outer =>
    exact within_bind (within_checkFrame _) fun _ => within_bind (within_peek _ _) fun _ => within_bind (within_peek _ _) fun _ =>
      within_bind (within_checkStackSeg _ _ _ _) fun _ => within_bind (within_checkTarget _ _ _) fun _ =>
      within_bind (within_updateFlags fun _ => rfl) fun _ => within_bind (within_setCpl _) fun _ =>
      within_bind (within_loadCode _ _ _) fun _ => within_bind (within_loadOuterStack _ _ _ _) fun _ =>
      within_bind (within_nullInnerSegs _) fun _ => within_setNext _

theorem lawfulAt_iretTask {s : State} (pe : s.pe = true) : LawfulAt Stop.InNewTask iretTask s := by
  refine lawfulAt_read ((within_linRead _ _).lawfulAt_bind fun _ _ k1 => (within_require _ _).lawfulAt_bind fun _ _ k2 =>
    (within_readDesc _ _).lawfulAt_bind fun _ _ k3 => (within_require _ _).lawfulAt_bind fun _ _ k4 =>
    (within_require _ _).lawfulAt_bind fun _ _ k5 => ?_)
  exact (lawfulAt_taskSwitch (k5.pe.trans (k4.pe.trans (k3.pe.trans (k2.pe.trans (k1.pe.trans pe))))) _ _ _ _).bind
    fun _ t _ => lawful_checkNewTask t

theorem lawful_interruptReturn : Lawful interruptReturn := by
  have done (t : State) : LawfulAt Stop.InNewTask (do
      update fun s => { s with events := { s.events with nmiInService := false } }
      setEnding .rfLoaded) t :=
    Within.lawfulAt (within_bind (within_update fun _ => .of_same rfl rfl rfl rfl rfl rfl) fun _ => within_setEnding _)
  refine fun s => lawfulAt_read ((within_require _ _).lawfulAt_bind fun _ t k1 => ?_)
  refine lawfulAt_ite (fun _ => within_iretReal.lawfulAt.bind fun _ u _ => done u) fun notReal => ?_
  have prot : s.prot = true := by simpa [State.prot] using notReal
  have tprot : t.prot = true := k1.prot.trans prot
  exact lawfulAt_ite
    (fun _ => (lawfulAt_iretTask (t.prot_iff.mp tprot).1).bind fun _ u _ => done u) fun _ =>
    (lawfulAt_iretProtected tprot).bind fun _ u _ => done u

/-! ## Writes of CR0 -/

/-- CR0 written at level 0 outside V86 mode, with paging only in protected mode (R54, R664). -/
theorem sound_setCr0 {s : State} {v : Dword} (level0 : s.privileged = true)
    (paging : s.legalMode → v.getLsbD 31 = true → v.getLsbD 0 = true) :
    Sound s { s with sys := { s.sys with cr0 := v, cpl := if s.pe then s.sys.cpl else 0 } } := by
  refine ⟨⟨id, rfl, rfl, id⟩, fun legal => ?_⟩
  have ⟨v86, real, _⟩ := legal
  have cpl : (if s.pe then s.sys.cpl else 0) = 0 := by
    cases pe : s.pe
    · rfl
    · rcases s.privileged_iff.mp level0 with no | ⟨_, zero⟩
      · rw [pe] at no
        cases no
      · exact zero
  have vm : s.flags.vm = false := by
    rcases s.privileged_iff.mp level0 with no | ⟨clear, _⟩
    · by_contra set
      have pe := (v86 (Bool.eq_true_of_not_eq_false set)).1
      rw [pe] at no
      cases no
    · exact clear
  exact ⟨fun set => absurd (vm.symm.trans set) (by decide), fun _ => cpl, paging legal⟩

theorem gives_requirePrivilege {s t : State} (h : requirePrivilege s = .ok () t) : t = s ∧ s.privileged = true := by
  rw [requirePrivilege_apply] at h
  obtain ⟨c, e⟩ := require_ok h
  exact ⟨e, c⟩

theorem lawfulAt_writeControl {s : State} (level0 : s.privileged = true) (x : CReg) (v : Dword) :
    LawfulAt Stop.InNewTask (writeControl x v) s := by
  cases x with
  | cr0 =>
    refine (within_require _ _).lawfulAt.bind fun _ t e => ?_
    obtain ⟨allowed, rfl⟩ := require_ok e
    refine lawfulAt_update (sound_setCr0 level0 fun _ pg => ?_)
    rw [pg] at allowed
    simpa using allowed
  | cr2 => exact Within.lawfulAt (within_update fun _ => .of_same rfl rfl rfl rfl rfl rfl)
  | cr3 => exact (within_bind (within_update fun u => Kept.of_cr3 u v) fun _ => within_tlbFlush).lawfulAt

/-! ## Steps -/

/-- A step that goes on keeps what `Sound` says, and ends between two instructions. -/
def SoundOutcome (s : State) (o : Host.Outcome State Fault Refusal) : Prop := ∀ t, o = .next t → Sound s t ∧ t.between

theorem soundOutcome_next {s t : State} (h : Sound s t) (between : t.between) : SoundOutcome s (.next t) := by
  intro u e
  cases e
  exact ⟨h, between⟩

theorem SoundOutcome.after {s t : State} {o : Host.Outcome State Fault Refusal} (h : Sound s t) (k : SoundOutcome t o) :
    SoundOutcome s o := fun u e => ⟨h.trans (k u e).1, (k u e).2⟩

theorem Sound.retire {s t : State} (h : Sound s t) (tf : Bool) : Sound s (retire tf t) := by
  refine h.trans ⟨⟨id, rfl, rfl, id⟩, fun legal => ?_⟩
  have vm : (Machine.retire tf t).flags.vm = t.flags.vm := by
    rw [retire_flags]
    split <;> rfl
  unfold State.legalMode at *
  rwa [vm]

theorem Sound.settle {s t : State} (h : Sound s t) : Sound s (settle t) := h.trans ⟨⟨id, rfl, rfl, id⟩, id⟩

theorem Sound.enterShutdown {s t : State} (h : Sound s t) : Sound s (enterShutdown t) := h.trans ⟨⟨id, rfl, rfl, id⟩, id⟩

/-- What R723 lets stand is steady, and the mode is the one to go back to. -/
theorem Steady.rollback {s t : State} (h : Steady s t) : Sound s (rollback s t) := ⟨⟨h.wf, h.map, h.tlb, id⟩, id⟩

theorem soundOutcome_deliverChain (fuel : Nat) (nested again : Bool) (ev : Event) (s : State) :
    SoundOutcome s (deliverChain fuel nested again ev s) := by
  induction fuel generalizing nested again ev s with
  | zero => exact soundOutcome_next (Sound.refl s).enterShutdown rfl
  | succ n ih =>
    have ends := lawful_deliver nested ev s
    rw [deliverChain]
    split
    · next e => exact soundOutcome_next (ends.1 _ _ e).settle rfl
    · next e =>
      have back := (ends.2 _ _ e).1.rollback
      dsimp only
      split
      · exact (ih _ _ _ _).after back
      · exact soundOutcome_next back.enterShutdown rfl
    · next e =>
      have inNew := (ends.2 _ _ e).2 ⟨_, rfl⟩
      split
      · exact (ih _ _ _ _).after inNew
      · exact soundOutcome_next inNew.enterShutdown rfl
    · next e => exact soundOutcome_next (ends.2 _ _ e).1.rollback.enterShutdown rfl
    · exact fun _ e => nomatch e
    · exact fun _ e => nomatch e

theorem soundOutcome_takeEvent (ev : Event) (s : State) : SoundOutcome s (takeEvent ev s) :=
  soundOutcome_deliverChain _ _ _ _ _

theorem soundOutcome_afterStop {s t : State} {x : Stop} (steady : Steady s t) (inNew : x.InNewTask → Sound s t) :
    SoundOutcome s (afterStop s x t) := by
  cases x with
  | exc e => exact (soundOutcome_takeEvent _ _).after steady.rollback
  | excInNewTask e => exact (soundOutcome_takeEvent _ _).after (inNew ⟨e, rfl⟩)
  | shutdown => exact soundOutcome_next steady.rollback.enterShutdown rfl
  | fault | refuse => exact fun _ e => nomatch e

theorem soundOutcome_runInstr {body : Exec Unit} {s : State} (h : LawfulAt Stop.InNewTask body s) :
    SoundOutcome s (runInstr body s) := by
  unfold runInstr
  split
  · next e => exact soundOutcome_next ((h.1 _ _ e).retire _) rfl
  · next e => exact soundOutcome_afterStop (h.2 _ _ e).1 (h.2 _ _ e).2

/-- An instruction that keeps the mode. -/
theorem Within.soundOutcome {body : Exec Unit} (h : Within true body) (s : State) : SoundOutcome s (runInstr body s) :=
  soundOutcome_runInstr h.lawfulAt

end Sys2Proof.Machine

/-! Every instruction keeps what a step keeps: one lemma for each instruction that is not one shared operation. -/

namespace Sys2Proof.Machine

/-- The machine status word at level 0 keeps PG, and PE once it is set (R695). -/
theorem withMachineStatus_paging {cr0 : Dword} (v : Word) (h : cr0.getLsbD 31 = true → cr0.getLsbD 0 = true) :
    (withMachineStatus cr0 v).getLsbD 31 = true → (withMachineStatus cr0 v).getLsbD 0 = true := by
  simp only [withMachineStatus, BitVec.getLsbD_or, BitVec.getLsbD_and, BitVec.getLsbD_setWidth, Bool.or_eq_true]
  intro pg
  left
  rcases pg with old | new
  · simpa using h (by simpa using old)
  · simp at new

theorem lawfulAt_loadMachineStatus (rm : RM) (s : State) :
    LawfulAt Stop.InNewTask (do
      requirePrivilege
      let v ← readRM .w rm
      let s ← getState
      setCr0 (withMachineStatus s.sys.cr0 v)) s := by
  refine within_requirePrivilege.lawfulAt.bind fun _ t e => ?_
  obtain ⟨rfl, level0⟩ := gives_requirePrivilege e
  refine (within_readRM _ _).lawfulAt_bind fun v u kept => lawfulAt_read (lawfulAt_update (sound_setCr0 ?_ fun legal =>
    withMachineStatus_paging v legal.2.2))
  rw [State.privileged, kept.pe, (kept.level rfl).1, (kept.level rfl).2]
  exact level0

theorem soundOutcome_execTestRmReg (w : Bool) (rm : RM) (r : Reg) (s : State) :
    SoundOutcome s (execTestRmReg w rm r s) := by
  unfold execTestRmReg
  exact Within.soundOutcome (within_read fun _ => within_bind (within_readRM _ rm) fun _ =>
    within_bind (within_readReg _ r) fun _ => within_aluFlags .and _ _) s

theorem soundOutcome_execTestRmImm (w : Bool) (rm : RM) (imm : Imm) (s : State) :
    SoundOutcome s (execTestRmImm w rm imm s) := by
  unfold execTestRmImm
  exact Within.soundOutcome (within_read fun _ => within_bind (within_readRM _ rm) fun _ => within_aluFlags .and _ _) s

theorem soundOutcome_execTestAccImm (w : Bool) (imm : Imm) (s : State) :
    SoundOutcome s (execTestAccImm w imm s) := by
  unfold execTestAccImm
  exact Within.soundOutcome (within_read fun _ => within_bind (within_readReg _ _) fun _ => within_aluFlags .and _ _) s

theorem soundOutcome_execNotRm (w : Bool) (rm : RM) (s : State) :
    SoundOutcome s (execNotRm w rm s) := by
  unfold execNotRm
  refine Within.soundOutcome ?_ s
  exact within_modifyRM w rm fun _ _ => rfl

theorem soundOutcome_execNegRm (w : Bool) (rm : RM) (s : State) :
    SoundOutcome s (execNegRm w rm s) := by
  unfold execNegRm
  exact Within.soundOutcome (within_modifyRM w rm fun a f => f.sub_vm 0 a false) s

theorem soundOutcome_execIncRm (w : Bool) (rm : RM) (s : State) :
    SoundOutcome s (execIncRm w rm s) := by
  unfold execIncRm
  exact Within.soundOutcome (within_modifyRM w rm fun a f => by simp [incFlags]) s

theorem soundOutcome_execIncReg (r : Reg) (s : State) :
    SoundOutcome s (execIncReg r s) := by
  unfold execIncReg
  exact Within.soundOutcome (within_modifyRM true (.reg r) fun a f => by simp [incFlags]) s

theorem soundOutcome_execDecRm (w : Bool) (rm : RM) (s : State) :
    SoundOutcome s (execDecRm w rm s) := by
  unfold execDecRm
  exact Within.soundOutcome (within_modifyRM w rm fun a f => by simp [decFlags]) s

theorem soundOutcome_execDecReg (r : Reg) (s : State) :
    SoundOutcome s (execDecReg r s) := by
  unfold execDecReg
  exact Within.soundOutcome (within_modifyRM true (.reg r) fun a f => by simp [decFlags]) s

theorem soundOutcome_execMulRm (w : Bool) (rm : RM) (s : State) :
    SoundOutcome s (execMulRm w rm s) := by
  unfold execMulRm
  exact Within.soundOutcome (within_read fun _ => within_bind (within_readRM _ rm) fun _ =>
    within_bind (within_readReg _ _) fun _ => within_bind (within_writeWide _ _ _) fun _ => within_mulFlags _) s

theorem soundOutcome_execImulRm (w : Bool) (rm : RM) (s : State) :
    SoundOutcome s (execImulRm w rm s) := by
  unfold execImulRm
  exact Within.soundOutcome (within_read fun _ => within_bind (within_readRM _ rm) fun _ =>
    within_bind (within_readReg _ _) fun _ => within_bind (within_writeWide _ _ _) fun _ => within_mulFlags _) s

theorem soundOutcome_execImulRegRm (r : Reg) (rm : RM) (s : State) :
    SoundOutcome s (execImulRegRm r rm s) := by
  unfold execImulRegRm
  exact Within.soundOutcome (within_read fun _ => within_bind (within_readRM _ rm) fun _ =>
    within_bind (within_readReg _ r) fun _ => within_imulTo _ r _ _) s

theorem soundOutcome_execImulRegRmImm (sx : Bool) (r : Reg) (rm : RM) (imm : Imm) (s : State) :
    SoundOutcome s (execImulRegRmImm sx r rm imm s) := by
  unfold execImulRegRmImm
  exact Within.soundOutcome (within_read fun _ => within_bind (within_readRM _ rm) fun _ => within_imulTo _ r _ _) s

theorem soundOutcome_execDivRm (w : Bool) (rm : RM) (s : State) :
    SoundOutcome s (execDivRm w rm s) := by
  unfold execDivRm
  exact Within.soundOutcome (within_read fun _ => within_bind (within_readRM _ rm) fun _ =>
    within_bind (within_readReg _ _) fun _ => within_bind (within_readHigh _) fun _ =>
    within_bind (within_require _ _) fun _ => within_bind (within_writeWide _ _ _) fun _ => within_undefined _) s

theorem soundOutcome_execIdivRm (w : Bool) (rm : RM) (s : State) :
    SoundOutcome s (execIdivRm w rm s) := by
  unfold execIdivRm
  exact Within.soundOutcome (within_read fun _ => within_bind (within_readRM _ rm) fun _ =>
    within_bind (within_readReg _ _) fun _ => within_bind (within_readHigh _) fun _ =>
    within_bind (within_require _ _) fun _ => within_bind (within_writeWide _ _ _) fun _ => within_undefined _) s

theorem soundOutcome_execDaa (s : State) :
    SoundOutcome s (execDaa s) := by
  unfold execDaa
  exact Within.soundOutcome (within_read fun _ => within_bind (within_writeReg _ _ _) fun _ =>
    within_bind (within_updateFlags fun f => by simp) fun _ => within_undefined _) s

theorem soundOutcome_execDas (s : State) :
    SoundOutcome s (execDas s) := by
  unfold execDas
  exact Within.soundOutcome (within_read fun _ => within_bind (within_writeReg _ _ _) fun _ =>
    within_bind (within_updateFlags fun f => by simp) fun _ => within_undefined _) s

theorem soundOutcome_execAad (s : State) :
    SoundOutcome s (execAad s) := by
  unfold execAad
  exact Within.soundOutcome (within_read fun _ => within_bind (within_writeReg _ _ _) fun _ =>
    within_bind (within_updateFlags fun f => by simp) fun _ => within_undefined _) s

theorem soundOutcome_execAam (s : State) :
    SoundOutcome s (execAam s) := by
  unfold execAam
  exact Within.soundOutcome (within_read fun _ => within_bind (within_writeReg _ _ _) fun _ =>
    within_bind (within_writeReg _ _ _) fun _ => within_bind (within_updateFlags fun f => by simp) fun _ =>
    within_undefined _) s

theorem soundOutcome_execCbw (s : State) :
    SoundOutcome s (execCbw s) := by
  unfold execCbw
  exact Within.soundOutcome (within_read fun _ => within_ite _ (within_writeReg _ _ _) (within_writeReg _ _ _)) s

theorem soundOutcome_execCwd (s : State) :
    SoundOutcome s (execCwd s) := by
  unfold execCwd
  exact Within.soundOutcome (within_read fun _ => within_ite _ (within_writeReg _ _ _) (within_writeReg _ _ _)) s

theorem soundOutcome_execMovRmReg (w : Bool) (rm : RM) (r : Reg) (s : State) :
    SoundOutcome s (execMovRmReg w rm r s) := by
  unfold execMovRmReg
  exact Within.soundOutcome (within_read fun _ => within_place_bind (rm := rm) fun _ inside =>
    within_bind (within_readReg _ r) fun _ => within_writePlace _ inside _) s

theorem soundOutcome_execMovRegRm (w : Bool) (r : Reg) (rm : RM) (s : State) :
    SoundOutcome s (execMovRegRm w r rm s) := by
  unfold execMovRegRm
  exact Within.soundOutcome (within_read fun _ => within_bind (within_readRM _ rm) fun _ => within_writeReg _ r _) s

theorem soundOutcome_execMovRmImm (w : Bool) (rm : RM) (imm : Imm) (s : State) :
    SoundOutcome s (execMovRmImm w rm imm s) := by
  unfold execMovRmImm
  exact Within.soundOutcome (within_read fun _ => within_writeRM _ rm _) s

theorem soundOutcome_execMovRegImm (w : Bool) (r : Reg) (imm : Imm) (s : State) :
    SoundOutcome s (execMovRegImm w r imm s) := by
  unfold execMovRegImm
  exact Within.soundOutcome (within_read fun _ => within_writeReg _ r _) s

theorem soundOutcome_execMovAccMoffs (w : Bool) (off : Full) (s : State) :
    SoundOutcome s (execMovAccMoffs w off s) := by
  unfold execMovAccMoffs
  exact Within.soundOutcome (within_read fun _ => within_bind (within_memRead _ _ _) fun _ => within_writeReg _ _ _) s

theorem soundOutcome_execMovMoffsAcc (w : Bool) (off : Full) (s : State) :
    SoundOutcome s (execMovMoffsAcc w off s) := by
  unfold execMovMoffsAcc
  exact Within.soundOutcome (within_read fun _ => within_segSpan_bind (bytes_le _) fun _ inside =>
    within_bind (within_readReg _ _) fun _ => within_storeSpan inside _) s

theorem soundOutcome_execMovSegRm (sg : Seg) (rm : RM) (s : State) :
    SoundOutcome s (execMovSegRm sg rm s) := by
  unfold execMovSegRm
  exact Within.soundOutcome (within_bind (within_readRM _ rm) fun _ => within_bind (within_require _ _) fun _ =>
    within_bind (within_loadSeg sg _) fun _ => within_inhibitAfterSs sg) s

theorem soundOutcome_execMovRmSeg (rm : RM) (sg : Seg) (s : State) :
    SoundOutcome s (execMovRmSeg rm sg s) := by
  unfold execMovRmSeg
  exact Within.soundOutcome (within_read fun _ => within_writeSystemWord rm _) s

theorem soundOutcome_execMovsx (w : Bool) (r : Reg) (rm : RM) (s : State) :
    SoundOutcome s (execMovsx w r rm s) := by
  unfold execMovsx
  exact Within.soundOutcome (within_read fun _ => within_bind (within_readRM _ rm) fun _ => within_writeReg _ r _) s

theorem soundOutcome_execMovzx (w : Bool) (r : Reg) (rm : RM) (s : State) :
    SoundOutcome s (execMovzx w r rm s) := by
  unfold execMovzx
  exact Within.soundOutcome (within_read fun _ => within_bind (within_readRM _ rm) fun _ => within_writeReg _ r _) s

theorem soundOutcome_execPushRm (rm : RM) (s : State) :
    SoundOutcome s (execPushRm rm s) := by
  unfold execPushRm
  exact Within.soundOutcome (within_read fun _ => within_bind (within_readRM _ rm) fun _ => within_push _ _) s

theorem soundOutcome_execPushReg (r : Reg) (s : State) :
    SoundOutcome s (execPushReg r s) := by
  unfold execPushReg
  exact Within.soundOutcome (within_read fun _ => within_bind (within_readReg _ r) fun _ => within_push _ _) s

theorem soundOutcome_execPushImm (sx : Bool) (imm : Imm) (s : State) :
    SoundOutcome s (execPushImm sx imm s) := by
  unfold execPushImm
  exact Within.soundOutcome (within_read fun _ => within_push _ _) s

theorem soundOutcome_execPopRm (rm : RM) (s : State) :
    SoundOutcome s (execPopRm rm s) := by
  unfold execPopRm
  exact Within.soundOutcome (within_read fun _ => within_bind (within_pop _) fun _ => within_writeRM _ rm _) s

theorem soundOutcome_execPopReg (r : Reg) (s : State) :
    SoundOutcome s (execPopReg r s) := by
  unfold execPopReg
  exact Within.soundOutcome (within_read fun _ => within_bind (within_pop _) fun _ => within_writeReg _ r _) s

theorem soundOutcome_execPusha (s : State) :
    SoundOutcome s (execPusha s) := by
  unfold execPusha
  exact Within.soundOutcome (within_read fun _ => within_bind (within_checkPushes _ _ _) fun _ =>
    within_claimSlots_bind fun _ inside => within_fillSlots _ inside) s

theorem soundOutcome_execPopa (s : State) :
    SoundOutcome s (execPopa s) := by
  unfold execPopa
  exact Within.soundOutcome (within_read fun _ => within_bind (within_checkPops _ _ _) fun _ =>
    within_bind (within_eachGet fun _ => within_memRead _ _ _) fun _ =>
    within_bind (within_eachDo fun _ => within_when _ (within_writeReg _ _ _)) fun _ => within_release _) s

theorem soundOutcome_execXchgRmReg (w : Bool) (rm : RM) (r : Reg) (s : State) :
    SoundOutcome s (execXchgRmReg w rm r s) := by
  unfold execXchgRmReg
  exact Within.soundOutcome (within_read fun _ => within_place_bind (rm := rm) fun _ inside =>
    within_bind (within_readPlace _ _) fun _ => within_bind (within_readReg _ r) fun _ =>
    within_bind (within_writePlace _ inside _) fun _ => within_writeReg _ r _) s

theorem soundOutcome_execXchgAcc (r : Reg) (s : State) :
    SoundOutcome s (execXchgAcc r s) := by
  unfold execXchgAcc
  exact Within.soundOutcome (within_read fun _ => within_bind (within_readReg _ _) fun _ =>
    within_bind (within_readReg _ r) fun _ => within_bind (within_writeReg _ _ _) fun _ => within_writeReg _ r _) s

theorem soundOutcome_execInImm (w : Bool) (port : BitVec 8) (s : State) :
    SoundOutcome s (execInImm w port s) := by
  unfold execInImm
  exact Within.soundOutcome (within_read fun _ => within_inputTo _ _) s

theorem soundOutcome_execInDx (w : Bool) (s : State) :
    SoundOutcome s (execInDx w s) := by
  unfold execInDx
  exact Within.soundOutcome (within_read fun _ => within_inputTo _ _) s

theorem soundOutcome_execOutImm (w : Bool) (port : BitVec 8) (s : State) :
    SoundOutcome s (execOutImm w port s) := by
  unfold execOutImm
  exact Within.soundOutcome (within_read fun _ => within_outputFrom _ _) s

theorem soundOutcome_execOutDx (w : Bool) (s : State) :
    SoundOutcome s (execOutDx w s) := by
  unfold execOutDx
  exact Within.soundOutcome (within_read fun _ => within_outputFrom _ _) s

theorem soundOutcome_execLea (r : Reg) (m : Mem) (s : State) :
    SoundOutcome s (execLea r m s) := by
  unfold execLea
  exact Within.soundOutcome (within_bind (within_effAddr m) fun _ => within_read fun _ => within_writeReg _ r _) s

theorem soundOutcome_execRolCl (w : Bool) (rm : RM) (s : State) :
    SoundOutcome s (execRolCl w rm s) := by
  unfold execRolCl
  exact Within.soundOutcome (within_read fun _ => within_shiftRM _ w rm _) s

theorem soundOutcome_execRorCl (w : Bool) (rm : RM) (s : State) :
    SoundOutcome s (execRorCl w rm s) := by
  unfold execRorCl
  exact Within.soundOutcome (within_read fun _ => within_shiftRM _ w rm _) s

theorem soundOutcome_execRclCl (w : Bool) (rm : RM) (s : State) :
    SoundOutcome s (execRclCl w rm s) := by
  unfold execRclCl
  exact Within.soundOutcome (within_read fun _ => within_shiftRM _ w rm _) s

theorem soundOutcome_execRcrCl (w : Bool) (rm : RM) (s : State) :
    SoundOutcome s (execRcrCl w rm s) := by
  unfold execRcrCl
  exact Within.soundOutcome (within_read fun _ => within_shiftRM _ w rm _) s

theorem soundOutcome_execShlCl (w : Bool) (rm : RM) (s : State) :
    SoundOutcome s (execShlCl w rm s) := by
  unfold execShlCl
  exact Within.soundOutcome (within_read fun _ => within_shiftRM _ w rm _) s

theorem soundOutcome_execShrCl (w : Bool) (rm : RM) (s : State) :
    SoundOutcome s (execShrCl w rm s) := by
  unfold execShrCl
  exact Within.soundOutcome (within_read fun _ => within_shiftRM _ w rm _) s

theorem soundOutcome_execSarCl (w : Bool) (rm : RM) (s : State) :
    SoundOutcome s (execSarCl w rm s) := by
  unfold execSarCl
  exact Within.soundOutcome (within_read fun _ => within_shiftRM _ w rm _) s

theorem soundOutcome_execShldCl (rm : RM) (r : Reg) (s : State) :
    SoundOutcome s (execShldCl rm r s) := by
  unfold execShldCl
  exact Within.soundOutcome (within_read fun _ => within_shiftDouble rm r _ _ _) s

theorem soundOutcome_execShrdCl (rm : RM) (r : Reg) (s : State) :
    SoundOutcome s (execShrdCl rm r s) := by
  unfold execShrdCl
  exact Within.soundOutcome (within_read fun _ => within_shiftDouble rm r _ _ _) s

theorem soundOutcome_execJmpRm (rm : RM) (s : State) :
    SoundOutcome s (execJmpRm rm s) := by
  unfold execJmpRm
  exact Within.soundOutcome (within_read fun _ => within_bind (within_readRM _ rm) fun _ => within_jumpNear _) s

theorem soundOutcome_execCallRm (rm : RM) (s : State) :
    SoundOutcome s (execCallRm rm s) := by
  unfold execCallRm
  exact Within.soundOutcome (within_read fun _ => within_bind (within_readRM _ rm) fun _ => within_callNear _) s

theorem soundOutcome_execCallNear (disp : Full) (s : State) :
    SoundOutcome s (execCallNear disp s) := by
  unfold execCallNear
  exact Within.soundOutcome (within_read fun _ => within_callNear _) s

theorem soundOutcome_execJmpFarMem (m : Mem) (s : State) :
    SoundOutcome s (execJmpFarMem m s) := by
  unfold execJmpFarMem
  exact soundOutcome_runInstr ((within_readFarPointer m).lawfulAt_bind fun _ t _ => lawful_farJump _ _ t)

theorem soundOutcome_execCallFarMem (m : Mem) (s : State) :
    SoundOutcome s (execCallFarMem m s) := by
  unfold execCallFarMem
  exact soundOutcome_runInstr ((within_readFarPointer m).lawfulAt_bind fun _ t _ => lawful_farCall _ _ t)

theorem soundOutcome_execJcxz (disp : BitVec 8) (s : State) :
    SoundOutcome s (execJcxz disp s) := by
  unfold execJcxz
  exact Within.soundOutcome (within_read fun _ => within_when _ (within_jumpRelative _)) s

theorem soundOutcome_execEnter (n : BitVec 16) (level : BitVec 8) (s : State) :
    SoundOutcome s (execEnter n level s) := by
  unfold execEnter
  exact Within.soundOutcome (within_read fun _ => within_bind (within_push _ _) fun _ => within_read fun _ =>
    within_bind (within_when _ (within_bind (within_copyDisplay _ _ _) fun _ => within_push _ _)) fun _ =>
    within_bind (within_writeReg _ _ _) fun _ => within_read fun _ => within_setStackPtr _) s

theorem soundOutcome_execLeave (s : State) :
    SoundOutcome s (execLeave s) := by
  unfold execLeave
  exact Within.soundOutcome (within_read fun _ => within_bind (within_stackRead _ _) fun _ =>
    within_bind (within_setStackPtr _) fun _ => within_writeReg _ _ _) s

theorem soundOutcome_execInt (n : BitVec 8) (s : State) :
    SoundOutcome s (execInt n s) := by
  unfold execInt
  exact soundOutcome_runInstr (within_requireV86Iopl.lawfulAt_bind fun _ t _ => lawful_softwareInterrupt n t)

theorem soundOutcome_execInto (s : State) :
    SoundOutcome s (execInto s) := by
  unfold execInto
  refine soundOutcome_runInstr (lawfulAt_read ?_)
  cases s.flags.ov with
  | false => exact (within_pure ()).lawfulAt
  | true => exact lawful_softwareInterrupt 4 s

theorem soundOutcome_execBound (r : Reg) (m : Mem) (s : State) :
    SoundOutcome s (execBound r m s) := by
  unfold execBound
  exact Within.soundOutcome (within_read fun _ => within_bind (within_readReg _ r) fun _ =>
    within_bind (within_effAddr m) fun _ => within_bind (within_memRead _ _ _) fun _ =>
    within_bind (within_memRead _ _ _) fun _ => within_require _ _) s

theorem soundOutcome_execMovCrReg (x : CReg) (r : Reg) (s : State) :
    SoundOutcome s (execMovCrReg x r s) := by
  unfold execMovCrReg
  refine soundOutcome_runInstr (within_requirePrivilege.lawfulAt.bind fun _ t e => ?_)
  obtain ⟨rfl, level0⟩ := gives_requirePrivilege e
  refine LawfulAt.bind (within_readReg _ _).lawfulAt fun v u read => ?_
  cases read
  exact (lawfulAt_writeControl level0 x _).bind fun _ _ _ => (within_undefined _).lawfulAt

theorem soundOutcome_execMovRegCr (r : Reg) (x : CReg) (s : State) :
    SoundOutcome s (execMovRegCr r x s) := by
  unfold execMovRegCr
  exact Within.soundOutcome (within_bind within_requirePrivilege fun _ => within_read fun _ =>
    within_bind (within_writeReg _ r _) fun _ => within_undefined _) s

theorem soundOutcome_execMovRegTr (r : Reg) (x : TReg) (s : State) :
    SoundOutcome s (execMovRegTr r x s) := by
  unfold execMovRegTr
  exact Within.soundOutcome (within_bind within_requirePrivilege fun _ => within_read fun _ =>
    within_bind (within_writeReg _ r _) fun _ => within_undefined _) s

theorem within_setDebug (x : DReg) (v : Dword) : Within true (update fun s => { s with dregs := s.dregs.set x v }) :=
  within_update fun _ => .of_same rfl rfl rfl rfl rfl rfl

theorem soundOutcome_execMovDrReg (x : DReg) (r : Reg) (s : State) :
    SoundOutcome s (execMovDrReg x r s) := by
  unfold execMovDrReg
  exact Within.soundOutcome (within_bind within_requirePrivilege fun _ => within_bind within_requireDebugAccess fun _ =>
    within_bind (within_readReg _ r) fun _ => within_bind (within_setDebug x _) fun _ => within_undefined _) s

theorem soundOutcome_execMovRegDr (r : Reg) (x : DReg) (s : State) :
    SoundOutcome s (execMovRegDr r x s) := by
  unfold execMovRegDr
  exact Within.soundOutcome (within_bind within_requirePrivilege fun _ =>
    within_bind within_requireDebugAccess fun _ => within_read fun _ => within_bind (within_writeReg _ r _) fun _ =>
    within_undefined _) s

theorem soundOutcome_execMovTrReg (x : TReg) (r : Reg) (s : State) :
    SoundOutcome s (execMovTrReg x r s) := by
  unfold execMovTrReg
  exact Within.soundOutcome (within_bind within_requirePrivilege fun _ => within_bind (within_readReg _ r) fun _ =>
    within_bind (within_writeTest x _) fun _ => within_undefined _) s

theorem soundOutcome_execEsc (op sub : BitVec 3) (rm : RM) (s : State) :
    SoundOutcome s (execEsc op sub rm s) := by
  unfold execEsc
  exact Within.soundOutcome (within_read fun _ => within_bind (within_require _ _) fun _ =>
    within_ite _ within_waitForCoprocessor <| within_bind (within_require _ _) fun _ =>
    within_ite _ (within_escFitted op sub rm) (within_escAbsent op sub rm)) s

theorem soundOutcome_execWait (s : State) :
    SoundOutcome s (execWait s) := by
  unfold execWait
  exact Within.soundOutcome (within_read fun _ => within_bind (within_require _ _) fun _ =>
    within_ite _ within_waitForCoprocessor (within_require _ _)) s

theorem soundOutcome_execArpl (rm : RM) (r : Reg) (s : State) :
    SoundOutcome s (execArpl rm r s) := by
  unfold execArpl
  refine Within.soundOutcome (within_bind within_requireProtected fun _ => within_bind (within_readReg _ r) fun _ => ?_) s
  cases rm with
  | reg x => exact within_bind (within_readReg _ _) fun _ => within_adjustRpl _ _ fun _ => within_writeReg _ _ _
  | mem m =>
    exact within_bind (within_effAddr _) fun _ => within_bind (within_memRead _ _ _) fun _ =>
      within_adjustRpl _ _ fun _ => within_segSpan_bind (by decide) fun _ inside => within_storeSpan inside _

theorem soundOutcome_execSldt (rm : RM) (s : State) :
    SoundOutcome s (execSldt rm s) := by
  unfold execSldt
  exact Within.soundOutcome (within_bind within_requireProtected fun _ => within_read fun _ =>
    within_writeSystemWord rm _) s

theorem soundOutcome_execStr (rm : RM) (s : State) :
    SoundOutcome s (execStr rm s) := by
  unfold execStr
  exact Within.soundOutcome (within_bind within_requireProtected fun _ => within_read fun _ =>
    within_writeSystemWord rm _) s

theorem soundOutcome_execSmsw (rm : RM) (s : State) :
    SoundOutcome s (execSmsw rm s) := by
  unfold execSmsw
  exact Within.soundOutcome (within_read fun _ => within_writeSystemWord rm _) s

theorem soundOutcome_execLldt (rm : RM) (s : State) :
    SoundOutcome s (execLldt rm s) := by
  unfold execLldt
  exact Within.soundOutcome (within_bind within_requireProtected fun _ => within_bind within_requirePrivilege fun _ =>
    within_bind (within_readRM _ rm) fun _ => within_loadLdt _) s

theorem soundOutcome_execLtr (rm : RM) (s : State) :
    SoundOutcome s (execLtr rm s) := by
  unfold execLtr
  exact Within.soundOutcome (within_bind within_requireProtected fun _ => within_bind within_requirePrivilege fun _ =>
    within_bind (within_readRM _ rm) fun _ => within_loadTaskRegister _) s

theorem soundOutcome_execSgdt (m : Mem) (s : State) :
    SoundOutcome s (execSgdt m s) := by
  unfold execSgdt
  exact Within.soundOutcome (within_read fun _ => within_writeTableReg m _) s

theorem soundOutcome_execSidt (m : Mem) (s : State) :
    SoundOutcome s (execSidt m s) := by
  unfold execSidt
  exact Within.soundOutcome (within_read fun _ => within_writeTableReg m _) s

theorem soundOutcome_execLgdt (m : Mem) (s : State) :
    SoundOutcome s (execLgdt m s) := by
  unfold execLgdt
  refine Within.soundOutcome ?_ s
  exact within_bind within_requirePrivilege fun _ => within_bind (within_readTableReg m) fun _ =>
    within_update fun _ => .of_same rfl rfl rfl rfl rfl rfl

theorem soundOutcome_execLidt (m : Mem) (s : State) :
    SoundOutcome s (execLidt m s) := by
  unfold execLidt
  refine Within.soundOutcome ?_ s
  exact within_bind within_requirePrivilege fun _ => within_bind (within_readTableReg m) fun _ =>
    within_update fun _ => .of_same rfl rfl rfl rfl rfl rfl

theorem soundOutcome_execClc (s : State) :
    SoundOutcome s (execClc s) := by
  unfold execClc
  refine Within.soundOutcome ?_ s
  exact within_updateFlags fun _ => rfl

theorem soundOutcome_execCld (s : State) :
    SoundOutcome s (execCld s) := by
  unfold execCld
  refine Within.soundOutcome ?_ s
  exact within_updateFlags fun _ => rfl

theorem soundOutcome_execCmc (s : State) :
    SoundOutcome s (execCmc s) := by
  unfold execCmc
  refine Within.soundOutcome ?_ s
  exact within_updateFlags fun _ => rfl

theorem soundOutcome_execStc (s : State) :
    SoundOutcome s (execStc s) := by
  unfold execStc
  refine Within.soundOutcome ?_ s
  exact within_updateFlags fun _ => rfl

theorem soundOutcome_execStd (s : State) :
    SoundOutcome s (execStd s) := by
  unfold execStd
  refine Within.soundOutcome ?_ s
  exact within_updateFlags fun _ => rfl

theorem soundOutcome_execSahf (s : State) :
    SoundOutcome s (execSahf s) := by
  unfold execSahf
  refine Within.soundOutcome ?_ s
  exact within_read fun _ => within_updateFlags fun _ => rfl

theorem soundOutcome_execCli (s : State) :
    SoundOutcome s (execCli s) := by
  unfold execCli
  refine Within.soundOutcome ?_ s
  exact within_bind within_requireIo fun _ => within_updateFlags fun _ => rfl

theorem soundOutcome_execSti (s : State) :
    SoundOutcome s (execSti s) := by
  unfold execSti
  refine Within.soundOutcome ?_ s
  exact within_bind within_requireIo fun _ => within_read fun _ =>
    within_bind (within_when _ (within_update fun _ => .of_same rfl rfl rfl rfl rfl rfl)) fun _ =>
    within_updateFlags fun _ => rfl

theorem soundOutcome_execClts (s : State) :
    SoundOutcome s (execClts s) := by
  unfold execClts
  refine Within.soundOutcome ?_ s
  exact within_bind within_requirePrivilege fun _ => within_update fun u =>
    ⟨⟨id, rfl, rfl, id⟩, by simp [State.pe], by simp [State.pg], id, fun _ => ⟨rfl, rfl⟩⟩

theorem soundOutcome_execLahf (s : State) :
    SoundOutcome s (execLahf s) := by
  unfold execLahf
  exact Within.soundOutcome (within_read fun _ => within_writeReg _ _ _) s

theorem soundOutcome_execPushf (s : State) :
    SoundOutcome s (execPushf s) := by
  unfold execPushf
  exact Within.soundOutcome (within_bind within_requireV86Iopl fun _ => within_read fun _ => within_push _ _) s

theorem soundOutcome_execPopf (s : State) :
    SoundOutcome s (execPopf s) := by
  unfold execPopf
  exact Within.soundOutcome (within_bind within_requireV86Iopl fun _ => within_read fun _ =>
    within_bind (within_pop _) fun _ => within_bind (within_updateFlags fun f => f.load_vm _ _ _) fun _ =>
    within_when _ (within_setEnding _)) s

theorem soundOutcome_execXlat (s : State) :
    SoundOutcome s (execXlat s) := by
  unfold execXlat
  exact Within.soundOutcome (within_read fun _ => within_bind (within_memRead _ _ _) fun _ => within_writeReg _ _ _) s

theorem soundOutcome_execHlt (s : State) :
    SoundOutcome s (execHlt s) := by
  unfold execHlt
  refine Within.soundOutcome ?_ s
  exact within_bind within_requirePrivilege fun _ =>
    within_bind (within_update fun _ => .of_same rfl rfl rfl rfl rfl rfl) fun _ => within_emit _

/-- A prefix changes the context of the instruction behind it alone. -/
theorem soundOutcome_behindPrefix {i j : Instr} {s t : State} (e : exec j s = exec i t) (context : Sound s t)
    (h : SoundOutcome t (exec i t)) : SoundOutcome s (exec j s) :=
  e ▸ h.after context

/-- Every instruction keeps what `Sound` says: each row by the lemma of the operations that it runs, a prefix by the
instruction behind it. -/
theorem soundOutcome_exec (i : Instr) (s : State) : SoundOutcome s (exec i s) := by
  induction i generalizing s with
  | addRmReg d w rm r | orRmReg d w rm r | adcRmReg d w rm r | sbbRmReg d w rm r | andRmReg d w rm r
  | subRmReg d w rm r | xorRmReg d w rm r =>
    dsimp only [exec, execAddRmReg, execOrRmReg, execAdcRmReg, execSbbRmReg, execAndRmReg, execSubRmReg, execXorRmReg]
    exact (within_aluRmReg _ d w rm r).soundOutcome s
  | addRmImm sx w rm imm | orRmImm sx w rm imm | adcRmImm sx w rm imm | sbbRmImm sx w rm imm | andRmImm sx w rm imm
  | subRmImm sx w rm imm | xorRmImm sx w rm imm =>
    dsimp only [exec, execAddRmImm, execOrRmImm, execAdcRmImm, execSbbRmImm, execAndRmImm, execSubRmImm, execXorRmImm]
    exact (within_aluRmImm _ w rm imm).soundOutcome s
  | addAccImm w imm | orAccImm w imm | adcAccImm w imm | sbbAccImm w imm | andAccImm w imm | subAccImm w imm
  | xorAccImm w imm =>
    dsimp only [exec, execAddAccImm, execOrAccImm, execAdcAccImm, execSbbAccImm, execAndAccImm, execSubAccImm,
      execXorAccImm]
    exact (within_aluAccImm _ w imm).soundOutcome s
  | cmpRmReg d w rm r =>
    dsimp only [exec, execCmpRmReg]
    exact (within_cmpRmReg d w rm r).soundOutcome s
  | cmpRmImm sx w rm imm =>
    dsimp only [exec, execCmpRmImm]
    exact (within_cmpRmImm w rm imm).soundOutcome s
  | cmpAccImm w imm =>
    dsimp only [exec, execCmpAccImm]
    exact (within_cmpAccImm w imm).soundOutcome s
  | testRmReg w rm r => exact soundOutcome_execTestRmReg w rm r s
  | testRmImm w rm imm => exact soundOutcome_execTestRmImm w rm imm s
  | testAccImm w imm => exact soundOutcome_execTestAccImm w imm s
  | notRm w rm => exact soundOutcome_execNotRm w rm s
  | negRm w rm => exact soundOutcome_execNegRm w rm s
  | incRm w rm => exact soundOutcome_execIncRm w rm s
  | incReg r => exact soundOutcome_execIncReg r s
  | decRm w rm => exact soundOutcome_execDecRm w rm s
  | decReg r => exact soundOutcome_execDecReg r s
  | mulRm w rm => exact soundOutcome_execMulRm w rm s
  | imulRm w rm => exact soundOutcome_execImulRm w rm s
  | imulRegRm r rm => exact soundOutcome_execImulRegRm r rm s
  | imulRegRmImm sx r rm imm => exact soundOutcome_execImulRegRmImm sx r rm imm s
  | divRm w rm => exact soundOutcome_execDivRm w rm s
  | idivRm w rm => exact soundOutcome_execIdivRm w rm s
  | aaa | aas =>
    dsimp only [exec, execAaa, execAas]
    exact (within_asciiAdjust _).soundOutcome s
  | daa => exact soundOutcome_execDaa s
  | das => exact soundOutcome_execDas s
  | aad => exact soundOutcome_execAad s
  | aam => exact soundOutcome_execAam s
  | cbw => exact soundOutcome_execCbw s
  | cwd => exact soundOutcome_execCwd s
  | movRmReg w rm r => exact soundOutcome_execMovRmReg w rm r s
  | movRegRm w r rm => exact soundOutcome_execMovRegRm w r rm s
  | movRmImm w rm imm => exact soundOutcome_execMovRmImm w rm imm s
  | movRegImm w r imm => exact soundOutcome_execMovRegImm w r imm s
  | movAccMoffs w off => exact soundOutcome_execMovAccMoffs w off s
  | movMoffsAcc w off => exact soundOutcome_execMovMoffsAcc w off s
  | movSegRm sg rm => exact soundOutcome_execMovSegRm sg rm s
  | movRmSeg rm sg => exact soundOutcome_execMovRmSeg rm sg s
  | movsx w r rm => exact soundOutcome_execMovsx w r rm s
  | movzx w r rm => exact soundOutcome_execMovzx w r rm s
  | pushRm rm => exact soundOutcome_execPushRm rm s
  | pushReg r => exact soundOutcome_execPushReg r s
  | pushImm sx imm => exact soundOutcome_execPushImm sx imm s
  | pushSeg sg =>
    dsimp only [exec, execPushSeg]
    exact (within_pushSegment sg).soundOutcome s
  | pushFs | pushGs =>
    dsimp only [exec, execPushFs, execPushGs]
    exact (within_pushSegment _).soundOutcome s
  | popRm rm => exact soundOutcome_execPopRm rm s
  | popReg r => exact soundOutcome_execPopReg r s
  | popEs | popSs | popDs | popFs | popGs =>
    dsimp only [exec, execPopEs, execPopSs, execPopDs, execPopFs, execPopGs]
    exact (within_popSegment _).soundOutcome s
  | pusha => exact soundOutcome_execPusha s
  | popa => exact soundOutcome_execPopa s
  | xchgRmReg w rm r => exact soundOutcome_execXchgRmReg w rm r s
  | xchgAcc r => exact soundOutcome_execXchgAcc r s
  | inImm w port => exact soundOutcome_execInImm w port s
  | inDx w => exact soundOutcome_execInDx w s
  | outImm w port => exact soundOutcome_execOutImm w port s
  | outDx w => exact soundOutcome_execOutDx w s
  | lea r m => exact soundOutcome_execLea r m s
  | lds r m | les r m | lfs r m | lgs r m | lss r m =>
    dsimp only [exec, execLds, execLes, execLfs, execLgs, execLss]
    exact (within_loadFarPointer _ r m).soundOutcome s
  | rolOne w rm | rorOne w rm | rclOne w rm | rcrOne w rm | shlOne w rm | shrOne w rm | sarOne w rm =>
    dsimp only [exec, execRolOne, execRorOne, execRclOne, execRcrOne, execShlOne, execShrOne, execSarOne]
    exact (within_shiftRM _ w rm 1).soundOutcome s
  | rolCl w rm => exact soundOutcome_execRolCl w rm s
  | rorCl w rm => exact soundOutcome_execRorCl w rm s
  | rclCl w rm => exact soundOutcome_execRclCl w rm s
  | rcrCl w rm => exact soundOutcome_execRcrCl w rm s
  | shlCl w rm => exact soundOutcome_execShlCl w rm s
  | shrCl w rm => exact soundOutcome_execShrCl w rm s
  | sarCl w rm => exact soundOutcome_execSarCl w rm s
  | rolImm w rm n | rorImm w rm n | rclImm w rm n | rcrImm w rm n | shlImm w rm n | shrImm w rm n | sarImm w rm n =>
    dsimp only [exec, execRolImm, execRorImm, execRclImm, execRcrImm, execShlImm, execShrImm, execSarImm]
    exact (within_shiftRM _ w rm n.toNat).soundOutcome s
  | shldImm rm r n | shrdImm rm r n =>
    dsimp only [exec, execShldImm, execShrdImm]
    exact (within_shiftDouble rm r n.toNat _ _).soundOutcome s
  | shldCl rm r => exact soundOutcome_execShldCl rm r s
  | shrdCl rm r => exact soundOutcome_execShrdCl rm r s
  | cmps w =>
    dsimp only [exec, execCmps]
    exact (within_repeated _ (within_cmpsElement w)).soundOutcome s
  | ins w =>
    dsimp only [exec, execIns]
    exact (within_repeated _ (within_insElement w)).soundOutcome s
  | lods w =>
    dsimp only [exec, execLods]
    exact (within_repeated _ (within_lodsElement w)).soundOutcome s
  | movs w =>
    dsimp only [exec, execMovs]
    exact (within_repeated _ (within_movsElement w)).soundOutcome s
  | outs w =>
    dsimp only [exec, execOuts]
    exact (within_repeated _ (within_outsElement w)).soundOutcome s
  | scas w =>
    dsimp only [exec, execScas]
    exact (within_repeated _ (within_scasElement w)).soundOutcome s
  | stos w =>
    dsimp only [exec, execStos]
    exact (within_repeated _ (within_stosElement w)).soundOutcome s
  | repInsF3 w | repInsF2 w =>
    dsimp only [exec, execRepInsF3, execRepInsF2]
    exact (within_withRep _ (within_repeated _ (within_insElement w))).soundOutcome s
  | repLodsF3 w | repLodsF2 w =>
    dsimp only [exec, execRepLodsF3, execRepLodsF2]
    exact (within_withRep _ (within_repeated _ (within_lodsElement w))).soundOutcome s
  | repMovsF3 w | repMovsF2 w =>
    dsimp only [exec, execRepMovsF3, execRepMovsF2]
    exact (within_withRep _ (within_repeated _ (within_movsElement w))).soundOutcome s
  | repOutsF3 w | repOutsF2 w =>
    dsimp only [exec, execRepOutsF3, execRepOutsF2]
    exact (within_withRep _ (within_repeated _ (within_outsElement w))).soundOutcome s
  | repStosF3 w | repStosF2 w =>
    dsimp only [exec, execRepStosF3, execRepStosF2]
    exact (within_withRep _ (within_repeated _ (within_stosElement w))).soundOutcome s
  | repeCmps w | repneCmps w =>
    dsimp only [exec, execRepeCmps, execRepneCmps]
    exact (within_withRep _ (within_repeated _ (within_cmpsElement w))).soundOutcome s
  | repeScas w | repneScas w =>
    dsimp only [exec, execRepeScas, execRepneScas]
    exact (within_withRep _ (within_repeated _ (within_scasElement w))).soundOutcome s
  | bsf r rm | bsr r rm =>
    dsimp only [exec, execBsf, execBsr]
    exact (within_bitScan r rm _).soundOutcome s
  | btImm rm n =>
    dsimp only [exec, execBtImm]
    exact (within_bitTest (selects_bitSelectImm rm n _)).soundOutcome s
  | btReg rm r =>
    dsimp only [exec, execBtReg]
    exact (within_bitTest (selects_bitSelect rm r _)).soundOutcome s
  | btcImm rm n | btrImm rm n | btsImm rm n =>
    dsimp only [exec, execBtcImm, execBtrImm, execBtsImm]
    exact (within_bitChange (selects_bitSelectImm rm n _) _).soundOutcome s
  | btcReg rm r | btrReg rm r | btsReg rm r =>
    dsimp only [exec, execBtcReg, execBtrReg, execBtsReg]
    exact (within_bitChange (selects_bitSelect rm r _) _).soundOutcome s
  | jmpShort disp | jmpNear disp =>
    dsimp only [exec, execJmpShort, execJmpNear]
    exact (within_jumpRelative _).soundOutcome s
  | jmpRm rm => exact soundOutcome_execJmpRm rm s
  | callRm rm => exact soundOutcome_execCallRm rm s
  | callNear disp => exact soundOutcome_execCallNear disp s
  | jmpFar p =>
    dsimp only [exec, execJmpFar]
    exact soundOutcome_runInstr (lawful_farJump _ _ s)
  | callFar p =>
    dsimp only [exec, execCallFar]
    exact soundOutcome_runInstr (lawful_farCall _ _ s)
  | jmpFarMem m => exact soundOutcome_execJmpFarMem m s
  | callFarMem m => exact soundOutcome_execCallFarMem m s
  | retNear =>
    dsimp only [exec, execRetNear]
    exact (within_returnNear 0).soundOutcome s
  | retNearImm n =>
    dsimp only [exec, execRetNearImm]
    exact (within_returnNear n.toNat).soundOutcome s
  | retFar =>
    dsimp only [exec, execRetFar]
    exact soundOutcome_runInstr (lawful_farReturn 0 s)
  | retFarImm n =>
    dsimp only [exec, execRetFarImm]
    exact soundOutcome_runInstr (lawful_farReturn n.toNat s)
  | joShort disp | jnoShort disp | jbShort disp | jnbShort disp | jeShort disp | jneShort disp | jbeShort disp
  | jnbeShort disp | jsShort disp | jnsShort disp | jpShort disp | jnpShort disp | jlShort disp | jnlShort disp
  | jleShort disp | jnleShort disp | joNear disp | jnoNear disp | jbNear disp | jnbNear disp | jeNear disp
  | jneNear disp | jbeNear disp | jnbeNear disp | jsNear disp | jnsNear disp | jpNear disp | jnpNear disp
  | jlNear disp | jnlNear disp | jleNear disp | jnleNear disp =>
    dsimp only [exec, execJoShort, execJnoShort, execJbShort, execJnbShort, execJeShort, execJneShort, execJbeShort,
      execJnbeShort, execJsShort, execJnsShort, execJpShort, execJnpShort, execJlShort, execJnlShort, execJleShort,
      execJnleShort, execJoNear, execJnoNear, execJbNear, execJnbNear, execJeNear, execJneNear, execJbeNear,
      execJnbeNear, execJsNear, execJnsNear, execJpNear, execJnpNear, execJlNear, execJnlNear, execJleNear,
      execJnleNear]
    exact (within_jumpIf _ _).soundOutcome s
  | seto rm | setno rm | setb rm | setnb rm | sete rm | setne rm | setbe rm | setnbe rm | sets rm | setns rm | setp rm
  | setnp rm | setl rm | setnl rm | setle rm | setnle rm =>
    dsimp only [exec, execSeto, execSetno, execSetb, execSetnb, execSete, execSetne, execSetbe, execSetnbe, execSets,
      execSetns, execSetp, execSetnp, execSetl, execSetnl, execSetle, execSetnle]
    exact (within_setByte _ rm).soundOutcome s
  | jcxz disp => exact soundOutcome_execJcxz disp s
  | loop disp | loopz disp | loopnz disp =>
    dsimp only [exec, execLoop, execLoopz, execLoopnz]
    exact (within_loopWhile _ disp).soundOutcome s
  | enter n level => exact soundOutcome_execEnter n level s
  | leave => exact soundOutcome_execLeave s
  | int n => exact soundOutcome_execInt n s
  | int3 =>
    dsimp only [exec, execInt3]
    exact soundOutcome_runInstr (lawful_softwareInterrupt 3 s)
  | into => exact soundOutcome_execInto s
  | bound r m => exact soundOutcome_execBound r m s
  | iret =>
    dsimp only [exec, execIret]
    exact soundOutcome_runInstr (lawful_interruptReturn s)
  | movCrReg x r => exact soundOutcome_execMovCrReg x r s
  | movRegCr r x => exact soundOutcome_execMovRegCr r x s
  | movRegTr r x => exact soundOutcome_execMovRegTr r x s
  | movDrReg x r => exact soundOutcome_execMovDrReg x r s
  | movRegDr r x => exact soundOutcome_execMovRegDr r x s
  | movTrReg x r => exact soundOutcome_execMovTrReg x r s
  | esc op sub rm => exact soundOutcome_execEsc op sub rm s
  | wait => exact soundOutcome_execWait s
  | arpl rm r => exact soundOutcome_execArpl rm r s
  | lar r rm | lsl r rm =>
    dsimp only [exec, execLar, execLsl]
    exact (within_probeInto r rm _ _).soundOutcome s
  | verr rm | verw rm =>
    dsimp only [exec, execVerr, execVerw]
    exact (within_verify rm _).soundOutcome s
  | sldt rm => exact soundOutcome_execSldt rm s
  | str rm => exact soundOutcome_execStr rm s
  | smsw rm => exact soundOutcome_execSmsw rm s
  | lldt rm => exact soundOutcome_execLldt rm s
  | ltr rm => exact soundOutcome_execLtr rm s
  | sgdt m => exact soundOutcome_execSgdt m s
  | sidt m => exact soundOutcome_execSidt m s
  | lgdt m => exact soundOutcome_execLgdt m s
  | lidt m => exact soundOutcome_execLidt m s
  | lmsw rm =>
    dsimp only [exec, execLmsw]
    exact soundOutcome_runInstr (lawfulAt_loadMachineStatus rm s)
  | csPrefix i ih => exact soundOutcome_behindPrefix (exec_csPrefix i s) ⟨⟨id, rfl, rfl, id⟩, id⟩ (ih _)
  | dsPrefix i ih => exact soundOutcome_behindPrefix (exec_dsPrefix i s) ⟨⟨id, rfl, rfl, id⟩, id⟩ (ih _)
  | esPrefix i ih => exact soundOutcome_behindPrefix (exec_esPrefix i s) ⟨⟨id, rfl, rfl, id⟩, id⟩ (ih _)
  | fsPrefix i ih => exact soundOutcome_behindPrefix (exec_fsPrefix i s) ⟨⟨id, rfl, rfl, id⟩, id⟩ (ih _)
  | gsPrefix i ih => exact soundOutcome_behindPrefix (exec_gsPrefix i s) ⟨⟨id, rfl, rfl, id⟩, id⟩ (ih _)
  | ssPrefix i ih => exact soundOutcome_behindPrefix (exec_ssPrefix i s) ⟨⟨id, rfl, rfl, id⟩, id⟩ (ih _)
  | opSizePrefix i ih => exact soundOutcome_behindPrefix (exec_opSizePrefix i s) ⟨⟨id, rfl, rfl, id⟩, id⟩ (ih _)
  | addrSizePrefix i ih => exact soundOutcome_behindPrefix (exec_addrSizePrefix i s) ⟨⟨id, rfl, rfl, id⟩, id⟩ (ih _)
  | repPrefix i ih => exact soundOutcome_behindPrefix (exec_repPrefix i s) ⟨⟨id, rfl, rfl, id⟩, id⟩ (ih _)
  | repnePrefix i ih => exact soundOutcome_behindPrefix (exec_repnePrefix i s) ⟨⟨id, rfl, rfl, id⟩, id⟩ (ih _)
  | lockPrefix i ih =>
    cases h : lockable i with
    | true => exact exec_lockPrefix h s ▸ ih s
    | false => exact exec_lockPrefix_of_not h s ▸ (within_raise _).soundOutcome s
  | clc => exact soundOutcome_execClc s
  | cld => exact soundOutcome_execCld s
  | cmc => exact soundOutcome_execCmc s
  | stc => exact soundOutcome_execStc s
  | std => exact soundOutcome_execStd s
  | sahf => exact soundOutcome_execSahf s
  | cli => exact soundOutcome_execCli s
  | sti => exact soundOutcome_execSti s
  | clts => exact soundOutcome_execClts s
  | lahf => exact soundOutcome_execLahf s
  | pushf => exact soundOutcome_execPushf s
  | popf => exact soundOutcome_execPopf s
  | xlat => exact soundOutcome_execXlat s
  | nop =>
    dsimp only [exec, execNop]
    exact (within_pure ()).soundOutcome s
  | hlt => exact soundOutcome_execHlt s

end Sys2Proof.Machine

/-! Every step (spec/60_exceptions.md R741), and what holds after a reset. -/

namespace Sys2Proof.Machine

/-! ## The boundary between two instructions -/

theorem within_fetchPage {k : Bool} (lin : Dword) (n : Nat) : Within k (fetchPage lin n) :=
  within_read fun _ => within_bind (within_translate _ _ _) fun _ => within_read fun _ => within_pure _

theorem within_decoded {k : Bool} (r : Except DecodeError (Instr × Nat)) : Within k (decoded r) := by
  unfold decoded
  split
  · exact within_pure _
  · exact within_raise _
  · exact within_raise _

theorem within_fetch {k : Bool} : Within k fetch := by
  refine within_read fun s => within_bind (within_require _ _) fun _ => within_bind (within_fetchPage _ _) fun first => ?_
  split
  · exact within_ite _ (within_raise _) (within_ite _ (within_raise _)
      (within_bind (within_fetchPage _ _) fun _ => within_decoded _))
  · exact within_decoded _

theorem sound_begin (s : State) (p : Instr × Nat) : Sound s (begin s p) := ⟨⟨id, rfl, rfl, id⟩, id⟩

theorem soundOutcome_runNext (s : State) : SoundOutcome s (runNext s) := by
  unfold runNext
  split
  · exact (soundOutcome_exec _ _).after (sound_begin s _)
  · have ends := (within_fetch (k := true)).lawfulAt (s := s) (why := Stop.InNewTask)
    split
    · next e => exact (soundOutcome_exec _ _).after ((ends.1 _ _ e).trans (sound_begin _ _))
    · next e => exact soundOutcome_afterStop (ends.2 _ _ e).1 (ends.2 _ _ e).2

theorem soundOutcome_takeDebug (s : State) : SoundOutcome s (takeDebug s) := by
  unfold takeDebug
  refine (soundOutcome_takeEvent _ _).after ?_
  exact ⟨⟨id, rfl, rfl, id⟩, id⟩

theorem sound_nmiTaken (s : State) : Sound s (nmiTaken s) := ⟨⟨id, rfl, rfl, id⟩, id⟩

theorem soundOutcome_takeNmi (s : State) : SoundOutcome s (takeNmi s) :=
  (soundOutcome_takeEvent _ _).after (sound_nmiTaken s)

theorem soundOutcome_takeIntr (s : State) : SoundOutcome s (takeIntr s) := by
  unfold takeIntr
  refine (soundOutcome_takeEvent _ _).after ?_
  exact ⟨⟨id, rfl, rfl, id⟩, id⟩

theorem soundOutcome_stepRunning (s : State) : SoundOutcome s (stepRunning s) := by
  unfold stepRunning
  split
  · exact soundOutcome_takeDebug s
  split
  · exact soundOutcome_takeNmi s
  split
  · exact soundOutcome_takeIntr s
  · exact soundOutcome_runNext s

/-- What a step leaves of a state: a sound one, which is between two instructions if the step began there. A halted processor
may stay as it is. -/
def SoundStep (s : State) (o : Host.Outcome State Fault Refusal) : Prop :=
  ∀ t, o = .next t → Sound s t ∧ (s.between → t.between)

theorem SoundOutcome.step {s : State} {o : Host.Outcome State Fault Refusal} (h : SoundOutcome s o) : SoundStep s o :=
  fun t e => ⟨(h t e).1, fun _ => (h t e).2⟩

theorem soundStep_stay (s : State) : SoundStep s (.next s) := by
  intro t e
  cases e
  exact ⟨Sound.refl s, id⟩

theorem soundStep_stepHalted (s : State) : SoundStep s (stepHalted s) := by
  unfold stepHalted
  split
  · exact (soundOutcome_takeDebug s).step
  split
  · exact (soundOutcome_takeNmi s).step
  split
  · exact (soundOutcome_takeIntr s).step
  · exact soundStep_stay s

theorem soundStep_stepShutdown (s : State) : SoundStep s (stepShutdown s) := by
  have ends := lawful_deliver false (externalEvent s 2 true) (nmiTaken s)
  unfold stepShutdown
  split
  · split
    · next e => exact (soundOutcome_next ((sound_nmiTaken s).trans (ends.1 _ _ e).settle) rfl).step
    · next e => exact (soundOutcome_next ((sound_nmiTaken s).trans (ends.2 _ _ e).1.rollback.enterShutdown) rfl).step
  · exact soundStep_stay s

theorem soundStep_stepActive (s : State) : SoundStep s (stepActive s) := by
  unfold stepActive
  split
  · exact (soundOutcome_stepRunning s).step
  · exact soundStep_stepHalted s
  · exact soundStep_stepShutdown s

/-! ## Reset -/

/-- RESET begins in real mode at level 0 (R100). -/
theorem toReset_pe (s : State) : s.toReset.pe = false := by
  simp only [State.pe, State.toReset, SysRegs.reset, BitVec.getLsbD_or, BitVec.getLsbD_and]
  split <;> simp

theorem toReset_pg (s : State) : s.toReset.pg = false := by
  simp only [State.pg, State.toReset, SysRegs.reset, BitVec.getLsbD_or, BitVec.getLsbD_and]
  split <;> simp

theorem toReset_legalMode (s : State) : s.toReset.legalMode :=
  ⟨fun vm => Bool.noConfusion vm, fun _ => rfl, fun pg => Bool.noConfusion ((toReset_pg s).symm.trans pg)⟩

theorem toReset_pageBase (s : State) : s.toReset.pageBase := by
  show s.ext.undefReset.cr3 &&& 0xFFFFF000 &&& 0xFFF = 0
  rw [BitVec.and_assoc]
  simp

theorem toReset_tlbSize (s : State) : s.toReset.tlbSize := List.length_replicate

/-! ## The obligations -/

/-- Settles O54: a reset leaves memory alone, and any other step is sound. -/
theorem stepsKeepMemoryCanonical : Obligations.StepsKeepMemoryCanonical := by
  intro s t wf e
  unfold step at e
  split at e
  · cases e
    exact ⟨wf, rfl⟩
  · have steady := (soundStep_stepActive s t e).1
    exact ⟨steady.wf wf, steady.map⟩

/-- Settles O55: a reset begins in real mode, and any other step is sound. -/
theorem stepsKeepTheMachineInvariants : Obligations.StepsKeepTheMachineInvariants := by
  intro s t legal pageBase tlbSize between e
  unfold step at e
  split at e
  · cases e
    exact ⟨toReset_legalMode s, toReset_pageBase s, toReset_tlbSize s, rfl⟩
  · obtain ⟨sound, ends⟩ := soundStep_stepActive s t e
    exact ⟨sound.legal legal, sound.pageBase pageBase, sound.tlb.trans tlbSize, ends between⟩

end Sys2Proof.Machine

/-! Decoding and encoding (spec/30_encoding.md R250 to R288): the parsers of the operand fields and the bytes they take. Each
fact comes in two directions: `Reads` (what the encoder writes is taken off the front) and `Yields` (what is taken off the
front is what the encoder writes). -/

namespace Sys2Proof

/-! ## Fields of a byte -/

/-- A statement about every three-bit field, case by case. -/
theorem forall_field3 {p : BitVec 3 → Prop} (h0 : p 0) (h1 : p 1) (h2 : p 2) (h3 : p 3) (h4 : p 4) (h5 : p 5) (h6 : p 6)
    (h7 : p 7) (k : BitVec 3) : p k := by
  have cases : ∀ k : BitVec 3, k = 0 ∨ k = 1 ∨ k = 2 ∨ k = 3 ∨ k = 4 ∨ k = 5 ∨ k = 6 ∨ k = 7 := by decide
  rcases cases k with e | e | e | e | e | e | e | e <;> rw [e] <;> assumption

theorem modByte_fields (b : Byte) : modByte (b.extractLsb' 6 2) (b.extractLsb' 3 3) (b.extractLsb' 0 3) = b := by
  revert b
  decide

theorem modByte_mod (hi : BitVec 2) (mid lo : BitVec 3) : (modByte hi mid lo).extractLsb' 6 2 = hi := by
  revert hi mid lo
  decide

theorem modByte_mid (hi : BitVec 2) (mid lo : BitVec 3) : (modByte hi mid lo).extractLsb' 3 3 = mid := by
  revert hi mid lo
  decide

theorem modByte_low (hi : BitVec 2) (mid lo : BitVec 3) : (modByte hi mid lo).extractLsb' 0 3 = lo := by
  revert hi mid lo
  decide

/-! ## Register fields -/

theorem Reg.ofCode_code (r : Reg) : Reg.ofCode r.code = r := by cases r <;> rfl

theorem Reg.code_ofCode : ∀ b : BitVec 3, (Reg.ofCode b).code = b := by decide

theorem Base16.ofCode_code (b : Base16) : Base16.ofCode b.code = b := by cases b <;> rfl

theorem Base16.code_ofCode : ∀ b : BitVec 3, (Base16.ofCode b).code = b := by decide

theorem Scale.ofCode_code (s : Scale) : Scale.ofCode s.code = s := by cases s <;> rfl

theorem Scale.code_ofCode : ∀ b : BitVec 2, (Scale.ofCode b).code = b := by decide

/-- ESP is no index: its number says that there is none (R278). -/
theorem indexOfCode_indexCode {i : Option Reg} (h : i ≠ some .esp) : indexOfCode (indexCode i) = i := by
  rcases i with _ | r
  · rfl
  · cases r with
    | esp => exact absurd rfl h
    | _ => rfl

theorem indexCode_indexOfCode : ∀ b : BitVec 3, indexCode (indexOfCode b) = b := by decide

theorem indexOfCode_ne_esp : ∀ b : BitVec 3, indexOfCode b ≠ some .esp := by decide

theorem Seg.ofCode_code (sg : Seg) : Seg.ofCode sg.code = some sg := by cases sg <;> rfl

theorem Seg.code_of_ofCode {b : BitVec 3} {sg : Seg} (h : Seg.ofCode b = some sg) : sg.code = b := by
  revert b sg
  decide

theorem CReg.ofCode_code (x : CReg) : CReg.ofCode x.code = some x := by cases x <;> rfl

theorem CReg.code_of_ofCode {b : BitVec 3} {x : CReg} (h : CReg.ofCode b = some x) : x.code = b := by
  revert b x
  decide

theorem DReg.ofCode_code (x : DReg) : DReg.ofCode x.code = some x := by cases x <;> rfl

theorem DReg.code_of_ofCode {b : BitVec 3} {x : DReg} (h : DReg.ofCode b = some x) : x.code = b := by
  revert b x
  decide

theorem TReg.ofCode_code (x : TReg) : TReg.ofCode x.code = some x := by cases x <;> rfl

theorem TReg.code_of_ofCode {b : BitVec 3} {x : TReg} (h : TReg.ofCode b = some x) : x.code = b := by
  revert b x
  decide

/-! ## Parsers -/

/-- The parser takes these bytes off the front as this value, whichever bytes follow. -/
def Parser.Reads {α : Type} (p : Parser α) (a : α) (l : List Byte) : Prop := ∀ rest, p (l ++ rest) = .ok (a, rest)

/-- Whatever the parser takes off the front is related to the bytes that it takes. -/
def Parser.Yields {α : Type} (p : Parser α) (q : α → List Byte → Prop) : Prop :=
  ∀ bs a rest, p bs = .ok (a, rest) → ∃ l, bs = l ++ rest ∧ q a l

section
variable {α β : Type}

theorem Parser.bind_ok {p : Parser α} {f : α → Parser β} {bs rest : List Byte} {b : β} :
    p.bind f bs = .ok (b, rest) ↔ ∃ a mid, p bs = .ok (a, mid) ∧ f a mid = .ok (b, rest) := by
  unfold Parser.bind
  cases h : p bs with
  | error e => simp
  | ok v =>
    obtain ⟨a, mid⟩ := v
    simp

theorem reads_pure (a : α) : (Parser.pure a).Reads a [] := fun _ => rfl

theorem Parser.Reads.bind {p : Parser α} {f : α → Parser β} {a : α} {b : β} {l m : List Byte} (hp : p.Reads a l)
    (hf : (f a).Reads b m) : (p.bind f).Reads b (l ++ m) := by
  intro rest
  rw [List.append_assoc]
  exact Parser.bind_ok.mpr ⟨a, m ++ rest, hp _, hf rest⟩

theorem Parser.Reads.map {p : Parser α} {a : α} {l : List Byte} (hp : p.Reads a l) (f : α → β) :
    (p.map f).Reads (f a) l := fun rest => Parser.bind_ok.mpr ⟨a, rest, hp rest, rfl⟩

theorem yields_pure {q : α → List Byte → Prop} {a : α} (h : q a []) : (Parser.pure a).Yields q := by
  intro bs a' rest e
  cases e
  exact ⟨[], rfl, h⟩

theorem yields_invalid {q : α → List Byte → Prop} : (Parser.invalid : Parser α).Yields q := fun _ _ _ e => nomatch e

theorem Parser.Yields.mono {p : Parser α} {q q' : α → List Byte → Prop} (hp : p.Yields q) (h : ∀ a l, q a l → q' a l) :
    p.Yields q' := fun bs a rest e => by
  obtain ⟨l, split, hq⟩ := hp bs a rest e
  exact ⟨l, split, h a l hq⟩

theorem Parser.Yields.bind {p : Parser α} {f : α → Parser β} {q : α → List Byte → Prop} {q' : β → List Byte → Prop}
    (hp : p.Yields q) (hf : ∀ a l, q a l → (f a).Yields fun b m => q' b (l ++ m)) : (p.bind f).Yields q' := by
  intro bs b rest e
  obtain ⟨a, mid, first, second⟩ := Parser.bind_ok.mp e
  obtain ⟨l, rfl, hq⟩ := hp bs a mid first
  obtain ⟨m, rfl, hq'⟩ := hf a l hq mid b rest second
  exact ⟨l ++ m, (List.append_assoc l m rest).symm, hq'⟩

theorem Parser.Yields.map {p : Parser α} {q : α → List Byte → Prop} {q' : β → List Byte → Prop} {f : α → β} (hp : p.Yields q)
    (h : ∀ a l, q a l → q' (f a) l) : (p.map f).Yields q' :=
  hp.bind fun a l hq => yields_pure (by rw [List.append_nil]; exact h a l hq)

theorem yields_ite {q : α → List Byte → Prop} {c : Prop} [Decidable c] {p p' : Parser α} (h : c → p.Yields q)
    (h' : ¬c → p'.Yields q) : (if c then p else p').Yields q := by
  split
  · next hc => exact h hc
  · next hc => exact h' hc

end

/-! ## Plain fields (R256, R267) -/

theorem reads_byte (b : Byte) : pByte.Reads b [b] := fun _ => rfl

theorem yields_byte : pByte.Yields fun b l => l = [b] := by
  rintro (_ | ⟨b, tail⟩) a rest e
  · cases e
  · cases e
    exact ⟨[b], rfl, rfl⟩

theorem append_bytes16 (v : BitVec 16) : (v >>> 8).setWidth 8 ++ v.setWidth 8 = v := by
  ext i
  simp
  grind

theorem append_bytes32 (v : BitVec 32) :
    (v >>> 24).setWidth 8 ++ (v >>> 16).setWidth 8 ++ (v >>> 8).setWidth 8 ++ v.setWidth 8 = v := by
  ext i
  simp
  grind

theorem reads_word (v : BitVec 16) : pWord.Reads v (bytes16 v) := fun rest => by
  simp [bytes16, pWord, append_bytes16]

theorem reads_dword (v : BitVec 32) : pDword.Reads v (bytes32 v) := fun rest => by
  simp only [bytes32, List.cons_append, List.nil_append, pDword]
  rw [append_bytes32]

theorem bytes16_append (b1 b0 : Byte) : bytes16 (b1 ++ b0) = [b0, b1] := by
  have low : (b1 ++ b0).setWidth 8 = b0 := by ext i; simp; grind
  have high : ((b1 ++ b0) >>> 8).setWidth 8 = b1 := by ext i; simp; grind
  rw [bytes16, low, high]

theorem bytes32_append (b3 b2 b1 b0 : Byte) : bytes32 (b3 ++ b2 ++ b1 ++ b0) = [b0, b1, b2, b3] := by
  have at0 : (b3 ++ b2 ++ b1 ++ b0).setWidth 8 = b0 := by ext i; simp; grind
  have at8 : ((b3 ++ b2 ++ b1 ++ b0) >>> 8).setWidth 8 = b1 := by ext i; simp; grind
  have at16 : ((b3 ++ b2 ++ b1 ++ b0) >>> 16).setWidth 8 = b2 := by ext i; simp; grind
  have at24 : ((b3 ++ b2 ++ b1 ++ b0) >>> 24).setWidth 8 = b3 := by ext i; simp; grind
  rw [bytes32, at0, at8, at16, at24]

theorem yields_word : pWord.Yields fun v l => l = bytes16 v := by
  intro bs v rest e
  match bs with
  | b0 :: b1 :: tail =>
    cases e
    exact ⟨[b0, b1], rfl, (bytes16_append b1 b0).symm⟩

theorem yields_dword : pDword.Yields fun v l => l = bytes32 v := by
  intro bs v rest e
  match bs with
  | b0 :: b1 :: b2 :: b3 :: tail =>
    cases e
    exact ⟨[b0, b1, b2, b3], rfl, (bytes32_append b3 b2 b1 b0).symm⟩

/-- The displacement has the full size that is selected. -/
def Full.isWide : Full → Bool
  | .w16 _ => false
  | .w32 _ => true

theorem Full.okO_iff {c : Ctx} {v : Full} : v.okO c = true ↔ v.isWide = c.op32 := by
  cases v <;> simp [Full.okO, Full.isWide]

theorem Full.okA_iff {c : Ctx} {v : Full} : v.okA c = true ↔ v.isWide = c.addr32 := by
  cases v <;> simp [Full.okA, Full.isWide]

theorem reads_full {wide : Bool} {v : Full} (h : v.isWide = wide) : (pFull wide).Reads v v.bytes := by
  subst h
  cases v with
  | w16 d => exact (reads_word d).map _
  | w32 d => exact (reads_dword d).map _

theorem yields_full (wide : Bool) : (pFull wide).Yields fun v l => v.isWide = wide ∧ l = v.bytes := by
  cases wide with
  | false => exact yields_word.map fun v l e => ⟨rfl, e⟩
  | true => exact yields_dword.map fun v l e => ⟨rfl, e⟩

theorem reads_imm {c : Ctx} {s w : Bool} {v : Imm} (h : v.ok c s w = true) : (pImm c s w).Reads v v.bytes := by
  cases v with
  | i8 d =>
    have short : (!w || s) = true := h
    rw [pImm, if_pos short]
    exact (reads_byte d).map _
  | i16 d =>
    have full : w = true ∧ s = false ∧ c.op32 = false := by simpa [Imm.ok, and_assoc] using h
    simp only [pImm, full]
    exact (reads_word d).map _
  | i32 d =>
    have full : w = true ∧ s = false ∧ c.op32 = true := by simpa [Imm.ok, and_assoc] using h
    simp only [pImm, full]
    exact (reads_dword d).map _

theorem yields_imm (c : Ctx) (s w : Bool) : (pImm c s w).Yields fun v l => v.ok c s w = true ∧ l = v.bytes := by
  refine yields_ite (fun short => yields_byte.map fun v l e => ⟨short, e⟩) fun long => ?_
  have full : w = true ∧ s = false := by simpa using long
  refine yields_ite (fun wide => yields_dword.map fun v l e => ⟨?_, e⟩) fun narrow => yields_word.map fun v l e => ⟨?_, e⟩
  · simp [Imm.ok, full, wide]
  · simp [Imm.ok, full, narrow]

theorem reads_far {c : Ctx} {p : FarPtr} (h : p.off.okO c = true) : (pFar c).Reads p p.bytes :=
  (reads_full (Full.okO_iff.mp h)).bind ((reads_word p.sel).map fun sel => FarPtr.mk p.off sel)

theorem yields_far (c : Ctx) : (pFar c).Yields fun p l => p.off.okO c = true ∧ l = p.bytes :=
  (yields_full c.op32).bind fun _ _ ⟨wide, e⟩ => yields_word.map fun _ _ e' =>
    ⟨Full.okO_iff.mpr wide, by rw [e, e']; rfl⟩

/-! ## Memory operands (R275 to R278) -/

theorem reads_disp16 (d : Disp16) : (pDisp16 d.encode.1).Reads d d.encode.2 := by
  cases d with
  | none => exact reads_pure _
  | d8 v => exact (reads_byte v).map _
  | d16 v => exact (reads_word v).map _

theorem reads_disp32 (d : Disp32) : (pDisp32 d.encode.1).Reads d d.encode.2 := by
  cases d with
  | none => exact reads_pure _
  | d8 v => exact (reads_byte v).map _
  | d32 v => exact (reads_dword v).map _

/-- The mod field of an operand with a displacement is below 11, and the other two values name no memory operand. -/
theorem mod_eq_two {md : BitVec 2} (h0 : md ≠ 0) (h1 : md ≠ 1) (h3 : md ≠ 3) : md = 2 := by
  revert md
  decide

theorem yields_disp16 {md : BitVec 2} (h3 : md ≠ 3) : (pDisp16 md).Yields fun d l => d.encode = (md, l) := by
  refine yields_ite (fun e => yields_pure ?_) fun h0 => yields_ite (fun e => yields_byte.map ?_) fun h1 => yields_word.map ?_
  · rw [e]
    rfl
  · rintro v l rfl
    rw [e]
    rfl
  · rintro v l rfl
    rw [mod_eq_two h0 h1 h3]
    rfl

theorem yields_disp32 {md : BitVec 2} (h3 : md ≠ 3) : (pDisp32 md).Yields fun d l => d.encode = (md, l) := by
  refine yields_ite (fun e => yields_pure ?_) fun h0 => yields_ite (fun e => yields_byte.map ?_) fun h1 => yields_dword.map ?_
  · rw [e]
    rfl
  · rintro v l rfl
    rw [e]
    rfl
  · rintro v l rfl
    rw [mod_eq_two h0 h1 h3]
    rfl

theorem Disp16.encode_mod_eq_zero {d : Disp16} : d.encode.1 = 0 ↔ d = .none := by cases d <;> simp [Disp16.encode]

theorem Disp32.encode_mod_eq_zero {d : Disp32} : d.encode.1 = 0 ↔ d = .none := by cases d <;> simp [Disp32.encode]

theorem Disp16.encode_mod_ne_three (d : Disp16) : d.encode.1 ≠ 3 := by cases d <;> simp [Disp16.encode]

theorem Disp32.encode_mod_ne_three (d : Disp32) : d.encode.1 ≠ 3 := by cases d <;> simp [Disp32.encode]

theorem Reg.code_eq_five {r : Reg} : r.code = 5 ↔ r = .ebp := by cases r <;> decide

theorem Reg.code_eq_four {r : Reg} : r.code = 4 ↔ r = .esp := by cases r <;> decide

theorem Base16.code_eq_six {b : Base16} : b.code = 6 ↔ b = .bp := by cases b <;> decide

theorem reads_sib {s : Scale} {i : Option Reg} {b : Reg} {d : Disp32} (index : i ≠ some .esp)
    (base : ¬(d = .none ∧ b = .ebp)) :
    (pSib d.encode.1).Reads (.sib s i b d) (modByte s.code (indexCode i) b.code :: d.encode.2) := by
  refine (reads_byte _).bind ?_
  simp only [modByte_mod, modByte_mid, modByte_low, Disp32.encode_mod_eq_zero, Reg.code_eq_five, if_neg base,
    Scale.ofCode_code, indexOfCode_indexCode index, Reg.ofCode_code]
  exact (reads_disp32 d).map _

theorem reads_sibDisp {s : Scale} {i : Option Reg} {d : Dword} (index : i ≠ some .esp) :
    (pSib 0).Reads (.sibDisp s i d) (modByte s.code (indexCode i) 5 :: bytes32 d) := by
  refine (reads_byte _).bind ?_
  simp only [modByte_mod, modByte_mid, modByte_low, and_self, if_true, Scale.ofCode_code, indexOfCode_indexCode index]
  exact (reads_dword d).map _

/-- The bytes of a memory operand are a mod r/m byte with a mod field below 11 and what the parser of that mod field
takes. -/
theorem reads_mem {c : Ctx} {m : Mem} (h : m.ok c = true) :
    ∃ md low tail, (∀ mid, modRM mid (.mem m) = modByte md mid low :: tail) ∧ md ≠ 3 ∧ (pMem c md low).Reads m tail := by
  cases m with
  | direct16 d =>
    have narrow : c.addr32 = false := by simpa [Mem.ok] using h
    refine ⟨0, 6, bytes16 d, fun _ => rfl, by decide, ?_⟩
    simpa [pMem, narrow] using (reads_word d).map Mem.direct16
  | based16 b d =>
    obtain ⟨narrow, form⟩ : c.addr32 = false ∧ (¬b = .bp ∨ ¬d = .none) := by simpa [Mem.ok] using h
    have based : ¬(d = .none ∧ b = .bp) := fun ⟨e, e'⟩ => form.elim (· e') (· e)
    refine ⟨d.encode.1, b.code, d.encode.2, fun _ => rfl, d.encode_mod_ne_three, ?_⟩
    simp only [pMem, narrow, Disp16.encode_mod_eq_zero, Base16.code_eq_six, if_neg based, Base16.ofCode_code]
    exact (reads_disp16 d).map _
  | direct32 d =>
    have wide : c.addr32 = true := h
    refine ⟨0, 5, bytes32 d, fun _ => rfl, by decide, ?_⟩
    simpa [pMem, wide] using (reads_dword d).map Mem.direct32
  | based32 b d =>
    obtain ⟨⟨wide, notSib⟩, form⟩ : (c.addr32 = true ∧ ¬b = .esp) ∧ (¬b = .ebp ∨ ¬d = .none) := by simpa [Mem.ok] using h
    have based : ¬(d = .none ∧ b = .ebp) := fun ⟨e, e'⟩ => form.elim (· e') (· e)
    refine ⟨d.encode.1, b.code, d.encode.2, fun _ => rfl, d.encode_mod_ne_three, ?_⟩
    simp only [pMem, wide, if_true, Disp32.encode_mod_eq_zero, Reg.code_eq_four, Reg.code_eq_five, if_neg based,
      if_neg notSib, Reg.ofCode_code]
    exact (reads_disp32 d).map _
  | sib s i b d =>
    obtain ⟨⟨wide, index⟩, form⟩ : (c.addr32 = true ∧ ¬i = some .esp) ∧ (¬b = .ebp ∨ ¬d = .none) := by
      simpa [Mem.ok] using h
    refine ⟨d.encode.1, 4, _, fun _ => rfl, d.encode_mod_ne_three, ?_⟩
    simpa [pMem, wide] using reads_sib index fun ⟨e, e'⟩ => form.elim (· e') (· e)
  | sibDisp s i d =>
    obtain ⟨wide, index⟩ : c.addr32 = true ∧ ¬i = some .esp := by simpa [Mem.ok] using h
    refine ⟨0, 4, _, fun _ => rfl, by decide, ?_⟩
    simpa [pMem, wide] using reads_sibDisp index

theorem reads_rm {c : Ctx} {rm : RM} (h : rm.ok c = true) (mid : BitVec 3) : (pRM c).Reads (mid, rm) (modRM mid rm) := by
  cases rm with
  | reg r =>
    refine (reads_byte _).bind ?_
    simp only [modByte_mod, modByte_mid, modByte_low, if_true, Reg.ofCode_code]
    exact reads_pure _
  | mem m =>
    obtain ⟨md, low, tail, bytes, below, reads⟩ := reads_mem h
    rw [bytes]
    refine (reads_byte _).bind ?_
    simp only [modByte_mod, modByte_mid, modByte_low, if_neg below]
    exact reads.map _

/-- What the parser of the s-i-b byte takes is the s-i-b byte and the displacement of an operand of the model (R277). -/
theorem yields_sib {md : BitVec 2} (below : md ≠ 3) {c : Ctx} (wide : c.addr32 = true) :
    (pSib md).Yields fun m l => m.ok c = true ∧ ∀ mid, modRM mid (.mem m) = modByte md mid 4 :: l := by
  refine yields_byte.bind fun b l e => ?_
  subst e
  have sibByte := modByte_fields b
  have noEsp := indexOfCode_ne_esp (b.extractLsb' 3 3)
  refine yields_ite (fun ⟨zero, base⟩ => yields_dword.map fun d l e => ?_) fun based => (yields_disp32 below).map fun d l e => ?_
  · refine ⟨by simp [Mem.ok, wide, noEsp], fun mid => ?_⟩
    rw [modRM, Scale.code_ofCode, indexCode_indexOfCode, ← base, sibByte, zero, e]
    rfl
  · have form : ¬(Reg.ofCode (b.extractLsb' 0 3) = .ebp ∧ d = .none) := by
      rw [← Reg.code_eq_five, Reg.code_ofCode, ← Disp32.encode_mod_eq_zero, e]
      exact fun ⟨base, zero⟩ => based ⟨zero, base⟩
    refine ⟨by simpa [Mem.ok, wide, noEsp, imp_iff_not_or] using form, fun mid => ?_⟩
    rw [modRM, Scale.code_ofCode, indexCode_indexOfCode, Reg.code_ofCode, sibByte, e]
    rfl

theorem yields_mem {c : Ctx} {md : BitVec 2} (below : md ≠ 3) (low : BitVec 3) :
    (pMem c md low).Yields fun m l => m.ok c = true ∧ ∀ mid, modRM mid (.mem m) = modByte md mid low :: l := by
  refine yields_ite (fun wide => ?_) fun narrow => ?_
  · refine yields_ite (fun e => e ▸ yields_sib below wide) fun notSib =>
      yields_ite (fun ⟨zero, five⟩ => yields_dword.map fun d l e => ?_) fun based => (yields_disp32 below).map fun d l e => ?_
    · exact ⟨wide, fun mid => by rw [modRM, zero, five, e]⟩
    · have form : Reg.ofCode low = .ebp → ¬d = .none := by
        rw [← Reg.code_eq_five, Reg.code_ofCode, ← Disp32.encode_mod_eq_zero, e]
        exact fun base zero => based ⟨zero, base⟩
      have base : ¬Reg.ofCode low = .esp := by rwa [← Reg.code_eq_four, Reg.code_ofCode]
      refine ⟨by simpa [Mem.ok, wide, base, imp_iff_not_or] using form, fun mid => ?_⟩
      rw [modRM, Reg.code_ofCode, e]
  · refine yields_ite (fun ⟨zero, six⟩ => yields_word.map fun d l e => ?_) fun based => (yields_disp16 below).map fun d l e => ?_
    · exact ⟨by simp [Mem.ok, narrow], fun mid => by rw [modRM, zero, six, e]⟩
    · have form : Base16.ofCode low = .bp → ¬d = .none := by
        rw [← Base16.code_eq_six, Base16.code_ofCode, ← Disp16.encode_mod_eq_zero, e]
        exact fun base zero => based ⟨zero, base⟩
      refine ⟨by simpa [Mem.ok, narrow, imp_iff_not_or] using form, fun mid => ?_⟩
      rw [modRM, Base16.code_ofCode, e]

theorem yields_rm (c : Ctx) : (pRM c).Yields fun p l => p.2.ok c = true ∧ l = modRM p.1 p.2 := by
  refine yields_byte.bind fun b l e => ?_
  subst e
  refine yields_ite (fun three => yields_pure ⟨rfl, ?_⟩) fun below => (yields_mem below _).map fun m l ⟨ok, bytes⟩ => ⟨ok, ?_⟩
  · rw [List.append_nil, modRM, Reg.code_ofCode, ← three, modByte_fields]
  · rw [bytes, modByte_fields]
    rfl

end Sys2Proof

/-! What the rows of the opcode maps yield (spec/30_encoding.md R300 to R302): a well-formed instruction and the bytes of its
encoding. One lemma for each kind of row, and then the maps. -/

namespace Sys2Proof

/-! ## The rest of an instruction -/

/-- The instruction is well formed, and its encoding is what has been read and these bytes. -/
def Encoded (c : Ctx) (start : List Byte) (i : Instr) (l : List Byte) : Prop := i.wf c = true ∧ encode i = start ++ l

section
variable {α : Type} {c : Ctx} {start : List Byte}

/-- A field read before the rest of the instruction. -/
theorem Parser.Yields.field {p : Parser α} {q : α → List Byte → Prop} {f : α → Parser Instr} (hp : p.Yields q)
    (hf : ∀ a l, q a l → (f a).Yields (Encoded c (start ++ l))) : (p.bind f).Yields (Encoded c start) :=
  hp.bind fun a l hq => (hf a l hq).mono fun i m ⟨ok, bytes⟩ => ⟨ok, by rw [bytes, List.append_assoc]⟩

/-- A field that is the last. -/
theorem Parser.Yields.last {p : Parser α} {q : α → List Byte → Prop} {f : α → Instr} (hp : p.Yields q)
    (hf : ∀ a l, q a l → Encoded c start (f a) l) : (p.map f).Yields (Encoded c start) :=
  hp.map hf

theorem yields_one {i : Instr} (wf : i.wf c = true) (bytes : encode i = start) : (one i).Yields (Encoded c start) :=
  yields_pure ⟨wf, by rw [bytes, List.append_nil]⟩

theorem yields_withByte {f : Byte → Instr} (h : ∀ b, (f b).wf c = true ∧ encode (f b) = start ++ [b]) :
    (withByte f).Yields (Encoded c start) :=
  yields_byte.last fun b _ e => e ▸ h b

theorem yields_withImm {s w : Bool} {f : Imm → Instr}
    (h : ∀ imm, imm.ok c s w = true → (f imm).wf c = true ∧ encode (f imm) = start ++ imm.bytes) :
    (withImm c s w f).Yields (Encoded c start) :=
  (yields_imm c s w).last fun imm _ ⟨ok, e⟩ => e ▸ h imm ok

theorem yields_rm_field {f : BitVec 3 × RM → Parser Instr}
    (h : ∀ mid rm, rm.ok c = true → (f (mid, rm)).Yields (Encoded c (start ++ modRM mid rm))) :
    ((pRM c).bind f).Yields (Encoded c start) :=
  (yields_rm c).field fun p _ ⟨ok, e⟩ => e ▸ h p.1 p.2 ok

theorem yields_regRM {f : Reg → RM → Instr}
    (h : ∀ r rm, (f r rm).wf c = rm.ok c ∧ encode (f r rm) = start ++ modRM r.code rm) :
    (pRegRM c f).Yields (Encoded c start) :=
  (yields_rm c).last fun p _ ⟨ok, e⟩ => by
    obtain ⟨wf, bytes⟩ := h (Reg.ofCode p.1) p.2
    exact ⟨wf.trans ok, by rw [bytes, Reg.code_ofCode, e]⟩

theorem yields_regMem {f : Reg → Mem → Instr}
    (h : ∀ r m, (f r m).wf c = m.ok c ∧ encode (f r m) = start ++ modRM r.code (.mem m)) :
    (pRegMem c f).Yields (Encoded c start) := by
  refine yields_rm_field fun mid rm ok => ?_
  cases rm with
  | reg r => exact yields_invalid
  | mem m =>
    obtain ⟨wf, bytes⟩ := h (Reg.ofCode mid) m
    exact yields_one (wf.trans ok) (by rw [bytes, Reg.code_ofCode])

theorem yields_onMem {f : Mem → Instr} {rm : RM} {mid : BitVec 3} (ok : rm.ok c = true)
    (h : ∀ m, (f m).wf c = m.ok c ∧ encode (f m) = start ++ modRM mid (.mem m)) :
    (onMem f rm).Yields (Encoded c (start ++ modRM mid rm)) := by
  cases rm with
  | reg r => exact yields_invalid
  | mem m =>
    obtain ⟨wf, bytes⟩ := h m
    exact yields_one (wf.trans ok) bytes

/-- A group: one parser for each value of bits 5:3 (R301). -/
theorem yields_group {f : Nat → RM → Parser Instr}
    (h : ∀ k rm, rm.ok c = true → (f (BitVec.toNat k) rm).Yields (Encoded c (start ++ modRM k rm))) :
    (pGroup c f).Yields (Encoded c start) :=
  yields_rm_field h

theorem yields_zeroGroup {f : RM → Parser Instr}
    (h : ∀ rm, rm.ok c = true → (f rm).Yields (Encoded c (start ++ modRM 0 rm))) :
    (pZeroGroup c f).Yields (Encoded c start) := by
  refine yields_group fun k rm ok => ?_
  split
  · next e =>
    rw [show k = 0 from BitVec.eq_of_toNat_eq e]
    exact h rm ok
  · exact yields_invalid

theorem yields_segRM {f : Seg → RM → Parser Instr}
    (h : ∀ sg rm, rm.ok c = true → (f sg rm).Yields (Encoded c (start ++ modRM sg.code rm))) :
    (pSegRM c f).Yields (Encoded c start) := by
  refine yields_rm_field fun mid rm ok => ?_
  dsimp only
  split
  · next sg e =>
    rw [← Seg.code_of_ofCode e]
    exact h sg rm ok
  · exact yields_invalid

theorem yields_special {reg : BitVec 3 → Option α} {code : α → BitVec 3} (inverse : ∀ b x, reg b = some x → code x = b)
    {f : α → Reg → Instr} (h : ∀ x r, (f x r).wf c = true ∧ encode (f x r) = start ++ [modByte 3 (code x) r.code]) :
    (pSpecial reg f).Yields (Encoded c start) := by
  refine yields_byte.field fun b l e => yields_ite (fun three => ?_) fun _ => yields_invalid
  subst e
  split
  · next x named =>
    obtain ⟨wf, bytes⟩ := h x (Reg.ofCode (b.extractLsb' 0 3))
    refine yields_one wf ?_
    rw [bytes, inverse _ _ named, Reg.code_ofCode, ← three, modByte_fields]
  · exact yields_invalid

/-! ## Kinds of rows -/

/-- Whatever a row yields for an opcode byte that it applies to is well formed, and its encoding is the bytes before the
opcode, the opcode and the bytes taken. The one-byte opcode 90h is left out: it is NOP, though a later row applies to it too
(R303). -/
def OpRow.Sound (before : List Byte) (row : OpRow) : Prop :=
  ∀ c op, op &&& row.mask = row.value → (before = [] → op ≠ 0x90) → (row.parse c op).Yields (Encoded c (before ++ [op]))

variable {before : List Byte}

theorem sound_fixedRow {op : Byte} {p : Ctx → Parser Instr} (h : ∀ c, (p c).Yields (Encoded c (before ++ [op]))) :
    (fixedRow op p).Sound before := by
  intro c op' (e : op' &&& 0xFF = op) _
  have same : op' = op := by
    rw [← e]
    exact (BitVec.and_allOnes (x := op')).symm
  rw [same]
  exact h c

theorem sound_plainRow {op : Byte} {i : Instr} (wf : ∀ c, i.wf c = true) (bytes : encode i = before ++ [op]) :
    (plainRow op i).Sound before :=
  sound_fixedRow fun c => yields_one (wf c) bytes

theorem sound_byteRow {op : Byte} {f : Byte → Instr} (h : ∀ c b, (f b).wf c = true ∧ encode (f b) = before ++ [op] ++ [b]) :
    (byteRow op f).Sound before :=
  sound_fixedRow fun c => yields_withByte (h c)

theorem sound_fullRow {op : Byte} {f : Full → Instr}
    (h : ∀ c v, (f v).wf c = v.okO c ∧ encode (f v) = before ++ [op] ++ v.bytes) : (fullRow op f).Sound before :=
  sound_fixedRow fun c => (yields_full c.op32).last fun v l ⟨wide, e⟩ =>
    ⟨(h c v).1.trans (Full.okO_iff.mpr wide), by rw [(h c v).2, e]⟩

theorem sound_wordRow {op : Byte} {f : Word → Parser Instr}
    (h : ∀ c n, (f n).Yields (Encoded c (before ++ [op] ++ bytes16 n))) : (wordRow op f).Sound before :=
  sound_fixedRow fun c => yields_word.field fun n _ e => e ▸ h c n

/-- The w field put back into the opcode without it. -/
theorem opW_masked : ∀ op : Byte, opW (op &&& 0xFE) (bitW op) = op := by decide

theorem opS_masked : ∀ op : Byte, opS (op &&& 0xFD) (bitD op) = op := by decide

theorem opDW_masked : ∀ op : Byte, opDW (op &&& 0xFC) (bitD op) (bitW op) = op := by decide

theorem opReg_masked : ∀ op : Byte, opReg (op &&& 0xF8) (opcodeReg op) = op := by decide

theorem opWReg_masked : ∀ op : Byte, opWReg (op &&& 0xF0) (op.getLsbD 3) (opcodeReg op) = op := by decide

theorem opSreg2_masked : ∀ op : Byte, opSreg2 (op &&& 0xE7) (opcodeSreg2 op) = op := by decide

theorem esc_masked : ∀ op : Byte, (op &&& 0xF8) ||| (op.extractLsb' 0 3).setWidth 8 = op := by decide

theorem opcodeSreg2_isSreg2 : ∀ op : Byte, (opcodeSreg2 op).isSreg2 = true := by decide

/-- A row with a w field: the opcode is that of its w field. -/
theorem sound_wField {v : Byte} {p : Ctx → Byte → Parser Instr}
    (h : ∀ c op, opW v (bitW op) = op → (p c op).Yields (Encoded c (before ++ [op]))) : OpRow.Sound before ⟨0xFE, v, p⟩ :=
  fun c op (e : op &&& 0xFE = v) _ => h c op (e ▸ opW_masked op)

theorem sound_sField {v : Byte} {p : Ctx → Byte → Parser Instr}
    (h : ∀ c op, opS v (bitD op) = op → (p c op).Yields (Encoded c (before ++ [op]))) : OpRow.Sound before ⟨0xFD, v, p⟩ :=
  fun c op (e : op &&& 0xFD = v) _ => h c op (e ▸ opS_masked op)

theorem sound_wRow {v : Byte} {f : Bool → Instr} (h : ∀ c w, (f w).wf c = true ∧ encode (f w) = before ++ [opW v w]) :
    (wRow v f).Sound before :=
  sound_wField fun c op e => yields_one (h c _).1 (by rw [(h c _).2, e])

theorem sound_dwRow {v : Byte} {f : Bool → Bool → RM → Reg → Instr}
    (h : ∀ c d w rm r, (f d w rm r).wf c = rm.ok c ∧ encode (f d w rm r) = before ++ [opDW v d w] ++ modRM r.code rm) :
    (dwRow v f).Sound before := fun c op (e : op &&& 0xFC = v) _ => by
  have field : opDW v (bitD op) (bitW op) = op := e ▸ opDW_masked op
  exact yields_regRM fun r rm => by
    have all := h c (bitD op) (bitW op) rm r
    rwa [field] at all

theorem sound_wRegRow {v : Byte} {f : Bool → Reg → RM → Instr}
    (h : ∀ c w r rm, (f w r rm).wf c = rm.ok c ∧ encode (f w r rm) = before ++ [opW v w] ++ modRM r.code rm) :
    (wRegRow v f).Sound before :=
  sound_wField fun c op field => yields_regRM fun r rm => by
    have all := h c (bitW op) r rm
    rwa [field] at all

theorem sound_wImmRow {v : Byte} {f : Bool → Imm → Instr}
    (h : ∀ c w imm, (f w imm).wf c = imm.ok c false w ∧ encode (f w imm) = before ++ [opW v w] ++ imm.bytes) :
    (wImmRow v f).Sound before :=
  sound_wField fun c op field => yields_withImm fun imm ok => by
    have all := h c (bitW op) imm
    rwa [field, ok] at all

theorem sound_regRow {v : Byte} {f : Reg → Instr} (h : ∀ c r, (f r).wf c = true ∧ encode (f r) = before ++ [opReg v r]) :
    (regRow v f).Sound before := fun c op (e : op &&& 0xF8 = v) _ => by
  have field : opReg v (opcodeReg op) = op := e ▸ opReg_masked op
  exact yields_one (h c _).1 (by rw [(h c _).2, field])

/-! ## The groups (R301) -/

theorem yields_unlisted (k : BitVec 3) (rm : RM) (_ : rm.ok c = true) :
    Parser.invalid.Yields (Encoded c (start ++ modRM k rm)) := yields_invalid

theorem yields_member {f : RM → Instr} {k : BitVec 3}
    (h : ∀ rm, (f rm).wf c = rm.ok c ∧ encode (f rm) = start ++ modRM k rm) (rm : RM) (ok : rm.ok c = true) :
    (one (f rm)).Yields (Encoded c (start ++ modRM k rm)) :=
  yields_one ((h rm).1.trans ok) (h rm).2

theorem yields_memberMem {f : Mem → Instr} {k : BitVec 3}
    (h : ∀ m, (f m).wf c = m.ok c ∧ encode (f m) = start ++ modRM k (.mem m)) (rm : RM) (ok : rm.ok c = true) :
    (onMem f rm).Yields (Encoded c (start ++ modRM k rm)) :=
  yields_onMem ok h

theorem yields_memberByte {f : RM → Byte → Instr} {k : BitVec 3}
    (h : ∀ rm b, (f rm b).wf c = rm.ok c ∧ encode (f rm b) = start ++ modRM k rm ++ [b]) (rm : RM) (ok : rm.ok c = true) :
    (withByte (f rm)).Yields (Encoded c (start ++ modRM k rm)) :=
  yields_withByte fun b => ⟨(h rm b).1.trans ok, (h rm b).2⟩

theorem yields_memberImm {s w : Bool} {f : RM → Imm → Instr} {k : BitVec 3}
    (h : ∀ rm imm, (f rm imm).wf c = (rm.ok c && imm.ok c s w) ∧ encode (f rm imm) = start ++ modRM k rm ++ imm.bytes)
    (rm : RM) (ok : rm.ok c = true) : (withImm c s w (f rm)).Yields (Encoded c (start ++ modRM k rm)) :=
  yields_withImm fun imm immOk => ⟨by rw [(h rm imm).1, ok, immOk]; rfl, (h rm imm).2⟩

theorem yields_groupImm {s w : Bool} (listed : (w || !s) = true) : (groupImm c s w).Yields (Encoded c [opSW 0x80 s w]) := by
  have okSW (imm : Imm) : imm.okSW c s w = imm.ok c s w := by rw [Imm.okSW, listed, Bool.true_and]
  refine yields_group (forall_field3 ?_ ?_ ?_ ?_ ?_ ?_ ?_ ?_) <;>
    exact yields_memberImm fun rm imm => ⟨congrArg (rm.ok c && ·) (okSW imm), rfl⟩

theorem yields_groupF6 (w : Bool) : (groupF6 c w).Yields (Encoded c [opW 0xF6 w]) :=
  yields_group (forall_field3 (yields_memberImm fun _ _ => ⟨rfl, rfl⟩) (yields_unlisted 1) (yields_member fun _ => ⟨rfl, rfl⟩)
    (yields_member fun _ => ⟨rfl, rfl⟩) (yields_member fun _ => ⟨rfl, rfl⟩) (yields_member fun _ => ⟨rfl, rfl⟩)
    (yields_member fun _ => ⟨rfl, rfl⟩) (yields_member fun _ => ⟨rfl, rfl⟩))

theorem yields_groupFE : (groupFE c).Yields (Encoded c [0xFE]) :=
  yields_group (forall_field3 (yields_member fun _ => ⟨rfl, rfl⟩) (yields_member fun _ => ⟨rfl, rfl⟩) (yields_unlisted 2)
    (yields_unlisted 3) (yields_unlisted 4) (yields_unlisted 5) (yields_unlisted 6) (yields_unlisted 7))

theorem yields_groupFF : (groupFF c).Yields (Encoded c [0xFF]) :=
  yields_group (forall_field3 (yields_member fun _ => ⟨rfl, rfl⟩) (yields_member fun _ => ⟨rfl, rfl⟩)
    (yields_member fun _ => ⟨rfl, rfl⟩) (yields_memberMem fun _ => ⟨rfl, rfl⟩) (yields_member fun _ => ⟨rfl, rfl⟩)
    (yields_memberMem fun _ => ⟨rfl, rfl⟩) (yields_member fun _ => ⟨rfl, rfl⟩) (yields_unlisted 7))

theorem yields_groupShiftOne (w : Bool) : (groupShiftOne c w).Yields (Encoded c [opW 0xD0 w]) :=
  yields_group (forall_field3 (yields_member fun _ => ⟨rfl, rfl⟩) (yields_member fun _ => ⟨rfl, rfl⟩)
    (yields_member fun _ => ⟨rfl, rfl⟩) (yields_member fun _ => ⟨rfl, rfl⟩) (yields_member fun _ => ⟨rfl, rfl⟩)
    (yields_member fun _ => ⟨rfl, rfl⟩) (yields_unlisted 6) (yields_member fun _ => ⟨rfl, rfl⟩))

theorem yields_groupShiftCl (w : Bool) : (groupShiftCl c w).Yields (Encoded c [opW 0xD2 w]) :=
  yields_group (forall_field3 (yields_member fun _ => ⟨rfl, rfl⟩) (yields_member fun _ => ⟨rfl, rfl⟩)
    (yields_member fun _ => ⟨rfl, rfl⟩) (yields_member fun _ => ⟨rfl, rfl⟩) (yields_member fun _ => ⟨rfl, rfl⟩)
    (yields_member fun _ => ⟨rfl, rfl⟩) (yields_unlisted 6) (yields_member fun _ => ⟨rfl, rfl⟩))

theorem yields_groupShiftImm (w : Bool) : (groupShiftImm c w).Yields (Encoded c [opW 0xC0 w]) :=
  yields_group (forall_field3 (yields_memberByte fun _ _ => ⟨rfl, rfl⟩) (yields_memberByte fun _ _ => ⟨rfl, rfl⟩)
    (yields_memberByte fun _ _ => ⟨rfl, rfl⟩) (yields_memberByte fun _ _ => ⟨rfl, rfl⟩)
    (yields_memberByte fun _ _ => ⟨rfl, rfl⟩) (yields_memberByte fun _ _ => ⟨rfl, rfl⟩) (yields_unlisted 6)
    (yields_memberByte fun _ _ => ⟨rfl, rfl⟩))

theorem yields_group0F00 : (group0F00 c).Yields (Encoded c [0x0F, 0x00]) :=
  yields_group (forall_field3 (yields_member fun _ => ⟨rfl, rfl⟩) (yields_member fun _ => ⟨rfl, rfl⟩)
    (yields_member fun _ => ⟨rfl, rfl⟩) (yields_member fun _ => ⟨rfl, rfl⟩) (yields_member fun _ => ⟨rfl, rfl⟩)
    (yields_member fun _ => ⟨rfl, rfl⟩) (yields_unlisted 6) (yields_unlisted 7))

theorem yields_group0F01 : (group0F01 c).Yields (Encoded c [0x0F, 0x01]) :=
  yields_group (forall_field3 (yields_memberMem fun _ => ⟨rfl, rfl⟩) (yields_memberMem fun _ => ⟨rfl, rfl⟩)
    (yields_memberMem fun _ => ⟨rfl, rfl⟩) (yields_memberMem fun _ => ⟨rfl, rfl⟩) (yields_member fun _ => ⟨rfl, rfl⟩)
    (yields_unlisted 5) (yields_member fun _ => ⟨rfl, rfl⟩) (yields_unlisted 7))

theorem yields_group0FBA : (group0FBA c).Yields (Encoded c [0x0F, 0xBA]) :=
  yields_group (forall_field3 (yields_unlisted 0) (yields_unlisted 1) (yields_unlisted 2) (yields_unlisted 3)
    (yields_memberByte fun _ _ => ⟨rfl, rfl⟩) (yields_memberByte fun _ _ => ⟨rfl, rfl⟩)
    (yields_memberByte fun _ _ => ⟨rfl, rfl⟩) (yields_memberByte fun _ _ => ⟨rfl, rfl⟩))

end

end Sys2Proof

/-! The opcode maps row by row, and the decoder behind the prefixes: whatever it yields is well formed, with the bytes of its
encoding. -/

namespace Sys2Proof

section
variable {before : List Byte}

theorem sound_nil : ∀ row ∈ ([] : List OpRow), row.Sound before := fun _ m => absurd m List.not_mem_nil

theorem sound_cons {row : OpRow} {rows : List OpRow} (h : row.Sound before) (hs : ∀ row ∈ rows, row.Sound before) :
    ∀ r ∈ row :: rows, r.Sound before := List.forall_mem_cons.mpr ⟨h, hs⟩

theorem sound_append {rows rows' : List OpRow} (h : ∀ row ∈ rows, row.Sound before) (h' : ∀ row ∈ rows', row.Sound before) :
    ∀ row ∈ rows ++ rows', row.Sound before := List.forall_mem_append.mpr ⟨h, h'⟩

/-- A row for one opcode byte with a mod reg r/m byte. -/
theorem sound_regRM {op : Byte} {f : Reg → RM → Instr}
    (h : ∀ c r rm, (f r rm).wf c = rm.ok c ∧ encode (f r rm) = before ++ [op] ++ modRM r.code rm) :
    (fixedRow op fun c => pRegRM c f).Sound before := sound_fixedRow fun c => yields_regRM (h c)

theorem sound_regMem {op : Byte} {f : Reg → Mem → Instr}
    (h : ∀ c r m, (f r m).wf c = m.ok c ∧ encode (f r m) = before ++ [op] ++ modRM r.code (.mem m)) :
    (fixedRow op fun c => pRegMem c f).Sound before := sound_fixedRow fun c => yields_regMem (h c)

theorem sound_setRow {op : Byte} {f : RM → Instr}
    (h : ∀ c rm, (f rm).wf c = rm.ok c ∧ encode (f rm) = before ++ [op] ++ modRM 0 rm) : (setRow op f).Sound before :=
  sound_fixedRow fun c => yields_zeroGroup fun rm ok => yields_one ((h c rm).1.trans ok) (h c rm).2

/-- A row with a count behind a mod reg r/m byte (R480, R481). -/
theorem sound_regRMByte {op : Byte} {f : RM → Reg → Byte → Instr}
    (h : ∀ c rm r b, (f rm r b).wf c = rm.ok c ∧ encode (f rm r b) = before ++ [op] ++ modRM r.code rm ++ [b]) :
    (fixedRow op fun c => (pRM c).bind fun p => withByte (f p.2 (Reg.ofCode p.1))).Sound before :=
  sound_fixedRow fun c => yields_rm_field fun mid rm ok => yields_withByte fun b => by
    obtain ⟨wf, bytes⟩ := h c rm (Reg.ofCode mid) b
    exact ⟨wf.trans ok, by rw [bytes, Reg.code_ofCode]⟩

theorem sound_special {α : Type} {op : Byte} {reg : BitVec 3 → Option α} {code : α → BitVec 3}
    (inverse : ∀ b x, reg b = some x → code x = b) {f : α → Reg → Instr}
    (h : ∀ c x r, (f x r).wf c = true ∧ encode (f x r) = before ++ [op] ++ [modByte 3 (code x) r.code]) :
    (fixedRow op fun _ => pSpecial reg f).Sound before := sound_fixedRow fun c => yields_special inverse (h c)

theorem sound_byteField {v : Byte} {f : Bool → Byte → Instr}
    (h : ∀ c w b, (f w b).wf c = true ∧ encode (f w b) = before ++ [opW v w] ++ [b]) :
    OpRow.Sound before ⟨0xFE, v, fun _ b => withByte (f (bitW b))⟩ :=
  sound_wField fun c op field => yields_withByte fun b => by
    have all := h c (bitW op) b
    rwa [field] at all

/-- A row with a w field and a full offset of the address size (R267). -/
theorem sound_offset {v : Byte} {f : Bool → Full → Instr}
    (h : ∀ c w off, (f w off).wf c = off.okA c ∧ encode (f w off) = before ++ [opW v w] ++ off.bytes) :
    OpRow.Sound before ⟨0xFE, v, fun c b => (pFull c.addr32).map (f (bitW b))⟩ :=
  sound_wField fun c op field => (yields_full c.addr32).last fun off l ⟨wide, e⟩ => by
    obtain ⟨wf, bytes⟩ := h c (bitW op) off
    exact ⟨wf.trans (Full.okA_iff.mpr wide), by rw [bytes, field, e]⟩

theorem sound_far {op : Byte} {f : FarPtr → Instr}
    (h : ∀ c p, (f p).wf c = p.off.okO c ∧ encode (f p) = before ++ [op] ++ p.bytes) :
    (fixedRow op fun c => (pFar c).map f).Sound before :=
  sound_fixedRow fun c => (yields_far c).last fun p l ⟨ok, e⟩ => ⟨(h c p).1.trans ok, by rw [(h c p).2, e]⟩

end

theorem sound_pushSeg : OpRow.Sound [] ⟨0xE7, 0x06, fun _ b => one (.pushSeg (opcodeSreg2 b))⟩ := by
  intro c op (e : op &&& 0xE7 = 0x06) _
  have field : opSreg2 0x06 (opcodeSreg2 op) = op := e ▸ opSreg2_masked op
  exact yields_one (opcodeSreg2_isSreg2 op) (congrArg ([·]) field)

theorem sound_opcodes00 : ∀ row ∈ opcodes00, row.Sound [] :=
  sound_cons (sound_dwRow fun _ _ _ _ _ => ⟨rfl, rfl⟩) <| sound_cons (sound_wImmRow fun _ _ _ => ⟨rfl, rfl⟩) <|
  sound_cons (sound_dwRow fun _ _ _ _ _ => ⟨rfl, rfl⟩) <| sound_cons (sound_wImmRow fun _ _ _ => ⟨rfl, rfl⟩) <|
  sound_cons (sound_dwRow fun _ _ _ _ _ => ⟨rfl, rfl⟩) <| sound_cons (sound_wImmRow fun _ _ _ => ⟨rfl, rfl⟩) <|
  sound_cons (sound_dwRow fun _ _ _ _ _ => ⟨rfl, rfl⟩) <| sound_cons (sound_wImmRow fun _ _ _ => ⟨rfl, rfl⟩) <|
  sound_cons (sound_dwRow fun _ _ _ _ _ => ⟨rfl, rfl⟩) <| sound_cons (sound_wImmRow fun _ _ _ => ⟨rfl, rfl⟩) <|
  sound_cons (sound_dwRow fun _ _ _ _ _ => ⟨rfl, rfl⟩) <| sound_cons (sound_wImmRow fun _ _ _ => ⟨rfl, rfl⟩) <|
  sound_cons (sound_dwRow fun _ _ _ _ _ => ⟨rfl, rfl⟩) <| sound_cons (sound_wImmRow fun _ _ _ => ⟨rfl, rfl⟩) <|
  sound_cons (sound_dwRow fun _ _ _ _ _ => ⟨rfl, rfl⟩) <| sound_cons (sound_wImmRow fun _ _ _ => ⟨rfl, rfl⟩) <|
  sound_cons sound_pushSeg <| sound_cons (sound_plainRow (fun _ => rfl) rfl) <|
  sound_cons (sound_plainRow (fun _ => rfl) rfl) <| sound_cons (sound_plainRow (fun _ => rfl) rfl) <|
  sound_cons (sound_plainRow (fun _ => rfl) rfl) <| sound_cons (sound_plainRow (fun _ => rfl) rfl) <|
  sound_cons (sound_plainRow (fun _ => rfl) rfl) <| sound_cons (sound_plainRow (fun _ => rfl) rfl) <| sound_nil

theorem sound_pushImm : OpRow.Sound [] ⟨0xFD, 0x68, fun c b => withImm c (bitD b) true (.pushImm (bitD b))⟩ :=
  sound_sField fun _ _ field => yields_withImm fun imm ok => ⟨ok, congrArg (· :: imm.bytes) field⟩

theorem sound_imulRegRmImm :
    OpRow.Sound [] ⟨0xFD, 0x69, fun c b => (pRM c).bind fun p =>
      withImm c (bitD b) true (.imulRegRmImm (bitD b) (Reg.ofCode p.1) p.2)⟩ :=
  sound_sField fun c op field => yields_rm_field fun mid rm rmOk => yields_withImm fun imm ok =>
    ⟨Bool.and_eq_true_iff.mpr ⟨rmOk, ok⟩, by
      show opS 0x69 (bitD op) :: (modRM (Reg.ofCode mid).code rm ++ imm.bytes) = op :: (modRM mid rm ++ imm.bytes)
      rw [field, Reg.code_ofCode]⟩

theorem sound_opcodes40 : ∀ row ∈ opcodes40, row.Sound [] :=
  sound_cons (sound_regRow fun _ _ => ⟨rfl, rfl⟩) <| sound_cons (sound_regRow fun _ _ => ⟨rfl, rfl⟩) <|
  sound_cons (sound_regRow fun _ _ => ⟨rfl, rfl⟩) <| sound_cons (sound_regRow fun _ _ => ⟨rfl, rfl⟩) <|
  sound_cons (sound_plainRow (fun _ => rfl) rfl) <| sound_cons (sound_plainRow (fun _ => rfl) rfl) <|
  sound_cons (sound_regMem fun _ _ _ => ⟨rfl, rfl⟩) <| sound_cons (sound_regRM fun _ _ _ => ⟨rfl, rfl⟩) <|
  sound_cons sound_pushImm <| sound_cons sound_imulRegRmImm <| sound_cons (sound_wRow fun _ _ => ⟨rfl, rfl⟩) <|
  sound_cons (sound_wRow fun _ _ => ⟨rfl, rfl⟩) <| sound_nil

theorem sound_opcodes70 : ∀ row ∈ opcodes70, row.Sound [] :=
  sound_cons (sound_byteRow fun _ _ => ⟨rfl, rfl⟩) <| sound_cons (sound_byteRow fun _ _ => ⟨rfl, rfl⟩) <|
  sound_cons (sound_byteRow fun _ _ => ⟨rfl, rfl⟩) <| sound_cons (sound_byteRow fun _ _ => ⟨rfl, rfl⟩) <|
  sound_cons (sound_byteRow fun _ _ => ⟨rfl, rfl⟩) <| sound_cons (sound_byteRow fun _ _ => ⟨rfl, rfl⟩) <|
  sound_cons (sound_byteRow fun _ _ => ⟨rfl, rfl⟩) <| sound_cons (sound_byteRow fun _ _ => ⟨rfl, rfl⟩) <|
  sound_cons (sound_byteRow fun _ _ => ⟨rfl, rfl⟩) <| sound_cons (sound_byteRow fun _ _ => ⟨rfl, rfl⟩) <|
  sound_cons (sound_byteRow fun _ _ => ⟨rfl, rfl⟩) <| sound_cons (sound_byteRow fun _ _ => ⟨rfl, rfl⟩) <|
  sound_cons (sound_byteRow fun _ _ => ⟨rfl, rfl⟩) <| sound_cons (sound_byteRow fun _ _ => ⟨rfl, rfl⟩) <|
  sound_cons (sound_byteRow fun _ _ => ⟨rfl, rfl⟩) <| sound_cons (sound_byteRow fun _ _ => ⟨rfl, rfl⟩) <| sound_nil

theorem sound_groupImm : OpRow.Sound [] ⟨0xFE, 0x80, fun c b => groupImm c false (bitW b)⟩ :=
  sound_wField fun c op field => by
    have group := yields_groupImm (c := c) (s := false) (w := bitW op) (by simp)
    rwa [show opSW 0x80 false (bitW op) = op from field] at group

theorem sound_movRmSeg : (fixedRow 0x8C fun c => pSegRM c fun sg rm => one (.movRmSeg rm sg)).Sound [] :=
  sound_fixedRow fun _ => yields_segRM fun _ _ ok => yields_one ok rfl

theorem sound_movSegRm :
    (fixedRow 0x8E fun c => pSegRM c fun sg rm => if sg = .cs then Parser.invalid else one (.movSegRm sg rm)).Sound [] :=
  sound_fixedRow fun c => yields_segRM fun sg rm ok => yields_ite (fun _ => yields_invalid) fun notCs =>
    yields_one (by
      show (rm.ok c && sg != .cs) = true
      simp [ok, notCs]) rfl

theorem sound_popRm : (fixedRow 0x8F fun c => pZeroGroup c fun rm => one (.popRm rm)).Sound [] :=
  sound_fixedRow fun _ => yields_zeroGroup fun _ ok => yields_one ok rfl

/-- The row of XCHG with the accumulator, which 90h does not reach (R303). -/
theorem sound_xchgAcc : (regRow 0x90 .xchgAcc).Sound [] := by
  intro c op (e : op &&& 0xF8 = 0x90) notNop
  have field : opReg 0x90 (opcodeReg op) = op := e ▸ opReg_masked op
  refine yields_one (bne_iff_ne.mpr fun acc => notNop rfl ?_) (congrArg ([·]) field)
  rw [← field, acc]
  rfl

theorem sound_opcodes80 : ∀ row ∈ opcodes80, row.Sound [] :=
  sound_cons sound_groupImm <| sound_cons (sound_fixedRow fun _ => yields_groupImm rfl) <|
  sound_cons (sound_wRegRow fun _ _ _ _ => ⟨rfl, rfl⟩) <| sound_cons (sound_wRegRow fun _ _ _ _ => ⟨rfl, rfl⟩) <|
  sound_cons (sound_wRegRow fun _ _ _ _ => ⟨rfl, rfl⟩) <| sound_cons (sound_wRegRow fun _ _ _ _ => ⟨rfl, rfl⟩) <|
  sound_cons sound_movRmSeg <| sound_cons (sound_regMem fun _ _ _ => ⟨rfl, rfl⟩) <| sound_cons sound_movSegRm <|
  sound_cons sound_popRm <| sound_cons (sound_plainRow (fun _ => rfl) rfl) <| sound_cons sound_xchgAcc <|
  sound_cons (sound_plainRow (fun _ => rfl) rfl) <| sound_cons (sound_plainRow (fun _ => rfl) rfl) <|
  sound_cons (sound_far fun _ _ => ⟨rfl, rfl⟩) <| sound_cons (sound_plainRow (fun _ => rfl) rfl) <|
  sound_cons (sound_plainRow (fun _ => rfl) rfl) <| sound_cons (sound_plainRow (fun _ => rfl) rfl) <|
  sound_cons (sound_plainRow (fun _ => rfl) rfl) <| sound_cons (sound_plainRow (fun _ => rfl) rfl) <| sound_nil

theorem sound_movRegImm :
    OpRow.Sound [] ⟨0xF0, 0xB0, fun c b => withImm c false (b.getLsbD 3) (.movRegImm (b.getLsbD 3) (opcodeReg b))⟩ := by
  intro c op (e : op &&& 0xF0 = 0xB0) _
  have field : opWReg 0xB0 (op.getLsbD 3) (opcodeReg op) = op := e ▸ opWReg_masked op
  exact yields_withImm fun imm ok => ⟨ok, congrArg (· :: imm.bytes) field⟩

theorem sound_opcodesA0 : ∀ row ∈ opcodesA0, row.Sound [] :=
  sound_cons (sound_offset fun _ _ _ => ⟨rfl, rfl⟩) <| sound_cons (sound_offset fun _ _ _ => ⟨rfl, rfl⟩) <|
  sound_cons (sound_wRow fun _ _ => ⟨rfl, rfl⟩) <| sound_cons (sound_wRow fun _ _ => ⟨rfl, rfl⟩) <|
  sound_cons (sound_wImmRow fun _ _ _ => ⟨rfl, rfl⟩) <| sound_cons (sound_wRow fun _ _ => ⟨rfl, rfl⟩) <|
  sound_cons (sound_wRow fun _ _ => ⟨rfl, rfl⟩) <| sound_cons (sound_wRow fun _ _ => ⟨rfl, rfl⟩) <|
  sound_cons sound_movRegImm <| sound_nil

theorem sound_movRmImm :
    OpRow.Sound [] ⟨0xFE, 0xC6, fun c b => pZeroGroup c fun rm => withImm c false (bitW b) (.movRmImm (bitW b) rm)⟩ :=
  sound_wField fun _ _ field => yields_zeroGroup fun rm rmOk => yields_withImm fun imm ok =>
    ⟨Bool.and_eq_true_iff.mpr ⟨rmOk, ok⟩, congrArg (· :: (modRM 0 rm ++ imm.bytes)) field⟩

/-- A group selected by an opcode with a w field. -/
theorem sound_wGroup {v : Byte} {p : Ctx → Bool → Parser Instr} (h : ∀ c w, (p c w).Yields (Encoded c [opW v w])) :
    OpRow.Sound [] ⟨0xFE, v, fun c b => p c (bitW b)⟩ :=
  sound_wField fun c op field => by
    have group := h c (bitW op)
    rwa [field] at group

/-- AAM and AAD: the byte behind the opcode is 0Ah (R440, R441). -/
theorem sound_byBase {op : Byte} {i : Instr} (wf : ∀ c, i.wf c = true) (bytes : encode i = [op, 0x0A]) :
    (fixedRow op fun _ => pByte.bind fun b => if b = 0x0A then one i else Parser.invalid).Sound [] :=
  sound_fixedRow fun c => yields_byte.field fun b _ e => yields_ite (fun ten => yields_one (wf c) (by rw [bytes, e, ten]; rfl))
    fun _ => yields_invalid

theorem sound_esc : OpRow.Sound [] ⟨0xF8, 0xD8, fun c b => (pRM c).map fun p => .esc (b.extractLsb' 0 3) p.1 p.2⟩ := by
  intro c op (e : op &&& 0xF8 = 0xD8) _
  have field : 0xD8 ||| (op.extractLsb' 0 3).setWidth 8 = op := e ▸ esc_masked op
  exact (yields_rm c).last fun p l ⟨ok, e⟩ => ⟨ok, e ▸ congrArg (· :: modRM p.1 p.2) field⟩

theorem sound_opcodesC0 : ∀ row ∈ opcodesC0, row.Sound [] :=
  sound_cons (sound_wGroup fun _ => yields_groupShiftImm) <|
  sound_cons (sound_wordRow fun _ _ => yields_one rfl rfl) <| sound_cons (sound_plainRow (fun _ => rfl) rfl) <|
  sound_cons (sound_regMem fun _ _ _ => ⟨rfl, rfl⟩) <| sound_cons (sound_regMem fun _ _ _ => ⟨rfl, rfl⟩) <|
  sound_cons sound_movRmImm <| sound_cons (sound_wordRow fun _ _ => yields_withByte fun _ => ⟨rfl, rfl⟩) <|
  sound_cons (sound_plainRow (fun _ => rfl) rfl) <| sound_cons (sound_wordRow fun _ _ => yields_one rfl rfl) <|
  sound_cons (sound_plainRow (fun _ => rfl) rfl) <| sound_cons (sound_plainRow (fun _ => rfl) rfl) <|
  sound_cons (sound_byteRow fun _ _ => ⟨rfl, rfl⟩) <| sound_cons (sound_plainRow (fun _ => rfl) rfl) <|
  sound_cons (sound_plainRow (fun _ => rfl) rfl) <| sound_cons (sound_wGroup fun _ => yields_groupShiftOne) <|
  sound_cons (sound_wGroup fun _ => yields_groupShiftCl) <| sound_cons (sound_byBase (fun _ => rfl) rfl) <|
  sound_cons (sound_byBase (fun _ => rfl) rfl) <| sound_cons (sound_plainRow (fun _ => rfl) rfl) <|
  sound_cons sound_esc <| sound_nil

theorem sound_opcodesE0 : ∀ row ∈ opcodesE0, row.Sound [] :=
  sound_cons (sound_byteRow fun _ _ => ⟨rfl, rfl⟩) <| sound_cons (sound_byteRow fun _ _ => ⟨rfl, rfl⟩) <|
  sound_cons (sound_byteRow fun _ _ => ⟨rfl, rfl⟩) <| sound_cons (sound_byteRow fun _ _ => ⟨rfl, rfl⟩) <|
  sound_cons (sound_byteField fun _ _ _ => ⟨rfl, rfl⟩) <| sound_cons (sound_byteField fun _ _ _ => ⟨rfl, rfl⟩) <|
  sound_cons (sound_fullRow fun _ _ => ⟨rfl, rfl⟩) <| sound_cons (sound_fullRow fun _ _ => ⟨rfl, rfl⟩) <|
  sound_cons (sound_far fun _ _ => ⟨rfl, rfl⟩) <| sound_cons (sound_byteRow fun _ _ => ⟨rfl, rfl⟩) <|
  sound_cons (sound_wRow fun _ _ => ⟨rfl, rfl⟩) <| sound_cons (sound_wRow fun _ _ => ⟨rfl, rfl⟩) <|
  sound_cons (sound_plainRow (fun _ => rfl) rfl) <| sound_cons (sound_plainRow (fun _ => rfl) rfl) <|
  sound_cons (sound_wGroup fun _ => yields_groupF6) <| sound_cons (sound_plainRow (fun _ => rfl) rfl) <|
  sound_cons (sound_plainRow (fun _ => rfl) rfl) <| sound_cons (sound_plainRow (fun _ => rfl) rfl) <|
  sound_cons (sound_plainRow (fun _ => rfl) rfl) <| sound_cons (sound_plainRow (fun _ => rfl) rfl) <|
  sound_cons (sound_plainRow (fun _ => rfl) rfl) <| sound_cons (sound_fixedRow fun _ => yields_groupFE) <|
  sound_cons (sound_fixedRow fun _ => yields_groupFF) <| sound_nil

theorem sound_opcodeMap : ∀ row ∈ opcodeMap, row.Sound [] :=
  sound_append (sound_append (sound_append (sound_append (sound_append (sound_append sound_opcodes00 sound_opcodes40)
    sound_opcodes70) sound_opcodes80) sound_opcodesA0) sound_opcodesC0) sound_opcodesE0

theorem sound_opcodes0F00 : ∀ row ∈ opcodes0F00, row.Sound [0x0F] :=
  sound_cons (sound_fixedRow fun _ => yields_group0F00) <| sound_cons (sound_fixedRow fun _ => yields_group0F01) <|
  sound_cons (sound_regRM fun _ _ _ => ⟨rfl, rfl⟩) <| sound_cons (sound_regRM fun _ _ _ => ⟨rfl, rfl⟩) <|
  sound_cons (sound_plainRow (fun _ => rfl) rfl) <|
  sound_cons (sound_special (fun _ _ => CReg.code_of_ofCode) fun _ _ _ => ⟨rfl, rfl⟩) <|
  sound_cons (sound_special (fun _ _ => DReg.code_of_ofCode) fun _ _ _ => ⟨rfl, rfl⟩) <|
  sound_cons (sound_special (fun _ _ => CReg.code_of_ofCode) fun _ _ _ => ⟨rfl, rfl⟩) <|
  sound_cons (sound_special (fun _ _ => DReg.code_of_ofCode) fun _ _ _ => ⟨rfl, rfl⟩) <|
  sound_cons (sound_special (fun _ _ => TReg.code_of_ofCode) fun _ _ _ => ⟨rfl, rfl⟩) <|
  sound_cons (sound_special (fun _ _ => TReg.code_of_ofCode) fun _ _ _ => ⟨rfl, rfl⟩) <| sound_nil

theorem sound_opcodes0F80 : ∀ row ∈ opcodes0F80, row.Sound [0x0F] :=
  sound_cons (sound_fullRow fun _ _ => ⟨rfl, rfl⟩) <| sound_cons (sound_fullRow fun _ _ => ⟨rfl, rfl⟩) <|
  sound_cons (sound_fullRow fun _ _ => ⟨rfl, rfl⟩) <| sound_cons (sound_fullRow fun _ _ => ⟨rfl, rfl⟩) <|
  sound_cons (sound_fullRow fun _ _ => ⟨rfl, rfl⟩) <| sound_cons (sound_fullRow fun _ _ => ⟨rfl, rfl⟩) <|
  sound_cons (sound_fullRow fun _ _ => ⟨rfl, rfl⟩) <| sound_cons (sound_fullRow fun _ _ => ⟨rfl, rfl⟩) <|
  sound_cons (sound_fullRow fun _ _ => ⟨rfl, rfl⟩) <| sound_cons (sound_fullRow fun _ _ => ⟨rfl, rfl⟩) <|
  sound_cons (sound_fullRow fun _ _ => ⟨rfl, rfl⟩) <| sound_cons (sound_fullRow fun _ _ => ⟨rfl, rfl⟩) <|
  sound_cons (sound_fullRow fun _ _ => ⟨rfl, rfl⟩) <| sound_cons (sound_fullRow fun _ _ => ⟨rfl, rfl⟩) <|
  sound_cons (sound_fullRow fun _ _ => ⟨rfl, rfl⟩) <| sound_cons (sound_fullRow fun _ _ => ⟨rfl, rfl⟩) <| sound_nil

theorem sound_opcodes0F90 : ∀ row ∈ opcodes0F90, row.Sound [0x0F] :=
  sound_cons (sound_setRow fun _ _ => ⟨rfl, rfl⟩) <| sound_cons (sound_setRow fun _ _ => ⟨rfl, rfl⟩) <|
  sound_cons (sound_setRow fun _ _ => ⟨rfl, rfl⟩) <| sound_cons (sound_setRow fun _ _ => ⟨rfl, rfl⟩) <|
  sound_cons (sound_setRow fun _ _ => ⟨rfl, rfl⟩) <| sound_cons (sound_setRow fun _ _ => ⟨rfl, rfl⟩) <|
  sound_cons (sound_setRow fun _ _ => ⟨rfl, rfl⟩) <| sound_cons (sound_setRow fun _ _ => ⟨rfl, rfl⟩) <|
  sound_cons (sound_setRow fun _ _ => ⟨rfl, rfl⟩) <| sound_cons (sound_setRow fun _ _ => ⟨rfl, rfl⟩) <|
  sound_cons (sound_setRow fun _ _ => ⟨rfl, rfl⟩) <| sound_cons (sound_setRow fun _ _ => ⟨rfl, rfl⟩) <|
  sound_cons (sound_setRow fun _ _ => ⟨rfl, rfl⟩) <| sound_cons (sound_setRow fun _ _ => ⟨rfl, rfl⟩) <|
  sound_cons (sound_setRow fun _ _ => ⟨rfl, rfl⟩) <| sound_cons (sound_setRow fun _ _ => ⟨rfl, rfl⟩) <| sound_nil

theorem sound_opcodes0FA0 : ∀ row ∈ opcodes0FA0, row.Sound [0x0F] :=
  sound_cons (sound_plainRow (fun _ => rfl) rfl) <| sound_cons (sound_plainRow (fun _ => rfl) rfl) <|
  sound_cons (sound_regRM fun _ _ _ => ⟨rfl, rfl⟩) <| sound_cons (sound_regRMByte fun _ _ _ _ => ⟨rfl, rfl⟩) <|
  sound_cons (sound_regRM fun _ _ _ => ⟨rfl, rfl⟩) <| sound_cons (sound_plainRow (fun _ => rfl) rfl) <|
  sound_cons (sound_plainRow (fun _ => rfl) rfl) <| sound_cons (sound_regRM fun _ _ _ => ⟨rfl, rfl⟩) <|
  sound_cons (sound_regRMByte fun _ _ _ _ => ⟨rfl, rfl⟩) <| sound_cons (sound_regRM fun _ _ _ => ⟨rfl, rfl⟩) <|
  sound_cons (sound_regRM fun _ _ _ => ⟨rfl, rfl⟩) <| sound_cons (sound_regMem fun _ _ _ => ⟨rfl, rfl⟩) <|
  sound_cons (sound_regRM fun _ _ _ => ⟨rfl, rfl⟩) <| sound_cons (sound_regMem fun _ _ _ => ⟨rfl, rfl⟩) <|
  sound_cons (sound_regMem fun _ _ _ => ⟨rfl, rfl⟩) <| sound_cons (sound_wRegRow fun _ _ _ _ => ⟨rfl, rfl⟩) <|
  sound_cons (sound_fixedRow fun _ => yields_group0FBA) <| sound_cons (sound_regRM fun _ _ _ => ⟨rfl, rfl⟩) <|
  sound_cons (sound_regRM fun _ _ _ => ⟨rfl, rfl⟩) <| sound_cons (sound_regRM fun _ _ _ => ⟨rfl, rfl⟩) <|
  sound_cons (sound_wRegRow fun _ _ _ _ => ⟨rfl, rfl⟩) <| sound_nil

theorem sound_opcodeMap0F : ∀ row ∈ opcodeMap0F, row.Sound [0x0F] :=
  sound_append (sound_append (sound_append sound_opcodes0F00 sound_opcodes0F80) sound_opcodes0F90) sound_opcodes0FA0

/-! ## The decoder -/

theorem findRow_some {rows : List OpRow} {op : Byte} {row : OpRow} (h : findRow rows op = some row) :
    row ∈ rows ∧ op &&& row.mask = row.value :=
  have applies : ((op &&& row.mask) == row.value) = true := List.find?_some (p := fun r : OpRow => (op &&& r.mask) == r.value) h
  ⟨List.mem_of_find?_eq_some h, beq_iff_eq.mp applies⟩

/-- NOP is before XCHG in the map (R303). -/
theorem findRow_nop : findRow opcodeMap 0x90 = some (plainRow 0x90 .nop) := rfl

theorem yields_decodeOpcode (c : Ctx) (op : Byte) : (decodeOpcode c op).Yields (Encoded c [op]) := by
  refine yields_ite (fun twoBytes => yields_byte.field fun op2 _ e => ?_) fun _ => ?_
  · subst twoBytes e
    split
    · next row found =>
      obtain ⟨listed, applies⟩ := findRow_some found
      exact sound_opcodeMap0F row listed c op2 applies (fun e => nomatch e)
    · exact yields_invalid
  · split
    · next row found =>
      by_cases nop : op = 0x90
      · subst nop
        cases findRow_nop.symm.trans found
        exact yields_one rfl rfl
      · obtain ⟨listed, applies⟩ := findRow_some found
        exact sound_opcodeMap row listed c op applies fun _ => nop
    · exact yields_invalid

end Sys2Proof

/-! What the encoder writes is read back: one row of an opcode map for each instruction, and then the prefixes (R252). -/

namespace Sys2Proof

section
variable {α : Type} {c : Ctx} {rm : RM} {i : Instr} {l : List Byte}

/-! ## The rest of an instruction -/

theorem reads_one (i : Instr) : (one i).Reads i [] := reads_pure i

theorem reads_withByte (f : Byte → Instr) (b : Byte) : (withByte f).Reads (f b) [b] := (reads_byte b).map f

theorem reads_withImm {s w : Bool} (f : Imm → Instr) {imm : Imm} (ok : imm.ok c s w = true) :
    (withImm c s w f).Reads (f imm) imm.bytes := (reads_imm ok).map f

theorem reads_regRM (f : Reg → RM → Instr) (ok : rm.ok c = true) (r : Reg) : (pRegRM c f).Reads (f r rm) (modRM r.code rm) := by
  have reads := (reads_rm ok r.code).map fun p => f (Reg.ofCode p.1) p.2
  rwa [Reg.ofCode_code] at reads

theorem reads_regMem (f : Reg → Mem → Instr) {m : Mem} (ok : m.ok c = true) (r : Reg) :
    (pRegMem c f).Reads (f r m) (modRM r.code (.mem m)) := by
  have reads : (pRegMem c f).Reads (f (Reg.ofCode r.code) m) (modRM r.code (.mem m) ++ []) :=
    (reads_rm (rm := .mem m) ok r.code).bind (reads_one _)
  rwa [Reg.ofCode_code, List.append_nil] at reads

theorem reads_group {f : Nat → RM → Parser Instr} (k : BitVec 3) (ok : rm.ok c = true) (h : (f k.toNat rm).Reads i l) :
    (pGroup c f).Reads i (modRM k rm ++ l) := (reads_rm ok k).bind h

/-- A group member with no further field. -/
theorem reads_member {f : Nat → RM → Parser Instr} (k : BitVec 3) (ok : rm.ok c = true) (h : f k.toNat rm = one i) :
    (pGroup c f).Reads i (modRM k rm) := by
  have reads := reads_group k ok (h ▸ reads_one i)
  rwa [List.append_nil] at reads

theorem reads_segRM {f : Seg → RM → Parser Instr} (ok : rm.ok c = true) (sg : Seg) (h : f sg rm = one i) :
    (pSegRM c f).Reads i (modRM sg.code rm) := by
  have reads : (pSegRM c f).Reads i (modRM sg.code rm ++ []) := (reads_rm ok sg.code).bind (by
    simp only [Seg.ofCode_code, h]
    exact reads_one i)
  rwa [List.append_nil] at reads

theorem reads_special {reg : BitVec 3 → Option α} {code : α → BitVec 3} (f : α → Reg → Instr) (x : α)
    (inverse : reg (code x) = some x) (r : Reg) : (pSpecial reg f).Reads (f x r) [modByte 3 (code x) r.code] := by
  refine (reads_byte _).bind (m := []) ?_
  simp only [modByte_mod, modByte_mid, modByte_low, if_true, inverse, Reg.ofCode_code]
  exact reads_one _

/-! ## Rows -/

/-- The opcode selects the row: in the one-byte map where it is no prefix and not 0Fh, or behind 0Fh in the two-byte map. -/
inductive Selects : List Byte → Byte → OpRow → Prop where
  | one {op : Byte} {row : OpRow} (found : findRow opcodeMap op = some row) (opens : prefixByte op = none ∧ op ≠ 0x0F) :
    Selects [] op row
  | two {op : Byte} {row : OpRow} (found : findRow opcodeMap0F op = some row) : Selects [0x0F] op row

/-- The encoding of the instruction opens with an opcode, and the decoder reads the instruction behind it. -/
def Readable (c : Ctx) (i : Instr) : Prop :=
  ∃ op l, encode i = op :: l ∧ prefixByte op = none ∧ (decodeOpcode c op).Reads i l

variable {op v : Byte} {d w : Bool} {r : Reg}

theorem readable_of_selects {row : OpRow} (before : List Byte) (bytes : encode i = before ++ op :: l) (sel : Selects before op row)
    (reads : (row.parse c op).Reads i l) : Readable c i := by
  cases sel with
  | one found opens =>
    refine ⟨op, l, bytes, opens.1, ?_⟩
    rw [decodeOpcode, if_neg opens.2, found]
    exact reads
  | two found =>
    refine ⟨0x0F, op :: l, bytes, rfl, ?_⟩
    rw [decodeOpcode, if_pos rfl]
    refine (reads_byte op).bind ?_
    simp only [found]
    exact reads

theorem readable_fixed {p : Ctx → Parser Instr} (before : List Byte) (bytes : encode i = before ++ op :: l)
    (sel : Selects before op (fixedRow op p)) (reads : (p c).Reads i l) : Readable c i :=
  readable_of_selects before bytes sel reads

theorem readable_plain (before : List Byte) (bytes : encode i = before ++ [op]) (sel : Selects before op (plainRow op i)) : Readable c i :=
  readable_fixed before bytes sel (reads_one i)

theorem readable_regRM {f : Reg → RM → Instr} (before : List Byte) (bytes : encode (f r rm) = before ++ op :: modRM r.code rm)
    (ok : rm.ok c = true) (sel : Selects before op (fixedRow op fun c => pRegRM c f)) : Readable c (f r rm) :=
  readable_fixed before bytes sel (reads_regRM f ok r)

theorem readable_regMem {f : Reg → Mem → Instr} {m : Mem}
    (before : List Byte) (bytes : encode (f r m) = before ++ op :: modRM r.code (.mem m)) (ok : m.ok c = true)
    (sel : Selects before op (fixedRow op fun c => pRegMem c f)) : Readable c (f r m) :=
  readable_fixed before bytes sel (reads_regMem f ok r)

/-- The w field that an opcode is given is the one that the row reads. -/
theorem bitW_opW : ∀ (v : Byte) (w : Bool), bitW v = false → bitW (opW v w) = w := by decide

theorem bitD_opS : ∀ (v : Byte) (s : Bool), bitD v = false → bitD (opS v s) = s := by decide

theorem bits_opDW : ∀ (v : Byte) (d w : Bool), bitD v = false ∧ bitW v = false →
    bitD (opDW v d w) = d ∧ bitW (opDW v d w) = w := by decide

theorem opcodeReg_opReg : ∀ (v : Byte) (k : BitVec 3), v.extractLsb' 0 3 = 0 →
    (v ||| k.setWidth 8).extractLsb' 0 3 = k := by decide

/-- A row with a w field: what it reads depends on the opcode through the field alone. -/
theorem readable_wField {p : Ctx → Byte → Parser Instr} (bytes : encode i = opW v w :: l)
    (sel : Selects [] (opW v w) ⟨0xFE, v, p⟩) (even : bitW v = false)
    (reads : ∀ op, bitW op = w → (p c op).Reads i l) : Readable c i :=
  readable_of_selects [] bytes sel (reads _ (bitW_opW v w even))

theorem readable_w {f : Bool → Instr} (bytes : encode (f w) = [opW v w])
    (sel : Selects [] (opW v w) (wRow v f)) (even : bitW v = false) : Readable c (f w) :=
  readable_wField bytes sel even (fun _ field => field ▸ reads_one _)

theorem readable_wReg {f : Bool → Reg → RM → Instr} (before : List Byte)
    (bytes : encode (f w r rm) = before ++ opW v w :: modRM r.code rm) (ok : rm.ok c = true)
    (sel : Selects before (opW v w) (wRegRow v f)) (even : bitW v = false) : Readable c (f w r rm) := by
  refine readable_of_selects before bytes sel ?_
  show (pRegRM c fun r rm => f (bitW _) r rm).Reads _ _
  rw [bitW_opW v w even]
  exact reads_regRM (fun r rm => f w r rm) ok r

theorem readable_wImm {f : Bool → Imm → Instr} {imm : Imm}
    (bytes : encode (f w imm) = opW v w :: imm.bytes) (ok : imm.ok c false w = true)
    (sel : Selects [] (opW v w) (wImmRow v f)) (even : bitW v = false) : Readable c (f w imm) :=
  readable_wField bytes sel even (fun _ field => by subst field; exact reads_withImm _ ok)

theorem readable_wGroup (bytes : encode i = opW v w :: l) (g : Ctx → Bool → Parser Instr)
    (reads : (g c w).Reads i l) (sel : Selects [] (opW v w) ⟨0xFE, v, fun c b => g c (bitW b)⟩)
    (even : bitW v = false) : Readable c i :=
  readable_wField bytes sel even (fun _ field => by subst field; exact reads)

theorem readable_dw {f : Bool → Bool → RM → Reg → Instr}
    (bytes : encode (f d w rm r) = opDW v d w :: modRM r.code rm) (ok : rm.ok c = true)
    (sel : Selects [] (opDW v d w) (dwRow v f)) (clear : bitD v = false ∧ bitW v = false) :
    Readable c (f d w rm r) := by
  obtain ⟨fieldD, fieldW⟩ := bits_opDW v d w clear
  refine readable_of_selects [] bytes sel ?_
  show (pRegRM c fun r rm => f (bitD _) (bitW _) rm r).Reads _ _
  rw [fieldD, fieldW]
  exact reads_regRM (fun r rm => f d w rm r) ok r

theorem readable_reg {f : Reg → Instr} (bytes : encode (f r) = [opReg v r])
    (sel : Selects [] (opReg v r) (regRow v f)) (clear : v.extractLsb' 0 3 = 0) : Readable c (f r) := by
  have field : opcodeReg (opReg v r) = r := by
    rw [opcodeReg, opReg, opcodeReg_opReg v r.code clear, Reg.ofCode_code]
  refine readable_of_selects [] bytes sel ?_
  show (one (f (opcodeReg _))).Reads _ _
  rw [field]
  exact reads_one _

theorem readable_byte {f : Byte → Instr} {b : Byte} (bytes : encode (f b) = [op, b])
    (sel : Selects [] op (byteRow op f)) : Readable c (f b) :=
  readable_fixed [] bytes sel (reads_withByte f b)

theorem readable_full {f : Full → Instr} {disp : Full} (before : List Byte) (bytes : encode (f disp) = before ++ op :: disp.bytes)
    (ok : disp.okO c = true) (sel : Selects before op (fullRow op f)) : Readable c (f disp) :=
  readable_fixed before bytes sel ((reads_full (Full.okO_iff.mp ok)).map f)

theorem readable_word {f : Word → Instr} {n : Word} (bytes : encode (f n) = op :: bytes16 n)
    (sel : Selects [] op (wordRow op fun n => one (f n))) : Readable c (f n) :=
  readable_fixed [] (by rw [bytes, List.append_nil]; rfl) sel ((reads_word n).bind (reads_one (f n)))

theorem readable_far {f : FarPtr → Instr} {p : FarPtr} (bytes : encode (f p) = op :: p.bytes)
    (ok : p.off.okO c = true) (sel : Selects [] op (fixedRow op fun c => (pFar c).map f)) : Readable c (f p) :=
  readable_fixed [] bytes sel ((reads_far ok).map f)

theorem readable_special {reg : BitVec 3 → Option α} {code : α → BitVec 3} {f : α → Reg → Instr} {x : α}
    (before : List Byte) (bytes : encode (f x r) = before ++ [op, modByte 3 (code x) r.code]) (inverse : ∀ x, reg (code x) = some x)
    (sel : Selects before op (fixedRow op fun _ => pSpecial reg f)) : Readable c (f x r) :=
  readable_fixed before bytes sel (reads_special f x (inverse x) r)

theorem readable_regRMByte {f : RM → Reg → Byte → Instr} {b : Byte}
    (before : List Byte) (bytes : encode (f rm r b) = before ++ op :: (modRM r.code rm ++ [b])) (ok : rm.ok c = true)
    (sel : Selects before op (fixedRow op fun c => (pRM c).bind fun p => withByte (f p.2 (Reg.ofCode p.1)))) :
    Readable c (f rm r b) := by
  have reads := (reads_rm ok r.code).bind (f := fun p => withByte (f p.2 (Reg.ofCode p.1))) (reads_withByte _ b)
  dsimp only at reads
  rw [Reg.ofCode_code] at reads
  exact readable_fixed before bytes sel reads

theorem readable_offset {f : Bool → Full → Instr} {off : Full}
    (bytes : encode (f w off) = opW v w :: off.bytes) (ok : off.okA c = true)
    (sel : Selects [] (opW v w) ⟨0xFE, v, fun c b => (pFull c.addr32).map (f (bitW b))⟩) (even : bitW v = false) :
    Readable c (f w off) :=
  readable_wField bytes sel even (fun _ field => field ▸ (reads_full (Full.okA_iff.mp ok)).map _)

/-- A group member with a byte behind the operand. -/
theorem reads_memberByte {f : Nat → RM → Parser Instr} (k : BitVec 3) (ok : rm.ok c = true) (g : Byte → Instr) (b : Byte)
    (h : f k.toNat rm = withByte g) : (pGroup c f).Reads (g b) (modRM k rm ++ [b]) :=
  reads_group k ok (h ▸ reads_withByte g b)

theorem reads_memberImm {f : Nat → RM → Parser Instr} {imm : Imm} {s w : Bool} (k : BitVec 3)
    (ok : rm.ok c = true ∧ imm.ok c s w = true) (g : Imm → Instr) (h : f k.toNat rm = withImm c s w g) :
    (pGroup c f).Reads (g imm) (modRM k rm ++ imm.bytes) :=
  reads_group k ok.1 (h ▸ reads_withImm g ok.2)

/-! ## Rows of one instruction -/

/-- An instruction of the group `100000sw`: with s = 1 it has w = 1, because 82h is not listed (R301). -/
theorem readable_groupImm {s : Bool} {imm : Imm} (wf : (rm.ok c && imm.okSW c s w) = true) (bytes : encode i = opSW 0x80 s w :: l)
    (reads : rm.ok c = true ∧ imm.ok c s w = true → (groupImm c s w).Reads i l) : Readable c i := by
  obtain ⟨rmOk, immOk⟩ := Bool.and_eq_true_iff.mp wf
  obtain ⟨listed, immOk⟩ := Bool.and_eq_true_iff.mp immOk
  have reads := reads ⟨rmOk, immOk⟩
  cases s with
  | false =>
    exact readable_wGroup (v := 0x80) bytes (fun c w => groupImm c false w) reads
      (by cases w <;> exact .one rfl (by decide)) rfl
  | true =>
    cases w with
    | false => exact nomatch listed
    | true => exact readable_fixed [] (op := 0x83) bytes (.one rfl (by decide)) reads

/-- A row with an s field and no w field. -/
theorem readable_sField {s : Bool} {p : Ctx → Byte → Parser Instr} (bytes : encode i = opS v s :: l)
    (sel : Selects [] (opS v s) ⟨0xFD, v, p⟩) (clear : bitD v = false)
    (reads : ∀ op, bitD op = s → (p c op).Reads i l) : Readable c i :=
  readable_of_selects [] bytes sel (reads _ (bitD_opS v s clear))

theorem readable_imulRegRmImm {s : Bool} {imm : Imm} (wf : (rm.ok c && imm.ok c s true) = true) :
    Readable c (.imulRegRmImm s r rm imm) := by
  obtain ⟨rmOk, immOk⟩ := Bool.and_eq_true_iff.mp wf
  refine readable_sField (p := fun c b => (pRM c).bind fun p =>
    withImm c (bitD b) true (.imulRegRmImm (bitD b) (Reg.ofCode p.1) p.2)) rfl (by cases s <;> exact .one rfl (by decide)) rfl ?_
  intro op field
  subst field
  refine (reads_rm rmOk r.code).bind ?_
  rw [Reg.ofCode_code]
  exact reads_withImm _ immOk

theorem readable_pushImm {s : Bool} {imm : Imm} (ok : imm.ok c s true = true) : Readable c (.pushImm s imm) :=
  readable_sField (p := fun c b => withImm c (bitD b) true (.pushImm (bitD b))) rfl
    (by cases s <;> exact .one rfl (by decide)) rfl fun op field => by subst field; exact reads_withImm _ ok

theorem readable_pushSeg {sg : Seg} (ok : sg.isSreg2 = true) : Readable c (.pushSeg sg) := by
  cases sg with
  | fs | gs => exact nomatch ok
  | es | cs | ss | ds => exact readable_of_selects [] rfl (.one rfl (by decide)) (reads_one _)

theorem readable_xchgAcc (notAcc : (r != .eax) = true) : Readable c (.xchgAcc r) := by
  cases r with
  | eax => exact nomatch notAcc
  | _ => exact readable_reg rfl (.one rfl (by decide)) rfl

theorem readable_movSegRm {sg : Seg} (wf : (rm.ok c && sg != .cs) = true) : Readable c (.movSegRm sg rm) := by
  obtain ⟨ok, notCs⟩ := Bool.and_eq_true_iff.mp wf
  exact readable_fixed [] rfl (.one rfl (by decide)) (reads_segRM ok sg (if_neg (bne_iff_ne.mp notCs)))

theorem readable_movRegImm {imm : Imm} (ok : imm.ok c false w = true) : Readable c (.movRegImm w r imm) := by
  have fields : (opWReg 0xB0 w r).getLsbD 3 = w ∧ opcodeReg (opWReg 0xB0 w r) = r := by cases w <;> cases r <;> decide
  refine readable_of_selects [] rfl (row := ⟨0xF0, 0xB0, fun c b => withImm c false (b.getLsbD 3)
    (.movRegImm (b.getLsbD 3) (opcodeReg b))⟩) (by cases w <;> cases r <;> exact .one rfl (by decide)) ?_
  dsimp only
  rw [fields.1, fields.2]
  exact reads_withImm _ ok

theorem readable_esc {op sub : BitVec 3} (ok : rm.ok c = true) : Readable c (.esc op sub rm) := by
  have field : (0xD8 ||| op.setWidth 8).extractLsb' 0 3 = op := opcodeReg_opReg 0xD8 op (by decide)
  refine readable_of_selects [] rfl (row := ⟨0xF8, 0xD8, fun c b => (pRM c).map fun p =>
    .esc (b.extractLsb' 0 3) p.1 p.2⟩) ?_ ?_
  · exact forall_field3 (p := fun op => Selects [] (0xD8 ||| op.setWidth 8) _) (.one rfl (by decide)) (.one rfl (by decide))
      (.one rfl (by decide)) (.one rfl (by decide)) (.one rfl (by decide)) (.one rfl (by decide)) (.one rfl (by decide))
      (.one rfl (by decide)) op
  · dsimp only
    rw [field]
    exact (reads_rm ok sub).map fun p => Instr.esc op p.1 p.2

end

/-- A well-formed instruction whose encoding opens with its opcode is read back. -/
theorem readable_of_wf {c : Ctx} {i : Instr} (wf : i.wf c = true) (opcode : i.opensWithPrefixByte = false) : Readable c i := by
  cases i with
  | addRmReg d w rm r | orRmReg d w rm r | adcRmReg d w rm r | sbbRmReg d w rm r | andRmReg d w rm r
  | subRmReg d w rm r | xorRmReg d w rm r | cmpRmReg d w rm r =>
    exact readable_dw rfl wf (by cases d <;> cases w <;> exact .one rfl (by decide)) (by decide)
  | addRmImm s w rm imm =>
    exact readable_groupImm wf rfl fun ok => reads_memberImm 0 ok _ rfl
  | addAccImm w imm | orAccImm w imm | adcAccImm w imm | sbbAccImm w imm | andAccImm w imm | subAccImm w imm
  | xorAccImm w imm | cmpAccImm w imm | testAccImm w imm =>
    exact readable_wImm rfl wf (by cases w <;> exact .one rfl (by decide)) rfl
  | orRmImm s w rm imm =>
    exact readable_groupImm wf rfl fun ok => reads_memberImm 1 ok _ rfl
  | adcRmImm s w rm imm =>
    exact readable_groupImm wf rfl fun ok => reads_memberImm 2 ok _ rfl
  | sbbRmImm s w rm imm =>
    exact readable_groupImm wf rfl fun ok => reads_memberImm 3 ok _ rfl
  | andRmImm s w rm imm =>
    exact readable_groupImm wf rfl fun ok => reads_memberImm 4 ok _ rfl
  | subRmImm s w rm imm =>
    exact readable_groupImm wf rfl fun ok => reads_memberImm 5 ok _ rfl
  | xorRmImm s w rm imm =>
    exact readable_groupImm wf rfl fun ok => reads_memberImm 6 ok _ rfl
  | cmpRmImm s w rm imm =>
    exact readable_groupImm wf rfl fun ok => reads_memberImm 7 ok _ rfl
  | testRmReg w rm r =>
    exact readable_wReg (f := fun w r rm => .testRmReg w rm r) [] rfl wf (by cases w <;> exact .one rfl (by decide)) rfl
  | testRmImm w rm imm =>
    exact readable_wGroup rfl groupF6 (reads_memberImm 0 (Bool.and_eq_true_iff.mp wf) _ rfl) (by cases w <;> exact .one rfl (by decide)) rfl
  | notRm w rm =>
    exact readable_wGroup rfl groupF6 (reads_member 2 wf rfl) (by cases w <;> exact .one rfl (by decide)) rfl
  | negRm w rm =>
    exact readable_wGroup rfl groupF6 (reads_member 3 wf rfl) (by cases w <;> exact .one rfl (by decide)) rfl
  | mulRm w rm =>
    exact readable_wGroup rfl groupF6 (reads_member 4 wf rfl) (by cases w <;> exact .one rfl (by decide)) rfl
  | imulRm w rm =>
    exact readable_wGroup rfl groupF6 (reads_member 5 wf rfl) (by cases w <;> exact .one rfl (by decide)) rfl
  | divRm w rm =>
    exact readable_wGroup rfl groupF6 (reads_member 6 wf rfl) (by cases w <;> exact .one rfl (by decide)) rfl
  | idivRm w rm =>
    exact readable_wGroup rfl groupF6 (reads_member 7 wf rfl) (by cases w <;> exact .one rfl (by decide)) rfl
  | imulRegRm r rm | bsf r rm | bsr r rm | lar r rm | lsl r rm =>
    exact readable_regRM [0x0F] rfl wf (.two rfl)
  | imulRegRmImm s r rm imm =>
    exact readable_imulRegRmImm wf
  | incRm w rm =>
    cases w <;> exact readable_fixed [] rfl (.one rfl (by decide)) (reads_member 0 wf rfl)
  | decRm w rm =>
    cases w <;> exact readable_fixed [] rfl (.one rfl (by decide)) (reads_member 1 wf rfl)
  | incReg r | decReg r | pushReg r | popReg r =>
    exact readable_reg rfl (by cases r <;> exact .one rfl (by decide)) rfl
  | aaa | aas | daa | das | cbw | cwd | popEs | popSs | popDs | pusha | popa | clc | cld | cli | cmc | lahf | pushf
  | popf | sahf | stc | std | sti | xlat | retNear | retFar | leave | int3 | into | iret | hlt | nop | wait =>
    exact readable_plain [] rfl (.one rfl (by decide))
  | pushFs | pushGs | popFs | popGs | clts =>
    exact readable_plain [0x0F] rfl (.two rfl)
  | aad | aam =>
    exact readable_fixed [] rfl (.one rfl (by decide)) ((reads_byte 0x0A).bind (reads_one _))
  | movRmReg w rm r =>
    exact readable_wReg (f := fun w r rm => .movRmReg w rm r) [] rfl wf (by cases w <;> exact .one rfl (by decide)) rfl
  | xchgRmReg w rm r =>
    exact readable_wReg (f := fun w r rm => .xchgRmReg w rm r) [] rfl wf (by cases w <;> exact .one rfl (by decide)) rfl
  | movRegRm w r rm =>
    exact readable_wReg [] rfl wf (by cases w <;> exact .one rfl (by decide)) rfl
  | movRmImm w rm imm =>
    exact readable_wGroup rfl (fun c w => pZeroGroup c fun rm => withImm c false w (.movRmImm w rm))
      (reads_memberImm 0 (Bool.and_eq_true_iff.mp wf) _ rfl) (by cases w <;> exact .one rfl (by decide)) rfl
  | movRegImm w r imm =>
    exact readable_movRegImm wf
  | movAccMoffs w off | movMoffsAcc w off =>
    exact readable_offset rfl wf (by cases w <;> exact .one rfl (by decide)) rfl
  | movSegRm sg rm =>
    exact readable_movSegRm wf
  | movRmSeg rm sg =>
    exact readable_fixed [] rfl (.one rfl (by decide)) (reads_segRM wf sg rfl)
  | movsx w r rm | movzx w r rm =>
    exact readable_wReg [0x0F] rfl wf (by cases w <;> exact .two rfl) rfl
  | callRm rm =>
    exact readable_fixed [] rfl (.one rfl (by decide)) (reads_member 2 wf rfl)
  | jmpRm rm =>
    exact readable_fixed [] rfl (.one rfl (by decide)) (reads_member 4 wf rfl)
  | pushRm rm =>
    exact readable_fixed [] rfl (.one rfl (by decide)) (reads_member 6 wf rfl)
  | callFarMem m =>
    exact readable_fixed [] rfl (.one rfl (by decide)) (reads_member (rm := .mem m) 3 wf rfl)
  | jmpFarMem m =>
    exact readable_fixed [] rfl (.one rfl (by decide)) (reads_member (rm := .mem m) 5 wf rfl)
  | pushImm s imm =>
    exact readable_pushImm wf
  | pushSeg sg =>
    exact readable_pushSeg wf
  | popRm rm =>
    exact readable_fixed [] rfl (.one rfl (by decide)) (reads_member 0 wf rfl)
  | xchgAcc r =>
    exact readable_xchgAcc wf
  | inImm w port =>
    exact readable_wField (p := fun _ b => withByte (.inImm (bitW b))) rfl (by cases w <;> exact .one rfl (by decide)) rfl
      (fun _ field => field ▸ reads_withByte _ port)
  | inDx w | outDx w | cmps w | ins w | lods w | movs w | outs w | scas w | stos w =>
    exact readable_w rfl (by cases w <;> exact .one rfl (by decide)) rfl
  | outImm w port =>
    exact readable_wField (p := fun _ b => withByte (.outImm (bitW b))) rfl (by cases w <;> exact .one rfl (by decide)) rfl
      (fun _ field => field ▸ reads_withByte _ port)
  | lea r m | lds r m | les r m | bound r m =>
    exact readable_regMem [] rfl wf (.one rfl (by decide))
  | lfs r m | lgs r m | lss r m =>
    exact readable_regMem [0x0F] rfl wf (.two rfl)
  | rolOne w rm =>
    exact readable_wGroup rfl groupShiftOne (reads_member 0 wf rfl) (by cases w <;> exact .one rfl (by decide)) rfl
  | rolCl w rm =>
    exact readable_wGroup rfl groupShiftCl (reads_member 0 wf rfl) (by cases w <;> exact .one rfl (by decide)) rfl
  | rolImm w rm n =>
    exact readable_wGroup rfl groupShiftImm (reads_memberByte 0 wf _ n rfl) (by cases w <;> exact .one rfl (by decide)) rfl
  | rorOne w rm =>
    exact readable_wGroup rfl groupShiftOne (reads_member 1 wf rfl) (by cases w <;> exact .one rfl (by decide)) rfl
  | rorCl w rm =>
    exact readable_wGroup rfl groupShiftCl (reads_member 1 wf rfl) (by cases w <;> exact .one rfl (by decide)) rfl
  | rorImm w rm n =>
    exact readable_wGroup rfl groupShiftImm (reads_memberByte 1 wf _ n rfl) (by cases w <;> exact .one rfl (by decide)) rfl
  | rclOne w rm =>
    exact readable_wGroup rfl groupShiftOne (reads_member 2 wf rfl) (by cases w <;> exact .one rfl (by decide)) rfl
  | rclCl w rm =>
    exact readable_wGroup rfl groupShiftCl (reads_member 2 wf rfl) (by cases w <;> exact .one rfl (by decide)) rfl
  | rclImm w rm n =>
    exact readable_wGroup rfl groupShiftImm (reads_memberByte 2 wf _ n rfl) (by cases w <;> exact .one rfl (by decide)) rfl
  | rcrOne w rm =>
    exact readable_wGroup rfl groupShiftOne (reads_member 3 wf rfl) (by cases w <;> exact .one rfl (by decide)) rfl
  | rcrCl w rm =>
    exact readable_wGroup rfl groupShiftCl (reads_member 3 wf rfl) (by cases w <;> exact .one rfl (by decide)) rfl
  | rcrImm w rm n =>
    exact readable_wGroup rfl groupShiftImm (reads_memberByte 3 wf _ n rfl) (by cases w <;> exact .one rfl (by decide)) rfl
  | shlOne w rm =>
    exact readable_wGroup rfl groupShiftOne (reads_member 4 wf rfl) (by cases w <;> exact .one rfl (by decide)) rfl
  | shlCl w rm =>
    exact readable_wGroup rfl groupShiftCl (reads_member 4 wf rfl) (by cases w <;> exact .one rfl (by decide)) rfl
  | shlImm w rm n =>
    exact readable_wGroup rfl groupShiftImm (reads_memberByte 4 wf _ n rfl) (by cases w <;> exact .one rfl (by decide)) rfl
  | shrOne w rm =>
    exact readable_wGroup rfl groupShiftOne (reads_member 5 wf rfl) (by cases w <;> exact .one rfl (by decide)) rfl
  | shrCl w rm =>
    exact readable_wGroup rfl groupShiftCl (reads_member 5 wf rfl) (by cases w <;> exact .one rfl (by decide)) rfl
  | shrImm w rm n =>
    exact readable_wGroup rfl groupShiftImm (reads_memberByte 5 wf _ n rfl) (by cases w <;> exact .one rfl (by decide)) rfl
  | sarOne w rm =>
    exact readable_wGroup rfl groupShiftOne (reads_member 7 wf rfl) (by cases w <;> exact .one rfl (by decide)) rfl
  | sarCl w rm =>
    exact readable_wGroup rfl groupShiftCl (reads_member 7 wf rfl) (by cases w <;> exact .one rfl (by decide)) rfl
  | sarImm w rm n =>
    exact readable_wGroup rfl groupShiftImm (reads_memberByte 7 wf _ n rfl) (by cases w <;> exact .one rfl (by decide)) rfl
  | shldImm rm r n | shrdImm rm r n =>
    exact readable_regRMByte [0x0F] rfl wf (.two rfl)
  | shldCl rm r =>
    exact readable_regRM (f := fun r rm => .shldCl rm r) [0x0F] rfl wf (.two rfl)
  | shrdCl rm r =>
    exact readable_regRM (f := fun r rm => .shrdCl rm r) [0x0F] rfl wf (.two rfl)
  | btImm rm n =>
    exact readable_fixed [0x0F] rfl (.two rfl) (reads_memberByte 4 wf _ n rfl)
  | btReg rm r =>
    exact readable_regRM (f := fun r rm => .btReg rm r) [0x0F] rfl wf (.two rfl)
  | btcImm rm n =>
    exact readable_fixed [0x0F] rfl (.two rfl) (reads_memberByte 7 wf _ n rfl)
  | btcReg rm r =>
    exact readable_regRM (f := fun r rm => .btcReg rm r) [0x0F] rfl wf (.two rfl)
  | btrImm rm n =>
    exact readable_fixed [0x0F] rfl (.two rfl) (reads_memberByte 6 wf _ n rfl)
  | btrReg rm r =>
    exact readable_regRM (f := fun r rm => .btrReg rm r) [0x0F] rfl wf (.two rfl)
  | btsImm rm n =>
    exact readable_fixed [0x0F] rfl (.two rfl) (reads_memberByte 5 wf _ n rfl)
  | btsReg rm r =>
    exact readable_regRM (f := fun r rm => .btsReg rm r) [0x0F] rfl wf (.two rfl)
  | arpl rm r =>
    exact readable_regRM (f := fun r rm => .arpl rm r) [] rfl wf (.one rfl (by decide))
  | jmpShort disp | joShort disp | jnoShort disp | jbShort disp | jnbShort disp | jeShort disp | jneShort disp
  | jbeShort disp | jnbeShort disp | jsShort disp | jnsShort disp | jpShort disp | jnpShort disp | jlShort disp
  | jnlShort disp | jleShort disp | jnleShort disp | jcxz disp | loop disp | loopz disp | loopnz disp | int n =>
    exact readable_byte rfl (.one rfl (by decide))
  | jmpNear disp | callNear disp =>
    exact readable_full [] rfl wf (.one rfl (by decide))
  | jmpFar p | callFar p =>
    exact readable_far rfl wf (.one rfl (by decide))
  | retNearImm n | retFarImm n =>
    exact readable_word rfl (.one rfl (by decide))
  | joNear disp | jnoNear disp | jbNear disp | jnbNear disp | jeNear disp | jneNear disp | jbeNear disp
  | jnbeNear disp | jsNear disp | jnsNear disp | jpNear disp | jnpNear disp | jlNear disp | jnlNear disp
  | jleNear disp | jnleNear disp =>
    exact readable_full [0x0F] rfl wf (.two rfl)
  | seto rm | setno rm | setb rm | setnb rm | sete rm | setne rm | setbe rm | setnbe rm | sets rm | setns rm | setp rm
  | setnp rm | setl rm | setnl rm | setle rm | setnle rm | sldt rm =>
    exact readable_fixed [0x0F] rfl (.two rfl) (reads_member 0 wf rfl)
  | enter n level =>
    exact readable_fixed [] rfl (.one rfl (by decide)) ((reads_word n).bind (reads_withByte (.enter n) level))
  | movCrReg x r =>
    exact readable_special [0x0F] rfl CReg.ofCode_code (.two rfl)
  | movRegCr r x =>
    exact readable_special (f := fun x r => .movRegCr r x) [0x0F] rfl CReg.ofCode_code (.two rfl)
  | movDrReg x r =>
    exact readable_special [0x0F] rfl DReg.ofCode_code (.two rfl)
  | movRegDr r x =>
    exact readable_special (f := fun x r => .movRegDr r x) [0x0F] rfl DReg.ofCode_code (.two rfl)
  | movTrReg x r =>
    exact readable_special [0x0F] rfl TReg.ofCode_code (.two rfl)
  | movRegTr r x =>
    exact readable_special (f := fun x r => .movRegTr r x) [0x0F] rfl TReg.ofCode_code (.two rfl)
  | esc op sub rm =>
    exact readable_esc wf
  | str rm =>
    exact readable_fixed [0x0F] rfl (.two rfl) (reads_member 1 wf rfl)
  | lldt rm =>
    exact readable_fixed [0x0F] rfl (.two rfl) (reads_member 2 wf rfl)
  | ltr rm =>
    exact readable_fixed [0x0F] rfl (.two rfl) (reads_member 3 wf rfl)
  | verr rm | smsw rm =>
    exact readable_fixed [0x0F] rfl (.two rfl) (reads_member 4 wf rfl)
  | verw rm =>
    exact readable_fixed [0x0F] rfl (.two rfl) (reads_member 5 wf rfl)
  | sgdt m =>
    exact readable_fixed [0x0F] rfl (.two rfl) (reads_member (rm := .mem m) 0 wf rfl)
  | sidt m =>
    exact readable_fixed [0x0F] rfl (.two rfl) (reads_member (rm := .mem m) 1 wf rfl)
  | lgdt m =>
    exact readable_fixed [0x0F] rfl (.two rfl) (reads_member (rm := .mem m) 2 wf rfl)
  | lidt m =>
    exact readable_fixed [0x0F] rfl (.two rfl) (reads_member (rm := .mem m) 3 wf rfl)
  | lmsw rm =>
    exact readable_fixed [0x0F] rfl (.two rfl) (reads_member 6 wf rfl)
  | _ => exact nomatch opcode

end Sys2Proof

/-! The prefix bytes before an instruction (spec/30_encoding.md R252, R512), and the two directions of the round trip. -/

namespace Sys2Proof

/-! ## Prefix bytes -/

/-- The byte of each of them. -/
def PrefixByte.byte : PrefixByte → Byte
  | .cs => 0x2E | .ds => 0x3E | .es => 0x26 | .fs => 0x64 | .gs => 0x65 | .ss => 0x36 | .opSize => 0x66 | .addrSize => 0x67
  | .lock => 0xF0 | .rep => 0xF3 | .repne => 0xF2

theorem prefixByte_byte (p : PrefixByte) : prefixByte p.byte = some p := by cases p <;> rfl

theorem eq_byte_of_prefixByte : ∀ (b : Byte) (p : PrefixByte), prefixByte b = some p → b = p.byte := by
  have all : ∀ b : Byte, ∀ p ∈ prefixByte b, b = p.byte := by decide
  exact all

theorem encode_fuseRep (i : Instr) : encode (fuseRep i) = 0xF3 :: encode i := by cases i <;> rfl

theorem encode_fuseRepne (i : Instr) : encode (fuseRepne i) = 0xF2 :: encode i := by cases i <;> rfl

theorem wf_fuseRep (c : Ctx) (i : Instr) : (fuseRep i).wf c = i.wf c := by cases i <;> rfl

theorem wf_fuseRepne (c : Ctx) (i : Instr) : (fuseRepne i).wf c = i.wf c := by cases i <;> rfl

theorem encode_wrap (p : PrefixByte) (i : Instr) : encode (p.wrap i) = p.byte :: encode i := by
  cases p with
  | rep => exact encode_fuseRep i
  | repne => exact encode_fuseRepne i
  | _ => rfl

theorem wf_wrap (c : Ctx) (p : PrefixByte) (i : Instr) : (p.wrap i).wf c = i.wf (p.apply c) := by
  cases p with
  | rep => exact wf_fuseRep c i
  | repne => exact wf_fuseRepne c i
  | _ => rfl

/-! ## Reading back -/

theorem reads_opcode {c : Ctx} {i : Instr} (h : Readable c i) : Parser.Reads (decodeFrom c) i (encode i) := by
  obtain ⟨op, l, bytes, opcode, reads⟩ := h
  intro rest
  rw [bytes, List.cons_append, decodeFrom, opcode]
  exact reads rest

theorem reads_wrap {c : Ctx} {i : Instr} (p : PrefixByte) (h : Parser.Reads (decodeFrom (p.apply c)) i (encode i)) :
    Parser.Reads (decodeFrom c) (p.wrap i) (encode (p.wrap i)) := by
  intro rest
  rw [encode_wrap, List.cons_append, decodeFrom, prefixByte_byte]
  simp only [h rest]

/-- F3h or F2h before a string instruction is a row of its own. -/
theorem reads_string {c : Ctx} {i : Instr} (p : PrefixByte) (wf : i.wf (p.apply c) = true) (opcode : i.opensWithPrefixByte = false) :
    Parser.Reads (decodeFrom c) (p.wrap i) (encode (p.wrap i)) :=
  reads_wrap p (reads_opcode (readable_of_wf wf opcode))

theorem fuseRep_of_not_string {i : Instr} (h : i.isString = false) : fuseRep i = .repPrefix i := by
  cases i with
  | cmps | ins | lods | movs | outs | scas | stos => exact nomatch h
  | _ => rfl

theorem fuseRepne_of_not_string {i : Instr} (h : i.isString = false) : fuseRepne i = .repnePrefix i := by
  cases i with
  | cmps | ins | lods | movs | outs | scas | stos => exact nomatch h
  | _ => rfl

/-- The decoder takes the encoding of a well-formed instruction off the front, whichever bytes follow. -/
theorem reads_decodeFrom {c : Ctx} {i : Instr} (wf : i.wf c = true) : Parser.Reads (decodeFrom c) i (encode i) := by
  induction i generalizing c with
  | csPrefix i ih => exact reads_wrap .cs (ih wf)
  | dsPrefix i ih => exact reads_wrap .ds (ih wf)
  | esPrefix i ih => exact reads_wrap .es (ih wf)
  | fsPrefix i ih => exact reads_wrap .fs (ih wf)
  | gsPrefix i ih => exact reads_wrap .gs (ih wf)
  | ssPrefix i ih => exact reads_wrap .ss (ih wf)
  | opSizePrefix i ih => exact reads_wrap .opSize (ih wf)
  | addrSizePrefix i ih => exact reads_wrap .addrSize (ih wf)
  | lockPrefix i ih => exact reads_wrap .lock (ih wf)
  | repPrefix i ih =>
    obtain ⟨notString, inner⟩ := Bool.and_eq_true_iff.mp wf
    rw [← fuseRep_of_not_string (by simpa using notString)]
    exact reads_wrap .rep (ih inner)
  | repnePrefix i ih =>
    obtain ⟨notString, inner⟩ := Bool.and_eq_true_iff.mp wf
    rw [← fuseRepne_of_not_string (by simpa using notString)]
    exact reads_wrap .repne (ih inner)
  | repInsF3 w => exact reads_string (i := .ins w) .rep rfl rfl
  | repLodsF3 w => exact reads_string (i := .lods w) .rep rfl rfl
  | repMovsF3 w => exact reads_string (i := .movs w) .rep rfl rfl
  | repOutsF3 w => exact reads_string (i := .outs w) .rep rfl rfl
  | repStosF3 w => exact reads_string (i := .stos w) .rep rfl rfl
  | repeCmps w => exact reads_string (i := .cmps w) .rep rfl rfl
  | repeScas w => exact reads_string (i := .scas w) .rep rfl rfl
  | repInsF2 w => exact reads_string (i := .ins w) .repne rfl rfl
  | repLodsF2 w => exact reads_string (i := .lods w) .repne rfl rfl
  | repMovsF2 w => exact reads_string (i := .movs w) .repne rfl rfl
  | repOutsF2 w => exact reads_string (i := .outs w) .repne rfl rfl
  | repStosF2 w => exact reads_string (i := .stos w) .repne rfl rfl
  | repneCmps w => exact reads_string (i := .cmps w) .repne rfl rfl
  | repneScas w => exact reads_string (i := .scas w) .repne rfl rfl
  | _ => exact reads_opcode (readable_of_wf wf rfl)

/-- Whatever the decoder takes off the front is the encoding of a well-formed instruction. -/
theorem yields_decodeFrom (c : Ctx) : Parser.Yields (decodeFrom c) (Encoded c []) := by
  intro bs
  induction bs generalizing c with
  | nil => exact fun _ _ e => nomatch e
  | cons b bs ih =>
    intro i rest e
    rw [decodeFrom] at e
    cases opens : prefixByte b with
    | none =>
      rw [opens] at e
      obtain ⟨l, rfl, wf, bytes⟩ := yields_decodeOpcode c b bs i rest e
      exact ⟨b :: l, rfl, wf, bytes⟩
    | some p =>
      simp only [opens] at e
      split at e
      · next inner _ read =>
        cases e
        obtain ⟨l, rfl, wf, bytes⟩ := ih (p.apply c) inner rest read
        refine ⟨b :: l, rfl, (wf_wrap c p inner).trans wf, ?_⟩
        rw [encode_wrap, bytes, eq_byte_of_prefixByte b p opens]
        rfl
      · cases e

/-- Settles O56: the decoder reads back what the encoder writes, and what it reads is what the encoder writes. -/
theorem decodingAndEncodingAgree : Obligations.DecodingAndEncodingAgree := by
  intro d32
  refine ⟨fun i rest wf => decode_append (reads_decodeFrom wf rest), fun bytes i n e => ?_⟩
  unfold decode at e
  split at e
  · next rest read =>
    cases e
    obtain ⟨l, rfl, wf, same⟩ := yields_decodeFrom _ bytes i rest read
    have length : (l ++ rest).length - rest.length = l.length := by simp
    rw [length]
    exact ⟨wf, by simp, by simpa using same⟩
  · cases e

end Sys2Proof

/-! More bytes behind an encoding change nothing: what is taken off the front is taken from any longer string, and an encoding
that is not listed is none with any bytes behind it (spec/30_encoding.md R254, R318). -/

namespace Sys2Proof

section
variable {α β : Type} {c : Ctx}

/-- The parser decides from the bytes it has seen, whatever bytes follow, unless they end too early. -/
structure Parser.Stable (p : Parser α) : Prop where
  ok : ∀ {bs a rest} (more : List Byte), p bs = .ok (a, rest) → p (bs ++ more) = .ok (a, rest ++ more)
  invalid : ∀ {bs} (more : List Byte), p bs = .error .invalidOpcode → p (bs ++ more) = .error .invalidOpcode

theorem stable_pure (a : α) : (Parser.pure a).Stable where
  ok more e := by
    cases e
    rfl
  invalid more e := nomatch e

theorem stable_invalid : (Parser.invalid : Parser α).Stable := ⟨fun _ e => (nomatch e), fun _ _ => rfl⟩

theorem Parser.bind_invalid {p : Parser α} {f : α → Parser β} {bs : List Byte} :
    p.bind f bs = .error .invalidOpcode ↔
      p bs = .error .invalidOpcode ∨ ∃ a mid, p bs = .ok (a, mid) ∧ f a mid = .error .invalidOpcode := by
  unfold Parser.bind
  cases h : p bs with
  | error e => simp
  | ok v =>
    obtain ⟨a, mid⟩ := v
    simp

theorem Parser.Stable.bind {p : Parser α} {f : α → Parser β} (hp : p.Stable) (hf : ∀ a, (f a).Stable) : (p.bind f).Stable where
  ok more e := by
    obtain ⟨a, mid, first, second⟩ := Parser.bind_ok.mp e
    exact Parser.bind_ok.mpr ⟨a, mid ++ more, hp.ok more first, (hf a).ok more second⟩
  invalid more e := by
    refine Parser.bind_invalid.mpr ?_
    rcases Parser.bind_invalid.mp e with first | ⟨a, mid, first, second⟩
    · exact .inl (hp.invalid more first)
    · exact .inr ⟨a, mid ++ more, hp.ok more first, (hf a).invalid more second⟩

theorem Parser.Stable.map {p : Parser α} (hp : p.Stable) (f : α → β) : (p.map f).Stable := hp.bind fun _ => stable_pure _

theorem stable_ite {d : Prop} [Decidable d] {p q : Parser α} (hp : p.Stable) (hq : q.Stable) : (if d then p else q).Stable := by
  split
  · exact hp
  · exact hq

/-! ## Fields -/

theorem stable_byte : pByte.Stable where
  ok {bs _ _} more e := by
    cases bs with
    | nil => cases e
    | cons b rest =>
      cases e
      rfl
  invalid {bs} more e := by
    cases bs with
    | nil => cases e
    | cons b rest => cases e

/-- A parser that refuses no bytes as unlisted is stable where what it reads it reads whichever bytes follow. -/
theorem stable_of_reads {p : Parser α} {enc : α → List Byte} (reads : ∀ a, p.Reads a (enc a)) (yields : p.Yields fun a l => l = enc a)
    (listed : ∀ bs, p bs ≠ .error .invalidOpcode) : p.Stable where
  ok {bs a rest} more e := by
    obtain ⟨l, rfl, rfl⟩ := yields bs a rest e
    rw [List.append_assoc]
    exact reads a _
  invalid more e := absurd e (listed _)

theorem stable_word : pWord.Stable :=
  stable_of_reads reads_word yields_word fun bs e => by
    unfold pWord at e
    split at e <;> cases e

theorem stable_dword : pDword.Stable :=
  stable_of_reads reads_dword yields_dword fun bs e => by
    unfold pDword at e
    split at e <;> cases e

theorem stable_full (wide : Bool) : (pFull wide).Stable := stable_ite (stable_dword.map _) (stable_word.map _)

theorem stable_far : (pFar c).Stable := (stable_full _).bind fun _ => stable_word.map _

theorem stable_withByte (f : Byte → Instr) : (withByte f).Stable := stable_byte.map f

theorem stable_withImm (s w : Bool) (f : Imm → Instr) : (withImm c s w f).Stable :=
  (stable_ite (stable_byte.map _) (stable_ite (stable_dword.map _) (stable_word.map _))).map f

theorem stable_one (i : Instr) : (one i).Stable := stable_pure i

theorem stable_disp16 (md : BitVec 2) : (pDisp16 md).Stable :=
  stable_ite (stable_pure _) (stable_ite (stable_byte.map _) (stable_word.map _))

theorem stable_disp32 (md : BitVec 2) : (pDisp32 md).Stable :=
  stable_ite (stable_pure _) (stable_ite (stable_byte.map _) (stable_dword.map _))

theorem stable_mem (md : BitVec 2) (rm : BitVec 3) : (pMem c md rm).Stable :=
  stable_ite
    (stable_ite (stable_byte.bind fun _ => stable_ite (stable_dword.map _) ((stable_disp32 _).map _))
      (stable_ite (stable_dword.map _) ((stable_disp32 _).map _)))
    (stable_ite (stable_word.map _) ((stable_disp16 _).map _))

theorem stable_rm : (pRM c).Stable := stable_byte.bind fun _ => stable_ite (stable_pure _) ((stable_mem _ _).map _)

theorem stable_regRM (f : Reg → RM → Instr) : (pRegRM c f).Stable := stable_rm.map _

theorem stable_onMem (f : Mem → Instr) (rm : RM) : (onMem f rm).Stable := by
  cases rm with
  | reg r => exact stable_invalid
  | mem m => exact stable_pure _

theorem stable_regMem (f : Reg → Mem → Instr) : (pRegMem c f).Stable :=
  stable_rm.bind fun (mid, rm) => by
    cases rm with
    | reg r => exact stable_invalid
    | mem m => exact stable_pure _

theorem stable_group {f : Nat → RM → Parser Instr} (h : ∀ k : BitVec 3, ∀ rm, (f k.toNat rm).Stable) : (pGroup c f).Stable :=
  stable_rm.bind fun p => h p.1 p.2

theorem stable_zeroGroup {f : RM → Parser Instr} (h : ∀ rm, (f rm).Stable) : (pZeroGroup c f).Stable :=
  stable_group fun k rm => by
    split
    · exact h rm
    · exact stable_invalid

theorem stable_segRM {f : Seg → RM → Parser Instr} (h : ∀ sg rm, (f sg rm).Stable) : (pSegRM c f).Stable :=
  stable_rm.bind fun p => by
    split
    · exact h _ _
    · exact stable_invalid

theorem stable_special (reg : BitVec 3 → Option α) (f : α → Reg → Instr) : (pSpecial reg f).Stable :=
  stable_byte.bind fun b => stable_ite (by
    split
    · exact stable_pure _
    · exact stable_invalid) stable_invalid

/-! ## Groups -/

theorem stable_groupImm (s w : Bool) : (groupImm c s w).Stable :=
  stable_group (forall_field3 (fun _ => stable_withImm _ _ _) (fun _ => stable_withImm _ _ _)
    (fun _ => stable_withImm _ _ _) (fun _ => stable_withImm _ _ _) (fun _ => stable_withImm _ _ _)
    (fun _ => stable_withImm _ _ _) (fun _ => stable_withImm _ _ _) (fun _ => stable_withImm _ _ _))

theorem stable_groupF6 (w : Bool) : (groupF6 c w).Stable :=
  stable_group (forall_field3 (fun _ => stable_withImm _ _ _) (fun _ => stable_invalid) (fun _ => stable_one _)
    (fun _ => stable_one _) (fun _ => stable_one _) (fun _ => stable_one _) (fun _ => stable_one _)
    (fun _ => stable_one _))

theorem stable_groupFE : (groupFE c).Stable :=
  stable_group (forall_field3 (fun _ => stable_one _) (fun _ => stable_one _) (fun _ => stable_invalid)
    (fun _ => stable_invalid) (fun _ => stable_invalid) (fun _ => stable_invalid) (fun _ => stable_invalid)
    (fun _ => stable_invalid))

theorem stable_groupFF : (groupFF c).Stable :=
  stable_group (forall_field3 (fun _ => stable_one _) (fun _ => stable_one _) (fun _ => stable_one _)
    (fun _ => stable_onMem _ _) (fun _ => stable_one _) (fun _ => stable_onMem _ _) (fun _ => stable_one _)
    (fun _ => stable_invalid))

theorem stable_groupShiftOne (w : Bool) : (groupShiftOne c w).Stable :=
  stable_group (forall_field3 (fun _ => stable_one _) (fun _ => stable_one _) (fun _ => stable_one _)
    (fun _ => stable_one _) (fun _ => stable_one _) (fun _ => stable_one _) (fun _ => stable_invalid)
    (fun _ => stable_one _))

theorem stable_groupShiftCl (w : Bool) : (groupShiftCl c w).Stable :=
  stable_group (forall_field3 (fun _ => stable_one _) (fun _ => stable_one _) (fun _ => stable_one _)
    (fun _ => stable_one _) (fun _ => stable_one _) (fun _ => stable_one _) (fun _ => stable_invalid)
    (fun _ => stable_one _))

theorem stable_groupShiftImm (w : Bool) : (groupShiftImm c w).Stable :=
  stable_group (forall_field3 (fun _ => stable_withByte _) (fun _ => stable_withByte _) (fun _ => stable_withByte _)
    (fun _ => stable_withByte _) (fun _ => stable_withByte _) (fun _ => stable_withByte _) (fun _ => stable_invalid)
    (fun _ => stable_withByte _))

theorem stable_group0F00 : (group0F00 c).Stable :=
  stable_group (forall_field3 (fun _ => stable_one _) (fun _ => stable_one _) (fun _ => stable_one _)
    (fun _ => stable_one _) (fun _ => stable_one _) (fun _ => stable_one _) (fun _ => stable_invalid)
    (fun _ => stable_invalid))

theorem stable_group0F01 : (group0F01 c).Stable :=
  stable_group (forall_field3 (fun _ => stable_onMem _ _) (fun _ => stable_onMem _ _) (fun _ => stable_onMem _ _)
    (fun _ => stable_onMem _ _) (fun _ => stable_one _) (fun _ => stable_invalid) (fun _ => stable_one _)
    (fun _ => stable_invalid))

theorem stable_group0FBA : (group0FBA c).Stable :=
  stable_group (forall_field3 (fun _ => stable_invalid) (fun _ => stable_invalid) (fun _ => stable_invalid)
    (fun _ => stable_invalid) (fun _ => stable_withByte _) (fun _ => stable_withByte _) (fun _ => stable_withByte _)
    (fun _ => stable_withByte _))

/-! ## The maps and the decoder -/

/-- A row of a map is stable for every opcode. -/
def OpRow.Stable (row : OpRow) : Prop := ∀ c op, (row.parse c op).Stable

theorem stableRows_nil : ∀ row ∈ ([] : List OpRow), row.Stable := fun _ m => absurd m List.not_mem_nil

theorem stableRows_cons {row : OpRow} {rows : List OpRow} (h : row.Stable) (hs : ∀ row ∈ rows, row.Stable) :
    ∀ r ∈ row :: rows, r.Stable := List.forall_mem_cons.mpr ⟨h, hs⟩

theorem stableRows_append {rows rows' : List OpRow} (h : ∀ row ∈ rows, row.Stable) (h' : ∀ row ∈ rows', row.Stable) :
    ∀ row ∈ rows ++ rows', row.Stable := List.forall_mem_append.mpr ⟨h, h'⟩

theorem stable_fixedRow {op : Byte} {p : Ctx → Parser Instr} (h : ∀ c, (p c).Stable) : (fixedRow op p).Stable := fun c _ => h c

theorem stable_plainRow (op : Byte) (i : Instr) : (plainRow op i).Stable := fun _ _ => stable_one i

theorem stable_wRow (op : Byte) (f : Bool → Instr) : (wRow op f).Stable := fun _ _ => stable_one _

theorem stable_dwRow (op : Byte) (f : Bool → Bool → RM → Reg → Instr) : (dwRow op f).Stable :=
  fun _ b => stable_regRM fun r rm => f (bitD b) (bitW b) rm r

theorem stable_wRegRow (op : Byte) (f : Bool → Reg → RM → Instr) : (wRegRow op f).Stable := fun _ _ => stable_regRM _

theorem stable_wImmRow (op : Byte) (f : Bool → Imm → Instr) : (wImmRow op f).Stable := fun _ _ => stable_withImm _ _ _

theorem stable_regRow (op : Byte) (f : Reg → Instr) : (regRow op f).Stable := fun _ _ => stable_one _

theorem stable_byteRow (op : Byte) (f : Byte → Instr) : (byteRow op f).Stable := fun _ _ => stable_withByte f

theorem stable_fullRow (op : Byte) (f : Full → Instr) : (fullRow op f).Stable := fun _ _ => (stable_full _).map f

theorem stable_setRow (op : Byte) (f : RM → Instr) : (setRow op f).Stable :=
  fun _ _ => stable_zeroGroup fun _ => stable_one _

theorem stable_opcodes00 : ∀ row ∈ opcodes00, row.Stable :=
  stableRows_cons (stable_dwRow _ _) <| stableRows_cons (stable_wImmRow _ _) <| stableRows_cons (stable_dwRow _ _) <|
  stableRows_cons (stable_wImmRow _ _) <| stableRows_cons (stable_dwRow _ _) <|
  stableRows_cons (stable_wImmRow _ _) <| stableRows_cons (stable_dwRow _ _) <|
  stableRows_cons (stable_wImmRow _ _) <| stableRows_cons (stable_dwRow _ _) <|
  stableRows_cons (stable_wImmRow _ _) <| stableRows_cons (stable_dwRow _ _) <|
  stableRows_cons (stable_wImmRow _ _) <| stableRows_cons (stable_dwRow _ _) <|
  stableRows_cons (stable_wImmRow _ _) <| stableRows_cons (stable_dwRow _ _) <|
  stableRows_cons (stable_wImmRow _ _) <| stableRows_cons (fun _ _ => stable_one _) <|
  stableRows_cons (stable_plainRow _ _) <| stableRows_cons (stable_plainRow _ _) <|
  stableRows_cons (stable_plainRow _ _) <| stableRows_cons (stable_plainRow _ _) <|
  stableRows_cons (stable_plainRow _ _) <| stableRows_cons (stable_plainRow _ _) <|
  stableRows_cons (stable_plainRow _ _) <| stableRows_nil

theorem stable_opcodes40 : ∀ row ∈ opcodes40, row.Stable :=
  stableRows_cons (stable_regRow _ _) <| stableRows_cons (stable_regRow _ _) <|
  stableRows_cons (stable_regRow _ _) <| stableRows_cons (stable_regRow _ _) <|
  stableRows_cons (stable_plainRow _ _) <| stableRows_cons (stable_plainRow _ _) <|
  stableRows_cons (stable_fixedRow fun _ => stable_regMem _) <|
  stableRows_cons (stable_fixedRow fun _ => stable_regRM _) <| stableRows_cons (fun _ _ => stable_withImm _ _ _) <|
  stableRows_cons (fun _ _ => stable_rm.bind fun _ => stable_withImm _ _ _) <| stableRows_cons (stable_wRow _ _) <|
  stableRows_cons (stable_wRow _ _) <| stableRows_nil

theorem stable_opcodes70 : ∀ row ∈ opcodes70, row.Stable :=
  stableRows_cons (stable_byteRow _ _) <| stableRows_cons (stable_byteRow _ _) <|
  stableRows_cons (stable_byteRow _ _) <| stableRows_cons (stable_byteRow _ _) <|
  stableRows_cons (stable_byteRow _ _) <| stableRows_cons (stable_byteRow _ _) <|
  stableRows_cons (stable_byteRow _ _) <| stableRows_cons (stable_byteRow _ _) <|
  stableRows_cons (stable_byteRow _ _) <| stableRows_cons (stable_byteRow _ _) <|
  stableRows_cons (stable_byteRow _ _) <| stableRows_cons (stable_byteRow _ _) <|
  stableRows_cons (stable_byteRow _ _) <| stableRows_cons (stable_byteRow _ _) <|
  stableRows_cons (stable_byteRow _ _) <| stableRows_cons (stable_byteRow _ _) <| stableRows_nil

theorem stable_opcodes80 : ∀ row ∈ opcodes80, row.Stable :=
  stableRows_cons (fun _ _ => stable_groupImm _ _) <| stableRows_cons (fun _ _ => stable_groupImm _ _) <|
  stableRows_cons (stable_wRegRow _ _) <| stableRows_cons (stable_wRegRow _ _) <|
  stableRows_cons (stable_wRegRow _ _) <| stableRows_cons (stable_wRegRow _ _) <|
  stableRows_cons (stable_fixedRow fun _ => stable_segRM fun _ _ => stable_one _) <|
  stableRows_cons (stable_fixedRow fun _ => stable_regMem _) <|
  stableRows_cons (stable_fixedRow fun _ => stable_segRM fun _ _ => stable_ite stable_invalid (stable_one _)) <|
  stableRows_cons (stable_fixedRow fun _ => stable_zeroGroup fun _ => stable_one _) <|
  stableRows_cons (stable_plainRow _ _) <| stableRows_cons (stable_regRow _ _) <|
  stableRows_cons (stable_plainRow _ _) <| stableRows_cons (stable_plainRow _ _) <|
  stableRows_cons (stable_fixedRow fun _ => stable_far.map _) <| stableRows_cons (stable_plainRow _ _) <|
  stableRows_cons (stable_plainRow _ _) <| stableRows_cons (stable_plainRow _ _) <|
  stableRows_cons (stable_plainRow _ _) <| stableRows_cons (stable_plainRow _ _) <| stableRows_nil

theorem stable_opcodesA0 : ∀ row ∈ opcodesA0, row.Stable :=
  stableRows_cons (fun _ _ => (stable_full _).map _) <| stableRows_cons (fun _ _ => (stable_full _).map _) <|
  stableRows_cons (stable_wRow _ _) <| stableRows_cons (stable_wRow _ _) <| stableRows_cons (stable_wImmRow _ _) <|
  stableRows_cons (stable_wRow _ _) <| stableRows_cons (stable_wRow _ _) <| stableRows_cons (stable_wRow _ _) <|
  stableRows_cons (fun _ _ => stable_withImm _ _ _) <| stableRows_nil

theorem stable_opcodesC0 : ∀ row ∈ opcodesC0, row.Stable :=
  stableRows_cons (fun _ _ => stable_groupShiftImm _) <|
  stableRows_cons (stable_fixedRow fun _ => stable_word.bind fun _ => stable_one _) <|
  stableRows_cons (stable_plainRow _ _) <| stableRows_cons (stable_fixedRow fun _ => stable_regMem _) <|
  stableRows_cons (stable_fixedRow fun _ => stable_regMem _) <|
  stableRows_cons (fun _ _ => stable_zeroGroup fun _ => stable_withImm _ _ _) <|
  stableRows_cons (fun _ _ => stable_word.bind fun _ => stable_withByte _) <|
  stableRows_cons (stable_plainRow _ _) <|
  stableRows_cons (stable_fixedRow fun _ => stable_word.bind fun _ => stable_one _) <|
  stableRows_cons (stable_plainRow _ _) <| stableRows_cons (stable_plainRow _ _) <|
  stableRows_cons (stable_byteRow _ _) <| stableRows_cons (stable_plainRow _ _) <|
  stableRows_cons (stable_plainRow _ _) <| stableRows_cons (fun _ _ => stable_groupShiftOne _) <|
  stableRows_cons (fun _ _ => stable_groupShiftCl _) <|
  stableRows_cons (stable_fixedRow fun _ => stable_byte.bind fun _ => stable_ite (stable_one _) stable_invalid) <|
  stableRows_cons (stable_fixedRow fun _ => stable_byte.bind fun _ => stable_ite (stable_one _) stable_invalid) <|
  stableRows_cons (stable_plainRow _ _) <| stableRows_cons (fun _ _ => stable_rm.map _) <| stableRows_nil

theorem stable_opcodesE0 : ∀ row ∈ opcodesE0, row.Stable :=
  stableRows_cons (stable_byteRow _ _) <| stableRows_cons (stable_byteRow _ _) <|
  stableRows_cons (stable_byteRow _ _) <| stableRows_cons (stable_byteRow _ _) <|
  stableRows_cons (fun _ _ => stable_withByte _) <| stableRows_cons (fun _ _ => stable_withByte _) <|
  stableRows_cons (stable_fullRow _ _) <| stableRows_cons (stable_fullRow _ _) <|
  stableRows_cons (stable_fixedRow fun _ => stable_far.map _) <| stableRows_cons (stable_byteRow _ _) <|
  stableRows_cons (stable_wRow _ _) <| stableRows_cons (stable_wRow _ _) <| stableRows_cons (stable_plainRow _ _) <|
  stableRows_cons (stable_plainRow _ _) <| stableRows_cons (fun _ _ => stable_groupF6 _) <|
  stableRows_cons (stable_plainRow _ _) <| stableRows_cons (stable_plainRow _ _) <|
  stableRows_cons (stable_plainRow _ _) <| stableRows_cons (stable_plainRow _ _) <|
  stableRows_cons (stable_plainRow _ _) <| stableRows_cons (stable_plainRow _ _) <|
  stableRows_cons (stable_fixedRow fun _ => stable_groupFE) <|
  stableRows_cons (stable_fixedRow fun _ => stable_groupFF) <| stableRows_nil

theorem stable_opcodeMap : ∀ row ∈ opcodeMap, row.Stable :=
  stableRows_append (stableRows_append (stableRows_append (stableRows_append (stableRows_append (stableRows_append
    stable_opcodes00 stable_opcodes40) stable_opcodes70) stable_opcodes80) stable_opcodesA0) stable_opcodesC0)
    stable_opcodesE0

theorem stable_opcodes0F00 : ∀ row ∈ opcodes0F00, row.Stable :=
  stableRows_cons (stable_fixedRow fun _ => stable_group0F00) <|
  stableRows_cons (stable_fixedRow fun _ => stable_group0F01) <|
  stableRows_cons (stable_fixedRow fun _ => stable_regRM _) <|
  stableRows_cons (stable_fixedRow fun _ => stable_regRM _) <| stableRows_cons (stable_plainRow _ _) <|
  stableRows_cons (stable_fixedRow fun _ => stable_special _ _) <|
  stableRows_cons (stable_fixedRow fun _ => stable_special _ _) <|
  stableRows_cons (stable_fixedRow fun _ => stable_special _ _) <|
  stableRows_cons (stable_fixedRow fun _ => stable_special _ _) <|
  stableRows_cons (stable_fixedRow fun _ => stable_special _ _) <|
  stableRows_cons (stable_fixedRow fun _ => stable_special _ _) <| stableRows_nil

theorem stable_opcodes0F80 : ∀ row ∈ opcodes0F80, row.Stable :=
  stableRows_cons (stable_fullRow _ _) <| stableRows_cons (stable_fullRow _ _) <|
  stableRows_cons (stable_fullRow _ _) <| stableRows_cons (stable_fullRow _ _) <|
  stableRows_cons (stable_fullRow _ _) <| stableRows_cons (stable_fullRow _ _) <|
  stableRows_cons (stable_fullRow _ _) <| stableRows_cons (stable_fullRow _ _) <|
  stableRows_cons (stable_fullRow _ _) <| stableRows_cons (stable_fullRow _ _) <|
  stableRows_cons (stable_fullRow _ _) <| stableRows_cons (stable_fullRow _ _) <|
  stableRows_cons (stable_fullRow _ _) <| stableRows_cons (stable_fullRow _ _) <|
  stableRows_cons (stable_fullRow _ _) <| stableRows_cons (stable_fullRow _ _) <| stableRows_nil

theorem stable_opcodes0F90 : ∀ row ∈ opcodes0F90, row.Stable :=
  stableRows_cons (stable_setRow _ _) <| stableRows_cons (stable_setRow _ _) <|
  stableRows_cons (stable_setRow _ _) <| stableRows_cons (stable_setRow _ _) <|
  stableRows_cons (stable_setRow _ _) <| stableRows_cons (stable_setRow _ _) <|
  stableRows_cons (stable_setRow _ _) <| stableRows_cons (stable_setRow _ _) <|
  stableRows_cons (stable_setRow _ _) <| stableRows_cons (stable_setRow _ _) <|
  stableRows_cons (stable_setRow _ _) <| stableRows_cons (stable_setRow _ _) <|
  stableRows_cons (stable_setRow _ _) <| stableRows_cons (stable_setRow _ _) <|
  stableRows_cons (stable_setRow _ _) <| stableRows_cons (stable_setRow _ _) <| stableRows_nil

theorem stable_opcodes0FA0 : ∀ row ∈ opcodes0FA0, row.Stable :=
  stableRows_cons (stable_plainRow _ _) <| stableRows_cons (stable_plainRow _ _) <|
  stableRows_cons (stable_fixedRow fun _ => stable_regRM _) <|
  stableRows_cons (stable_fixedRow fun _ => stable_rm.bind fun _ => stable_withByte _) <|
  stableRows_cons (stable_fixedRow fun _ => stable_regRM _) <| stableRows_cons (stable_plainRow _ _) <|
  stableRows_cons (stable_plainRow _ _) <| stableRows_cons (stable_fixedRow fun _ => stable_regRM _) <|
  stableRows_cons (stable_fixedRow fun _ => stable_rm.bind fun _ => stable_withByte _) <|
  stableRows_cons (stable_fixedRow fun _ => stable_regRM _) <|
  stableRows_cons (stable_fixedRow fun _ => stable_regRM _) <|
  stableRows_cons (stable_fixedRow fun _ => stable_regMem _) <|
  stableRows_cons (stable_fixedRow fun _ => stable_regRM _) <|
  stableRows_cons (stable_fixedRow fun _ => stable_regMem _) <|
  stableRows_cons (stable_fixedRow fun _ => stable_regMem _) <| stableRows_cons (stable_wRegRow _ _) <|
  stableRows_cons (stable_fixedRow fun _ => stable_group0FBA) <|
  stableRows_cons (stable_fixedRow fun _ => stable_regRM _) <|
  stableRows_cons (stable_fixedRow fun _ => stable_regRM _) <|
  stableRows_cons (stable_fixedRow fun _ => stable_regRM _) <| stableRows_cons (stable_wRegRow _ _) <| stableRows_nil

theorem stable_opcodeMap0F : ∀ row ∈ opcodeMap0F, row.Stable :=
  stableRows_append (stableRows_append (stableRows_append stable_opcodes0F00 stable_opcodes0F80) stable_opcodes0F90)
    stable_opcodes0FA0

theorem stable_decodeOpcode (op : Byte) : (decodeOpcode c op).Stable := by
  refine stable_ite (stable_byte.bind fun op2 => ?_) ?_
  · split
    · next row found => exact stable_opcodeMap0F row (findRow_some found).1 c op2
    · exact stable_invalid
  · split
    · next row found => exact stable_opcodeMap row (findRow_some found).1 c op
    · exact stable_invalid

theorem decodeFrom_invalid_append {bs : List Byte} (more : List Byte) (e : decodeFrom c bs = .error .invalidOpcode) :
    decodeFrom c (bs ++ more) = .error .invalidOpcode := by
  induction bs generalizing c with
  | nil => cases e
  | cons b bs ih =>
    rw [List.cons_append]
    rw [decodeFrom] at e ⊢
    cases opens : prefixByte b with
    | none =>
      rw [opens] at e
      exact (stable_decodeOpcode b).invalid more e
    | some p =>
      simp only [opens] at e ⊢
      split at e
      · cases e
      · next inner =>
        cases e
        rw [ih inner]

end

/-- What decodes decodes alike with more bytes behind it. -/
theorem decode_ok_append {d32 : Bool} {bytes : List Byte} {i : Instr} {n : Nat} (more : List Byte)
    (e : decode d32 bytes = .ok (i, n)) : decode d32 (bytes ++ more) = .ok (i, n) := by
  obtain ⟨reads, yields⟩ := decodingAndEncodingAgree d32
  obtain ⟨wf, inside, same⟩ := yields bytes i n e
  have length : (encode i).length = n := by rw [same, List.length_take, Nat.min_eq_left inside]
  have again := reads i (bytes.drop n ++ more) wf
  rwa [← List.append_assoc, same, List.take_append_drop, ← same, length] at again

/-- What is not listed is not listed with any bytes behind it. -/
theorem decode_invalid_append {d32 : Bool} {bytes : List Byte} (more : List Byte)
    (e : decode d32 bytes = .error .invalidOpcode) : decode d32 (bytes ++ more) = .error .invalidOpcode := by
  unfold decode at e ⊢
  split at e
  · cases e
  · next inner =>
    cases e
    rw [decodeFrom_invalid_append more inner]

end Sys2Proof

/-! The state after a reset, the sample words, and the step of a processor that nothing interrupts. -/

namespace Sys2Proof.Machine

/-! ## Reset -/

theorem toReset_cr0_extension (s : State) : s.toReset.sys.cr0.getLsbD 4 = decide (s.ext.platform.coprocessor = .m387) := by
  simp only [State.toReset, SysRegs.reset, BitVec.getLsbD_or, BitVec.getLsbD_and]
  split <;> simp [*]

/-- PE, MP, EM and TS are clear (R100). -/
theorem toReset_cr0_mode (s : State) : s.toReset.sys.cr0.extractLsb' 0 4 = 0 := by
  simp only [State.toReset, SysRegs.reset, BitVec.extractLsb'_or, BitVec.extractLsb'_and]
  split <;> simp

/-- DX holds the component and stepping identifiers (R863). -/
theorem resetRegs_edx (p : Config.Platform) (u : UndefReset) : (Regs.reset p u).edx.extractLsb' 0 16 = 3#8 ++ p.steppingId := by
  have upper : (0xFFFF0000 : Dword).extractLsb' 0 16 = 0#16 := by decide
  have joined : ∀ id : Byte, (0x300 : Dword).extractLsb' 0 16 ||| (id.setWidth 32).extractLsb' 0 16 = 3#8 ++ id := by decide
  simp only [Regs.reset, BitVec.extractLsb'_or, BitVec.extractLsb'_and, upper, BitVec.and_zero, BitVec.zero_or, joined]

/-- No breakpoint is enabled, and GD is clear (R104). -/
theorem resetDebug_dr7 (u : UndefReset) :
    (DebugRegs.reset u).dr7.extractLsb' 0 10 = 0 ∧ (DebugRegs.reset u).dr7.getLsbD 13 = false := by
  simp [DebugRegs.reset, BitVec.extractLsb'_and]

/-- The data and stack segment registers are those of address 0 (R101). -/
theorem resetSegs_get {sg : Seg} (h : sg ≠ .cs) : SegRegs.reset.get sg = SegReg.real0 := by
  cases sg with
  | cs => exact absurd rfl h
  | _ => rfl

/-- Bit 1 of the image reads 1 (R39). -/
theorem resetFlags_image : Flags.reset.image = 2 := by decide

/-- The first fetch is at FFFFFFF0h (R102). -/
theorem resetVector : SegReg.csReset.base + (0xFFF0 : Dword) = 0xFFFFFFF0 := by decide

/-- Settles O52: a reset writes every register that the statement names. -/
theorem resetSetsTheRegistersOfTheSpec : Obligations.ResetSetsTheRegistersOfTheSpec := by
  intro s reset
  refine ⟨s.toReset, if_pos reset, rfl, rfl, resetFlags_image, rfl, rfl, toReset_cr0_mode s, toReset_pg s, toReset_cr0_extension s, rfl, rfl,
    rfl, resetVector, fun sg notCs => ?_, resetRegs_edx _ _, fun selfTest => if_pos selfTest, rfl, (resetDebug_dr7 _).1,
    (resetDebug_dr7 _).2, rfl, rfl, rfl, toReset_legalMode s, toReset_pageBase s, toReset_tlbSize s, rfl⟩
  rw [show s.toReset.segs.get sg = SegReg.real0 from resetSegs_get notCs]
  exact ⟨rfl, rfl, rfl⟩

/-! ## The step of a processor that nothing interrupts -/

theorem step_of_nothing_due {s : State} (reset : s.ext.reset = false) (running : s.events.activity = .running)
    (debug : debugDue s = false) (nmi : nmiDue s = false) (intr : intrDue s = false) : step s = runNext s := by
  simp [step, reset, stepActive, running, stepRunning, debug, nmi, intr]

/-- In a 16-bit code segment the offset of the next instruction has 16 bits (R36). -/
theorem nextEip_16 (eip : Dword) (len : Nat) :
    (eip + BitVec.ofNat 32 len) &&& 0xFFFF = BitVec.ofNat 32 ((eip.toNat + len) % 2 ^ 16) := by
  apply BitVec.eq_of_toNat_eq
  have low (n : Nat) : n &&& 0xFFFF = n % 2 ^ 16 := Nat.and_two_pow_sub_one_eq_mod n 16
  simp only [BitVec.toNat_and, BitVec.toNat_add, BitVec.toNat_ofNat]
  show _ &&& 0xFFFF = _
  rw [low]
  omega

/-- Settles O53: the reset state is a literal. -/
theorem resetHasTheInvariants : Obligations.ResetHasTheInvariants := by
  unfold Obligations.ResetHasTheInvariants State.legalMode State.pageBase State.tlbSize State.between State.quiet
  decide +kernel

/-- Settles O59: nothing that comes before the fetch is due, so the step is `runNext`, which is `exec` of what is fetched or held. -/
theorem stepRunsTheDecodedInstruction : Obligations.StepRunsTheDecodedInstruction := by
  intro s t i len
  refine ⟨fun ⟨reset, running, held, debug, nmi, intr⟩ fetched => ?_, fun reset running debug nmi intr held => ?_, ?_⟩
  · rw [step_of_nothing_due reset running debug nmi intr, runNext, held, fetched]
  · rw [step_of_nothing_due reset running debug nmi intr, runNext, held]
  · simp only [begin, Context.idle, nextEip_16]
    rfl

/-- Settles O57: the decoder runs. -/
theorem sampleWordsDecode : Obligations.SampleWordsDecode := by
  refine ⟨rfl, rfl, rfl, rfl, rfl, rfl, rfl, rfl⟩

end Sys2Proof.Machine

/-! The encodings that the opcode table does not list (spec/30_encoding.md R318, decision D23). -/

namespace Sys2Proof

/-- The context in which a code segment of the given default size is decoded (R262, R263). -/
def Ctx.start (d32 : Bool) : Ctx := { d32 := d32, has66 := false, has67 := false }

theorem decode_invalid {d32 : Bool} {bs : List Byte} (h : decodeFrom (.start d32) bs = .error .invalidOpcode) :
    decode d32 bs = .error .invalidOpcode := by
  rw [Ctx.start] at h
  rw [decode, h]

theorem decode_not_ok {d32 : Bool} {bs : List Byte} (h : ∀ p, decodeFrom (.start d32) bs ≠ .ok p) (p : Instr × Nat) :
    decode d32 bs ≠ .ok p := by
  unfold decode
  split
  · next i rest read => exact absurd read (h (i, rest))
  · exact fun e => nomatch e

/-! ## The mod r/m byte and what follows it -/

section
variable {c : Ctx}

theorem pDisp16_total (md : BitVec 2) {bs : List Byte} (h : 2 ≤ bs.length) : ∃ v, pDisp16 md bs = .ok v := by
  obtain ⟨b0, b1, tail, rfl⟩ : ∃ b0 b1 tail, bs = b0 :: b1 :: tail := by
    match bs with
    | b0 :: b1 :: tail => exact ⟨b0, b1, tail, rfl⟩
  unfold pDisp16
  split
  · exact ⟨_, rfl⟩
  split
  · exact ⟨_, rfl⟩
  · exact ⟨_, rfl⟩

theorem Parser.map_total {α β : Type} {p : Parser α} {f : α → β} {bs : List Byte} (h : ∃ v, p bs = .ok v) :
    ∃ v, p.map f bs = .ok v := by
  obtain ⟨⟨a, rest⟩, e⟩ := h
  exact ⟨(f a, rest), Parser.bind_ok.mpr ⟨a, rest, e, rfl⟩⟩

theorem pDword_total {bs : List Byte} (h : 4 ≤ bs.length) : ∃ v, pDword bs = .ok v := by
  match bs with
  | b0 :: b1 :: b2 :: b3 :: tail => exact ⟨_, rfl⟩

theorem pDisp32_total (md : BitVec 2) {bs : List Byte} (h : 4 ≤ bs.length) : ∃ v, pDisp32 md bs = .ok v := by
  unfold pDisp32
  split
  · exact ⟨_, rfl⟩
  split
  · match bs with
    | b0 :: tail => exact ⟨_, rfl⟩
  · exact Parser.map_total (pDword_total h)

/-- An s-i-b byte and four bytes of displacement are the most that a mod r/m byte can announce (R251). -/
theorem pMem_total (md : BitVec 2) (low : BitVec 3) {bs : List Byte} (h : 5 ≤ bs.length) : ∃ v, pMem c md low bs = .ok v := by
  unfold pMem
  split
  · split
    · match bs with
      | b :: tail =>
        have rest : 4 ≤ tail.length := by simpa using h
        simp only [pSib, Parser.bind, pByte]
        split
        · exact Parser.map_total (pDword_total rest)
        · exact Parser.map_total (pDisp32_total md rest)
    split
    · exact Parser.map_total (pDword_total (by omega))
    · exact Parser.map_total (pDisp32_total md (by omega))
  · split
    · match bs with
      | b0 :: b1 :: tail => exact ⟨_, rfl⟩
    · exact Parser.map_total (pDisp16_total md (by omega))

theorem pRM_total (b : Byte) {bs : List Byte} (h : 5 ≤ bs.length) : ∃ v, pRM c (b :: bs) = .ok v := by
  simp only [pRM, Parser.bind, pByte]
  split
  · exact ⟨_, rfl⟩
  · exact Parser.map_total (pMem_total _ _ h)

/-- The field of bits 5:3 is that of the first byte. -/
theorem pRM_field {b : Byte} {bs rest : List Byte} {p : BitVec 3 × RM} (e : pRM c (b :: bs) = .ok (p, rest)) :
    p.1 = b.extractLsb' 3 3 := by
  obtain ⟨_, _, first, second⟩ := Parser.bind_ok.mp e
  cases first
  split at second
  · cases second
    rfl
  · obtain ⟨m, _, _, last⟩ := Parser.bind_ok.mp second
    cases last
    rfl

/-- Behind an operand whose bits 5:3 select nothing listed no instruction is read, and where its address bytes are there the
encoding is invalid. -/
theorem unlisted_field {g : BitVec 3 × RM → Parser Instr} {b : Byte} (rest : List Byte)
    (none : ∀ rm, g (b.extractLsb' 3 3, rm) = Parser.invalid) :
    (∀ v, (pRM c).bind g (b :: rest) ≠ .ok v) ∧ (5 ≤ rest.length → (pRM c).bind g (b :: rest) = .error .invalidOpcode) := by
  have behind {p tail} (e : pRM c (b :: rest) = .ok (p, tail)) : g p = Parser.invalid := by
    rw [← none p.2, ← pRM_field e]
  refine ⟨fun v e => ?_, fun enough => ?_⟩
  · obtain ⟨p, tail, first, second⟩ := Parser.bind_ok.mp e
    rw [behind first] at second
    cases second
  · obtain ⟨⟨p, tail⟩, first⟩ := pRM_total (c := c) b enough
    exact Parser.bind_invalid.mpr (.inr ⟨p, tail, first, by rw [behind first]; rfl⟩)

/-- A register operand where memory is needed. -/
theorem unlisted_register {g : BitVec 3 × RM → Parser Instr} (k : BitVec 3) (r : Reg) (rest : List Byte)
    (none : g (k, .reg r) = Parser.invalid) : (pRM c).bind g (modByte 3 k r.code :: rest) = .error .invalidOpcode :=
  Parser.bind_invalid.mpr (.inr ⟨_, _, reads_rm (rm := .reg r) rfl k rest, by rw [none]; rfl⟩)

/-- A special register that the `eee` field does not name, or a mod field other than 11 (R288). -/
theorem unlisted_special {α : Type} {reg : BitVec 3 → Option α} {f : α → Reg → Instr} {b : Byte} (rest : List Byte)
    (none : b.extractLsb' 6 2 ≠ 3 ∨ reg (b.extractLsb' 3 3) = none) : pSpecial reg f (b :: rest) = .error .invalidOpcode := by
  refine Parser.bind_invalid.mpr (.inr ⟨b, rest, rfl, ?_⟩)
  split
  · next three =>
    rw [none.resolve_left (not_not_intro three)]
    rfl
  · rfl

end

/-! ## Rejection by the decoder -/

/-- These bytes open an instruction that the parser reads on. -/
def Opens (d32 : Bool) (op : List Byte) (p : Parser Instr) : Prop := ∀ rest, decodeFrom (.start d32) (op ++ rest) = p rest

section
variable {d32 : Bool} {op : List Byte} {b : Byte} {rest : List Byte}

theorem rejected_of_opens {p : Parser Instr} {tail : List Byte} (opens : Opens d32 op p)
    (invalid : p (tail ++ rest) = .error .invalidOpcode) : decode d32 (op ++ tail ++ rest) = .error .invalidOpcode :=
  decode_invalid (by rw [List.append_assoc, opens, invalid])

/-- An opcode that selects a parser with a mod r/m byte which refuses the fields of a list. -/
theorem unlisted_of_opens {g : BitVec 3 × RM → Parser Instr} {fields : List Nat}
    (opens : Opens d32 op ((pRM (.start d32)).bind g))
    (none : ∀ k : BitVec 3, k.toNat ∈ fields → ∀ rm, g (k, rm) = Parser.invalid)
    (field : (b.extractLsb' 3 3).toNat ∈ fields) :
    (∀ p, decode d32 (op ++ [b] ++ rest) ≠ .ok p) ∧
      (5 ≤ rest.length → decode d32 (op ++ [b] ++ rest) = .error .invalidOpcode) := by
  obtain ⟨never, invalid⟩ := unlisted_field (c := .start d32) rest (none _ field)
  exact ⟨decode_not_ok fun p => by rw [List.append_assoc, opens]; exact never p,
    fun enough => rejected_of_opens opens (invalid enough)⟩

theorem unlisted_of_group {f : Nat → RM → Parser Instr} {fields : List Nat} (opens : Opens d32 op (pGroup (.start d32) f))
    (none : ∀ k ∈ fields, ∀ rm, f k rm = Parser.invalid) (field : (b.extractLsb' 3 3).toNat ∈ fields) :
    (∀ p, decode d32 (op ++ [b] ++ rest) ≠ .ok p) ∧
      (5 ≤ rest.length → decode d32 (op ++ [b] ++ rest) = .error .invalidOpcode) :=
  unlisted_of_opens opens (fun k => none k.toNat) field

/-- A SETcc opcode selects a row of its own (R302). -/
theorem findRow_set (cond : BitVec 4) : ∃ f : RM → Instr, findRow opcodeMap0F (0x9#4 ++ cond) = some (setRow (0x9#4 ++ cond) f) := by
  have each : cond ∈ ([0, 1, 2, 3, 4, 5, 6, 7, 8, 9, 10, 11, 12, 13, 14, 15] : List (BitVec 4)) := by
    revert cond
    decide
  fin_cases each <;> exact ⟨_, rfl⟩

theorem opens_set (cond : BitVec 4) :
    ∃ f : RM → Instr, Opens d32 [0x0F, 0x9#4 ++ cond] (pZeroGroup (.start d32) fun rm => one (f rm)) := by
  obtain ⟨f, found⟩ := findRow_set cond
  refine ⟨f, fun rest => ?_⟩
  have opens : prefixByte 0x0F = none := rfl
  rw [List.cons_append, decodeFrom, opens]
  simp only [decodeOpcode, if_true, Parser.bind, List.cons_append, List.nil_append, pByte, found]
  rfl

theorem findRow_unlisted : ∀ op : Byte, op.toNat ∉ [0x00, 0x01, 0x02, 0x03, 0x06, 0x20, 0x21, 0x22, 0x23, 0x24, 0x26, 0xA0, 0xA1,
      0xA3, 0xA4, 0xA5, 0xA8, 0xA9, 0xAB, 0xAC, 0xAD, 0xAF, 0xB2, 0xB3, 0xB4, 0xB5, 0xB6, 0xB7, 0xBA, 0xBB, 0xBC, 0xBD, 0xBE, 0xBF] →
    ¬(0x80 ≤ op.toNat ∧ op.toNat ≤ 0x9F) → (findRow opcodeMap0F op).isNone = true := by decide +kernel

theorem opens_unlisted {op : Byte} (unlisted : (findRow opcodeMap0F op).isNone = true) :
    Opens d32 [0x0F, op] Parser.invalid := by
  intro rest
  have opens : prefixByte 0x0F = none := rfl
  rw [List.cons_append, decodeFrom, opens]
  simp only [decodeOpcode, if_true, Parser.bind, List.cons_append, List.nil_append, pByte, Option.isNone_iff_eq_none.mp unlisted]

/-- An opcode that opens a group, with some fields that the group refuses (R301). -/
def RefusesFields (d32 : Bool) (e : List Byte × List Nat) : Prop :=
  ∃ f, Opens d32 e.1 (pGroup (.start d32) f) ∧ ∀ k ∈ e.2, ∀ rm, f k rm = Parser.invalid

/-- An opcode whose operand is memory alone with the given bits 5:3 (R271). -/
def RefusesRegister (d32 : Bool) (r : Reg) (e : List Byte × BitVec 3) : Prop :=
  ∃ g, Opens d32 e.1 ((pRM (.start d32)).bind g) ∧ g (e.2, .reg r) = Parser.invalid

theorem refusesFields {fields : List Nat} {f : Nat → RM → Parser Instr} (opens : Opens d32 op (pGroup (.start d32) f))
    (none : ∀ k ∈ fields, ∀ rm, f k rm = Parser.invalid) : RefusesFields d32 (op, fields) := ⟨f, opens, none⟩

theorem refusesRegister_regMem {f : Reg → Mem → Instr} (k : BitVec 3) (r : Reg) (opens : Opens d32 op (pRegMem (.start d32) f)) :
    RefusesRegister d32 r (op, k) := ⟨_, opens, rfl⟩

theorem refusesRegister_group {f : Nat → RM → Parser Instr} {k : BitVec 3} {r : Reg} {g : Mem → Instr}
    (opens : Opens d32 op (pGroup (.start d32) f)) (member : ∀ rm, f k.toNat rm = onMem g rm) :
    RefusesRegister d32 r (op, k) := ⟨_, opens, member (.reg r)⟩

/-- The opcodes of the groups, each with the fields that its group refuses. -/
def refusingGroups : List (List Byte × List Nat) :=
  [([0xF6], [1]), ([0xF7], [1]), ([0xFE], [2, 3, 4, 5, 6, 7]), ([0xFF], [7]), ([0xC0], [6]), ([0xC1], [6]),
   ([0xD0], [6]), ([0xD1], [6]), ([0xD2], [6]), ([0xD3], [6]), ([0x8F], [1, 2, 3, 4, 5, 6, 7]),
   ([0xC6], [1, 2, 3, 4, 5, 6, 7]), ([0xC7], [1, 2, 3, 4, 5, 6, 7]), ([0x0F, 0x00], [6, 7]), ([0x0F, 0x01], [5, 7]),
   ([0x0F, 0xBA], [0, 1, 2, 3])]

theorem groups_refuse : ∀ e ∈ refusingGroups, RefusesFields d32 e := by
  simp only [refusingGroups, List.forall_mem_cons]
  refine ⟨refusesFields (show Opens d32 _ (groupF6 _ false) from fun _ => rfl) ?_,
    refusesFields (show Opens d32 _ (groupF6 _ true) from fun _ => rfl) ?_,
    refusesFields (show Opens d32 _ (groupFE _) from fun _ => rfl) ?_,
    refusesFields (show Opens d32 _ (groupFF _) from fun _ => rfl) ?_,
    refusesFields (show Opens d32 _ (groupShiftImm _ false) from fun _ => rfl) ?_,
    refusesFields (show Opens d32 _ (groupShiftImm _ true) from fun _ => rfl) ?_,
    refusesFields (show Opens d32 _ (groupShiftOne _ false) from fun _ => rfl) ?_,
    refusesFields (show Opens d32 _ (groupShiftOne _ true) from fun _ => rfl) ?_,
    refusesFields (show Opens d32 _ (groupShiftCl _ false) from fun _ => rfl) ?_,
    refusesFields (show Opens d32 _ (groupShiftCl _ true) from fun _ => rfl) ?_,
    refusesFields (show Opens d32 _ (pZeroGroup _ fun rm => one (.popRm rm)) from fun _ => rfl) ?_,
    refusesFields (show Opens d32 _ (pZeroGroup _ fun rm => withImm _ false false (.movRmImm false rm)) from fun _ => rfl) ?_,
    refusesFields (show Opens d32 _ (pZeroGroup _ fun rm => withImm _ false true (.movRmImm true rm)) from fun _ => rfl) ?_,
    refusesFields (show Opens d32 _ (group0F00 _) from fun _ => rfl) ?_,
    refusesFields (show Opens d32 _ (group0F01 _) from fun _ => rfl) ?_,
    refusesFields (show Opens d32 _ (group0FBA _) from fun _ => rfl) ?_, List.forall_mem_nil _⟩ <;>
  · intro k m rm
    fin_cases m <;> rfl

theorem memory_forms_refuse (k : BitVec 3) (r : Reg) : ∀ e ∈
    [([0x8D], k), ([0xC4], k), ([0xC5], k), ([0x62], k), ([0x0F, 0xB2], k), ([0x0F, 0xB4], k), ([0x0F, 0xB5], k), ([0xFF], 3#3),
     ([0xFF], 5#3), ([0x0F, 0x01], 0#3), ([0x0F, 0x01], 1#3), ([0x0F, 0x01], 2#3), ([0x0F, 0x01], 3#3)],
    RefusesRegister d32 r e := by
  have far : Opens d32 [0xFF] (groupFF (.start d32)) := fun _ => rfl
  have table : Opens d32 [0x0F, 0x01] (group0F01 (.start d32)) := fun _ => rfl
  simp only [List.forall_mem_cons]
  exact ⟨refusesRegister_regMem (f := .lea) k r fun _ => rfl, refusesRegister_regMem (f := .les) k r fun _ => rfl,
    refusesRegister_regMem (f := .lds) k r fun _ => rfl, refusesRegister_regMem (f := .bound) k r fun _ => rfl,
    refusesRegister_regMem (f := .lss) k r fun _ => rfl, refusesRegister_regMem (f := .lfs) k r fun _ => rfl,
    refusesRegister_regMem (f := .lgs) k r fun _ => rfl, refusesRegister_group far fun _ => rfl,
    refusesRegister_group far fun _ => rfl, refusesRegister_group table fun _ => rfl, refusesRegister_group table fun _ => rfl,
    refusesRegister_group table fun _ => rfl, refusesRegister_group table fun _ => rfl, List.forall_mem_nil _⟩

/-- A MOV with a segment register whose number names none, or is CS where it would be loaded (log entry 56). -/
theorem unlisted_of_segRM {f : Seg → RM → Parser Instr} {fields : List Nat} (opens : Opens d32 op (pSegRM (.start d32) f))
    (none : ∀ k : BitVec 3, k.toNat ∈ fields → ∀ sg, Seg.ofCode k = some sg → ∀ rm, f sg rm = Parser.invalid)
    (field : (b.extractLsb' 3 3).toNat ∈ fields) :
    (∀ p, decode d32 (op ++ [b] ++ rest) ≠ .ok p) ∧
      (5 ≤ rest.length → decode d32 (op ++ [b] ++ rest) = .error .invalidOpcode) :=
  unlisted_of_opens opens (fun k m rm => by
    dsimp only
    split
    · next sg named => exact none k m sg named rm
    · rfl) field

theorem unlisted_movSegRm (field : (b.extractLsb' 3 3).toNat ∈ [1, 6, 7]) :
    (∀ p, decode d32 ([0x8E] ++ [b] ++ rest) ≠ .ok p) ∧
      (5 ≤ rest.length → decode d32 ([0x8E] ++ [b] ++ rest) = .error .invalidOpcode) := by
  have cs : ∀ k : BitVec 3, k.toNat ∈ [1, 6, 7] → ∀ sg, Seg.ofCode k = some sg → sg = .cs := by decide
  exact unlisted_of_segRM (f := fun sg rm => if sg = .cs then Parser.invalid else one (.movSegRm sg rm)) (fun _ => rfl)
    (fun k m sg named rm => if_pos (cs k m sg named)) field

theorem unlisted_movRmSeg (field : (b.extractLsb' 3 3).toNat ∈ [6, 7]) :
    (∀ p, decode d32 ([0x8C] ++ [b] ++ rest) ≠ .ok p) ∧
      (5 ≤ rest.length → decode d32 ([0x8C] ++ [b] ++ rest) = .error .invalidOpcode) := by
  have unnamed : ∀ k : BitVec 3, k.toNat ∈ [6, 7] → Seg.ofCode k = none := by decide
  exact unlisted_of_segRM (f := fun sg rm => one (.movRmSeg rm sg)) (fun _ => rfl)
    (fun k m sg named rm => nomatch (unnamed k m).symm.trans named) field

end

theorem CReg.ofCode_eq_none : ∀ k : BitVec 3, k.toNat ∉ [0, 2, 3] → CReg.ofCode k = none := by decide

theorem DReg.ofCode_eq_none : ∀ k : BitVec 3, k.toNat ∉ [0, 1, 2, 3, 6, 7] → DReg.ofCode k = none := by decide

theorem TReg.ofCode_eq_none : ∀ k : BitVec 3, k.toNat ∉ [6, 7] → TReg.ofCode k = none := by decide

/-- Settles O58: every opcode of the list selects no row, or a row that refuses the fields listed with it. -/
theorem unlistedEncodingsAreRejected : Obligations.UnlistedEncodingsAreRejected := by
  intro d32 b r rest rejected unlisted field special register
  have opcode (op : Byte) (opens : Opens d32 [op] Parser.invalid) : rejected [op] := rejected_of_opens (tail := []) opens rfl
  have base (op : Byte) {i : Instr} (opens : Opens d32 [op] (pByte.bind fun b => if b = 0x0A then one i else Parser.invalid))
      (h : b ≠ 0x0A) : rejected [op, b] :=
    rejected_of_opens (tail := [b]) opens (Parser.bind_invalid.mpr (.inr ⟨b, rest, rfl, by rw [if_neg h]; rfl⟩))
  have sreg {α : Type} {reg : BitVec 3 → Option α} {op : Byte} {l : List Nat} (f : α → Reg → Instr)
      (named : ∀ k : BitVec 3, k.toNat ∉ l → reg k = none) (opens : Opens d32 [0x0F, op] (pSpecial reg f)) : special op l :=
    fun h => rejected_of_opens (tail := [b]) opens (unlisted_special rest (h.imp_right (named _)))
  refine ⟨opcode _ fun _ => rfl, opcode _ fun _ => rfl, opcode _ fun _ => rfl, fun notListed notCondition => ?second,
    fun h => ⟨base 0xD4 (fun _ => rfl) h, base 0xD5 (fun _ => rfl) h⟩, fun op fields m inFields => ?fields,
    fun cond nonzero => ?set, sreg (fun x r => .movRegCr r x) CReg.ofCode_eq_none fun _ => rfl,
    sreg .movCrReg CReg.ofCode_eq_none fun _ => rfl, sreg (fun x r => .movRegDr r x) DReg.ofCode_eq_none fun _ => rfl,
    sreg .movDrReg DReg.ofCode_eq_none fun _ => rfl, sreg (fun x r => .movRegTr r x) TReg.ofCode_eq_none fun _ => rfl,
    sreg .movTrReg TReg.ofCode_eq_none fun _ => rfl, fun op k m => ?registers⟩
  case second =>
    exact rejected_of_opens (tail := []) (opens_unlisted (findRow_unlisted b notListed notCondition)) rfl
  case fields =>
    rcases List.mem_append.mp (show (op, fields) ∈ refusingGroups ++ [([0x8E], [1, 6, 7]), ([0x8C], [6, 7])] from m) with group | segment
    · obtain ⟨f, opens, none⟩ := groups_refuse (d32 := d32) _ group
      exact unlisted_of_group opens none inFields
    · simp only [List.mem_cons, Prod.mk.injEq, List.not_mem_nil, or_false] at segment
      rcases segment with ⟨rfl, rfl⟩ | ⟨rfl, rfl⟩
      · exact unlisted_movSegRm inFields
      · exact unlisted_movRmSeg inFields
  case set =>
    obtain ⟨f, opens⟩ := opens_set (d32 := d32) cond
    have others : ∀ k : BitVec 3, k.toNat ≠ 0 → k.toNat ∈ [1, 2, 3, 4, 5, 6, 7] := by decide
    refine unlisted_of_group opens (fun k m rm => ?_) (others _ nonzero)
    fin_cases m <;> rfl
  case registers =>
    obtain ⟨g, opens, none⟩ := memory_forms_refuse (d32 := d32) _ r _ m
    exact rejected_of_opens (tail := [modByte 3 k r.code]) opens (unlisted_register k r rest none)

end Sys2Proof

/-! The fetch of the next instruction (spec/10_state.md R35, R37; spec/60_exceptions.md R741 steps 4 to 6). -/

namespace Sys2Proof.Machine

/-! ## How many bytes there are -/

/-- The code within the limit ends where the count says, or where the limit does. -/
theorem codeRoom_eq {s : State} {n : Nat} (inside : ∀ k, k < n → (s.eip + BitVec.ofNat 32 k).toNat ≤ s.segs.cs.limit.toNat)
    {k m : Nat} (le : k ≤ n) (within : n ≤ k + m)
    (ends : n = k + m ∨ s.segs.cs.limit.toNat < (s.eip + BitVec.ofNat 32 n).toNat) : codeRoom s k m = n - k := by
  induction m generalizing k with
  | zero =>
    rw [codeRoom]
    omega
  | succ m ih =>
    rw [codeRoom]
    split
    · next here =>
      have next : k < n := by
        by_contra h
        have e : k = n := by omega
        rw [e] at here
        omega
      rw [ih (by omega) (by omega) (by omega)]
      omega
    · next past =>
      have last : ¬k < n := fun h => past (inside k h)
      omega

/-! ## The two pages -/

/-- What the instruction bytes of one page hold. -/
theorem fetchPage_apply (lin : Dword) (n : Nat) (s : State) :
    fetchPage lin n s = match translate lin false (s.sys.cpl = 3) s with
      | .ok a t => .ok (codeBytes t.mem a n) t
      | .error x t => .error x t := by
  simp only [fetchPage, exec_bind_apply, getState_apply]
  cases translate lin false (s.sys.cpl = 3) s <;> rfl

/-- A translation leaves the level. -/
theorem translate_cpl {lin : Dword} {write user : Bool} {s t : State} {a : Dword} (h : translate lin write user s = .ok a t) :
    t.sys.cpl = s.sys.cpl :=
  (((within_translate (k := true) lin write user s).1 a t h).level rfl).2

section
variable {s : State} {n : Nat} (room : codeRoom s 0 maxLength = n)
include room

theorem fetch_of_no_room (none : n = 0) : fetch s = .error (.exc (.protection 0)) s := by
  subst none
  simp [fetch, room]

variable (pos : 0 < n)
include pos

theorem fetch_first_error {x : Stop} {t : State} (first : translate (codeAddress s) false (s.sys.cpl = 3) s = .error x t) :
    fetch s = .error x t := by
  simp only [fetch, exec_bind_apply, getState_apply, room, pos, decide_true, require_true, fetchPage_apply, first]

/-- The bytes of the first page. -/
def firstBytes (s t : State) (n : Nat) (a : Dword) : List Byte :=
  codeBytes t.mem a (min n (4096 - (codeAddress s).toNat % 4096))

variable {a : Dword} {t : State} (first : translate (codeAddress s) false (s.sys.cpl = 3) s = .ok a t)
include first

theorem fetch_first_ok {p : Instr × Nat} (read : decode s.default32 (firstBytes s t n a) = .ok p) : fetch s = .ok p t := by
  rw [firstBytes] at read
  simp only [fetch, exec_bind_apply, getState_apply, room, pos, decide_true, require_true, fetchPage_apply, first, read]
  rfl

theorem fetch_first_invalid (read : decode s.default32 (firstBytes s t n a) = .error .invalidOpcode) :
    fetch s = .error (.exc .invalidOpcode) t := by
  rw [firstBytes] at read
  simp only [fetch, exec_bind_apply, getState_apply, room, pos, decide_true, require_true, fetchPage_apply, first, read]
  rfl

variable (read : decode s.default32 (firstBytes s t n a) = .error .truncated)
include read

theorem fetch_first_ends (ends : n ≤ 4096 - (codeAddress s).toNat % 4096) : fetch s = .error (.exc (.protection 0)) t := by
  rw [firstBytes] at read
  simp only [fetch, exec_bind_apply, getState_apply, room, pos, decide_true, require_true, fetchPage_apply, first, read,
    if_pos ends, raise_apply]

variable (more : 4096 - (codeAddress s).toNat % 4096 < n)
include more

/-- The instruction runs past the limit of CS, which the bytes of the first page show (log entry 34). -/
theorem fetch_past (past : (s.pe && s.pg && decide (n < maxLength) &&
      cutShort s.default32 (firstBytes s t n a) (n - (4096 - (codeAddress s).toNat % 4096))) = true) :
    fetch s = .error (.exc (.protection 0)) t := by
  rw [firstBytes] at read past
  simp only [fetch, exec_bind_apply, getState_apply, room, pos, decide_true, require_true, fetchPage_apply, first, read,
    if_neg (Nat.not_le.mpr more), past, if_true, raise_apply]

/-- The next page is read. -/
theorem fetch_second (goesOn : (s.pe && s.pg && decide (n < maxLength) &&
      cutShort s.default32 (firstBytes s t n a) (n - (4096 - (codeAddress s).toNat % 4096))) = false) :
    fetch s = match translate (codeAddress s + BitVec.ofNat 32 (4096 - (codeAddress s).toNat % 4096)) false (s.sys.cpl = 3) t with
      | .ok b u => decoded (decode s.default32 (firstBytes s t n a ++
          codeBytes u.mem b (n - (4096 - (codeAddress s).toNat % 4096)))) u
      | .error x u => .error x u := by
  have level := translate_cpl first
  rw [firstBytes] at read goesOn ⊢
  simp only [fetch, exec_bind_apply, getState_apply, room, pos, decide_true, require_true, fetchPage_apply, first, read,
    if_neg (Nat.not_le.mpr more), goesOn, Bool.false_eq_true, if_false, level]
  cases translate (codeAddress s + BitVec.ofNat 32 (4096 - (codeAddress s).toNat % 4096)) false (s.sys.cpl = 3) t <;> rfl

variable (goesOn : (s.pe && s.pg && decide (n < maxLength) &&
      cutShort s.default32 (firstBytes s t n a) (n - (4096 - (codeAddress s).toNat % 4096))) = false)
include goesOn

theorem fetch_second_error {x : Stop} {u : State} (next :
      translate (codeAddress s + BitVec.ofNat 32 (4096 - (codeAddress s).toNat % 4096)) false (s.sys.cpl = 3) t = .error x u) :
    fetch s = .error x u := by
  rw [fetch_second room pos first read more goesOn, next]

theorem fetch_second_ok {b : Dword} {u : State} (next :
      translate (codeAddress s + BitVec.ofNat 32 (4096 - (codeAddress s).toNat % 4096)) false (s.sys.cpl = 3) t = .ok b u) :
    fetch s = decoded (decode s.default32 (firstBytes s t n a ++
      codeBytes u.mem b (n - (4096 - (codeAddress s).toNat % 4096)))) u := by
  rw [fetch_second room pos first read more goesOn, next]

end

/-- Every completion of the bytes is tried. -/
theorem cutShort_iff {wide : Bool} {bytes : List Byte} {n : Nat} :
    cutShort wide bytes n = true ↔
      ∀ c : Byte, decode wide (bytes ++ c :: List.replicate (n - 1) 0) = .error .truncated := by
  have same (c : Byte) : BitVec.ofNat 8 c.toNat = c := BitVec.eq_of_toNat_eq (by simp)
  simp only [cutShort, List.all_eq_true, List.mem_range]
  refine ⟨fun all c => ?_, fun all c _ => by rw [all]⟩
  have here := all c.toNat c.isLt
  rw [same] at here
  revert here
  cases decode wide (bytes ++ c :: List.replicate (n - 1) 0) with
  | ok p => exact fun e => nomatch e
  | error e => cases e with
    | invalidOpcode => exact fun e => nomatch e
    | truncated => exact fun _ => rfl

theorem linearBytes_append (lin : Dword) (n m : Nat) :
    linearBytes lin (n + m) = linearBytes lin n ++ linearBytes (lin + BitVec.ofNat 32 n) m := by
  simp only [linearBytes, List.range_add, List.map_append, List.map_map]
  congr 1
  refine List.map_congr_left fun k _ => ?_
  simp only [Function.comp_apply, BitVec.toNat_add, BitVec.toNat_ofNat]
  omega

/-- Bytes that lie in the page of their first byte. -/
theorem codeBytes_eq (mem : Memory) (a : Dword) {n : Nat} (h : a.toNat % 4096 + n ≤ 4096) :
    codeBytes mem a n = (linearBytes a n).map mem.read := by
  rw [codeBytes, linearBytes, List.map_map]
  refine List.map_congr_left fun k inside => ?_
  have bound := List.mem_range.mp inside
  have top := a.isLt
  rw [Function.comp_apply, Nat.mod_eq_of_lt (by omega)]

/-- The page behind one begins at offset 0 of it. -/
theorem next_page_aligned (lin : Dword) : (lin + BitVec.ofNat 32 (4096 - lin.toNat % 4096)).toNat % 4096 = 0 := by
  simp only [BitVec.toNat_add, BitVec.toNat_ofNat]
  omega

/-- The bytes within the limit that follow one another from the first, without paging. -/
theorem firstBytes_unpaged {s : State} {n : Nat} :
    firstBytes s s n (codeAddress s) =
      (linearBytes (codeAddress s) (min n (4096 - (codeAddress s).toNat % 4096))).map s.mem.read := by
  rw [firstBytes, codeBytes_eq]
  omega

/-- Without paging the two pages make one string of bytes. -/
theorem bytes_unpaged {s : State} {n : Nat} (more : 4096 - (codeAddress s).toNat % 4096 < n) (le : n ≤ 4096) :
    firstBytes s s n (codeAddress s) ++
        codeBytes s.mem (codeAddress s + BitVec.ofNat 32 (4096 - (codeAddress s).toNat % 4096))
          (n - (4096 - (codeAddress s).toNat % 4096)) =
      (linearBytes (codeAddress s) n).map s.mem.read := by
  have whole := linearBytes_append (codeAddress s) (4096 - (codeAddress s).toNat % 4096)
    (n - (4096 - (codeAddress s).toNat % 4096))
  rw [Nat.add_sub_of_le (Nat.le_of_lt more)] at whole
  rw [firstBytes_unpaged, codeBytes_eq, Nat.min_eq_right (Nat.le_of_lt more), ← List.map_append, whole]
  rw [next_page_aligned]
  omega

/-- Without paging the bytes within the limit are decoded as one string: what the first page shows, more bytes do not
change. -/
theorem fetch_unpaged {s : State} {n : Nat} (room : codeRoom s 0 maxLength = n) (le : n ≤ maxLength) (unpaged : s.unpaged) :
    fetch s = decoded (decode s.default32 ((linearBytes (codeAddress s) n).map s.mem.read)) s := by
  rcases Nat.eq_zero_or_pos n with none | pos
  · subst none
    exact fetch_of_no_room room rfl
  have first := translate_unpaged unpaged (codeAddress s) false (s.sys.cpl = 3)
  have short : n ≤ 4096 := le.trans (by decide)
  rcases Nat.lt_or_ge (4096 - (codeAddress s).toNat % 4096) n with more | onePage
  · rw [← bytes_unpaged more short]
    cases read : decode s.default32 (firstBytes s s n (codeAddress s)) with
    | ok p =>
      obtain ⟨i, len⟩ := p
      rw [decode_ok_append _ read]
      exact fetch_first_ok room pos first read
    | error e =>
      cases e with
      | invalidOpcode =>
        rw [decode_invalid_append _ read]
        exact fetch_first_invalid room pos first read
      | truncated =>
        have off : (s.pe && s.pg) = false := unpaged
        rw [fetch_second room pos first read more (by rw [off]; rfl), translate_unpaged unpaged]
  · have all := firstBytes_unpaged (s := s) (n := n)
    rw [Nat.min_eq_left onePage] at all
    rw [← all]
    cases read : decode s.default32 (firstBytes s s n (codeAddress s)) with
    | ok p => exact fetch_first_ok room pos first read
    | error e =>
      cases e with
      | invalidOpcode => exact fetch_first_invalid room pos first read
      | truncated => exact fetch_first_ends room pos first read onePage

/-- A fetch that raises an exception of the instruction that it fetches. -/
theorem step_of_fetch_exc {s : State} {e : Exc} (quiet : s.quiet) (fetched : fetch s = .error (.exc e) s) :
    step s = s.raises s e := by
  obtain ⟨reset, running, held, debug, nmi, intr⟩ := quiet
  rw [step_of_nothing_due reset running debug nmi intr, runNext, held, fetched]
  rfl

theorem past_iff {s : State} {n : Nat} {first : List Byte} {k : Nat} :
    (s.pe && s.pg && decide (n < maxLength) && cutShort s.default32 first k) = true ↔
      ¬s.unpaged ∧ n < 15 ∧ ∀ c : Byte, decode s.default32 (first ++ c :: List.replicate (k - 1) 0) = .error .truncated := by
  rw [Bool.and_eq_true, Bool.and_eq_true, cutShort_iff, decide_eq_true_iff, and_assoc, State.unpaged, Bool.not_eq_false]
  rfl

/-- Settles O60: the cases of `fetch` in their order; without paging both pages make one string of bytes. -/
theorem fetchDecodesTheCodeBytes : Obligations.FetchDecodesTheCodeBytes := by
  intro s n le inside ends lin d32 bytes room page level3
  have available : codeRoom s 0 maxLength = n := codeRoom_eq inside (Nat.zero_le n) (by simpa [maxLength] using le) (by
    simpa [maxLength] using ends)
  refine ⟨fun unpaged => ?_, fetch_of_no_room available, fun pos => ⟨fun x t => fetch_first_error available pos, ?_⟩⟩
  · have whole := fetch_unpaged available le unpaged
    refine ⟨fun i len read => ?_, fun quiet read => step_of_fetch_exc quiet ?_, fun quiet read => step_of_fetch_exc quiet ?_⟩ <;>
    · rw [whole, show decode s.default32 ((linearBytes (codeAddress s) n).map s.mem.read) = _ from read]
      rfl
  · intro a t translated first
    refine ⟨fun i len => fetch_first_ok available pos translated, fetch_first_invalid available pos translated,
      fetch_first_ends available pos translated, ?_⟩
    intro past
    refine ⟨fun read more isPast => fetch_past available pos translated read more (past_iff.mpr isPast),
      fun read more notPast => ?_⟩
    have goesOn : _ = false := Bool.not_eq_true _ ▸ mt past_iff.mp notPast
    refine ⟨fun x u e => fetch_second_error available pos translated read more goesOn e, fun b u e => ?_⟩
    have joined : fetch s = decoded (decode d32 (first ++ page u.mem b (n - room))) u :=
      fetch_second_ok available pos translated read more goesOn e
    exact ⟨fun i len r => by rw [joined, r]; rfl, fun r => by rw [joined, r]; rfl, fun r => by rw [joined, r]; rfl⟩

end Sys2Proof.Machine


section
/-! SUPPORT. The operations that ADD to CMP share, and the operations with one operand: the state that each leaves, and what
their flags are in terms of numbers (spec/42_arithmetic.md R420 to R437, spec/43_logic_shift.md R483 to R488). -/

namespace Sys2Proof.Machine

/-! ## Results and flags -/

theorem addResult_eq {n : Nat} (a b : BitVec n) (cin : Bool) : addResult a b cin = a + b + BitVec.ofNat n cin.toNat := by
  apply BitVec.eq_of_toNat_eq
  simp [addResult, BitVec.toNat_add]

theorem addResult_false {n : Nat} (a b : BitVec n) : addResult a b false = a + b := by
  simp [addResult_eq]

theorem subResult_false {n : Nat} (a b : BitVec n) : subResult a b false = a - b := by
  simp [subResult]

/-- The parity of a byte is that of the number of its 1 bits (R420). -/
theorem evenParity_eq (b : Byte) : evenParity b = decide (((List.range 8).countP fun i => b.getLsbD i) % 2 = 0) := by
  have h8 : List.range 8 = [0, 1, 2, 3, 4, 5, 6, 7] := by decide
  simp only [evenParity, h8, List.countP_cons, List.countP_nil]
  generalize b.getLsbD 0 = b0, b.getLsbD 1 = b1, b.getLsbD 2 = b2, b.getLsbD 3 = b3
  generalize b.getLsbD 4 = b4, b.getLsbD 5 = b5, b.getLsbD 6 = b6, b.getLsbD 7 = b7
  revert b0 b1 b2 b3 b4 b5 b6 b7
  decide

/-- The parity of a result is that of its low byte, whatever its size is. -/
theorem evenParity_setWidth {n : Nat} (x : BitVec n) :
    evenParity (x.setWidth 8) = decide (((List.range 8).countP fun i => x.getLsbD i) % 2 = 0) := by
  rw [evenParity_eq]
  have h : ((List.range 8).countP fun i => (x.setWidth 8).getLsbD i) = (List.range 8).countP fun i => x.getLsbD i := by
    apply List.countP_congr
    intro i hi
    simp [List.mem_range.mp hi]
  rw [h]

theorem beq_zero_eq_decide {n : Nat} (x : BitVec n) : (x == 0) = decide (x.toNat = 0) := by
  rw [Bool.eq_iff_iff, beq_iff_eq, decide_eq_true_iff, ← BitVec.toNat_inj]
  simp

/-- The flags of a logical operation (R483). -/
theorem Flags.logic_eq {n : Nat} (f : Flags) (x : BitVec n) :
    f.logic x = { f with cf := false, ov := false, sf := x.msb, zf := decide (x.toNat = 0)
                         pf := decide (((List.range 8).countP fun i => x.getLsbD i) % 2 = 0) } := by
  simp only [Flags.logic, Flags.szp, evenParity_setWidth, beq_zero_eq_decide]

/-! ## The operations with two operands (R423) -/

/-- What is left of `op` at a place that holds `a`. -/
def AluOp.done (op : AluOp) (sz : Size) (p : Place) (a b : BitVec sz.bits) (u : State) : State :=
  freeFlags (if op.logical then [.af] else [])
    { u.withValue sz p (op.result u.flags.cf a b) with flags := op.flags u.flags a b }

theorem aluFlags_apply {n : Nat} (op : AluOp) (a b : BitVec n) (s : State) :
    aluFlags op a b s =
      .ok () (freeFlags (if op.logical then [.af] else []) { s with flags := op.flags s.flags a b }) := by
  cases h : op.logical
  · simp [aluFlags, h]
  · simp [aluFlags, h]

theorem aluPlace_apply (op : AluOp) (sz : Size) (p : Place) (b : BitVec sz.bits) (s : State) :
    aluPlace op sz p b s = .ok () (op.done sz p (s.valueAt sz p) b s) := by
  simp only [aluPlace, exec_bind_apply, readPlace_apply, getState_apply, writePlace_apply, aluFlags_apply, withValue_flags,
    AluOp.done]

/-- The operation changes no byte of memory but those of its place. -/
theorem AluOp.done_sameOutside (op : AluOp) (sz : Size) (p : Place) (a b : BitVec sz.bits) (u : State) :
    sameOutside p.bytes u.mem (op.done sz p a b u).mem := by
  rw [AluOp.done, freeFlags_mem]
  exact withValue_sameOutside u sz p _

section
variable {s t : State} {w : Bool} {rm : RM} {p : Place}

theorem aluRmReg_toOperand (op : AluOp) (r : Reg) (h : place (s.sizeOf w) rm true s = .ok p t) :
    aluRmReg op false w rm r s =
      .ok () (op.done (s.sizeOf w) p (t.valueAt (s.sizeOf w) p) (t.regs.read (s.sizeOf w) r) t) := by
  simp only [aluRmReg, exec_bind_apply, getState_apply, Bool.false_eq_true, if_false, h, readReg_apply, aluPlace_apply]

theorem aluRmReg_toRegister (op : AluOp) (r : Reg) (h : place (s.sizeOf w) rm false s = .ok p t) :
    aluRmReg op true w rm r s =
      .ok () (op.done (s.sizeOf w) (.reg r) (t.regs.read (s.sizeOf w) r) (t.valueAt (s.sizeOf w) p) t) := by
  simp only [aluRmReg, exec_bind_apply, getState_apply, if_true, readRM, h, readPlace_apply, aluPlace_apply]
  rfl

theorem aluRmImm_ok (op : AluOp) (imm : Imm) (h : place (s.sizeOf w) rm true s = .ok p t) :
    aluRmImm op w rm imm s =
      .ok () (op.done (s.sizeOf w) p (t.valueAt (s.sizeOf w) p) (immValue (s.sizeOf w) imm) t) := by
  simp only [aluRmImm, exec_bind_apply, getState_apply, h, aluPlace_apply]

theorem aluAccImm_ok (op : AluOp) (imm : Imm) (s : State) :
    aluAccImm op w imm s =
      .ok () (op.done (s.sizeOf w) (.reg .eax) (s.regs.read (s.sizeOf w) .eax) (immValue (s.sizeOf w) imm) s) := by
  simp only [aluAccImm, exec_bind_apply, getState_apply, aluPlace_apply]
  rfl

end

end Sys2Proof.Machine
end


section
/-! The statements about ADD to CMP and TEST, about the operations with one operand, and about the flags of sums and
differences. -/

namespace Sys2Proof.Machine

/-- What the three forms of an operation that writes its destination do, as the statement of O1 says it. -/
def AluWrites (s t : State) (w sx : Bool) (rm : RM) (r : Reg) (imm : Imm) (p : Place)
    (rmReg : Bool → Bool → RM → Reg → Instr) (rmImm : Bool → Bool → RM → Imm → Instr) (accImm : Bool → Imm → Instr)
    (done : State → Place → BitVec (s.sizeOf w).bits → BitVec (s.sizeOf w).bits → State) : Prop :=
  let sz := s.sizeOf w
  (place sz rm true s = .ok p t →
    exec (rmReg false w rm r) s = .next (retire s.flags.tf (done t p (t.valueAt sz p) (t.regs.read sz r))) ∧
    exec (rmImm sx w rm imm) s = .next (retire s.flags.tf (done t p (t.valueAt sz p) (immValue sz imm))) ∧
    ∀ b, sameOutside p.bytes t.mem (done t p (t.valueAt sz p) b).mem) ∧
  (place sz rm false s = .ok p t →
    exec (rmReg true w rm r) s =
      .next (retire s.flags.tf (done t (.reg r) (t.regs.read sz r) (t.valueAt sz p)))) ∧
  exec (accImm w imm) s = .next (retire s.flags.tf (done s (.reg .eax) (s.regs.read sz .eax) (immValue sz imm)))

/-- The three forms of an instruction are those of `op` (R423). -/
def AluForms (op : AluOp) (rmReg : Bool → Bool → RM → Reg → Instr) (rmImm : Bool → Bool → RM → Imm → Instr)
    (accImm : Bool → Imm → Instr) : Prop :=
  ∀ (d w sx : Bool) (rm : RM) (r : Reg) (imm : Imm) (s : State),
    exec (rmReg d w rm r) s = runInstr (aluRmReg op d w rm r) s ∧
    exec (rmImm sx w rm imm) s = runInstr (aluRmImm op w rm imm) s ∧
    exec (accImm w imm) s = runInstr (aluAccImm op w imm) s

theorem addForms : AluForms .add .addRmReg .addRmImm .addAccImm := fun _ _ _ _ _ _ _ => ⟨rfl, rfl, rfl⟩

theorem orForms : AluForms .or .orRmReg .orRmImm .orAccImm := fun _ _ _ _ _ _ _ => ⟨rfl, rfl, rfl⟩

theorem adcForms : AluForms .adc .adcRmReg .adcRmImm .adcAccImm := fun _ _ _ _ _ _ _ => ⟨rfl, rfl, rfl⟩

theorem sbbForms : AluForms .sbb .sbbRmReg .sbbRmImm .sbbAccImm := fun _ _ _ _ _ _ _ => ⟨rfl, rfl, rfl⟩

theorem andForms : AluForms .and .andRmReg .andRmImm .andAccImm := fun _ _ _ _ _ _ _ => ⟨rfl, rfl, rfl⟩

theorem subForms : AluForms .sub .subRmReg .subRmImm .subAccImm := fun _ _ _ _ _ _ _ => ⟨rfl, rfl, rfl⟩

theorem xorForms : AluForms .xor .xorRmReg .xorRmImm .xorAccImm := fun _ _ _ _ _ _ _ => ⟨rfl, rfl, rfl⟩

/-- An instruction whose forms are those of `op` writes what `op` does. -/
theorem aluWrites_of_op (op : AluOp) {s t : State} {w sx : Bool} {rm : RM} {r : Reg} {imm : Imm} {p : Place}
    {rmReg : Bool → Bool → RM → Reg → Instr} {rmImm : Bool → Bool → RM → Imm → Instr} {accImm : Bool → Imm → Instr}
    {done : State → Place → BitVec (s.sizeOf w).bits → BitVec (s.sizeOf w).bits → State}
    (forms : AluForms op rmReg rmImm accImm)
    (hdone : ∀ u p a b, done u p a b = op.done (s.sizeOf w) p a b u) :
    AluWrites s t w sx rm r imm p rmReg rmImm accImm done := by
  have hrr := fun d => (forms d w sx rm r imm s).1
  obtain ⟨-, hri, hai⟩ := forms true w sx rm r imm s
  refine ⟨fun hp => ⟨?_, ?_, fun b => ?_⟩, fun hp => ?_, ?_⟩
  · rw [hrr, hdone]; exact runInstr_ok (aluRmReg_toOperand op r hp)
  · rw [hri, hdone]; exact runInstr_ok (aluRmImm_ok op imm hp)
  · rw [hdone]; exact op.done_sameOutside _ p _ b t
  · rw [hrr, hdone]; exact runInstr_ok (aluRmReg_toRegister op r hp)
  · rw [hai, hdone]; exact runInstr_ok (aluAccImm_ok op imm s)

/-! ## Immediate data -/

theorem immValue_i8 (sz : Size) (x : BitVec 8) : immValue sz (.i8 x) = BitVec.ofInt _ x.toInt := rfl

theorem immValue_i16 (x : Word) : immValue .w (.i16 x) = x := BitVec.signExtend_eq x

theorem immValue_i32 (x : Dword) : immValue .d (.i32 x) = x := BitVec.signExtend_eq x

/-! ## CMP and TEST -/

theorem testFlags_apply {n : Nat} (a b : BitVec n) (s : State) :
    testFlags a b s = .ok () (freeFlags [.af] { s with flags := s.flags.logic (a &&& b) }) := by
  exact aluFlags_apply .and a b s

section
variable {s t : State} {w : Bool} {rm : RM} {p : Place}

theorem cmpRmReg_ok (d : Bool) (r : Reg) (h : place (s.sizeOf w) rm false s = .ok p t) :
    cmpRmReg d w rm r s =
      .ok () { t with flags :=
        if d then t.flags.sub (t.regs.read (s.sizeOf w) r) (t.valueAt (s.sizeOf w) p) false
        else t.flags.sub (t.valueAt (s.sizeOf w) p) (t.regs.read (s.sizeOf w) r) false } := by
  cases d <;>
    simp [cmpRmReg, readRM, h, aluFlags_apply, AluOp.logical, AluOp.flags]

theorem cmpRmImm_ok (imm : Imm) (h : place (s.sizeOf w) rm false s = .ok p t) :
    cmpRmImm w rm imm s =
      .ok () { t with flags := t.flags.sub (t.valueAt (s.sizeOf w) p) (immValue (s.sizeOf w) imm) false } := by
  simp [cmpRmImm, readRM, h, aluFlags_apply, AluOp.logical, AluOp.flags]

theorem cmpAccImm_ok (imm : Imm) (s : State) :
    cmpAccImm w imm s =
      .ok () { s with flags := s.flags.sub (s.regs.read (s.sizeOf w) .eax) (immValue (s.sizeOf w) imm) false } := by
  simp [cmpAccImm, aluFlags_apply, AluOp.logical, AluOp.flags]

theorem exec_testRmReg (r : Reg) (h : place (s.sizeOf w) rm false s = .ok p t) :
    exec (.testRmReg w rm r) s = .next (retire s.flags.tf (freeFlags [.af]
      { t with flags := t.flags.logic (t.valueAt (s.sizeOf w) p &&& t.regs.read (s.sizeOf w) r) })) := by
  show execTestRmReg w rm r s = _
  refine runInstr_ok ?_
  simp only [exec_bind_apply, getState_apply, readRM, h, readPlace_apply, readReg_apply, testFlags_apply]

theorem exec_testRmImm (imm : Imm) (h : place (s.sizeOf w) rm false s = .ok p t) :
    exec (.testRmImm w rm imm) s = .next (retire s.flags.tf (freeFlags [.af]
      { t with flags := t.flags.logic (t.valueAt (s.sizeOf w) p &&& immValue (s.sizeOf w) imm) })) := by
  show execTestRmImm w rm imm s = _
  refine runInstr_ok ?_
  simp only [exec_bind_apply, getState_apply, readRM, h, readPlace_apply, testFlags_apply]

theorem exec_testAccImm (imm : Imm) (s : State) :
    exec (.testAccImm w imm) s = .next (retire s.flags.tf (freeFlags [.af]
      { s with flags := s.flags.logic (s.regs.read (s.sizeOf w) .eax &&& immValue (s.sizeOf w) imm) })) := by
  show execTestAccImm w imm s = _
  refine runInstr_ok ?_
  simp only [exec_bind_apply, getState_apply, readReg_apply, testFlags_apply]

end

/-! ## The two-operand forms -/

/-- Settles O1: each of the seven operations that write is `aluWrites_of_op` of its own operation; CMP and TEST are the
lemmas above. -/
theorem aluFormsWriteResultAndFlags : Obligations.AluFormsWriteResultAndFlags := by
  refine ⟨immValue_i8, immValue_i16, immValue_i32, ?_⟩
  intro s t w sx rm r imm p sz logic writes tests carry
  have hlogic : logic = Flags.logic := funext fun f => funext fun x => (Flags.logic_eq f x).symm
  clear_value logic
  subst hlogic
  refine ⟨?_, ?_, ?_, ?_, ?_, ?_, ?_, ⟨fun hp => ⟨?_, ?_⟩, ?_⟩, fun hp => ⟨?_, ?_⟩, ?_⟩
  · exact aluWrites_of_op .add addForms fun u q a b => by
      simp only [AluOp.done, AluOp.result, AluOp.flags, AluOp.logical, addResult_false]; rfl
  · exact aluWrites_of_op .or orForms fun u q a b => rfl
  · exact aluWrites_of_op .adc adcForms fun u q a b => by
      simp only [AluOp.done, AluOp.result, AluOp.flags, AluOp.logical, addResult_eq]; rfl
  · exact aluWrites_of_op .sbb sbbForms fun u q a b => rfl
  · exact aluWrites_of_op .and andForms fun u q a b => rfl
  · exact aluWrites_of_op .sub subForms fun u q a b => by
      simp only [AluOp.done, AluOp.result, AluOp.flags, AluOp.logical, subResult_false]; rfl
  · exact aluWrites_of_op .xor xorForms fun u q a b => rfl
  · intro d _
    refine (runInstr_ok (cmpRmReg_ok d r hp)).trans ?_
    cases d <;> rfl
  · exact runInstr_ok (cmpRmImm_ok imm hp)
  · exact runInstr_ok (cmpAccImm_ok imm s)
  · intro d hd
    obtain rfl := List.mem_singleton.mp hd
    exact exec_testRmReg r hp
  · exact exec_testRmImm imm hp
  · exact exec_testAccImm imm s

/-! ## INC, DEC, NEG and NOT -/

/-- An r/m operand replaced: the new value stands at its place, and the flags are those of the old one. -/
theorem modifyRM_ok {s t : State} {w : Bool} {rm : RM} {p : Place} (f : {n : Nat} → BitVec n → BitVec n)
    (g : {n : Nat} → BitVec n → Flags → Flags) (h : place (s.sizeOf w) rm true s = .ok p t) :
    modifyRM w rm f g s =
      .ok () { t.withValue (s.sizeOf w) p (f (t.valueAt (s.sizeOf w) p)) with
               flags := g (t.valueAt (s.sizeOf w) p) t.flags } := by
  simp only [modifyRM, exec_bind_apply, getState_apply, h, readPlace_apply, writePlace_apply, updateFlags_apply,
    withValue_flags]

/-- Settles O2: every form is `modifyRM` of its result and flags. -/
theorem oneOperandFormsReplaceTheirOperand : Obligations.OneOperandFormsReplaceTheirOperand := by
  intro s t w rm r p sz inc dec full v
  refine ⟨fun hp => ⟨?_, ?_, ?_, ?_, fun x => withValue_sameOutside t sz p x⟩, ?_, ?_⟩
  · refine (runInstr_ok (modifyRM_ok (fun a => addResult a 1 false) (fun a => incFlags a) hp)).trans ?_
    simp only [addResult_false]; rfl
  · refine (runInstr_ok (modifyRM_ok (fun a => subResult a 1 false) (fun a => decFlags a) hp)).trans ?_
    simp only [subResult_false]; rfl
  · refine (runInstr_ok (modifyRM_ok (fun a => subResult 0 a false) (fun a f => f.sub 0 a false) hp)).trans ?_
    simp only [subResult_false]; rfl
  · refine (runInstr_ok (modifyRM_ok (fun a => ~~~a) (fun _ f => f) hp)).trans ?_
    cases p <;> rfl
  · refine (runInstr_ok (modifyRM_ok (w := true) (fun a => addResult a 1 false) (fun a => incFlags a)
      (show place (s.sizeOf true) (.reg r) true s = .ok (.reg r) s from rfl))).trans ?_
    simp only [addResult_false]; rfl
  · refine (runInstr_ok (modifyRM_ok (w := true) (fun a => subResult a 1 false) (fun a => decFlags a)
      (show place (s.sizeOf true) (.reg r) true s = .ok (.reg r) s from rfl))).trans ?_
    simp only [subResult_false]; rfl

/-! ## Flags as numbers -/

/-- A size has a positive number of bits: twice half the modulus is the modulus. -/
theorem Size.two_pow_bits (sz : Size) : 2 ^ sz.bits = 2 * 2 ^ (sz.bits - 1) := by
  cases sz <;> decide

/-- The sign bit is that of the signed value. -/
theorem msb_iff_toInt_neg {n : Nat} (x : BitVec n) : x.msb = true ↔ x.toInt < 0 := by
  rw [BitVec.msb_eq_toInt, decide_eq_true_iff]

theorem addResult_toNat {n : Nat} (a b : BitVec n) (cin : Bool) :
    (addResult a b cin).toNat = (a.toNat + b.toNat + cin.toNat) % 2 ^ n := BitVec.toNat_ofNat _ _

theorem subResult_toNat {n : Nat} (a b : BitVec n) (bin : Bool) :
    ((subResult a b bin).toNat : Int) = ((a.toNat : Int) - b.toNat - bin.toNat) % (2 : Int) ^ n := by
  have h : ∀ x y : BitVec n, ((x - y).toNat : Int) = ((x.toNat : Int) - y.toNat) % (2 : Int) ^ n := by
    intro x y
    have hy := y.isLt
    rw [BitVec.toNat_sub, Int.natCast_emod, Nat.cast_add, Nat.cast_sub hy.le]
    push_cast
    rw [show (2 : Int) ^ n - y.toNat + x.toNat = (x.toNat - y.toNat) + 2 ^ n by ring, Int.add_emod_right]
  rw [subResult, h, h, BitVec.toNat_ofNat]
  push_cast
  rw [Int.emod_sub_emod, Int.sub_emod_emod]

/-- An addition overflows where two operands of one sign give a result of the other (R420). -/
theorem add_overflow_iff (sz : Size) (a b : BitVec sz.bits) (cin : Bool) :
    (a.msb == b.msb && (addResult a b cin).msb != a.msb) = true ↔
      a.toInt + b.toInt + cin.toNat < -2 ^ (sz.bits - 1) ∨ (2 : Int) ^ (sz.bits - 1) ≤ a.toInt + b.toInt + cin.toNat := by
  have hr := addResult_toNat a b cin
  have hc : cin.toNat ≤ 1 := Bool.toNat_le cin
  generalize addResult a b cin = r at hr ⊢
  simp only [Bool.and_eq_true, beq_iff_eq, bne_iff_ne, BitVec.msb_eq_decide, decide_eq_decide,
    ne_eq, BitVec.toInt_eq_toNat_cond]
  have ha := a.isLt
  have hb := b.isLt
  cases sz <;> simp only [Size.bits] at * <;> omega

/-- A subtraction overflows where operands of two signs give a result of the second's (R421). -/
theorem sub_overflow_iff (sz : Size) (a b : BitVec sz.bits) (bin : Bool) :
    (a.msb != b.msb && (subResult a b bin).msb != a.msb) = true ↔
      a.toInt - b.toInt - bin.toNat < -2 ^ (sz.bits - 1) ∨ (2 : Int) ^ (sz.bits - 1) ≤ a.toInt - b.toInt - bin.toNat := by
  have hr := subResult_toNat a b bin
  have hc : bin.toNat ≤ 1 := Bool.toNat_le bin
  generalize subResult a b bin = r at hr ⊢
  simp only [Bool.and_eq_true, bne_iff_ne, BitVec.msb_eq_decide, decide_eq_decide,
    ne_eq, BitVec.toInt_eq_toNat_cond]
  have ha := a.isLt
  have hb := b.isLt
  cases sz <;> simp only [Size.bits] at * <;> omega

/-- Settles O3: the signed overflow is the one clause that needs an argument about signs. -/
theorem sumAndDifferenceFlagsAreArithmetic : Obligations.SumAndDifferenceFlagsAreArithmetic := by
  refine ⟨fun f sz a b cin => ?_, fun f sz a b bin => ?_⟩
  · refine ⟨addResult_toNat a b cin, decide_eq_true_iff, add_overflow_iff sz a b cin, msb_iff_toInt_neg _, ?_, ?_,
      decide_eq_true_iff, rfl⟩
    · exact (Bool.eq_iff_iff.mp (beq_zero_eq_decide _)).trans decide_eq_true_iff
    · exact (Bool.eq_iff_iff.mp (evenParity_setWidth _)).trans decide_eq_true_iff
  · refine ⟨subResult_toNat a b bin, decide_eq_true_iff, sub_overflow_iff sz a b bin, msb_iff_toInt_neg _, ?_, ?_,
      decide_eq_true_iff, rfl⟩
    · exact (Bool.eq_iff_iff.mp (beq_zero_eq_decide _)).trans decide_eq_true_iff
    · exact (Bool.eq_iff_iff.mp (evenParity_setWidth _)).trans decide_eq_true_iff

end Sys2Proof.Machine
end


section
/-! Memory as numbers: what a span of bytes loads, and what stands there after a store (spec/20_memory.md R130, R132, D6). -/

namespace Sys2Proof.Machine

/-! ## What a span holds -/

theorem Memory.load_lt (m : Memory) (sp : List Nat) : sp.length ≤ 4 → (m.load sp).toNat < 256 ^ sp.length ∧
    ∀ a rest, sp = a :: rest → (m.load sp).toNat = 256 * (m.load rest).toNat + (m.read a).toNat := by
  induction sp with
  | nil => intro _; exact ⟨by simp [Memory.load], fun _ _ h => by simp at h⟩
  | cons a rest ih =>
    intro hl
    have hlen : rest.length ≤ 3 := Nat.le_of_succ_le_succ hl
    have hlt := (ih (by omega)).1
    have hpow : 256 ^ rest.length ≤ 256 ^ 3 := Nat.pow_le_pow_right (by norm_num) hlen
    have hread := (m.read a).isLt
    have hshift : (Memory.load m rest <<< 8 : Dword).toNat = (Memory.load m rest).toNat <<< 8 := by
      rw [BitVec.toNat_shiftLeft, Nat.shiftLeft_eq]
      exact Nat.mod_eq_of_lt (by omega)
    have hval : (m.load (a :: rest)).toNat = 256 * (m.load rest).toNat + (m.read a).toNat := by
      rw [Memory.load, BitVec.toNat_or, hshift, BitVec.toNat_setWidth, Nat.mod_eq_of_lt (by omega),
        ← Nat.shiftLeft_add_eq_or_of_lt hread, Nat.shiftLeft_eq]
      omega
    refine ⟨?_, fun b l h => ?_⟩
    · rw [hval, List.length_cons, Nat.pow_succ]
      omega
    · obtain ⟨rfl, rfl⟩ := List.cons.inj h
      exact hval

/-- A span of at most four bytes holds its first byte and 256 times the rest (R130). -/
theorem Memory.load_cons_toNat (m : Memory) {a : Nat} {rest : List Nat} (h : rest.length ≤ 3) :
    (m.load (a :: rest)).toNat = 256 * (m.load rest).toNat + (m.read a).toNat :=
  (m.load_lt (a :: rest) (Nat.succ_le_succ h)).2 a rest rfl

/-- The value of a span is the sum of its bytes, each times its power of 256 (R130). -/
theorem Memory.load_eq_sum (m : Memory) (sp : List Nat) (h : sp.length ≤ 4) (k : Nat) :
    ((sp.zipIdx k).map fun a => (m.read a.1).toNat * 256 ^ a.2).sum = 256 ^ k * (m.load sp).toNat := by
  induction sp generalizing k with
  | nil => simp [Memory.load]
  | cons a rest ih =>
    have hlen : rest.length ≤ 3 := Nat.le_of_succ_le_succ h
    rw [List.zipIdx_cons, List.map_cons, List.sum_cons, ih (by omega), m.load_cons_toNat hlen]
    ring

/-! ## What a store leaves -/

/-- Where read/write memory answers a store is read back whole (R132). -/
theorem Memory.load_store_ram {sp : List Nat} (hn : sp.Nodup) (h : sp.length ≤ 4) (m : Memory) (v : Dword)
    (hk : ∀ a, a ∈ sp → m.kindAt a = some .ram) : ((m.store sp v).load sp).toNat = v.toNat % 256 ^ sp.length := by
  induction sp generalizing m v with
  | nil => simp [Memory.load, Nat.mod_one]
  | cons a rest ih =>
    obtain ⟨ha, hrest⟩ := List.nodup_cons.mp hn
    have hlen : rest.length ≤ 3 := Nat.le_of_succ_le_succ h
    rw [Memory.load_cons_toNat _ hlen, Memory.store, Memory.read_store_outside _ _ _ ha,
      Memory.read_write_ram (hk a (by simp)),
      ih hrest (by omega) _ _ fun b hb => by rw [Memory.kindAt_write]; exact hk b (by simp [hb])]
    have split : v.toNat % 256 ^ (rest.length + 1) = v.toNat % 256 + 256 * (v.toNat / 256 % 256 ^ rest.length) := by
      rw [Nat.pow_succ']
      exact Nat.mod_mul
    rw [BitVec.toNat_ushiftRight, BitVec.toNat_setWidth, List.length_cons, split, Nat.shiftRight_eq_div_pow]
    exact Nat.add_comm _ _

/-- Where read/write memory answers each byte of a store stands at its place (R132). -/
theorem Memory.read_store_ram {sp : List Nat} (hn : sp.Nodup) (m : Memory) (v : Dword)
    (hk : ∀ a, a ∈ sp → m.kindAt a = some .ram) {k a : Nat} (hka : sp[k]? = some a) :
    (m.store sp v).read a = v.extractLsb' (8 * k) 8 := by
  induction sp generalizing m v k with
  | nil => simp at hka
  | cons b rest ih =>
    obtain ⟨hb, hrest⟩ := List.nodup_cons.mp hn
    rw [Memory.store]
    cases k with
    | zero =>
      obtain rfl : b = a := by simpa using hka
      rw [Memory.read_store_outside _ _ _ hb, Memory.read_write_ram (hk b (by simp))]
      exact BitVec.eq_of_getLsbD_eq fun i hi => by simp [hi]
    | succ j =>
      rw [ih hrest _ _ (fun c hc => by rw [Memory.kindAt_write]; exact hk c (by simp [hc])) (by simpa using hka)]
      exact BitVec.eq_of_getLsbD_eq fun i hi => by
        simp only [BitVec.getLsbD_extractLsb', BitVec.getLsbD_ushiftRight, hi]
        congr 2
        omega

/-- Where read-only memory or nothing answers a write is dropped (D6). -/
theorem Memory.write_dropped {m : Memory} {a : Nat} (h : m.kindAt a = some .rom ∨ m.kindAt a = none) (v : Byte) :
    m.write a v = m := by
  unfold Memory.write
  obtain h | h := h <;> rw [h]

theorem Memory.store_dropped {sp : List Nat} (m : Memory) (v : Dword)
    (h : ∀ a, a ∈ sp → m.kindAt a = some .rom ∨ m.kindAt a = none) : m.store sp v = m := by
  induction sp generalizing v with
  | nil => rfl
  | cons a rest ih =>
    rw [Memory.store, Memory.write_dropped (h a (by simp)), ih _ fun b hb => h b (by simp [hb])]

/-- Settles O7. -/
theorem storedBytesReadBackLittleEndian : Obligations.StoredBytesReadBackLittleEndian := by
  intro m sp v hn hl
  refine ⟨?_, store_sameOutside sp v m, fun hk => ⟨m.load_store_ram hn hl v hk, fun k a hka => m.read_store_ram hn v hk hka⟩,
    m.store_dropped v⟩
  rw [m.load_eq_sum sp hl 0, Nat.pow_zero, Nat.one_mul]

end Sys2Proof.Machine
end


section
/-! Offsets and default segments of memory operands (spec/30_encoding.md R275 to R280), and accesses through a segment
register (spec/20_memory.md R164 to R168). -/

namespace Sys2Proof.Machine

/-! ## Parts of an effective address as numbers -/

theorem ofNat_of_toNat {n : Nat} {x : BitVec n} {k : Nat} (h : x.toNat = k) : x = BitVec.ofNat n k := by
  rw [← h, BitVec.ofNat_toNat, BitVec.setWidth_eq]

theorem low16_toNat (x : Dword) : (low16 x).toNat = x.toNat % 2 ^ 16 := BitVec.toNat_setWidth 16 x

/-- A sum of a word and a displacement, wrapped at 64 Kbyte, as an offset (R275). -/
theorem word_offset (x d : Word) (i : Int) (h : (d.toNat : Int) = i % 2 ^ 16) (n : Nat) (hn : x.toNat = n % 2 ^ 16) :
    (x + d).setWidth 32 = BitVec.ofNat 32 (((n : Int) + i) % 2 ^ 16).toNat := by
  apply ofNat_of_toNat
  have hx := (x + d).isLt
  rw [BitVec.toNat_setWidth, Nat.mod_eq_of_lt (by omega), BitVec.toNat_add]
  omega

theorem dword_offset (x d : Dword) (i : Int) (h : (d.toNat : Int) = i % 2 ^ 32) (n : Nat) (hn : x.toNat = n % 2 ^ 32) :
    x + d = BitVec.ofNat 32 (((n : Int) + i) % 2 ^ 32).toNat := by
  apply ofNat_of_toNat
  rw [BitVec.toNat_add]
  omega

theorem signExtend_toNat_emod {n : Nat} (m : Nat) (x : BitVec n) : ((x.signExtend m).toNat : Int) = x.toInt % 2 ^ m := by
  rw [BitVec.signExtend, BitVec.toNat_ofInt]
  push_cast
  rw [Int.toNat_of_nonneg (Int.emod_nonneg _ (by positivity))]

/-- A scaled index is the index times the factor, modulo 2^32 (R278). -/
theorem shiftLeft_toNat_scale (x : Dword) (sc : Scale) :
    (x <<< scaleShift sc).toNat = 2 ^ scaleShift sc * x.toNat % 2 ^ 32 := by
  rw [BitVec.toNat_shiftLeft, Nat.shiftLeft_eq, Nat.mul_comm]

theorem effAddr_defined {m : Mem} (h : eaUndefined m = false) (s : State) :
    effAddr m s = .ok (s.ctx.seg.getD (eaDefaultSeg m), eaOffset s m) s := by
  simp only [effAddr, exec_bind_apply, getState_apply, h, when_false, exec_pure_apply, overridden]

theorem effAddr_undefined {m : Mem} (h : eaUndefined m = true) (s : State) :
    effAddr m s = .ok (s.ctx.seg.getD (eaDefaultSeg m), eaOffset s m) { s with draws := s.draws + 1 } := by
  simp only [effAddr, exec_bind_apply, getState_apply, h, when_true, exec_pure_apply, overridden, update_apply]

/-- A displacement of a 16-bit address as a number; `d8` is sign-extended (R256). -/
def disp16Distance : Disp16 → Int
  | .none => 0
  | .d8 d => d.toInt
  | .d16 d => d.toNat

/-- A displacement of a 32-bit address as a number. -/
def disp32Distance : Disp32 → Int
  | .none => 0
  | .d8 d => d.toInt
  | .d32 d => d.toNat

theorem disp16Value_toNat (d : Disp16) : ((disp16Value d).toNat : Int) = disp16Distance d % 2 ^ 16 := by
  cases d with
  | none => rfl
  | d8 d => exact signExtend_toNat_emod 16 d
  | d16 d => exact (Int.emod_eq_of_lt (Int.natCast_nonneg _) (by exact_mod_cast d.isLt)).symm

theorem disp32Value_toNat (d : Disp32) : ((disp32Value d).toNat : Int) = disp32Distance d % 2 ^ 32 := by
  cases d with
  | none => rfl
  | d8 d => exact signExtend_toNat_emod 32 d
  | d32 d => exact (Int.emod_eq_of_lt (Int.natCast_nonneg _) (by exact_mod_cast d.isLt)).symm

/-- The scaled index as a number (R278). -/
def scaledIndex (g : Regs) (k : Scale) : Option Reg → Nat
  | none => 0
  | some r => 2 ^ scaleShift k * (g.get r).toNat

theorem indexValue_toNat (g : Regs) (k : Scale) (i : Option Reg) :
    (indexValue g k i).toNat = scaledIndex g k i % 2 ^ 32 := by
  cases i with
  | none => rfl
  | some r => exact shiftLeft_toNat_scale (g.get r) k

/-- The registers of a 16-bit base as a number (R275). -/
def base16Sum (g : Regs) (b : Base16) : Nat :=
  let r16 (r : Reg) : Nat := (g.get r).toNat % 2 ^ 16
  match b with
  | .bxSi => r16 .ebx + r16 .esi
  | .bxDi => r16 .ebx + r16 .edi
  | .bpSi => r16 .ebp + r16 .esi
  | .bpDi => r16 .ebp + r16 .edi
  | .si => r16 .esi
  | .di => r16 .edi
  | .bp => r16 .ebp
  | .bx => r16 .ebx

theorem base16Value_toNat (g : Regs) (b : Base16) : (base16Value g b).toNat = base16Sum g b % 2 ^ 16 := by
  cases b <;> simp only [base16Value, base16Sum, BitVec.toNat_add, low16_toNat, Nat.mod_mod] <;> rfl

/-- The default segment of a 16-bit base (R280). -/
theorem eaDefaultSeg_based16 (b : Base16) (d : Disp16) :
    eaDefaultSeg (.based16 b d) = if b = .bpSi ∨ b = .bpDi ∨ b = .bp then .ss else .ds := by
  cases b <;> rfl

/-- The default segment of a 32-bit base, with an index or without (R280). -/
theorem eaDefaultSeg_based32 (k : Scale) (i : Option Reg) (b : Reg) (d : Disp32) :
    eaDefaultSeg (.based32 b d) = (if (b == .ebp || b == .esp) then .ss else .ds) ∧
    eaDefaultSeg (.sib k i b d) = (if (b == .ebp || b == .esp) then .ss else .ds) := by
  cases b <;> exact ⟨rfl, rfl⟩

/-- Only an index field that names no register, with a scale, leaves the offset undefined (R278). -/
theorem eaUndefined_sib (k : Scale) (i : Option Reg) (b : Reg) (d : Disp32) (d' : Dword) :
    eaUndefined (.sib k i b d) = decide (i = none ∧ k ≠ .x1) ∧
    eaUndefined (.sibDisp k i d') = decide (i = none ∧ k ≠ .x1) := by
  cases i <;> cases k <;> exact ⟨rfl, rfl⟩

theorem eaOffset_sib {k : Scale} {i : Option Reg} {b : Reg} {d : Disp32} {d' : Dword} (s : State)
    (h : ¬(i = none ∧ k ≠ .x1)) :
    eaOffset s (.sib k i b d) = s.regs.get b + indexValue s.regs k i + disp32Value d ∧
    eaOffset s (.sibDisp k i d') = indexValue s.regs k i + d' := by
  obtain ⟨h1, h2⟩ := eaUndefined_sib k i b d d'
  rw [decide_eq_false h] at h1 h2
  unfold eaOffset
  rw [h1, h2]
  exact ⟨rfl, rfl⟩

/-- Settles O8: form by form, the parts of the sum as numbers. -/
theorem effectiveAddressesAddTheirParts : Obligations.EffectiveAddressesAddTheirParts := by
  intro s m seg gives r16 r32 scale d16 d32
  have defined : ∀ (m' : Mem) (ss : Bool) (off : Nat), m' = m → eaUndefined m' = false →
      eaDefaultSeg m' = (if ss then .ss else .ds) → eaOffset s m' = BitVec.ofNat 32 off → gives ss off := by
    rintro m' ss off rfl hu hs ho
    show effAddr m' s = _
    rw [effAddr_defined hu, hs, ho]
  have hscale : ∀ k i, scale k i = scaledIndex s.regs k i := by
    intro k i
    cases i with
    | none => rfl
    | some r => cases k <;> simp [scale, scaledIndex, scaleShift, r32]
  cases m with
  | direct16 d =>
    refine defined _ false _ rfl rfl rfl (ofNat_of_toNat ?_)
    show (d.setWidth 32).toNat = _
    have := d.isLt
    rw [BitVec.toNat_setWidth, Nat.mod_eq_of_lt (by omega)]
  | direct32 d => exact defined _ false _ rfl rfl rfl (ofNat_of_toNat rfl)
  | based16 b d =>
    refine defined _ _ _ rfl rfl ?_ (word_offset (base16Value s.regs b) (disp16Value d) (d16 d) ?_ _ ?_)
    · cases b <;> rfl
    · rw [disp16Value_toNat]; cases d <;> rfl
    · rw [base16Value_toNat]; cases b <;> rfl
  | based32 b d =>
    refine defined _ _ _ rfl rfl (eaDefaultSeg_based32 .x1 none b d).1
      (dword_offset (s.regs.get b) (disp32Value d) (d32 d) ?_ _ (Nat.mod_eq_of_lt (s.regs.get b).isLt).symm)
    rw [disp32Value_toNat]; cases d <;> rfl
  | sib k i b d =>
    by_cases h : i = none ∧ k ≠ .x1
    · refine (if_pos h).mpr ⟨eaOffset s (.sib k i b d), ?_⟩
      rw [effAddr_undefined ((eaUndefined_sib k i b d 0).1.trans (decide_eq_true h)), (eaDefaultSeg_based32 k i b d).2]
    · refine (if_neg h).mpr (defined _ _ _ rfl ((eaUndefined_sib k i b d 0).1.trans (decide_eq_false h))
        (eaDefaultSeg_based32 k i b d).2 ((eaOffset_sib (d' := 0) s h).1.trans ?_))
      rw [← Nat.cast_add]
      refine dword_offset _ (disp32Value d) (d32 d) ?_ _ ?_
      · rw [disp32Value_toNat]; cases d <;> rfl
      · rw [BitVec.toNat_add, indexValue_toNat, Nat.add_mod_mod, hscale]
  | sibDisp k i d =>
    by_cases h : i = none ∧ k ≠ .x1
    · refine (if_pos h).mpr ⟨_, effAddr_undefined ((eaUndefined_sib k i .eax .none d).2.trans (decide_eq_true h)) s⟩
    · refine (if_neg h).mpr (defined _ false _ rfl ((eaUndefined_sib k i .eax .none d).2.trans (decide_eq_false h))
        rfl ((eaOffset_sib (b := .eax) (d := .none) s h).2.trans (BitVec.eq_of_toNat_eq ?_)))
      rw [BitVec.toNat_add, indexValue_toNat, hscale, BitVec.toNat_ofNat, Nat.mod_add_mod]

/-! ## Accesses through a segment register -/

/-- The type check as a condition on the descriptor's bits (R168). -/
theorem accessOk_iff (prot : Bool) (r : SegReg) (write : Bool) :
    accessOk prot r write = true ↔
      prot = false ∨ (r.valid = true ∧
        if write then (r.attr.s && !r.attr.typ.getLsbD 3) = true ∧ r.attr.typ.getLsbD 1 = true
        else (r.attr.s && !r.attr.typ.getLsbD 3) = true ∨
          ((r.attr.s && r.attr.typ.getLsbD 3) = true ∧ r.attr.typ.getLsbD 1 = true)) := by
  cases prot <;> cases write <;>
    simp [accessOk, Attr.writable, Attr.readable, Attr.isData, Attr.isCode]

/-- The limit check as a condition on the last byte (R166, R167). -/
theorem limitOk_iff (prot : Bool) (r : SegReg) (off : Dword) {n : Nat} (hn : 0 < n) :
    limitOk prot r off n = true ↔
      if prot = true ∧ (r.attr.s && !r.attr.typ.getLsbD 3) = true ∧ r.attr.typ.getLsbD 2 = true then
        r.limit.toNat < off.toNat ∧ off.toNat + (n - 1) ≤ (if r.attr.db then 0xFFFFFFFF else 0xFFFF)
      else off.toNat + (n - 1) ≤ r.limit.toNat := by
  have hd : (prot && r.attr.expandDown) = true ↔
      (prot = true ∧ (r.attr.s && !r.attr.typ.getLsbD 3) = true ∧ r.attr.typ.getLsbD 2 = true) := by
    simp only [Attr.expandDown, Attr.isData, Bool.and_eq_true]
  unfold limitOk
  by_cases h : (prot && r.attr.expandDown) = true
  · rw [if_pos h, if_pos (hd.mp h), Bool.and_eq_true, decide_eq_true_iff, decide_eq_true_iff]
    cases r.attr.db <;> simp only [Bool.false_eq_true, if_true, if_false] <;> omega
  · rw [if_neg h, if_neg fun k => h (hd.mpr k), decide_eq_true_iff]
    omega

/-- Settles O9: `segSpan_unpaged` with the two checks spelled out. -/
theorem segmentAccessesCheckTypeAndLimit : Obligations.SegmentAccessesCheckTypeAndLimit := by
  intro s sg off n write hu hn hn' r a data code typeOk limitOk'
  have hok : (accessOk s.prot r write && limitOk s.prot r off n) = true ↔ typeOk ∧ limitOk' := by
    rw [Bool.and_eq_true, accessOk_iff, limitOk_iff _ _ _ hn]
  rw [segSpan_unpaged hu sg off n hn' write]
  refine ⟨fun h => ?_, fun h => ?_⟩
  · rw [if_pos (hok.mpr h)]
    exact ⟨_, rfl⟩
  · rw [if_neg fun k => h (hok.mp k)]
    rfl

end Sys2Proof.Machine
end


section
/-! What finding an operand changes, whether it ends in a fault or not, and the instructions that then take the fault whole
(spec/30_encoding.md R326, spec/20_memory.md R200, spec/60_exceptions.md R722, R723). -/

namespace Sys2Proof.Machine

/-! ## Translations that fault -/

/-- What a translation may have changed where it ends in a page fault: accessed and dirty bits, the TLB, free values, and
CR2. -/
def faulted (s t : State) : Prop :=
  t = { s with mem := t.mem, sys := { s.sys with cr2 := t.sys.cr2 }, draws := t.draws
               paging := { s.paging with tlb := t.paging.tlb } }

theorem faulted_refl (s : State) : faulted s s := rfl

theorem faulted_trans {s t u : State} (h : faulted s t) (k : faulted t u) : faulted s u := by
  unfold faulted at *
  rw [k, h]

/-- A computation that only translates: it stops, if at all, in a page fault. -/
def Translates {α : Type} (x : Exec α) : Prop :=
  ∀ s, (∀ a t, x s = .ok a t → faulted s t) ∧
    ∀ e t, x s = .error e t → (∃ c, e = .exc (.page c)) ∧ faulted s t

section
variable {α β : Type}

theorem translates_ok {x : Exec α} (h : ∀ s, ∃ a t, x s = .ok a t ∧ faulted s t) : Translates x := by
  intro s
  obtain ⟨a, t, hx, k⟩ := h s
  refine ⟨fun b u e => ?_, fun e u h => ?_⟩
  · rw [hx] at e
    cases e
    exact k
  · rw [hx] at h
    cases h

theorem translates_pure (a : α) : Translates (pure a : Exec α) := translates_ok fun s => ⟨a, s, rfl, rfl⟩

theorem translates_getState : Translates getState := translates_ok fun s => ⟨s, s, rfl, rfl⟩

theorem translates_bind {x : Exec α} {f : α → Exec β} (hx : Translates x) (hf : ∀ a, Translates (f a)) :
    Translates (x >>= f) := by
  intro s
  rw [exec_bind_apply]
  cases h : x s with
  | ok a u =>
    have hu := (hx s).1 a u h
    exact ⟨fun b t k => faulted_trans hu ((hf a u).1 b t k),
      fun e t k => ⟨((hf a u).2 e t k).1, faulted_trans hu ((hf a u).2 e t k).2⟩⟩
  | error e u =>
    refine ⟨fun b t k => (nomatch k), fun e' t k => ?_⟩
    cases k
    exact (hx s).2 e u h

theorem translates_ite (c : Prop) [Decidable c] {x y : Exec α} (hx : Translates x) (hy : Translates y) :
    Translates (if c then x else y) := by
  split
  · exact hx
  · exact hy

theorem translates_when (c : Bool) {x : Exec Unit} (hx : Translates x) : Translates (when_ c x) := by
  cases c
  · exact translates_pure ()
  · exact hx

theorem translates_draw : Translates draw := translates_ok fun _ => ⟨_, _, rfl, rfl⟩

theorem translates_drawChoice : Translates drawChoice := translates_ok fun _ => ⟨_, _, rfl, rfl⟩

theorem translates_loadSpan (sp : List Nat) : Translates (loadSpan sp) := translates_ok fun _ => ⟨_, _, rfl, rfl⟩

theorem translates_storeSpan (sp : List Nat) (v : Dword) : Translates (storeSpan sp v) :=
  translates_ok fun _ => ⟨_, _, rfl, rfl⟩

theorem translates_setTlb (k : Nat) (e : TlbEntry) : Translates (setTlb k e) := translates_ok fun _ => ⟨_, _, rfl, rfl⟩

theorem translates_tlbVictim (tag : BitVec 20) : Translates (tlbVictim tag) := by
  refine translates_bind translates_getState fun s => ?_
  split
  · exact translates_pure _
  · exact translates_bind translates_draw fun v => translates_pure _

theorem translates_tlbInsert (e : TlbEntry) : Translates (tlbInsert e) :=
  translates_bind translates_drawChoice fun _ => translates_bind (translates_tlbVictim _) fun _ =>
    translates_when _ (translates_setTlb _ _)

theorem translates_pageFault (lin : Dword) (p w u : Bool) : Translates (pageFault lin p w u : Exec α) := by
  intro s
  refine ⟨fun a t h => ?_, fun e t h => ?_⟩
  · simp [pageFault] at h
  · simp only [pageFault, exec_bind_apply, update_apply, raise_apply, EStateM.Result.error.injEq] at h
    obtain ⟨rfl, rfl⟩ := h
    exact ⟨⟨_, rfl⟩, rfl⟩

theorem translates_walk (lin : Dword) (write user : Bool) : Translates (walk lin write user) := by
  refine translates_bind translates_getState fun s => translates_bind (translates_loadSpan _) fun pde =>
    translates_ite _ ?_ (translates_pageFault _ _ _ _)
  refine translates_bind (translates_when _ (translates_storeSpan _ _)) fun _ =>
    translates_bind (translates_loadSpan _) fun pte =>
      translates_ite _ (translates_ite _ ?_ (translates_pageFault _ _ _ _)) (translates_pageFault _ _ _ _)
  exact translates_bind (translates_when _ (translates_storeSpan _ _)) fun _ =>
    translates_bind (translates_tlbInsert _) fun _ => translates_pure _

theorem translates_translate (lin : Dword) (write user : Bool) : Translates (translate lin write user) := by
  refine translates_bind translates_getState fun s => translates_ite _ ?_ (translates_pure _)
  have walked : Translates (walk lin write user >>= fun e => pure (framed e lin)) :=
    translates_bind (translates_walk _ _ _) fun e => translates_pure _
  dsimp only
  split
  · refine translates_ite _ (translates_ite _ (translates_pure _) (translates_bind translates_drawChoice fun held => ?_))
      walked
    exact translates_ite _ (translates_pure _) (translates_bind (translates_setTlb _ _) fun _ => walked)
  · exact walked

theorem translates_linSpan (lin : Dword) (n : Nat) (write user : Bool) : Translates (linSpan lin n write user) :=
  translates_bind (translates_translate _ _ _) fun _ => translates_ite _ (translates_pure _)
    (translates_bind (translates_translate _ _ _) fun _ => translates_pure _)

end

/-! ## Operands that fault -/

/-- The bytes of an access are as many as it asks for. -/
theorem linSpan_length {lin : Dword} {n : Nat} {write user : Bool} {s t : State} {sp : List Nat}
    (h : linSpan lin n write user s = .ok sp t) : sp.length = n := by
  obtain ⟨p, u, -, h⟩ := exec_bind_ok h
  dsimp only at h
  split at h
  · cases h
    simp
  · obtain ⟨q, v, -, h⟩ := exec_bind_ok h
    cases h
    simp
    omega

theorem segSpan_length {sg : Seg} {off : Dword} {n : Nat} {write : Bool} {s t : State} {sp : List Nat}
    (h : segSpan sg off n write s = .ok sp t) : sp.length = n := by
  obtain ⟨lin, u, -, h⟩ := exec_bind_ok h
  obtain ⟨_, v, -, h⟩ := exec_bind_ok h
  obtain ⟨sp', w, hsp, h⟩ := exec_bind_ok h
  obtain ⟨_, x, -, h⟩ := exec_bind_ok h
  cases h
  exact linSpan_length hsp

/-- An access through a segment register stops at the segment's checks or in a page fault, before a data breakpoint is
compared. -/
theorem segSpan_stop {sg : Seg} {off : Dword} {n : Nat} {write : Bool} {s t : State} {x : Stop}
    (h : segSpan sg off n write s = .error x t) :
    (x = .exc (segFault sg) ∨ ∃ c, x = .exc (.page c)) ∧ faulted s t := by
  simp only [segSpan, segLinear, exec_bind_apply, getState_apply] at h
  cases hc : accessOk s.prot (s.segs.get sg) write && limitOk s.prot (s.segs.get sg) off n with
  | false =>
    rw [hc] at h
    simp only [require_false, EStateM.Result.error.injEq] at h
    obtain ⟨rfl, rfl⟩ := h
    exact ⟨.inl rfl, rfl⟩
  | true =>
    rw [hc] at h
    simp only [require_true, exec_pure_apply] at h
    cases hl : linSpan ((s.segs.get sg).base + off) n write (decide (s.sys.cpl = 3)) s with
    | ok sp u => rw [hl] at h; simp [noteAccess] at h
    | error e u =>
      rw [hl] at h
      cases h
      exact ⟨.inr ((translates_linSpan _ _ _ _ s).2 _ _ hl).1, ((translates_linSpan _ _ _ _ s).2 _ _ hl).2⟩

theorem segFault_cases (sg : Seg) : segFault sg = .stack 0 ∨ segFault sg = .protection 0 := by
  unfold segFault
  split
  · exact .inl rfl
  · exact .inr rfl

/-- The offset of a memory operand takes at most a free value. -/
theorem effAddr_ok (m : Mem) (s : State) : ∃ p k, effAddr m s = .ok p { s with draws := k } := by
  cases h : eaUndefined m
  · exact ⟨_, s.draws, effAddr_defined h s⟩
  · exact ⟨_, _, effAddr_undefined h s⟩

theorem place_mem_apply {m : Mem} {s : State} {p : Seg × Dword} {k : Nat} (h : effAddr m s = .ok p { s with draws := k })
    (sz : Size) (write : Bool) :
    place sz (.mem m) write s =
      match segSpan p.1 p.2 sz.bytes write { s with draws := k } with
      | .ok sp t => .ok (.mem sp) t
      | .error e t => .error e t := by
  simp only [place, exec_bind_apply, h]
  cases segSpan p.1 p.2 sz.bytes write { s with draws := k } <;> rfl

/-- Finding an operand that succeeds. -/
theorem place_ok {s t : State} {sz : Size} {rm : RM} {write : Bool} {p : Place} (h : place sz rm write s = .ok p t) :
    (s.unpaged → t.mem = s.mem ∧ t.paging = s.paging) ∧ (∀ r, rm = .reg r → p = .reg r ∧ t = s) ∧
    ∀ m, rm = .mem m → ∃ sp, p = .mem sp ∧ sp.length = sz.bytes := by
  cases rm with
  | reg r =>
    cases h
    exact ⟨fun _ => ⟨rfl, rfl⟩, fun q e => by cases e; exact ⟨rfl, rfl⟩, fun m e => nomatch e⟩
  | mem m =>
    obtain ⟨a, k, ha⟩ := effAddr_ok m s
    rw [place_mem_apply ha] at h
    cases hs : segSpan a.1 a.2 sz.bytes write { s with draws := k } with
    | error e u => rw [hs] at h; cases h
    | ok sp u =>
      rw [hs] at h
      cases h
      refine ⟨fun hu => ?_, fun q e => (by cases e), fun m' _ => ⟨sp, rfl, segSpan_length hs⟩⟩
      obtain ⟨hm, hp, -, -⟩ := segSpan_unpaged_keeps (s := { s with draws := k }) hu (bytes_le sz) hs
      exact ⟨hm, hp⟩

/-- Finding an operand that faults. -/
theorem place_stop {s t : State} {sz : Size} {rm : RM} {write : Bool} {x : Stop} (h : place sz rm write s = .error x t) :
    (x = .exc (.stack 0) ∨ x = .exc (.protection 0) ∨ ∃ c, x = .exc (.page c)) ∧ faulted s t ∧
    (s.unpaged → t = { s with draws := t.draws }) := by
  cases rm with
  | reg r => cases h
  | mem m =>
    obtain ⟨a, k, ha⟩ := effAddr_ok m s
    rw [place_mem_apply ha] at h
    cases hs : segSpan a.1 a.2 sz.bytes write { s with draws := k } with
    | ok sp u => rw [hs] at h; cases h
    | error e u =>
      rw [hs] at h
      cases h
      obtain ⟨hx, hf⟩ := segSpan_stop hs
      refine ⟨?_, faulted_trans (t := { s with draws := k }) rfl hf, fun hu => ?_⟩
      · obtain rfl | hx := hx
        · obtain e | e := segFault_cases a.1
          · exact .inl (congrArg Stop.exc e)
          · exact .inr (.inl (congrArg Stop.exc e))
        · exact .inr (.inr hx)
      · rw [segSpan_stop_unpaged (s := { s with draws := k }) hu (bytes_le sz) hs]

/-! ## Instructions that find an operand first -/

section
variable {s t : State} {x : Stop} {w : Bool} {rm : RM}

theorem aluRmReg_stop_register (op : AluOp) (r : Reg) (h : place (s.sizeOf w) rm false s = .error x t) :
    aluRmReg op true w rm r s = .error x t := by
  simp only [aluRmReg, exec_bind_apply, getState_apply, if_true, readRM, h]

theorem aluRmReg_stop_operand (op : AluOp) (r : Reg) (h : place (s.sizeOf w) rm true s = .error x t) :
    aluRmReg op false w rm r s = .error x t := by
  simp only [aluRmReg, exec_bind_apply, getState_apply, Bool.false_eq_true, if_false, h]

theorem aluRmImm_stop (op : AluOp) (imm : Imm) (h : place (s.sizeOf w) rm true s = .error x t) :
    aluRmImm op w rm imm s = .error x t := by
  simp only [aluRmImm, exec_bind_apply, getState_apply, h]

theorem modifyRM_stop (f : {n : Nat} → BitVec n → BitVec n) (g : {n : Nat} → BitVec n → Flags → Flags)
    (h : place (s.sizeOf w) rm true s = .error x t) : modifyRM w rm f g s = .error x t := by
  simp only [modifyRM, exec_bind_apply, getState_apply, h]

theorem shiftRM_stop (op : ShiftOp) (n : Nat) (h : place (s.sizeOf w) rm true s = .error x t) :
    shiftRM op w rm n s = .error x t := by
  simp only [shiftRM, exec_bind_apply, getState_apply, h]

theorem shiftRMCl_stop (op : ShiftOp) (h : place (s.sizeOf w) rm true s = .error x t) :
    shiftRMCl op w rm s = .error x t := by
  simp only [shiftRMCl, exec_bind_apply, getState_apply, shiftRM_stop op _ h]

theorem readRM_stop {sz : Size} (h : place sz rm false s = .error x t) : readRM sz rm s = .error x t := by
  simp only [readRM, exec_bind_apply, h]

theorem writeRM_stop {sz : Size} (v : BitVec sz.bits) (h : place sz rm true s = .error x t) :
    writeRM sz rm v s = .error x t := by
  simp only [writeRM, exec_bind_apply, h]

theorem bitScan_stop (r : Reg) (f : {n : Nat} → BitVec n → Nat) (h : place s.opSize rm false s = .error x t) :
    bitScan r rm f s = .error x t := by
  simp only [bitScan, exec_bind_apply, getState_apply, readRM_stop h]

theorem bitTestImm_stop (n : BitVec 8) (h : place s.opSize rm false s = .error x t) :
    bitTest (bitSelectImm rm n false) s = .error x t := by
  simp only [bitTest, bitSelectImm, exec_bind_apply, getState_apply, h]

theorem bitChangeImm_stop (n : BitVec 8) (f : Bool → Bool) (h : place s.opSize rm true s = .error x t) :
    bitChange (bitSelectImm rm n true) f s = .error x t := by
  simp only [bitChange, bitSelectImm, exec_bind_apply, getState_apply, h]

/-- SHLD and SHRD find their operand where the masked count is not 0 (R480). -/
theorem shiftDouble_stop (r : Reg) {n : Nat} (f : {n : Nat} → BitVec n → BitVec n → Nat → BitVec n)
    (g : {n : Nat} → BitVec n → Nat → Bool) (hn : n % 32 ≠ 0) (h : place s.opSize rm true s = .error x t) :
    shiftDouble rm r n f g s = .error x t := by
  simp only [shiftDouble, if_neg hn, exec_bind_apply, getState_apply, h]

theorem setByte_stop (c : Cond) (h : place .b rm true s = .error x t) : setByte c rm s = .error x t := by
  simp only [setByte, exec_bind_apply, getState_apply, writeRM_stop _ h]

theorem push_stop {sz : Size} (v : Dword) (h : claimSlot sz.bytes s = .error x t) : push sz v s = .error x t := by
  simp only [push, exec_bind_apply, h]

theorem pop_stop {sz : Size} (h : peek 0 sz.bytes s = .error x t) : pop sz s = .error x t := by
  simp only [pop, exec_bind_apply, h]

end

/-- An instruction that raises an exception from its computation. -/
theorem exec_raises {i : Instr} {body : Exec Unit} {s t : State} {e : Exc} (hi : exec i s = runInstr body s)
    (h : body s = .error (.exc e) t) : exec i s = s.raises t e := hi.trans (runInstr_exc h)

/-- SI, DI and BX as offsets (R510). -/
theorem indexOffset_eq (s : State) (v : Dword) :
    indexOffset s v = if s.ctx.addr32 then v else BitVec.ofNat 32 (v.toNat % 2 ^ 16) := by
  unfold indexOffset
  split
  · rfl
  · apply ofNat_of_toNat
    rw [BitVec.toNat_setWidth, low16_toNat]
    omega

/-- Settles O10: finding an operand by `place_ok` and `place_stop`; each instruction's computation stops where finding its
operand does. -/
theorem operandAccessesCompleteOrFaultWhole : Obligations.OperandAccessesCompleteOrFaultWhole := by
  refine ⟨fun s t sz rm write p h => ⟨finds_place sz rm write s p t h, place_ok h⟩,
    fun s t sz rm write x h => place_stop h, ?_, fun s t e => rfl⟩
  intro s t e d w sx rm r imm n sg raised
  refine ⟨fun h => ?_, fun h => ?_, fun h => ?_, fun h => ⟨?_, fun hn => ?_, fun hn => ?_⟩, fun h => ?_, fun h => ?_,
    fun h hr => ?_, fun h => ?_, fun h => ?_⟩
  · simp only [List.forall_mem_cons]
    have reg := fun op => aluRmReg_stop_register op r h
    exact ⟨exec_raises rfl (reg .add), exec_raises rfl (reg .or), exec_raises rfl (reg .adc), exec_raises rfl (reg .sbb),
      exec_raises rfl (reg .and), exec_raises rfl (reg .sub), exec_raises rfl (reg .xor),
      exec_raises rfl (by simp only [cmpRmReg, exec_bind_apply, getState_apply, readRM_stop h]),
      exec_raises rfl (by simp only [cmpRmImm, exec_bind_apply, getState_apply, readRM_stop h]),
      exec_raises rfl (by simp only [exec_bind_apply, getState_apply, readRM_stop h]),
      exec_raises rfl (by simp only [exec_bind_apply, getState_apply, readRM_stop h]),
      exec_raises rfl (by simp only [exec_bind_apply, getState_apply, readRM_stop h]),
      exec_raises rfl (by simp only [exec_bind_apply, getState_apply, readRM_stop h]),
      exec_raises rfl (by simp only [exec_bind_apply, getState_apply, readRM_stop h]),
      exec_raises rfl (by simp only [exec_bind_apply, getState_apply, readRM_stop h]),
      exec_raises rfl (by simp only [exec_bind_apply, getState_apply, readRM_stop h]), fun _ hi => nomatch hi⟩
  · simp only [List.forall_mem_cons]
    have reg := fun op => aluRmReg_stop_operand op r h
    have imm := fun op => aluRmImm_stop op imm h
    exact ⟨exec_raises rfl (reg .add), exec_raises rfl (reg .or), exec_raises rfl (reg .adc), exec_raises rfl (reg .sbb),
      exec_raises rfl (reg .and), exec_raises rfl (reg .sub), exec_raises rfl (reg .xor), exec_raises rfl (imm .add),
      exec_raises rfl (imm .or), exec_raises rfl (imm .adc), exec_raises rfl (imm .sbb), exec_raises rfl (imm .and),
      exec_raises rfl (imm .sub), exec_raises rfl (imm .xor), exec_raises rfl (modifyRM_stop _ _ h),
      exec_raises rfl (modifyRM_stop _ _ h), exec_raises rfl (modifyRM_stop _ _ h),
      exec_raises rfl (modifyRM_stop _ _ h),
      exec_raises rfl (by simp only [exec_bind_apply, getState_apply, h]),
      exec_raises rfl (by simp only [exec_bind_apply, getState_apply, writeRM_stop _ h]),
      exec_raises rfl (by simp only [exec_bind_apply, getState_apply, h]),
      exec_raises rfl (shiftRM_stop .rol 1 h), exec_raises rfl (shiftRMCl_stop .ror h),
      exec_raises rfl (shiftRM_stop .rcl n.toNat h), exec_raises rfl (shiftRM_stop .rcr 1 h),
      exec_raises rfl (shiftRMCl_stop .shl h), exec_raises rfl (shiftRM_stop .shr n.toNat h),
      exec_raises rfl (shiftRM_stop .sar 1 h), fun _ hi => nomatch hi⟩
  · simp only [List.forall_mem_cons]
    exact ⟨exec_raises rfl (by simp only [exec_bind_apply, getState_apply, readRM_stop h]),
      exec_raises rfl (by simp only [exec_bind_apply, getState_apply, readRM_stop h]),
      exec_raises rfl (bitScan_stop r _ h), exec_raises rfl (bitScan_stop r _ h), exec_raises rfl (bitTestImm_stop n h),
      exec_raises rfl (by simp only [exec_bind_apply, getState_apply, readRM_stop h]),
      exec_raises rfl (by simp only [exec_bind_apply, getState_apply, readRM_stop h]),
      exec_raises rfl (by simp only [exec_bind_apply, getState_apply, readRM_stop h]), fun _ hi => nomatch hi⟩
  · simp only [List.forall_mem_cons]
    exact ⟨exec_raises rfl (bitChangeImm_stop n _ h), exec_raises rfl (bitChangeImm_stop n _ h),
      exec_raises rfl (bitChangeImm_stop n _ h), fun _ hi => nomatch hi⟩
  · exact ⟨exec_raises rfl (shiftDouble_stop r _ _ hn h), exec_raises rfl (shiftDouble_stop r _ _ hn h)⟩
  · exact ⟨exec_raises rfl (shiftDouble_stop r shldResult shldCarry hn h),
      exec_raises rfl (shiftDouble_stop r shrdResult shrdCarry hn h)⟩
  · simp only [List.forall_mem_cons]
    exact ⟨exec_raises rfl (setByte_stop _ h), exec_raises rfl (setByte_stop _ h), exec_raises rfl (setByte_stop _ h),
      fun _ hi => nomatch hi⟩
  · exact exec_raises rfl (by simp only [exec_bind_apply, readRM_stop h])
  · refine exec_raises rfl ?_
    simp only [repeated, exec_bind_apply, getState_apply, hr, if_true, stosElement, stringDestSpan, indexOffset_eq, h]
  · exact ⟨exec_raises rfl (by simp only [exec_bind_apply, getState_apply, readReg_apply, push_stop _ h]),
      exec_raises rfl (by simp only [exec_bind_apply, getState_apply, push_stop _ h])⟩
  · exact ⟨exec_raises rfl (by simp only [exec_bind_apply, getState_apply, pop_stop h]),
      exec_raises rfl (by simp only [returnNear, exec_bind_apply, getState_apply, h])⟩

end Sys2Proof.Machine
end


section
/-! Multiplication and division (spec/42_arithmetic.md R442 to R447), and the adjustments and sign extensions of the
accumulator (R438 to R441, R450 to R453). -/

namespace Sys2Proof.Machine

/-! ## Shared operations -/

@[simp] theorem writeWide_apply (sz : Size) (hi lo : BitVec sz.bits) (s : State) :
    writeWide sz hi lo s = .ok () (s.withWide sz hi lo) := by
  cases sz <;> rfl

@[simp] theorem readHigh_apply (sz : Size) (s : State) : readHigh sz s = .ok (s.regs.read sz (highReg sz)) s := by
  cases sz <;> rfl

/-- The state after a multiplication: CF and OF tell the overflow, the other flags are free (R442 to R445). -/
def mulDone (u : State) (overflow : Bool) : State :=
  freeFlags [.sf, .zf, .af, .pf] { u with flags := { u.flags with cf := overflow, ov := overflow } }

theorem mulFlags_apply (b : Bool) (s : State) : mulFlags b s = .ok () (mulDone s b) := by
  simp only [mulFlags, exec_bind_apply, updateFlags_apply, undefined_apply, mulDone]

theorem readRM_ok {s t : State} {sz : Size} {rm : RM} {p : Place} (h : place sz rm false s = .ok p t) :
    readRM sz rm s = .ok (t.valueAt sz p) t := by
  simp only [readRM, exec_bind_apply, h, readPlace_apply]

theorem writeRM_ok {s t : State} {sz : Size} {rm : RM} {p : Place} (v : BitVec sz.bits)
    (h : place sz rm true s = .ok p t) : writeRM sz rm v s = .ok () (t.withValue sz p v) := by
  simp only [writeRM, exec_bind_apply, h, writePlace_apply]

/-- The high half of a product tells whether it fits (R442). -/
theorem highHalf_ne_zero {n : Nat} (a b : BitVec n) :
    (BitVec.ofNat n (a.toNat * b.toNat / 2 ^ n) != 0) = decide (2 ^ n ≤ a.toNat * b.toNat) := by
  have hlt : a.toNat * b.toNat / 2 ^ n < 2 ^ n := by
    rw [Nat.div_lt_iff_lt_mul (by positivity)]
    exact Nat.mul_lt_mul'' a.isLt b.isLt
  rw [Bool.eq_iff_iff, bne_iff_ne, decide_eq_true_iff, ne_eq, ← BitVec.toNat_inj, BitVec.toNat_ofNat,
    Nat.mod_eq_of_lt hlt, show (0 : BitVec n).toNat = 0 from BitVec.toNat_zero, Nat.div_eq_zero_iff]
  have : 0 < 2 ^ n := by positivity
  omega

/-- A value does not fit in the signed bits of a size (R443). -/
theorem signedOverflow_eq (sz : Size) (x : Int) :
    signedOverflow sz.bits x = decide (x < -2 ^ (sz.bits - 1) ∨ 2 ^ (sz.bits - 1) ≤ x) := by
  unfold signedOverflow
  rw [decide_eq_decide, BitVec.toInt_ofInt]
  cases sz <;> simp only [Size.bits, Int.bmod_def] <;> omega

theorem imulTo_apply (sz : Size) (r : Reg) (a b : BitVec sz.bits) (s : State) :
    imulTo sz r a b s =
      .ok () (mulDone (s.withValue sz (.reg r) (BitVec.ofInt _ (a.toInt * b.toInt)))
        (signedOverflow sz.bits (a.toInt * b.toInt))) := by
  simp only [imulTo, exec_bind_apply, writeReg_apply, mulFlags_apply, withValue_reg]

/-! ## The instructions -/

section
variable {s t : State} {w : Bool} {rm : RM} {p : Place}

theorem exec_mulRm (h : place (s.sizeOf w) rm false s = .ok p t) :
    exec (.mulRm w rm) s =
      let m := (t.regs.read (s.sizeOf w) .eax).toNat * (t.valueAt (s.sizeOf w) p).toNat
      .next (retire s.flags.tf (mulDone
        (t.withWide (s.sizeOf w) (BitVec.ofNat _ (m / 2 ^ (s.sizeOf w).bits)) (BitVec.ofNat _ m))
        (decide (2 ^ (s.sizeOf w).bits ≤ m)))) := by
  show execMulRm w rm s = _
  refine runInstr_ok ?_
  simp only [exec_bind_apply, getState_apply, readRM_ok h, readReg_apply, writeWide_apply, mulFlags_apply,
    highHalf_ne_zero]

theorem exec_imulRm (h : place (s.sizeOf w) rm false s = .ok p t) :
    exec (.imulRm w rm) s =
      let m := (t.regs.read (s.sizeOf w) .eax).toInt * (t.valueAt (s.sizeOf w) p).toInt
      .next (retire s.flags.tf (mulDone
        (t.withWide (s.sizeOf w) (BitVec.ofInt _ (m / 2 ^ (s.sizeOf w).bits)) (BitVec.ofInt _ m))
        (signedOverflow (s.sizeOf w).bits m))) := by
  show execImulRm w rm s = _
  refine runInstr_ok ?_
  simp only [exec_bind_apply, getState_apply, readRM_ok h, readReg_apply, writeWide_apply, mulFlags_apply]

theorem exec_imulRegRm {r : Reg} (h : place s.opSize rm false s = .ok p t) :
    exec (.imulRegRm r rm) s =
      let m := (t.regs.read s.opSize r).toInt * (t.valueAt s.opSize p).toInt
      .next (retire s.flags.tf (mulDone (t.withValue s.opSize (.reg r) (BitVec.ofInt _ m))
        (signedOverflow s.opSize.bits m))) := by
  show execImulRegRm r rm s = _
  refine runInstr_ok ?_
  simp only [exec_bind_apply, getState_apply, readRM_ok h, readReg_apply, imulTo_apply]

theorem exec_imulRegRmImm {r : Reg} (sx : Bool) (imm : Imm) (h : place s.opSize rm false s = .ok p t) :
    exec (.imulRegRmImm sx r rm imm) s =
      let m := (t.valueAt s.opSize p).toInt * (immValue s.opSize imm).toInt
      .next (retire s.flags.tf (mulDone (t.withValue s.opSize (.reg r) (BitVec.ofInt _ m))
        (signedOverflow s.opSize.bits m))) := by
  show execImulRegRmImm sx r rm imm s = _
  refine runInstr_ok ?_
  simp only [exec_bind_apply, getState_apply, readRM_ok h, imulTo_apply]

/-- The dividend of DIV (R446). -/
def unsignedDividend (t : State) (sz : Size) : Nat :=
  (t.regs.read sz (highReg sz)).toNat * 2 ^ sz.bits + (t.regs.read sz .eax).toNat

/-- The dividend of IDIV (R447). -/
def signedDividend (t : State) (sz : Size) : Int :=
  (t.regs.read sz (highReg sz)).toInt * 2 ^ sz.bits + (t.regs.read sz .eax).toNat

theorem exec_divRm (h : place (s.sizeOf w) rm false s = .ok p t) :
    exec (.divRm w rm) s =
      let d := t.valueAt (s.sizeOf w) p
      let n := unsignedDividend t (s.sizeOf w)
      if (d != 0 && decide (n / d.toNat < 2 ^ (s.sizeOf w).bits)) = true then
        .next (retire s.flags.tf (freeFlags allStatus
          (t.withWide (s.sizeOf w) (BitVec.ofNat _ (n % d.toNat)) (BitVec.ofNat _ (n / d.toNat)))))
      else s.raises t .divide := by
  show execDivRm w rm s = _
  dsimp only [unsignedDividend]
  split
  · rename_i hd
    refine runInstr_ok ?_
    simp only [exec_bind_apply, getState_apply, readRM_ok h, readReg_apply, readHigh_apply, hd, require_true,
      writeWide_apply, undefined_apply]
  · rename_i hd
    rw [Bool.not_eq_true] at hd
    refine runInstr_exc ?_
    simp only [exec_bind_apply, getState_apply, readRM_ok h, readReg_apply, readHigh_apply, hd, require_false]

theorem exec_idivRm (h : place (s.sizeOf w) rm false s = .ok p t) :
    exec (.idivRm w rm) s =
      let d := t.valueAt (s.sizeOf w) p
      let q := (signedDividend t (s.sizeOf w)).tdiv d.toInt
      if (d != 0 && !signedOverflow (s.sizeOf w).bits q) = true then
        .next (retire s.flags.tf (freeFlags allStatus
          (t.withWide (s.sizeOf w) (BitVec.ofInt _ ((signedDividend t (s.sizeOf w)).tmod d.toInt)) (BitVec.ofInt _ q))))
      else s.raises t .divide := by
  show execIdivRm w rm s = _
  dsimp only [signedDividend]
  split
  · rename_i hd
    refine runInstr_ok ?_
    simp only [exec_bind_apply, getState_apply, readRM_ok h, readReg_apply, readHigh_apply, hd, require_true,
      writeWide_apply, undefined_apply]
  · rename_i hd
    rw [Bool.not_eq_true] at hd
    refine runInstr_exc ?_
    simp only [exec_bind_apply, getState_apply, readRM_ok h, readReg_apply, readHigh_apply, hd, require_false]

end

/-- Settles O4. -/
theorem multiplicationsAndDivisions : Obligations.MultiplicationsAndDivisions := by
  refine ⟨?_, ?_⟩
  · intro s t w sx rm r imm p done tooBig sz full
    refine ⟨fun h => ⟨exec_mulRm h, ?_⟩, fun h => ⟨?_, ?_⟩⟩
    · refine (exec_imulRm h).trans ?_
      simp only [signedOverflow_eq]
      rfl
    · refine (exec_imulRegRm h).trans ?_
      simp only [signedOverflow_eq]
      rfl
    · refine (exec_imulRegRmImm sx imm h).trans ?_
      simp only [signedOverflow_eq]
      rfl
  · intro s t w rm p sz h d hi lo n m q divideError
    have fits : (d != 0 && decide (n / d.toNat < 2 ^ sz.bits)) = true ↔ d ≠ 0 ∧ n / d.toNat < 2 ^ sz.bits := by
      rw [Bool.and_eq_true, bne_iff_ne, decide_eq_true_iff]
    have fitsSigned : (d != 0 && !signedOverflow sz.bits q) = true ↔
        d ≠ 0 ∧ -2 ^ (sz.bits - 1) ≤ q ∧ q < 2 ^ (sz.bits - 1) := by
      rw [Bool.and_eq_true, bne_iff_ne, signedOverflow_eq, Bool.not_eq_true', decide_eq_false_iff_not, not_or,
        Int.not_lt, Int.not_le]
    refine ⟨fun hd hq => ?_, fun hd => ?_, fun hd h1 h2 => ?_, fun hd => ?_, rfl⟩
    · exact (exec_divRm h).trans (if_pos (fits.mpr ⟨hd, hq⟩))
    · exact (exec_divRm h).trans (if_neg fun k =>
        hd.elim (fits.mp k).1 fun h => absurd (fits.mp k).2 (Nat.not_lt.mpr h))
    · exact (exec_idivRm h).trans (if_pos (fitsSigned.mpr ⟨hd, h1, h2⟩))
    · refine (exec_idivRm h).trans (if_neg fun k => ?_)
      obtain ⟨h0, h1, h2⟩ := fitsSigned.mp k
      exact hd.elim h0 fun h => h.elim (fun h => absurd h1 (Int.not_le.mpr h)) fun h => absurd h2 (Int.not_lt.mpr h)

end Sys2Proof.Machine
end


section
/-! The decimal and ASCII adjustments and the sign extensions of the accumulator (spec/42_arithmetic.md R438 to R441, R450 to
R453). -/

namespace Sys2Proof.Machine

/-! ## AX as AH and AL -/

theorem putLow8_putHigh8 (old : Dword) (h l : Byte) : putLow8 (putHigh8 old h) l = putLow16 old (h ++ l) := by
  unfold putLow8 putHigh8 putLow16
  ext i hi
  simp only [BitVec.getElem_append, BitVec.getLsbD_append, BitVec.getElem_extractLsb']
  grind

theorem putLow8_eq_putLow16 (old : Dword) (l : Byte) : putLow8 old l = putLow16 old (old.extractLsb' 8 8 ++ l) := by
  unfold putLow8 putLow16
  ext i hi
  simp only [BitVec.getElem_append, BitVec.getElem_extractLsb']
  grind

/-- AH and then AL written are AX written. -/
theorem Regs.write_ah_al (g : Regs) (h l : Byte) : (g.write .b .esp h).write .b .eax l = g.write .w .eax (h ++ l) := by
  simp only [Regs.write, Regs.set8, byteHome, byteIsHigh, Regs.get, Regs.set, if_true, Bool.false_eq_true, if_false,
    putLow8_putHigh8]

/-- AL written is AX written with AH as it was. -/
theorem Regs.write_al (g : Regs) (l : Byte) : g.write .b .eax l = g.write .w .eax (g.get8 .esp ++ l) := by
  simp only [Regs.write, Regs.set8, Regs.get8, byteHome, byteIsHigh, Regs.get, Regs.set, if_true, Bool.false_eq_true,
    if_false, putLow8_eq_putLow16]

theorem setWidth_16_eq_append (l : Byte) : l.setWidth 16 = (0 : Byte) ++ l := by
  ext i hi
  simp only [BitVec.getElem_setWidth]
  grind

/-- The low digit of AL needs adjusting (R438 to R441). -/
theorem lowDigit_eq (al : Byte) (af : Bool) : lowDigit al af = (decide (9 < al.toNat % 16) || af) := by
  have h : (al &&& 0x0F).toNat = al.toNat % 16 := by
    rw [BitVec.toNat_and]
    exact Nat.and_two_pow_sub_one_eq_mod al.toNat 4
  rw [lowDigit, h]

/-! ## The adjustments -/

theorem ite_add {n : Nat} (c : Prop) [Decidable c] (a b : BitVec n) :
    (if c then a + b else a) = a + if c then b else 0 := by
  split
  · rfl
  · exact (BitVec.add_zero a).symm

theorem ite_sub {n : Nat} (c : Prop) [Decidable c] (a b : BitVec n) :
    (if c then a - b else a) = a - if c then b else 0 := by
  split
  · rfl
  · exact (BitVec.sub_zero a).symm

/-- AAA and AAS in AX (R438, R439). -/
theorem asciiAdjust_apply (f : Byte → Byte → Byte) (s : State) :
    asciiAdjust f s =
      let al := s.regs.get8 .eax
      let ah := s.regs.get8 .esp
      let adj := lowDigit al s.flags.af
      .ok () (freeFlags [.ov, .sf, .zf, .pf]
        { s with regs := s.regs.write .w .eax ((if adj then f ah 1 else ah) ++ ((if adj then f al 6 else al) &&& 0x0F))
                 flags := { s.flags with af := adj, cf := adj } }) := by
  simp only [asciiAdjust, exec_bind_apply, getState_apply, writeReg_apply, updateFlags_apply, undefined_apply,
    Regs.write_ah_al]

/-- The borrow of DAS: either digit's (R441). -/
theorem das_borrow (low high0 cf small : Bool) : (low && (cf || small) || (high0 || cf)) = ((high0 || cf) || (low && small)) := by
  revert low high0 cf small
  decide

/-! ## Sign extensions -/

/-- The sign of a value in every bit: the high half of its sign extension (R453). -/
theorem signHalf_eq {n : Nat} (x : BitVec n) :
    BitVec.ofInt n (x.toInt / 2 ^ n) = if x.msb then BitVec.allOnes n else 0#n := by
  have hx := x.isLt
  have hlt : (x.toNat : Int) < 2 ^ n := by exact_mod_cast hx
  rw [BitVec.toInt_eq_msb_cond]
  split
  · have e : ((x.toNat : Int) - (2 ^ n : Nat)) / 2 ^ n = -1 := by
      push_cast
      rw [Int.sub_ediv_of_dvd _ (dvd_refl _), Int.ediv_eq_zero_of_lt (by omega) hlt, Int.ediv_self (by positivity)]
      rfl
    rw [e]
    rw [← BitVec.neg_one_eq_allOnes]
    exact BitVec.ofInt_neg
  · rw [Int.ediv_eq_zero_of_lt (by omega) hlt]
    rfl

/-- Settles O5: the adjustments through AX, the sign extensions through `signHalf_eq`. -/
theorem accumulatorAdjustmentsFollowTheirRules : Obligations.AccumulatorAdjustmentsFollowTheirRules := by
  refine ⟨fun s => ?_, fun s => ?_⟩
  · intro al ah low high ax ascii decimal base10
    have hlow : lowDigit al s.flags.af = low := lowDigit_eq al s.flags.af
    refine ⟨?_, ?_, ?_, ?_, ?_, ?_⟩
    · refine (runInstr_ok (asciiAdjust_apply (fun a b => a + b) s)).trans ?_
      dsimp only
      rw [show lowDigit (s.regs.get8 .eax) s.flags.af = low from hlow]
      by_cases hc : low = true
      · rw [if_pos hc, if_pos hc, if_pos hc]
      · rw [if_neg hc, if_neg hc, if_neg hc]
    · refine (runInstr_ok (asciiAdjust_apply (fun a b => a - b) s)).trans ?_
      dsimp only
      rw [show lowDigit (s.regs.get8 .eax) s.flags.af = low from hlow]
      by_cases hc : low = true
      · rw [if_pos hc, if_pos hc, if_pos hc]
      · rw [if_neg hc, if_neg hc, if_neg hc]
    · show execDaa s = _
      refine runInstr_ok ?_
      simp only [exec_bind_apply, getState_apply, writeReg_apply, updateFlags_apply, undefined_apply, Regs.write_al,
        show lowDigit (s.regs.get8 .eax) s.flags.af = low from hlow, ite_add]
      rfl
    · show execDas s = _
      refine runInstr_ok ?_
      simp only [exec_bind_apply, getState_apply, writeReg_apply, updateFlags_apply, undefined_apply, Regs.write_al,
        show lowDigit (s.regs.get8 .eax) s.flags.af = low from hlow, ite_sub, das_borrow]
      rfl
    · show execAad s = _
      refine runInstr_ok ?_
      simp only [exec_bind_apply, getState_apply, writeReg_apply, updateFlags_apply, undefined_apply,
        setWidth_16_eq_append]
      rfl
    · show execAam s = _
      refine runInstr_ok ?_
      have hq : al / 10 = BitVec.ofNat 8 (al.toNat / 10) := ofNat_of_toNat BitVec.toNat_udiv
      have hr : al % 10 = BitVec.ofNat 8 (al.toNat % 10) := ofNat_of_toNat BitVec.toNat_umod
      simp only [exec_bind_apply, getState_apply, writeReg_apply, updateFlags_apply, undefined_apply, Regs.write_ah_al,
        show s.regs.get8 .eax / 10 = _ from hq, show s.regs.get8 .eax % 10 = _ from hr]
      rfl
  · refine ⟨fun h => ⟨?_, ?_⟩, fun h => ⟨?_, ?_⟩⟩
    · show execCbw s = _
      refine runInstr_ok ?_
      simp only [exec_bind_apply, getState_apply, h, Bool.false_eq_true, if_false, writeReg_apply]
      rfl
    · show execCwd s = _
      refine runInstr_ok ?_
      simp only [exec_bind_apply, getState_apply, h, Bool.false_eq_true, if_false, writeReg_apply]
      have e := signHalf_eq (s.regs.read .w .eax)
      rw [show (s.regs.read .w .eax).msb = s.regs.eax.getLsbD 15 by
        simp [Regs.read, Regs.get, BitVec.msb_eq_getLsbD_last]] at e
      exact congrArg (fun v => EStateM.Result.ok () (s.withValue .w (.reg .edx) v)) e.symm
    · show execCbw s = _
      refine runInstr_ok ?_
      simp only [exec_bind_apply, getState_apply, h, if_true, writeReg_apply]
      rfl
    · show execCwd s = _
      refine runInstr_ok ?_
      simp only [exec_bind_apply, getState_apply, h, if_true, writeReg_apply]
      have e := signHalf_eq (s.regs.read .d .eax)
      rw [show (s.regs.read .d .eax).msb = s.regs.eax.getLsbD 31 by
        simp [Regs.read, Regs.get, BitVec.msb_eq_getLsbD_last]] at e
      exact congrArg (fun v => EStateM.Result.ok () (s.withValue .d (.reg .edx) v)) e.symm

end Sys2Proof.Machine
end


section
/-! MOV, MOVSX, MOVZX, XCHG, LEA and XLAT (spec/40_data_transfer.md R330 to R337, R360, R361, R368, spec/44_string.md
R520). -/

namespace Sys2Proof.Machine

theorem fullOffset_w16_toNat (x : Word) : (fullOffset (.w16 x)).toNat = x.toNat := by
  have h := x.isLt
  rw [fullOffset, BitVec.toNat_setWidth, Nat.mod_eq_of_lt (by omega)]

/-- A read of memory that succeeds: the span is found, then loaded. -/
theorem memRead_ok {sg : Seg} {off : Dword} {n : Nat} {s t : State} {sp : List Nat}
    (h : segSpan sg off n false s = .ok sp t) : memRead sg off n s = .ok (t.mem.load sp) t := by
  simp only [memRead, exec_bind_apply, h, loadSpan_apply]

section
variable {s t : State} {w : Bool} {rm : RM} {p : Place}

theorem exec_movRmReg (r : Reg) (h : place (s.sizeOf w) rm true s = .ok p t) :
    exec (.movRmReg w rm r) s =
      .next (retire s.flags.tf (t.withValue (s.sizeOf w) p (t.regs.read (s.sizeOf w) r))) := by
  show execMovRmReg w rm r s = _
  refine runInstr_ok ?_
  simp only [exec_bind_apply, getState_apply, h, readReg_apply, writePlace_apply]

theorem exec_movRmImm (imm : Imm) (h : place (s.sizeOf w) rm true s = .ok p t) :
    exec (.movRmImm w rm imm) s =
      .next (retire s.flags.tf (t.withValue (s.sizeOf w) p (immValue (s.sizeOf w) imm))) := by
  show execMovRmImm w rm imm s = _
  refine runInstr_ok ?_
  simp only [exec_bind_apply, getState_apply, writeRM_ok _ h]

theorem exec_movRegRm (r : Reg) (h : place (s.sizeOf w) rm false s = .ok p t) :
    exec (.movRegRm w r rm) s =
      .next (retire s.flags.tf (t.withValue (s.sizeOf w) (.reg r) (t.valueAt (s.sizeOf w) p))) := by
  show execMovRegRm w r rm s = _
  refine runInstr_ok ?_
  simp only [exec_bind_apply, getState_apply, readRM_ok h, writeReg_apply, withValue_reg]

theorem exec_movAccMoffs {off : Full} {sp : List Nat}
    (h : segSpan (s.ctx.seg.getD .ds) (fullOffset off) (s.sizeOf w).bytes false s = .ok sp t) :
    exec (.movAccMoffs w off) s =
      .next (retire s.flags.tf (t.withValue (s.sizeOf w) (.reg .eax) (t.valueAt (s.sizeOf w) (.mem sp)))) := by
  show execMovAccMoffs w off s = _
  refine runInstr_ok ?_
  simp only [exec_bind_apply, getState_apply, overridden, memRead_ok h, writeReg_apply, withValue_reg]
  rfl

theorem exec_movMoffsAcc {off : Full} {sp : List Nat}
    (h : segSpan (s.ctx.seg.getD .ds) (fullOffset off) (s.sizeOf w).bytes true s = .ok sp t) :
    exec (.movMoffsAcc w off) s =
      .next (retire s.flags.tf (t.withValue (s.sizeOf w) (.mem sp) (t.regs.read (s.sizeOf w) .eax))) := by
  show execMovMoffsAcc w off s = _
  refine runInstr_ok ?_
  simp only [exec_bind_apply, getState_apply, overridden, h, readReg_apply, storeSpan_apply, withValue_place]

theorem exec_movsx (r : Reg) (h : place (if w then .w else .b) rm false s = .ok p t) :
    exec (.movsx w r rm) s =
      .next (retire s.flags.tf (t.withValue s.opSize (.reg r) ((t.valueAt (if w then .w else .b) p).signExtend _))) := by
  show execMovsx w r rm s = _
  refine runInstr_ok ?_
  simp only [exec_bind_apply, getState_apply, readRM_ok h, writeReg_apply, withValue_reg]

theorem exec_movzx (r : Reg) (h : place (if w then .w else .b) rm false s = .ok p t) :
    exec (.movzx w r rm) s =
      .next (retire s.flags.tf (t.withValue s.opSize (.reg r) (BitVec.ofNat _ (t.valueAt (if w then .w else .b) p).toNat))) := by
  show execMovzx w r rm s = _
  refine runInstr_ok ?_
  simp only [exec_bind_apply, getState_apply, readRM_ok h, writeReg_apply, withValue_reg,
    BitVec.ofNat_toNat]

theorem exec_xchgRmReg (r : Reg) (h : place (s.sizeOf w) rm true s = .ok p t) :
    exec (.xchgRmReg w rm r) s =
      .next (retire s.flags.tf ((t.withValue (s.sizeOf w) p (t.regs.read (s.sizeOf w) r)).withValue (s.sizeOf w) (.reg r)
        (t.valueAt (s.sizeOf w) p))) := by
  show execXchgRmReg w rm r s = _
  refine runInstr_ok ?_
  simp only [exec_bind_apply, getState_apply, h, readPlace_apply, readReg_apply, writePlace_apply, writeReg_apply,
    withValue_reg]

theorem exec_xchgAcc (r : Reg) (s : State) :
    exec (.xchgAcc r) s =
      .next (retire s.flags.tf ((s.withValue s.opSize (.reg .eax) (s.regs.read s.opSize r)).withValue s.opSize (.reg r)
        (s.regs.read s.opSize .eax))) := by
  show execXchgAcc r s = _
  refine runInstr_ok ?_
  simp only [exec_bind_apply, getState_apply, readReg_apply, writeReg_apply, withValue_reg]

end

/-- LEA goes by the operand size of the instruction, which finding an offset does not change (R368). -/
theorem exec_lea {s t : State} {r : Reg} {m : Mem} {sg : Seg} {off : Dword} (h : effAddr m s = .ok (sg, off) t) :
    exec (.lea r m) s = .next (retire s.flags.tf (t.withValue s.opSize (.reg r) (BitVec.ofNat _ off.toNat))) := by
  show execLea r m s = _
  have hc : t.ctx = s.ctx := by
    obtain ⟨p, k, hk⟩ := effAddr_ok m s
    rw [h] at hk
    cases hk
    rfl
  have hsz : t.opSize = s.opSize := by rw [State.opSize, hc, State.opSize]
  refine runInstr_ok ?_
  simp only [exec_bind_apply, getState_apply, h, writeReg_apply]
  rw [← hsz, withValue_reg, BitVec.ofNat_toNat]

theorem exec_xlat {s t : State} {sp : List Nat}
    (h : segSpan (s.ctx.seg.getD .ds) (indexOffset s (s.regs.ebx + (s.regs.get8 .eax).setWidth 32)) 1 false s = .ok sp t) :
    exec .xlat s = .next (retire s.flags.tf (t.withValue .b (.reg .eax) (t.valueAt .b (.mem sp)))) := by
  show execXlat s = _
  refine runInstr_ok ?_
  simp only [exec_bind_apply, getState_apply, overridden, memRead_ok h, writeReg_apply, withValue_reg]
  rfl

/-- Settles O6: each clause is the lemma about its instruction; XLAT's index wraps as the other index registers do. -/
theorem movesExchangesAndAddresses : Obligations.MovesExchangesAndAddresses := by
  refine ⟨fullOffset_w16_toNat, fun x => rfl, ?_, ?_⟩
  · intro s t w rm r imm off p sp sz src full moffs
    refine ⟨fun h => ⟨exec_movRmReg r h, exec_movRmImm imm h, fun v => withValue_sameOutside t sz p v⟩,
      fun h => exec_movRegRm r h, ?_, fun h => exec_movAccMoffs h,
      fun h => ⟨exec_movMoffsAcc h, withValue_sameOutside t sz (.mem sp) _⟩,
      fun h => ⟨exec_movsx r h, exec_movzx r h⟩⟩
    show execMovRegImm w r imm s = _
    exact runInstr_ok rfl
  · intro s t w rm r m p sg off sp sz full index
    refine ⟨fun h => ⟨exec_xchgRmReg r h, ?_⟩, exec_xchgAcc r s, fun h => exec_lea h, fun h => exec_xlat ?_⟩
    · exact withValue_sameOutside t sz p _
    · rw [indexOffset_eq]
      exact h

end Sys2Proof.Machine
end


section
/-! The results of the shifts and rotates as numbers (spec/43_logic_shift.md R471 to R477). -/

namespace Sys2Proof.Machine

/-! ## Rotations of numbers -/

/-- A number of `m` bits turned left by `j` places. -/
def rotLeft (m y j : Nat) : Nat := y * 2 ^ j % 2 ^ m + y / 2 ^ (m - j)

/-- A number of `m` bits turned right by `j` places. -/
def rotRight (m y j : Nat) : Nat := y / 2 ^ j + y * 2 ^ (m - j) % 2 ^ m

theorem mul_two_pow_mod {m j : Nat} (h : j ≤ m) (y : Nat) : y * 2 ^ j % 2 ^ m = y % 2 ^ (m - j) * 2 ^ j := by
  have e : 2 ^ m = 2 ^ (m - j) * 2 ^ j := by rw [← Nat.pow_add, Nat.sub_add_cancel h]
  rw [e, Nat.mul_mod_mul_right]

theorem rotLeft_zero {m y : Nat} (h : y < 2 ^ m) : rotLeft m y 0 = y := by
  simp [rotLeft, Nat.mod_eq_of_lt h, Nat.div_eq_of_lt h]

theorem rotRight_zero (m y : Nat) : rotRight m y 0 = y := by
  simp [rotRight]

/-- One place more to the left. -/
theorem rotLeft_succ {m y j : Nat} (hy : y < 2 ^ m) (hj : j + 1 ≤ m) :
    rotLeft m (rotLeft m y j) 1 = rotLeft m y (j + 1) := by
  obtain ⟨k, rfl⟩ := Nat.exists_eq_add_of_le hj
  have e1 : j + 1 + k - j = k + 1 := by omega
  have e2 : j + 1 + k - (j + 1) = k := by omega
  have e3 : j + 1 + k - 1 = j + k := by omega
  unfold rotLeft
  rw [mul_two_pow_mod (by omega), mul_two_pow_mod (by omega), mul_two_pow_mod (by omega), e1, e2, e3]
  -- `y = (2 a + b1) 2^k + b0`: `a` the bits already turned, `b1` the next one
  have hb1 := Nat.div_add_mod (y / 2 ^ k) 2
  have hlow : y % 2 ^ (k + 1) = y % 2 ^ k + 2 ^ k * (y / 2 ^ k % 2) := by rw [Nat.pow_succ, Nat.mod_mul]
  have hdiv : y / 2 ^ (k + 1) = y / 2 ^ k / 2 := by rw [Nat.pow_succ, Nat.div_div_eq_div_mul]
  have ha : y / 2 ^ (k + 1) < 2 ^ j := by
    rw [Nat.div_lt_iff_lt_mul (by positivity), ← Nat.pow_add]
    exact lt_of_lt_of_eq hy (congrArg (2 ^ ·) (by omega))
  have h0 : y % 2 ^ k < 2 ^ k := Nat.mod_lt _ (by positivity)
  have hrest : y % 2 ^ k * 2 ^ j + y / 2 ^ (k + 1) < 2 ^ (j + k) := by
    calc y % 2 ^ k * 2 ^ j + y / 2 ^ (k + 1) < y % 2 ^ k * 2 ^ j + 2 ^ j := by omega
      _ = (y % 2 ^ k + 1) * 2 ^ j := by ring
      _ ≤ 2 ^ k * 2 ^ j := Nat.mul_le_mul_right _ h0
      _ = 2 ^ (j + k) := by ring
  have hz : y % 2 ^ (k + 1) * 2 ^ j + y / 2 ^ (k + 1) =
      y / 2 ^ k % 2 * 2 ^ (j + k) + (y % 2 ^ k * 2 ^ j + y / 2 ^ (k + 1)) := by
    rw [hlow]
    ring
  rw [hz, Nat.mul_add_mod', Nat.mod_eq_of_lt hrest, Nat.mul_comm _ (2 ^ (j + k)),
    Nat.mul_add_div (by positivity), Nat.div_eq_of_lt hrest, hdiv]
  have : (y % 2 ^ k * 2 ^ j + y / 2 ^ k / 2) * 2 ^ 1 = y % 2 ^ k * 2 ^ (j + 1) + 2 * (y / 2 ^ k / 2) := by ring
  omega

/-- One place more to the right. -/
theorem rotRight_succ {m y j : Nat} (hj : j + 1 ≤ m) : rotRight m (rotRight m y j) 1 = rotRight m y (j + 1) := by
  obtain ⟨k, rfl⟩ := Nat.exists_eq_add_of_le hj
  have e1 : j + 1 + k - j = k + 1 := by omega
  have e2 : j + 1 + k - (j + 1) = k := by omega
  have e3 : j + 1 + k - 1 = j + k := by omega
  have f1 : j + 1 + k - (k + 1) = j := by omega
  have f2 : j + 1 + k - k = j + 1 := by omega
  have f3 : j + 1 + k - (j + k) = 1 := by omega
  unfold rotRight
  rw [mul_two_pow_mod (by omega), mul_two_pow_mod (by omega), mul_two_pow_mod (by omega), e1, e2, e3, f1, f2, f3]
  have hlow : y % 2 ^ (j + 1) = y % 2 ^ j + 2 ^ j * (y / 2 ^ j % 2) := by rw [Nat.pow_succ, Nat.mod_mul]
  have hdiv : y / 2 ^ (j + 1) = y / 2 ^ j / 2 := by rw [Nat.pow_succ, Nat.div_div_eq_div_mul]
  have hz : y / 2 ^ j + y % 2 ^ j * 2 ^ (k + 1) = 2 * (y % 2 ^ j * 2 ^ k) + y / 2 ^ j := by ring
  rw [hz, Nat.pow_one, Nat.mul_add_mod, Nat.mul_add_div (by norm_num), hlow, hdiv]
  ring

/-! ## One step after another -/

theorem repeatTimes_succ {α : Type} (f : α → α) (k : Nat) (a : α) : repeatTimes f (k + 1) a = f (repeatTimes f k a) := by
  induction k generalizing a with
  | zero => rfl
  | succ k ih => exact ih (f a)

/-- A carry on top of an operand as one number. -/
def carryValue {n : Nat} (p : Bool × BitVec n) : Nat := p.2.toNat + 2 ^ n * p.1.toNat

theorem carryValue_lt {n : Nat} (p : Bool × BitVec n) : carryValue p < 2 ^ (n + 1) := by
  have h1 := p.2.isLt
  have h2 := Bool.toNat_le p.1
  unfold carryValue
  rw [Nat.pow_succ]
  have : 2 ^ n * p.1.toNat ≤ 2 ^ n * 1 := Nat.mul_le_mul_left _ h2
  omega

theorem ofBool_setWidth_toNat {n : Nat} (hn : 0 < n) (b : Bool) : ((BitVec.ofBool b).setWidth n).toNat = b.toNat := by
  rw [BitVec.toNat_setWidth, BitVec.toNat_ofBool]
  have h1 := Bool.toNat_le b
  have h2 : 2 ^ 1 ≤ 2 ^ n := Nat.pow_le_pow_right (by norm_num) hn
  exact Nat.mod_eq_of_lt (by omega)

/-- RCL by one place turns operand and carry as one number (R473). -/
theorem rclStep_carryValue {n : Nat} (hn : 0 < n) (p : Bool × BitVec n) :
    carryValue (rclStep p) = rotLeft (n + 1) (carryValue p) 1 := by
  obtain ⟨b, x⟩ := p
  have hx := x.isLt
  have hb := Bool.toNat_le b
  have hp : 2 ^ n = 2 * 2 ^ (n - 1) := by rw [Nat.mul_comm, Nat.two_pow_pred_mul_two hn]
  have hor : ((x <<< 1) ||| (BitVec.ofBool b).setWidth n).toNat = x.toNat % 2 ^ (n - 1) * 2 + b.toNat := by
    rw [BitVec.toNat_or, BitVec.toNat_shiftLeft, Nat.shiftLeft_eq, mul_two_pow_mod hn, ofBool_setWidth_toNat hn,
      ← Nat.shiftLeft_eq, ← Nat.shiftLeft_add_eq_or_of_lt (by omega), Nat.shiftLeft_eq, Nat.pow_one]
  have hmsb : x.msb.toNat = x.toNat / 2 ^ (n - 1) := by
    rw [BitVec.msb_eq_decide]
    by_cases h : 2 ^ (n - 1) ≤ x.toNat
    · rw [decide_eq_true h, Bool.toNat_true]
      exact (Nat.div_eq_of_lt_le (by omega) (by omega)).symm
    · rw [decide_eq_false h]
      exact (Nat.div_eq_of_lt (by omega)).symm
  have hdm := Nat.div_add_mod x.toNat (2 ^ (n - 1))
  have hhigh : (x.toNat + 2 ^ n * b.toNat) / 2 ^ n = b.toNat := by
    rw [Nat.add_mul_div_left _ _ (by positivity), Nat.div_eq_of_lt hx, Nat.zero_add]
  have hlow : (x.toNat + 2 ^ n * b.toNat) % 2 ^ n = x.toNat := by
    rw [Nat.add_mul_mod_self_left, Nat.mod_eq_of_lt hx]
  unfold rotLeft carryValue rclStep
  simp only
  rw [hor, hmsb, mul_two_pow_mod (by omega), Nat.add_sub_cancel, hhigh, hlow, hp, Nat.mul_assoc]
  omega

/-- RCR by one place turns operand and carry as one number (R474). -/
theorem rcrStep_carryValue {n : Nat} (hn : 0 < n) (p : Bool × BitVec n) :
    carryValue (rcrStep p) = rotRight (n + 1) (carryValue p) 1 := by
  obtain ⟨b, x⟩ := p
  have hx := x.isLt
  have hb := Bool.toNat_le b
  have hp : 2 ^ n = 2 * 2 ^ (n - 1) := by rw [Nat.mul_comm, Nat.two_pow_pred_mul_two hn]
  have hor : ((x >>> 1) ||| ((BitVec.ofBool b).setWidth n <<< (n - 1))).toNat = b.toNat * 2 ^ (n - 1) + x.toNat / 2 := by
    have hsh : ((BitVec.ofBool b).setWidth n <<< (n - 1)).toNat = b.toNat <<< (n - 1) := by
      rw [BitVec.toNat_shiftLeft, ofBool_setWidth_toNat hn]
      refine Nat.mod_eq_of_lt ?_
      rw [Nat.shiftLeft_eq]
      exact lt_of_le_of_lt (Nat.mul_le_mul_right _ hb) (by omega)
    rw [BitVec.toNat_or, hsh, BitVec.toNat_ushiftRight, Nat.shiftRight_eq_div_pow, Nat.or_comm, Nat.pow_one,
      ← Nat.shiftLeft_add_eq_or_of_lt (by omega), Nat.shiftLeft_eq]
  have hbit : (x.getLsbD 0).toNat = x.toNat % 2 := by
    rw [BitVec.getLsbD, Nat.testBit_zero]
    rcases Nat.mod_two_eq_zero_or_one x.toNat with h | h <;> rw [h] <;> rfl
  have hy : x.toNat + 2 ^ n * b.toNat = 2 * (2 ^ (n - 1) * b.toNat) + x.toNat := by rw [hp]; ring
  unfold rotRight carryValue rcrStep
  simp only
  rw [hor, hbit, mul_two_pow_mod (by omega), Nat.add_sub_cancel, hy, Nat.pow_one,
    Nat.mul_add_div (by norm_num), show n + 1 - n = 1 by omega, Nat.pow_one, Nat.mul_add_mod]
  ring

/-- RCL turns operand and carry left as one number (R473). -/
theorem rcl_carryValue {n : Nat} (hn : 0 < n) (p : Bool × BitVec n) {j : Nat} (hj : j ≤ n + 1) :
    carryValue (repeatTimes rclStep j p) = rotLeft (n + 1) (carryValue p) j := by
  induction j with
  | zero => exact (rotLeft_zero (carryValue_lt p)).symm
  | succ j ih => rw [repeatTimes_succ, rclStep_carryValue hn, ih (by omega), rotLeft_succ (carryValue_lt p) hj]

/-- RCR turns operand and carry right as one number (R474). -/
theorem rcr_carryValue {n : Nat} (hn : 0 < n) (p : Bool × BitVec n) {j : Nat} (hj : j ≤ n + 1) :
    carryValue (repeatTimes rcrStep j p) = rotRight (n + 1) (carryValue p) j := by
  induction j with
  | zero => exact (rotRight_zero _ _).symm
  | succ j ih => rw [repeatTimes_succ, rcrStep_carryValue hn, ih (by omega), rotRight_succ hj]

/-! ## ROL, ROR and SAR -/

/-- The two parts of a rotation do not overlap (R471, R472). -/
theorem rotate_toNat {n : Nat} (x : BitVec n) {k : Nat} (hk : k ≤ n) :
    ((x <<< k) ||| (x >>> (n - k))).toNat = rotLeft n x.toNat k := by
  have hx := x.isLt
  have hlt : x.toNat / 2 ^ (n - k) < 2 ^ k := by
    rw [Nat.div_lt_iff_lt_mul (by positivity), ← Nat.pow_add]
    exact lt_of_lt_of_eq hx (congrArg (2 ^ ·) (by omega))
  rw [BitVec.toNat_or, BitVec.toNat_shiftLeft, BitVec.toNat_ushiftRight, Nat.shiftLeft_eq, Nat.shiftRight_eq_div_pow,
    rotLeft, mul_two_pow_mod hk, ← Nat.shiftLeft_eq, ← Nat.shiftLeft_add_eq_or_of_lt hlt]

theorem rotate_right_toNat {n : Nat} (x : BitVec n) {k : Nat} (hk : k ≤ n) :
    ((x >>> k) ||| (x <<< (n - k))).toNat = rotRight n x.toNat k := by
  have h := rotate_toNat x (Nat.sub_le n k)
  rw [Nat.sub_sub_self hk] at h
  rw [BitVec.or_comm, h, rotLeft, rotRight, Nat.sub_sub_self hk, Nat.add_comm]

/-- An odd signed value has its lowest bit set. -/
theorem toInt_emod_two {n : Nat} (hn : 0 < n) (x : BitVec n) : (x.toInt % 2 = 1) ↔ x.getLsbD 0 = true := by
  have hp : (2 : Int) ^ n = 2 * 2 ^ (n - 1) := by rw [← pow_succ', Nat.sub_add_cancel hn]
  have hbit : x.getLsbD 0 = true ↔ x.toNat % 2 = 1 := by
    rw [BitVec.getLsbD, Nat.testBit_zero, decide_eq_true_iff]
  rw [hbit, BitVec.toInt_eq_msb_cond]
  split
  · push_cast
    rw [hp]
    omega
  · omega

/-- The last bit that SAR moves out (R477). -/
theorem sar_carry {n : Nat} (x : BitVec n) (hn : 0 < n) {c : Nat} (hc : 0 < c) :
    (if c ≤ n then x.getLsbD (c - 1) else x.msb) = decide (x.toInt / 2 ^ (c - 1) % 2 = 1) := by
  have h := toInt_emod_two hn (x.sshiftRight (c - 1))
  rw [BitVec.toInt_sshiftRight, Int.shiftRight_eq_div_pow] at h
  push_cast at h
  rw [Bool.eq_iff_iff, decide_eq_true_iff, h, BitVec.getLsbD_sshiftRight]
  by_cases hcn : c ≤ n
  · simp [hcn, show c - 1 < n by omega, hn.ne']
  · simp [hcn, show ¬ c - 1 < n by omega, hn.ne']

theorem Size.bits_pos (sz : Size) : 0 < sz.bits := by cases sz <;> decide

/-- Settles O22. -/
theorem shiftResultsAreArithmetic : Obligations.ShiftResultsAreArithmetic := by
  intro sz x cf c hc _ n r k j y wide top
  have hn : 0 < n := sz.bits_pos
  have hk : k ≤ n := (Nat.mod_lt _ hn).le
  have hj : j ≤ n + 1 := (Nat.mod_lt _ (Nat.succ_pos n)).le
  refine ⟨rotate_toNat x hk, rfl, rotate_right_toNat x hk, rfl, ⟨_, rfl, rcl_carryValue hn (cf, x) hj⟩,
    ⟨_, rfl, rcr_carryValue hn (cf, x) hj⟩, ?_, rfl, ?_, rfl, ?_, ?_, ?_⟩
  · exact (BitVec.toNat_shiftLeft).trans (by rw [Nat.shiftLeft_eq])
  · exact (BitVec.toNat_ushiftRight x c).trans (Nat.shiftRight_eq_div_pow _ _)
  · exact (BitVec.toInt_sshiftRight).trans (by rw [Int.shiftRight_eq_div_pow]; push_cast; rfl)
  · exact congrArg some (sar_carry x hn hc)
  · rintro rfl
    refine ⟨?_, ?_, rfl, rfl⟩
    · rintro op b (rfl | rfl | rfl) h
      · obtain rfl := Option.some.inj h; rfl
      · obtain rfl := Option.some.inj h; rfl
      · obtain rfl := Option.some.inj ((if_pos (show 1 ≤ n from hn)).symm.trans h); rfl
    · rintro op (rfl | rfl) <;> rfl

end Sys2Proof.Machine
end


section
/-! The shift and rotate instructions (spec/43_logic_shift.md R470 to R481). -/

namespace Sys2Proof.Machine

/-! ## One operand (R470 to R477) -/

/-- The flags that a shift or rotate by `c` leaves undefined (R470). -/
def ShiftOp.free {n : Nat} (op : ShiftOp) (c : Nat) (r : Shifted n) : List StatusFlag :=
  (if r.cf = none then [StatusFlag.cf] else []) ++ (if c = 1 then [] else [StatusFlag.ov]) ++
    (if op.isRotate then [] else [StatusFlag.af])

/-- The flags that a shift or rotate by `c` defines (R470). -/
def ShiftOp.flags {n : Nat} (op : ShiftOp) (c : Nat) (r : Shifted n) (f : Flags) : Flags :=
  let g := if op.isRotate then f else f.szp r.value
  { g with cf := r.cf.getD g.cf, ov := if c = 1 then r.ov else g.ov }

theorem shiftFlags_apply {n : Nat} (op : ShiftOp) (c : Nat) (r : Shifted n) (s : State) :
    shiftFlags op c r s = .ok () (freeFlags (op.free c r) { s with flags := op.flags c r s.flags }) := by
  obtain ⟨v, cf, ov⟩ := r
  by_cases hc : c = 1 <;> cases cf <;> cases hr : op.isRotate <;>
    simp [shiftFlags, ShiftOp.free, ShiftOp.flags, hc, hr, freeFlags, Flags.put]

/-- What a shift or rotate of a place by a count leaves (R470). -/
def ShiftOp.done (op : ShiftOp) (sz : Size) (p : Place) (cf : Bool) (t : State) (count : Nat) : State :=
  let c := count % 32
  let r := shifted op (t.valueAt sz p) cf c
  if c = 0 then t
  else freeFlags (op.free c r) { t.withValue sz p r.value with flags := op.flags c r t.flags }

theorem ShiftOp.done_sameOutside (op : ShiftOp) (sz : Size) (p : Place) (cf : Bool) (t : State) (count : Nat) :
    sameOutside p.bytes t.mem (op.done sz p cf t count).mem := by
  unfold ShiftOp.done
  dsimp only
  split
  · exact fun _ _ => rfl
  · rw [freeFlags_mem]
    exact withValue_sameOutside t sz p _

section
variable {s t : State} {w : Bool} {rm : RM} {p : Place}

theorem shiftRM_ok (op : ShiftOp) (count : Nat) (h : place (s.sizeOf w) rm true s = .ok p t) :
    shiftRM op w rm count s = .ok () (op.done (s.sizeOf w) p s.flags.cf t count) := by
  by_cases hc : count % 32 = 0
  · simp only [shiftRM, exec_bind_apply, getState_apply, h, readPlace_apply, ShiftOp.done, if_pos hc, exec_pure_apply]
  · simp only [shiftRM, exec_bind_apply, getState_apply, h, readPlace_apply, ShiftOp.done, if_neg hc, writePlace_apply,
      shiftFlags_apply, withValue_flags]

theorem shiftRMCl_ok (op : ShiftOp) (h : place (s.sizeOf w) rm true s = .ok p t) :
    shiftRMCl op w rm s = .ok () (op.done (s.sizeOf w) p s.flags.cf t (s.regs.get8 .ecx).toNat) := by
  simp only [shiftRMCl, exec_bind_apply, getState_apply, shiftRM_ok op _ h]

end

/-- The three forms of a shift or rotate (R286). -/
def ShiftForms (op : ShiftOp) (one cl : Bool → RM → Instr) (imm : Bool → RM → BitVec 8 → Instr) : Prop :=
  ∀ (w : Bool) (rm : RM) (n : BitVec 8) (s : State),
    exec (one w rm) s = runInstr (shiftRM op w rm 1) s ∧ exec (cl w rm) s = runInstr (shiftRMCl op w rm) s ∧
    exec (imm w rm n) s = runInstr (shiftRM op w rm n.toNat) s

/-- Every row of the table is a shift or rotate by its operation. -/
theorem shiftForms_of_mem {op : ShiftOp} {one cl : Bool → RM → Instr} {imm : Bool → RM → BitVec 8 → Instr}
    (h : (op, one, cl, imm) ∈
      [(ShiftOp.rol, Instr.rolOne, Instr.rolCl, Instr.rolImm), (ShiftOp.ror, Instr.rorOne, Instr.rorCl, Instr.rorImm),
       (ShiftOp.rcl, Instr.rclOne, Instr.rclCl, Instr.rclImm), (ShiftOp.rcr, Instr.rcrOne, Instr.rcrCl, Instr.rcrImm),
       (ShiftOp.shl, Instr.shlOne, Instr.shlCl, Instr.shlImm), (ShiftOp.shr, Instr.shrOne, Instr.shrCl, Instr.shrImm),
       (ShiftOp.sar, Instr.sarOne, Instr.sarCl, Instr.sarImm)]) : ShiftForms op one cl imm := by
  simp only [List.mem_cons, Prod.mk.injEq, List.not_mem_nil, or_false] at h
  obtain ⟨rfl, rfl, rfl, rfl⟩ | ⟨rfl, rfl, rfl, rfl⟩ | ⟨rfl, rfl, rfl, rfl⟩ | ⟨rfl, rfl, rfl, rfl⟩ |
    ⟨rfl, rfl, rfl, rfl⟩ | ⟨rfl, rfl, rfl, rfl⟩ | ⟨rfl, rfl, rfl, rfl⟩ := h
  all_goals exact fun _ _ _ _ => ⟨rfl, rfl, rfl⟩

theorem ShiftOp.isRotate_eq (op : ShiftOp) :
    op.isRotate = (op == .rol || op == .ror || op == .rcl || op == .rcr) := by
  cases op <;> rfl

/-- Settles O21. -/
theorem shiftsAndRotatesWriteResultAndFlags : Obligations.ShiftsAndRotatesWriteResultAndFlags := by
  intro op one cl imm hmem s t w rm n p sz rotate after hp
  have hafter : ∀ count, after count = op.done sz p s.flags.cf t count := by
    intro count
    simp only [ShiftOp.done, ShiftOp.free, ShiftOp.flags, op.isRotate_eq]
    rfl
  obtain ⟨hone, hcl, himm⟩ := shiftForms_of_mem hmem w rm n s
  rw [hone, hcl, himm, hafter, hafter, hafter]
  refine ⟨runInstr_ok (shiftRM_ok op 1 hp), runInstr_ok (shiftRMCl_ok op hp), runInstr_ok (shiftRM_ok op n.toNat hp),
    fun c => ?_⟩
  rw [hafter]
  exact op.done_sameOutside sz p _ t c

/-! ## Two operands shifted as one (R480, R481) -/

/-- SHLD takes the high part of operand and register shifted left as one (R480). -/
theorem shldResult_eq {n : Nat} (x y : BitVec n) {c : Nat} (hc : c ≤ n) :
    shldResult x y c = BitVec.ofNat n ((x.toNat * 2 ^ n + y.toNat) * 2 ^ c / 2 ^ n) := by
  have hy := y.isLt
  have hlt : y.toNat / 2 ^ (n - c) < 2 ^ c := by
    rw [Nat.div_lt_iff_lt_mul (by positivity), ← Nat.pow_add]
    exact lt_of_lt_of_eq hy (congrArg (2 ^ ·) (by omega))
  have hsplit : (x.toNat * 2 ^ n + y.toNat) * 2 ^ c / 2 ^ n = 2 ^ c * x.toNat + y.toNat / 2 ^ (n - c) := by
    have e : 2 ^ n = 2 ^ (n - c) * 2 ^ c := by rw [← Nat.pow_add, Nat.sub_add_cancel hc]
    have h1 : (x.toNat * 2 ^ n + y.toNat) * 2 ^ c = y.toNat * 2 ^ c + 2 ^ n * (2 ^ c * x.toNat) := by ring
    rw [h1, Nat.add_mul_div_left _ _ (by positivity)]
    nth_rewrite 1 [e]
    rw [Nat.mul_div_mul_right _ _ (by positivity), Nat.add_comm]
  apply BitVec.eq_of_toNat_eq
  rw [shldResult, BitVec.toNat_ofNat, hsplit, BitVec.toNat_or, BitVec.toNat_shiftLeft, BitVec.toNat_ushiftRight,
    Nat.shiftLeft_eq, Nat.shiftRight_eq_div_pow, mul_two_pow_mod hc, ← Nat.shiftLeft_eq,
    ← Nat.shiftLeft_add_eq_or_of_lt hlt, Nat.shiftLeft_eq, ← mul_two_pow_mod hc, Nat.mul_comm x.toNat, Nat.add_mod,
    Nat.mod_eq_of_lt (lt_of_lt_of_le hlt (Nat.pow_le_pow_right (by norm_num) hc))]
  refine (Nat.mod_eq_of_lt ?_).symm
  have hm := mul_two_pow_mod hc x.toNat
  rw [Nat.mul_comm] at hm
  have hx : x.toNat % 2 ^ (n - c) < 2 ^ (n - c) := Nat.mod_lt _ (by positivity)
  calc 2 ^ c * x.toNat % 2 ^ n + y.toNat / 2 ^ (n - c)
      < x.toNat % 2 ^ (n - c) * 2 ^ c + 2 ^ c := by omega
    _ = (x.toNat % 2 ^ (n - c) + 1) * 2 ^ c := by ring
    _ ≤ 2 ^ (n - c) * 2 ^ c := Nat.mul_le_mul_right _ hx
    _ = 2 ^ n := by rw [← Nat.pow_add, Nat.sub_add_cancel hc]

/-- SHRD takes the low part of register and operand shifted right as one (R481). -/
theorem shrdResult_eq {n : Nat} (x y : BitVec n) {c : Nat} (hc : c ≤ n) :
    shrdResult x y c = BitVec.ofNat n ((y.toNat * 2 ^ n + x.toNat) / 2 ^ c) := by
  have hx := x.isLt
  have hlt : x.toNat / 2 ^ c < 2 ^ (n - c) := by
    rw [Nat.div_lt_iff_lt_mul (by positivity), ← Nat.pow_add, Nat.sub_add_cancel hc]
    exact hx
  have hsplit : (y.toNat * 2 ^ n + x.toNat) / 2 ^ c = y.toNat * 2 ^ (n - c) + x.toNat / 2 ^ c := by
    have e : y.toNat * 2 ^ n + x.toNat = x.toNat + 2 ^ c * (y.toNat * 2 ^ (n - c)) := by
      rw [show 2 ^ n = 2 ^ (n - c) * 2 ^ c by rw [← Nat.pow_add, Nat.sub_add_cancel hc]]
      ring
    rw [e, Nat.add_mul_div_left _ _ (by positivity), Nat.add_comm]
  have hm := mul_two_pow_mod (Nat.sub_le n c) y.toNat
  rw [Nat.sub_sub_self hc] at hm
  have hy : y.toNat % 2 ^ c < 2 ^ c := Nat.mod_lt _ (by positivity)
  have hsum : y.toNat % 2 ^ c * 2 ^ (n - c) + x.toNat / 2 ^ c < 2 ^ n :=
    calc y.toNat % 2 ^ c * 2 ^ (n - c) + x.toNat / 2 ^ c
        < y.toNat % 2 ^ c * 2 ^ (n - c) + 2 ^ (n - c) := by omega
      _ = (y.toNat % 2 ^ c + 1) * 2 ^ (n - c) := by ring
      _ ≤ 2 ^ c * 2 ^ (n - c) := Nat.mul_le_mul_right _ hy
      _ = 2 ^ n := by rw [← Nat.pow_add, Nat.add_comm, Nat.sub_add_cancel hc]
  apply BitVec.eq_of_toNat_eq
  rw [shrdResult, BitVec.toNat_ofNat, hsplit, BitVec.or_comm, BitVec.toNat_or, BitVec.toNat_shiftLeft,
    BitVec.toNat_ushiftRight, Nat.shiftLeft_eq, Nat.shiftRight_eq_div_pow, hm, ← Nat.shiftLeft_eq,
    ← Nat.shiftLeft_add_eq_or_of_lt hlt, Nat.shiftLeft_eq, Nat.add_mod, hm,
    Nat.mod_eq_of_lt (lt_of_le_of_lt (Nat.le_add_left _ _) hsum), Nat.mod_eq_of_lt hsum]

section
variable {s t : State} {rm : RM} {p : Place}

/-- What SHLD or SHRD by `c`, 1 to the operand size, leaves (R480, R481). -/
def doubleDone (sz : Size) (p : Place) (t : State) (z : BitVec sz.bits) (cf : Bool) (c : Nat) : State :=
  freeFlags ((if c = 1 then [] else [StatusFlag.ov]) ++ [.af])
    { t.withValue sz p z with
      flags := { t.flags.szp z with cf := cf, ov := if c = 1 then z.msb ^^ (t.valueAt sz p).msb else t.flags.ov } }

theorem shiftDouble_zero (r : Reg) {count : Nat} (f : {n : Nat} → BitVec n → BitVec n → Nat → BitVec n)
    (g : {n : Nat} → BitVec n → Nat → Bool) (hc : count % 32 = 0) : shiftDouble rm r count f g s = .ok () s := by
  simp only [shiftDouble, if_pos hc, exec_pure_apply]

theorem shiftDouble_ok (r : Reg) {count : Nat} (f : {n : Nat} → BitVec n → BitVec n → Nat → BitVec n)
    (g : {n : Nat} → BitVec n → Nat → Bool) (h : place s.opSize rm true s = .ok p t) (hc : 0 < count % 32)
    (hn : count % 32 ≤ s.opSize.bits) :
    shiftDouble rm r count f g s =
      .ok () (doubleDone s.opSize p t (f (t.valueAt s.opSize p) (t.regs.read s.opSize r) (count % 32))
        (g (t.valueAt s.opSize p) (count % 32)) (count % 32)) := by
  simp only [shiftDouble, if_neg (Nat.ne_of_gt hc), exec_bind_apply, getState_apply, h, readPlace_apply, readReg_apply,
    if_neg (Nat.not_lt.mpr hn), writePlace_apply, updateFlags_apply, withValue_flags, doubleDone]
  by_cases h1 : count % 32 = 1
  · simp only [if_pos h1]
    rfl
  · simp only [if_neg h1]
    rfl

theorem shiftDouble_beyond (r : Reg) {count : Nat} (f : {n : Nat} → BitVec n → BitVec n → Nat → BitVec n)
    (g : {n : Nat} → BitVec n → Nat → Bool) (h : place s.opSize rm true s = .ok p t)
    (hn : s.opSize.bits < count % 32) :
    shiftDouble rm r count f g s =
      .ok () (freeFlags allStatus
        { t.withValue s.opSize p ((Config.freeValue t.draws).setWidth _) with draws := t.draws + 1 }) := by
  have hc : count % 32 ≠ 0 := by omega
  simp only [shiftDouble, if_neg hc, exec_bind_apply, getState_apply, h, readPlace_apply, readReg_apply, if_pos hn,
    draw_apply, writePlace_apply, undefined_apply]
  cases p <;> rfl

end

/-- SHLD and SHRD by the same count, which the instruction holds or CL does (R480, R481). -/
def DoubleForms (s : State) (rm : RM) (r : Reg) (count : Nat) (shld shrd : Instr) : Prop :=
  exec shld s = runInstr (shiftDouble rm r count shldResult shldCarry) s ∧
  exec shrd s = runInstr (shiftDouble rm r count shrdResult shrdCarry) s

theorem doubleForms_of_mem {s : State} {rm : RM} {r : Reg} {n : BitVec 8} {count : Nat} {shld shrd : Instr}
    (h : (count, shld, shrd) ∈ [(n.toNat, Instr.shldImm rm r n, Instr.shrdImm rm r n),
      ((s.regs.get8 .ecx).toNat, Instr.shldCl rm r, Instr.shrdCl rm r)]) : DoubleForms s rm r count shld shrd := by
  simp only [List.mem_cons, Prod.mk.injEq, List.not_mem_nil, or_false] at h
  obtain ⟨rfl, rfl, rfl⟩ | ⟨rfl, rfl, rfl⟩ := h
  · exact ⟨rfl, rfl⟩
  · exact ⟨runInstr_congr (by simp only [exec_bind_apply, getState_apply]),
      runInstr_congr (by simp only [exec_bind_apply, getState_apply])⟩

/-- Settles O23. -/
theorem doubleShiftsMoveBitsOfTheRegisterIn : Obligations.DoubleShiftsMoveBitsOfTheRegisterIn := by
  intro s t rm r n p sz forms
  refine ⟨fun count shld shrd hmem hc => ?_, ?_⟩
  · obtain ⟨hl, hr⟩ := doubleForms_of_mem hmem
    exact ⟨hl.trans (runInstr_ok (shiftDouble_zero r _ _ hc)), hr.trans (runInstr_ok (shiftDouble_zero r _ _ hc))⟩
  · intro hp x y bits done left right count shld shrd hmem c
    obtain ⟨hl, hr⟩ := doubleForms_of_mem hmem
    refine ⟨fun h0 hn => ⟨?_, ?_⟩, fun hn i hi => ?_, fun z cf k => ?_⟩
    · rw [hl, runInstr_ok (shiftDouble_ok r shldResult shldCarry hp h0 hn), shldResult_eq _ _ hn]
      rfl
    · rw [hr, runInstr_ok (shiftDouble_ok r shrdResult shrdCarry hp h0 hn), shrdResult_eq _ _ hn]
      rfl
    · obtain rfl | rfl := hi
      · exact ⟨_, hl.trans (runInstr_ok (shiftDouble_beyond r shldResult shldCarry hp hn))⟩
      · exact ⟨_, hr.trans (runInstr_ok (shiftDouble_beyond r shrdResult shrdCarry hp hn))⟩
    · simp only [done, freeFlags_mem]
      exact withValue_sameOutside t sz p z

end Sys2Proof.Machine
end


section
/-! The string instructions and their repetition (spec/44_string.md R510 to R519). -/

namespace Sys2Proof.Machine

/-! ## Index registers (R510, R511) -/

theorem putLow16_eq (old : Dword) (v : Word) : putLow16 old v = old.extractLsb' 16 16 ++ v := rfl

theorem low16_eq (v : Dword) : low16 v = v.extractLsb' 0 16 := by
  ext i hi
  simp [low16]

/-- An index register moved by an element of `n` bytes (R511). -/
def movedIndex (addr32 df : Bool) (n : Nat) (i : Dword) : Dword :=
  let d : Int := if df then -n else n
  if addr32 then BitVec.ofInt 32 (i.toInt + d) else i.extractLsb' 16 16 ++ BitVec.ofInt 16 (i.toInt + d)

theorem add_ofNat_eq_ofInt {m n : Nat} (v : BitVec n) (h : m ≤ n) (k : Nat) :
    v.setWidth m + BitVec.ofNat m k = BitVec.ofInt m (v.toInt + k) := by
  rw [BitVec.ofInt_add, BitVec.ofInt_natCast]
  congr 1
  apply BitVec.eq_of_toInt_eq
  rw [BitVec.toInt_ofInt, BitVec.toInt_setWidth, BitVec.toInt_eq_toNat_bmod]
  rw [Int.bmod_bmod_of_dvd (by exact_mod_cast Nat.pow_dvd_pow 2 h)]

theorem sub_ofNat_eq_ofInt {m n : Nat} (v : BitVec n) (h : m ≤ n) (k : Nat) :
    v.setWidth m - BitVec.ofNat m k = BitVec.ofInt m (v.toInt + -k) := by
  rw [BitVec.sub_eq_add_neg, BitVec.ofInt_add, BitVec.ofInt_neg, BitVec.ofInt_natCast]
  congr 1
  have e := add_ofNat_eq_ofInt v h 0
  simpa using e

theorem indexAfter_eq (s : State) (v : Dword) (n : Nat) :
    indexAfter s v n = movedIndex s.ctx.addr32 s.flags.df n v := by
  have a32 := add_ofNat_eq_ofInt v (le_refl 32) n
  have s32 := sub_ofNat_eq_ofInt v (le_refl 32) n
  have a16 := add_ofNat_eq_ofInt v (show 16 ≤ 32 by norm_num) n
  have s16 := sub_ofNat_eq_ofInt v (show 16 ≤ 32 by norm_num) n
  rw [BitVec.setWidth_eq] at a32 s32
  unfold indexAfter movedIndex low16
  cases s.ctx.addr32 <;> cases s.flags.df <;>
    simp only [Bool.false_eq_true, if_false, if_true, a32, s32, a16, s16, putLow16_eq]

/-- SI or ESI moved to the next element. -/
def State.siMoved (a : State) (n : Nat) : State :=
  { a with regs := { a.regs with esi := movedIndex a.ctx.addr32 a.flags.df n a.regs.esi } }

/-- DI or EDI moved to the next element. -/
def State.diMoved (a : State) (n : Nat) : State :=
  { a with regs := { a.regs with edi := movedIndex a.ctx.addr32 a.flags.df n a.regs.edi } }

theorem stepSi_apply (n : Nat) (s : State) : stepSi n s = .ok () (s.siMoved n) := by
  simp only [stepSi, update_apply, indexAfter_eq, State.siMoved]

theorem stepDi_apply (n : Nat) (s : State) : stepDi n s = .ok () (s.diMoved n) := by
  simp only [stepDi, update_apply, indexAfter_eq, State.diMoved]

/-! ## The elements (R513 to R519) -/

section
variable {s t u : State} {w : Bool} {v x : Dword} {sp : List Nat}

theorem finds_keeps {α : Type} {y : Exec α} (hy : Finds y) {a : α} (h : y s = .ok a t) :
    t.regs = s.regs ∧ t.flags = s.flags ∧ t.ctx = s.ctx := by
  obtain ⟨hr, -, hf, -, -, -, -, hc, -⟩ := accessed_keeps (hy s a t h)
  exact ⟨hr, hf, hc⟩

theorem stringSource_ok {sz : Size} (h : memRead (s.ctx.seg.getD .ds) (indexOffset s s.regs.esi) sz.bytes s = .ok v t) :
    stringSource sz s = .ok (v.setWidth sz.bits) t := by
  simp only [stringSource, exec_bind_apply, getState_apply, overridden, h, exec_pure_apply]

theorem stringDest_ok {sz : Size} (h : memRead .es (indexOffset s s.regs.edi) sz.bytes s = .ok v t) :
    stringDest sz s = .ok (v.setWidth sz.bits) t := by
  simp only [stringDest, exec_bind_apply, getState_apply, h, exec_pure_apply]

theorem stringDestSpan_ok {sz : Size} (h : segSpan .es (indexOffset s s.regs.edi) sz.bytes true s = .ok sp t) :
    stringDestSpan sz s = .ok sp t := by
  simp only [stringDestSpan, exec_bind_apply, getState_apply, h]

theorem lodsElement_ok (h : memRead (s.ctx.seg.getD .ds) (indexOffset s s.regs.esi) (s.sizeOf w).bytes s = .ok v t) :
    lodsElement w s =
      .ok () ((t.withValue (s.sizeOf w) (.reg .eax) (v.setWidth _)).siMoved (s.sizeOf w).bytes) := by
  simp only [lodsElement, exec_bind_apply, getState_apply, stringSource_ok h, writeReg_apply, stepSi_apply,
    withValue_reg]

theorem movsElement_ok (h : memRead (s.ctx.seg.getD .ds) (indexOffset s s.regs.esi) (s.sizeOf w).bytes s = .ok v t)
    (hd : segSpan .es (indexOffset s s.regs.edi) (s.sizeOf w).bytes true t = .ok sp u) :
    movsElement w s =
      .ok () (({ u with mem := u.mem.store sp ((v.setWidth (s.sizeOf w).bits).setWidth 32) }.siMoved
        (s.sizeOf w).bytes).diMoved (s.sizeOf w).bytes) := by
  obtain ⟨hr, -, hc⟩ := finds_keeps (finds_memRead _ _ _) h
  have hd' : segSpan .es (indexOffset t t.regs.edi) (s.sizeOf w).bytes true t = .ok sp u := by
    rw [hr, show indexOffset t = indexOffset s by unfold indexOffset; rw [hc]]
    exact hd
  simp only [movsElement, exec_bind_apply, getState_apply, stringSource_ok h, stringDestSpan_ok hd', storeSpan_apply,
    stepSi_apply, stepDi_apply]

theorem cmpsElement_ok (h : memRead (s.ctx.seg.getD .ds) (indexOffset s s.regs.esi) (s.sizeOf w).bytes s = .ok v t)
    (hd : memRead .es (indexOffset s s.regs.edi) (s.sizeOf w).bytes t = .ok x u) :
    cmpsElement w s =
      .ok () (({ u with flags := u.flags.sub (v.setWidth (s.sizeOf w).bits) (x.setWidth (s.sizeOf w).bits) false }.siMoved
        (s.sizeOf w).bytes).diMoved (s.sizeOf w).bytes) := by
  obtain ⟨hr, -, hc⟩ := finds_keeps (finds_memRead _ _ _) h
  have hd' : memRead .es (indexOffset t t.regs.edi) (s.sizeOf w).bytes t = .ok x u := by
    rw [hr, show indexOffset t = indexOffset s by unfold indexOffset; rw [hc]]
    exact hd
  simp only [cmpsElement, exec_bind_apply, getState_apply, stringSource_ok h, stringDest_ok hd', updateFlags_apply,
    stepSi_apply, stepDi_apply]

theorem scasElement_ok (h : memRead .es (indexOffset s s.regs.edi) (s.sizeOf w).bytes s = .ok v t) :
    scasElement w s =
      .ok () ({ t with flags := t.flags.sub (t.regs.read (s.sizeOf w) .eax) (v.setWidth _) false }.diMoved
        (s.sizeOf w).bytes) := by
  simp only [scasElement, exec_bind_apply, getState_apply, stringDest_ok h, readReg_apply, updateFlags_apply,
    stepDi_apply]

theorem stosElement_ok (h : segSpan .es (indexOffset s s.regs.edi) (s.sizeOf w).bytes true s = .ok sp t) :
    stosElement w s =
      .ok () ({ t with mem := t.mem.store sp ((t.regs.read (s.sizeOf w) .eax).setWidth 32) }.diMoved
        (s.sizeOf w).bytes) := by
  simp only [stosElement, exec_bind_apply, getState_apply, stringDestSpan_ok h, readReg_apply, storeSpan_apply,
    stepDi_apply]

/-! ## Ports -/

theorem ioRead_ok {port : Word} {sz : Size} (h : port.toNat + sz.bytes ≤ 2 ^ 16) (s : State) :
    ioRead port sz s =
      .ok ((Config.freeValue s.draws).setWidth sz.bits)
        { s with draws := s.draws + 1
                 bus := .ioRead port sz.bytes (((Config.freeValue s.draws).setWidth sz.bits).setWidth 32) :: s.bus } := by
  have hp : ¬ 0x10000 < port.toNat + sz.bytes := by omega
  simp only [ioRead, portRange, if_neg hp, exec_bind_apply, exec_pure_apply, draw_apply, emit_apply]

theorem ioWrite_ok {port : Word} {sz : Size} (h : port.toNat + sz.bytes ≤ 2 ^ 16) (v : BitVec sz.bits) (s : State) :
    ioWrite port sz v s = .ok () { s with bus := .ioWrite port sz.bytes (v.setWidth 32) :: s.bus } := by
  have hp : ¬ 0x10000 < port.toNat + sz.bytes := by omega
  simp only [ioWrite, portRange, if_neg hp, exec_bind_apply, exec_pure_apply, emit_apply]

theorem finds_portPermitted (base port : Nat) : Finds (portPermitted base port) :=
  finds_bind finds_getState fun _ => finds_ite _ (finds_pure _) (finds_bind (finds_linRead _ _) fun _ => finds_pure _)

theorem finds_portsPermitted (base port n : Nat) : Finds (portsPermitted base port n) := by
  induction n generalizing port with
  | zero => exact finds_pure _
  | succ n ih => exact finds_bind (finds_portPermitted _ _) fun _ => finds_ite _ (ih _) (finds_pure _)

theorem finds_ioCheck (port : Word) (n : Nat) : Finds (ioCheck port n) := by
  refine finds_bind finds_getState fun _ => finds_ite _ (finds_bind ?_ fun _ => finds_require _ _) (finds_pure _)
  exact finds_bind finds_getState fun _ => finds_ite _ (finds_pure _)
    (finds_bind (finds_linRead _ _) fun _ => finds_portsPermitted _ _ _)

theorem insElement_ok {port : Word} (hp : port = low16 s.regs.edx) (hio : ioCheck port (s.sizeOf w).bytes s = .ok () t)
    (hr : port.toNat + (s.sizeOf w).bytes ≤ 2 ^ 16)
    (hd : segSpan .es (indexOffset s s.regs.edi) (s.sizeOf w).bytes true t = .ok sp u) :
    insElement w s =
      let x : BitVec (s.sizeOf w).bits := (Config.freeValue u.draws).setWidth _
      .ok () ({ u with draws := u.draws + 1, bus := .ioRead port (s.sizeOf w).bytes (x.setWidth 32) :: u.bus
                       mem := u.mem.store sp (x.setWidth 32) }.diMoved (s.sizeOf w).bytes) := by
  subst hp
  obtain ⟨hregs, -, hc⟩ := finds_keeps (finds_ioCheck _ _) hio
  have hd' : segSpan .es (indexOffset t t.regs.edi) (s.sizeOf w).bytes true t = .ok sp u := by
    rw [hregs, show indexOffset t = indexOffset s by unfold indexOffset; rw [hc]]
    exact hd
  simp only [insElement, exec_bind_apply, getState_apply, hio, stringDestSpan_ok hd', ioRead_ok hr, storeSpan_apply,
    stepDi_apply]

theorem outsElement_ok {port : Word} (hp : port = low16 s.regs.edx) (hio : ioCheck port (s.sizeOf w).bytes s = .ok () t)
    (hr : port.toNat + (s.sizeOf w).bytes ≤ 2 ^ 16)
    (hs : memRead (s.ctx.seg.getD .ds) (indexOffset s s.regs.esi) (s.sizeOf w).bytes t = .ok v u) :
    outsElement w s =
      .ok () ({ u with bus := .ioWrite port (s.sizeOf w).bytes ((v.setWidth (s.sizeOf w).bits).setWidth 32) :: u.bus
                }.siMoved (s.sizeOf w).bytes) := by
  subst hp
  obtain ⟨hregs, -, hc⟩ := finds_keeps (finds_ioCheck _ _) hio
  have hs' : memRead (t.ctx.seg.getD .ds) (indexOffset t t.regs.esi) (s.sizeOf w).bytes t = .ok v u := by
    rw [hregs, show indexOffset t = indexOffset s by unfold indexOffset; rw [hc], hc]
    exact hs
  simp only [outsElement, exec_bind_apply, getState_apply, hio, stringSource_ok hs', ioWrite_ok hr, stepSi_apply]

end

/-- Without a repeat prefix a string instruction is its element (R512). -/
theorem repeated_off {s : State} (h : s.ctx.rep = .off) (compares : Bool) (element : Exec Unit) :
    repeated compares element s = element s := by
  simp only [repeated, exec_bind_apply, getState_apply, if_pos h]

/-- An element done, by itself and by the instruction without a repeat prefix. -/
theorem element_done {s a : State} {element : Exec Unit} {compares : Bool} {i : Instr} (h : element s = .ok () a)
    (hi : exec i s = runInstr (repeated compares element) s) :
    element s = .ok () a ∧ (s.ctx.rep = .off → exec i s = .next (retire s.flags.tf a)) :=
  ⟨h, fun hr => hi.trans (runInstr_ok ((repeated_off hr _ _).trans h))⟩

/-- Settles O24: each clause is the lemma about its element; accesses leave DF and the address size alone. -/
theorem stringElementsMoveTheirIndexes : Obligations.StringElementsMoveTheirIndexes := by
  intro s t u w v x sp sz n at_ moved si di source target val acc stored port does
  have hat : ∀ i, at_ i = indexOffset s i := fun i => (indexOffset_eq s i).symm
  have hsi : ∀ a : State, a.ctx = s.ctx → a.flags.df = s.flags.df → si a = a.siMoved n := by
    intro a hc hf
    rw [State.siMoved, show movedIndex a.ctx.addr32 a.flags.df = movedIndex s.ctx.addr32 s.flags.df by rw [hc, hf]]
    rfl
  have hdi : ∀ a : State, a.ctx = s.ctx → a.flags.df = s.flags.df → di a = a.diMoved n := by
    intro a hc hf
    rw [State.diMoved, show movedIndex a.ctx.addr32 a.flags.df = movedIndex s.ctx.addr32 s.flags.df by rw [hc, hf]]
    rfl
  have hsource : source = memRead (s.ctx.seg.getD .ds) (indexOffset s s.regs.esi) n := by
    simp only [source, hat]
  have htarget : target = indexOffset s s.regs.edi := hat _
  clear_value source target si di
  subst hsource htarget
  refine ⟨fun hs => ?_, fun hs => ?_, fun hs => ?_, fun hio hp => ?_, fun a v => store_sameOutside sp v a.mem⟩
  · obtain ⟨hr, hf, hc⟩ := finds_keeps (finds_memRead _ _ _) hs
    refine ⟨element_done ?_ rfl, fun hd => element_done ?_ rfl, fun hd => element_done ?_ rfl⟩
    · rw [lodsElement_ok hs, hsi]
      exacts [hc, by rw [withValue_flags, hf]]
    · obtain ⟨-, hf', hc'⟩ := finds_keeps (finds_segSpan _ _ _ _) hd
      rw [movsElement_ok hs hd, hsi, hdi]
      exacts [hc'.trans hc, by rw [← hf, ← hf']; rfl, hc'.trans hc, by rw [← hf, ← hf']]
    · obtain ⟨-, hf', hc'⟩ := finds_keeps (finds_memRead _ _ _) hd
      rw [cmpsElement_ok hs hd, hsi, hdi]
      exacts [hc'.trans hc, by rw [← hf, ← hf']; rfl, hc'.trans hc, by rw [← hf, ← hf']; rfl]
  · obtain ⟨hr, hf, hc⟩ := finds_keeps (finds_memRead _ _ _) hs
    refine element_done ?_ rfl
    rw [scasElement_ok hs, hdi]
    exacts [hc, by rw [← hf]; rfl]
  · obtain ⟨hr, hf, hc⟩ := finds_keeps (finds_segSpan _ _ _ _) hs
    refine element_done ?_ rfl
    rw [stosElement_ok hs, hdi]
    exacts [hc, by rw [← hf]]
  · obtain ⟨hr, hf, hc⟩ := finds_keeps (finds_ioCheck _ _) hio
    have hport : port = low16 s.regs.edx := (low16_eq _).symm
    refine ⟨fun hd => ⟨(Config.freeValue u.draws).setWidth _, element_done ?_ rfl⟩, fun hd => element_done ?_ rfl⟩
    · obtain ⟨-, hf', hc'⟩ := finds_keeps (finds_segSpan _ _ _ _) hd
      rw [insElement_ok hport hio hp hd, hdi]
      exacts [hc'.trans hc, by rw [← hf, ← hf']]
    · obtain ⟨-, hf', hc'⟩ := finds_keeps (finds_memRead _ _ _) hd
      rw [outsElement_ok hport hio hp hd, hsi]
      exacts [hc'.trans hc, by rw [← hf, ← hf']]

/-! ## Repetition (R512) -/

/-- A computation that leaves the context of its instruction alone. -/
def KeepsCtx {α : Type} (x : Exec α) : Prop := ∀ s a t, x s = .ok a t → t.ctx = s.ctx

section
variable {α β : Type}

theorem keepsCtx_of_finds {x : Exec α} (h : Finds x) : KeepsCtx x := fun _ _ _ e => (finds_keeps h e).2.2

theorem keepsCtx_bind {x : Exec α} {f : α → Exec β} (hx : KeepsCtx x) (hf : ∀ a, KeepsCtx (f a)) :
    KeepsCtx (x >>= f) := by
  intro s b t h
  obtain ⟨a, u, h1, h2⟩ := exec_bind_ok h
  exact (hf a u b t h2).trans (hx s a u h1)

theorem keepsCtx_ok {x : Exec α} (h : ∀ s, ∃ a t, x s = .ok a t ∧ t.ctx = s.ctx) : KeepsCtx x := by
  intro s b t e
  obtain ⟨a, u, hx, hc⟩ := h s
  rw [hx] at e
  cases e
  exact hc

theorem keepsCtx_getState : KeepsCtx getState := keepsCtx_of_finds finds_getState

theorem keepsCtx_stepSi (n : Nat) : KeepsCtx (stepSi n) := keepsCtx_ok fun _ => ⟨_, _, rfl, rfl⟩

theorem keepsCtx_stepDi (n : Nat) : KeepsCtx (stepDi n) := keepsCtx_ok fun _ => ⟨_, _, rfl, rfl⟩

theorem keepsCtx_updateFlags (f : Flags → Flags) : KeepsCtx (updateFlags f) := keepsCtx_ok fun _ => ⟨_, _, rfl, rfl⟩

theorem keepsCtx_readReg (sz : Size) (r : Reg) : KeepsCtx (readReg sz r) := keepsCtx_ok fun _ => ⟨_, _, rfl, rfl⟩

theorem keepsCtx_writeReg (sz : Size) (r : Reg) (v : BitVec sz.bits) : KeepsCtx (writeReg sz r v) :=
  keepsCtx_ok fun _ => ⟨_, _, rfl, rfl⟩

theorem keepsCtx_storeSpan (sp : List Nat) (v : Dword) : KeepsCtx (storeSpan sp v) :=
  keepsCtx_of_finds (finds_storeSpan sp v)

theorem keepsCtx_emit (e : BusEvent) : KeepsCtx (emit e) := keepsCtx_ok fun _ => ⟨_, _, rfl, rfl⟩

theorem keepsCtx_portRange (port : Word) (n : Nat) : KeepsCtx (portRange port n) :=
  keepsCtx_of_finds (finds_ite _ (finds_stop _) (finds_pure _))

theorem keepsCtx_ioRead (port : Word) (sz : Size) : KeepsCtx (ioRead port sz) :=
  keepsCtx_bind (keepsCtx_portRange _ _) fun _ => keepsCtx_bind (keepsCtx_of_finds finds_draw) fun _ =>
    keepsCtx_bind (keepsCtx_emit _) fun _ => keepsCtx_of_finds (finds_pure _)

theorem keepsCtx_ioWrite (port : Word) (sz : Size) (v : BitVec sz.bits) : KeepsCtx (ioWrite port sz v) :=
  keepsCtx_bind (keepsCtx_portRange _ _) fun _ => keepsCtx_emit _

end

theorem keepsCtx_stringSource (sz : Size) : KeepsCtx (stringSource sz) :=
  keepsCtx_of_finds (finds_bind finds_getState fun _ => finds_bind (finds_memRead _ _ _) fun _ => finds_pure _)

theorem keepsCtx_stringDest (sz : Size) : KeepsCtx (stringDest sz) :=
  keepsCtx_of_finds (finds_bind finds_getState fun _ => finds_bind (finds_memRead _ _ _) fun _ => finds_pure _)

theorem keepsCtx_stringDestSpan (sz : Size) : KeepsCtx (stringDestSpan sz) :=
  keepsCtx_of_finds (finds_bind finds_getState fun _ => finds_segSpan _ _ _ _)

section
variable (w : Bool)

theorem keepsCtx_cmpsElement : KeepsCtx (cmpsElement w) :=
  keepsCtx_bind keepsCtx_getState fun _ => keepsCtx_bind (keepsCtx_stringSource _) fun _ =>
    keepsCtx_bind (keepsCtx_stringDest _) fun _ => keepsCtx_bind (keepsCtx_updateFlags _) fun _ =>
      keepsCtx_bind (keepsCtx_stepSi _) fun _ => keepsCtx_stepDi _

theorem keepsCtx_insElement : KeepsCtx (insElement w) :=
  keepsCtx_bind keepsCtx_getState fun _ => keepsCtx_bind (keepsCtx_of_finds (finds_ioCheck _ _)) fun _ =>
    keepsCtx_bind (keepsCtx_stringDestSpan _) fun _ => keepsCtx_bind (keepsCtx_ioRead _ _) fun _ =>
      keepsCtx_bind (keepsCtx_storeSpan _ _) fun _ => keepsCtx_stepDi _

theorem keepsCtx_lodsElement : KeepsCtx (lodsElement w) :=
  keepsCtx_bind keepsCtx_getState fun _ => keepsCtx_bind (keepsCtx_stringSource _) fun _ =>
    keepsCtx_bind (keepsCtx_writeReg _ _ _) fun _ => keepsCtx_stepSi _

theorem keepsCtx_movsElement : KeepsCtx (movsElement w) :=
  keepsCtx_bind keepsCtx_getState fun _ => keepsCtx_bind (keepsCtx_stringSource _) fun _ =>
    keepsCtx_bind (keepsCtx_stringDestSpan _) fun _ => keepsCtx_bind (keepsCtx_storeSpan _ _) fun _ =>
      keepsCtx_bind (keepsCtx_stepSi _) fun _ => keepsCtx_stepDi _

theorem keepsCtx_outsElement : KeepsCtx (outsElement w) :=
  keepsCtx_bind keepsCtx_getState fun _ => keepsCtx_bind (keepsCtx_of_finds (finds_ioCheck _ _)) fun _ =>
    keepsCtx_bind (keepsCtx_stringSource _) fun _ => keepsCtx_bind (keepsCtx_ioWrite _ _ _) fun _ => keepsCtx_stepSi _

theorem keepsCtx_scasElement : KeepsCtx (scasElement w) :=
  keepsCtx_bind keepsCtx_getState fun _ => keepsCtx_bind (keepsCtx_stringDest _) fun _ =>
    keepsCtx_bind (keepsCtx_readReg _ _) fun _ => keepsCtx_bind (keepsCtx_updateFlags _) fun _ => keepsCtx_stepDi _

theorem keepsCtx_stosElement : KeepsCtx (stosElement w) :=
  keepsCtx_bind keepsCtx_getState fun _ => keepsCtx_bind (keepsCtx_stringDestSpan _) fun _ =>
    keepsCtx_bind (keepsCtx_readReg _ _) fun _ => keepsCtx_bind (keepsCtx_storeSpan _ _) fun _ => keepsCtx_stepDi _

end

/-- The state with a repeat prefix in effect. -/
def State.withRep (k : Rep) (s : State) : State := { s with ctx := { s.ctx with rep := k } }

/-- CX or ECX as a number. -/
def State.count (s : State) : Nat := if s.ctx.addr32 then s.regs.ecx.toNat else s.regs.ecx.toNat % 2 ^ 16

theorem countReg_toNat (s : State) : (countReg s).toNat = s.count := by
  unfold countReg State.count
  split
  · rfl
  · rw [BitVec.toNat_setWidth, low16_toNat]
    omega

theorem countReg_eq_zero (s : State) : countReg s = 0 ↔ s.count = 0 := by
  rw [← countReg_toNat, ← BitVec.toNat_inj]
  rfl

/-- CX or ECX one less (R512, R568). -/
def State.countedDown (s : State) : State :=
  { s with regs := { s.regs with
      ecx := if s.ctx.addr32 then s.regs.ecx - 1
             else s.regs.ecx.extractLsb' 16 16 ++ (s.regs.ecx.extractLsb' 0 16 - 1) } }

theorem countDown_apply (s : State) : countDown s = .ok () s.countedDown := by
  simp only [countDown, update_apply, State.countedDown, putLow16_eq, low16_eq]

/-- A repetition ends with a count of 0, or where the zero flag ends it (R512). -/
theorem repeatOver_iff {k : Rep} (hk : k = .rep ∨ k = .repne) {s : State} (h : s.ctx.rep = k) (compares : Bool) :
    repeatOver s compares = true ↔ s.count = 0 ∨ (compares = true ∧ s.flags.zf = decide (k = .repne)) := by
  unfold repeatOver
  rw [Bool.or_eq_true, beq_iff_eq, countReg_eq_zero, h]
  obtain rfl | rfl := hk <;> cases compares <;> cases s.flags.zf <;> simp

section
variable {k : Rep} {s t : State} {element : Exec Unit} {compares : Bool}

theorem repeated_none (hk : k = .rep ∨ k = .repne) (h : s.ctx.rep = k) (h0 : s.count = 0) :
    repeated compares element s = .ok () s := by
  have hoff : s.ctx.rep ≠ .off := by obtain rfl | rfl := hk <;> rw [h] <;> decide
  simp only [repeated, exec_bind_apply, getState_apply, if_neg hoff, if_pos ((countReg_eq_zero s).mpr h0),
    exec_pure_apply]

theorem repeated_some (hk : k = .rep ∨ k = .repne) (h : s.ctx.rep = k) (h0 : s.count ≠ 0) (he : element s = .ok () t) :
    repeated compares element s =
      if repeatOver t.countedDown compares = true then .ok () t.countedDown
      else .ok () { t.countedDown with ctx := { t.ctx with nextEip := s.eip, ending := .unfinished .rep } } := by
  have hoff : s.ctx.rep ≠ .off := by obtain rfl | rfl := hk <;> rw [h] <;> decide
  simp only [repeated, exec_bind_apply, getState_apply, if_neg hoff, if_neg (mt (countReg_eq_zero s).mp h0), he,
    countDown_apply]
  split <;> rfl

end

/-- A row of the table of repeated string instructions: its element and the instruction without the prefix. -/
def RepeatForms (k : Rep) (row plain : Bool → Instr) (element : Bool → Exec Unit) (compares : Bool) : Prop :=
  (k = .rep ∨ k = .repne) ∧ (∀ w, KeepsCtx (element w)) ∧
  ∀ w s, exec (row w) s = runInstr (withRep k (repeated compares (element w))) s ∧
    exec (plain w) s = runInstr (repeated compares (element w)) s

/-- Settles O25: `repeated_none` and `repeated_some` for every row of the table. -/
theorem repeatPrefixesRepeatByTheCount : Obligations.RepeatPrefixesRepeatByTheCount := by
  intro k row plain element compares hmem
  have forms : RepeatForms k row plain element compares := by
    simp only [List.mem_cons, Prod.mk.injEq, List.not_mem_nil, or_false] at hmem
    obtain ⟨rfl, rfl, rfl, rfl, rfl⟩ | ⟨rfl, rfl, rfl, rfl, rfl⟩ | ⟨rfl, rfl, rfl, rfl, rfl⟩ |
      ⟨rfl, rfl, rfl, rfl, rfl⟩ | ⟨rfl, rfl, rfl, rfl, rfl⟩ | ⟨rfl, rfl, rfl, rfl, rfl⟩ | ⟨rfl, rfl, rfl, rfl, rfl⟩ |
      ⟨rfl, rfl, rfl, rfl, rfl⟩ | ⟨rfl, rfl, rfl, rfl, rfl⟩ | ⟨rfl, rfl, rfl, rfl, rfl⟩ | ⟨rfl, rfl, rfl, rfl, rfl⟩ |
      ⟨rfl, rfl, rfl, rfl, rfl⟩ | ⟨rfl, rfl, rfl, rfl, rfl⟩ | ⟨rfl, rfl, rfl, rfl, rfl⟩ := hmem
    · exact ⟨.inl rfl, keepsCtx_insElement, fun _ _ => ⟨rfl, rfl⟩⟩
    · exact ⟨.inr rfl, keepsCtx_insElement, fun _ _ => ⟨rfl, rfl⟩⟩
    · exact ⟨.inl rfl, keepsCtx_lodsElement, fun _ _ => ⟨rfl, rfl⟩⟩
    · exact ⟨.inr rfl, keepsCtx_lodsElement, fun _ _ => ⟨rfl, rfl⟩⟩
    · exact ⟨.inl rfl, keepsCtx_movsElement, fun _ _ => ⟨rfl, rfl⟩⟩
    · exact ⟨.inr rfl, keepsCtx_movsElement, fun _ _ => ⟨rfl, rfl⟩⟩
    · exact ⟨.inl rfl, keepsCtx_outsElement, fun _ _ => ⟨rfl, rfl⟩⟩
    · exact ⟨.inr rfl, keepsCtx_outsElement, fun _ _ => ⟨rfl, rfl⟩⟩
    · exact ⟨.inl rfl, keepsCtx_stosElement, fun _ _ => ⟨rfl, rfl⟩⟩
    · exact ⟨.inr rfl, keepsCtx_stosElement, fun _ _ => ⟨rfl, rfl⟩⟩
    · exact ⟨.inl rfl, keepsCtx_cmpsElement, fun _ _ => ⟨rfl, rfl⟩⟩
    · exact ⟨.inr rfl, keepsCtx_cmpsElement, fun _ _ => ⟨rfl, rfl⟩⟩
    · exact ⟨.inl rfl, keepsCtx_scasElement, fun _ _ => ⟨rfl, rfl⟩⟩
    · exact ⟨.inr rfl, keepsCtx_scasElement, fun _ _ => ⟨rfl, rfl⟩⟩
  obtain ⟨hk, keeps, hexec⟩ := forms
  intro s t w s' count left ends again i s₀ hi
  -- both forms are the repetition from the state with the prefix in effect
  have hrun : ∀ a, repeated compares (element w) (s.withRep k) = .ok () a →
      exec i s₀ = .next (retire s.flags.tf a) := by
    intro a ha
    simp only [List.mem_cons, Prod.mk.injEq, List.not_mem_nil, or_false] at hi
    obtain ⟨rfl, rfl⟩ | ⟨rfl, rfl⟩ := hi
    · exact (hexec w s₀).1.trans (runInstr_ok ha)
    · exact (hexec w (s.withRep k)).2.trans (runInstr_ok ha)
  refine ⟨fun h0 => hrun _ (repeated_none hk rfl h0), fun h0 he => ?_⟩
  have hctx : t.ctx = (s.withRep k).ctx := keeps w _ _ _ he
  have hsome := repeated_some (compares := compares) hk (s := s.withRep k) rfl h0 he
  have hleft : t.countedDown = left := by
    rw [State.countedDown, show t.ctx.addr32 = s.ctx.addr32 by rw [hctx]; rfl]
  have hover : repeatOver t.countedDown compares = true ↔ ends := by
    rw [repeatOver_iff hk (s := t.countedDown) (show t.ctx.rep = k by rw [hctx]; rfl), hleft]
    rfl
  refine ⟨fun h => hrun _ ?_, fun h => ⟨hrun _ ?_, rfl, ?_⟩⟩
  · rw [hsome, if_pos (hover.mpr h), hleft]
  · rw [hsome, if_neg (mt hover.mp h), hleft]
    rfl
  · show t.ctx.code = s.ctx.code
    rw [hctx]
    rfl

end Sys2Proof.Machine
end


section
/-! Bit scans, and bits tested and changed in registers, memory and bit strings (spec/45_bit.md). -/

namespace Sys2Proof.Machine

/-! ## Scans (R540, R541) -/

theorem lowestBit_eq {n : Nat} {x : BitVec n} {k : Nat} (hk : x.getLsbD k = true)
    (hlow : ∀ j, j < k → x.getLsbD j = false) : lowestBit x = k := by
  have hkn : k < n := BitVec.lt_of_getLsbD hk
  have h : (List.range n).find? (fun i => x.getLsbD i) = some k := by
    rw [List.find?_range_eq_some]
    exact ⟨hk, List.mem_range.mpr hkn, fun j hj => by rw [hlow j hj]; rfl⟩
  rw [lowestBit, h, Option.getD_some]

/-- The first of the numbers below `n`, taken downwards, that has a property none above it has. -/
theorem find?_reverse_range {p : Nat → Bool} {k : Nat} (hk : p k = true) (hhigh : ∀ j, k < j → p j = false) (n : Nat)
    (hn : k < n) : (List.range n).reverse.find? p = some k := by
  induction n with
  | zero => omega
  | succ n ih =>
    rw [List.range_succ, List.reverse_append, List.reverse_singleton, List.singleton_append, List.find?_cons]
    by_cases h : k = n
    · rw [← h, hk]
    · rw [hhigh n (by omega)]
      exact ih (by omega)

theorem highestBit_eq {n : Nat} {x : BitVec n} {k : Nat} (hk : x.getLsbD k = true)
    (hhigh : ∀ j, k < j → x.getLsbD j = false) : highestBit x = k := by
  rw [highestBit, find?_reverse_range hk hhigh n (BitVec.lt_of_getLsbD hk), Option.getD_some]

/-- What a bit scan leaves. -/
def scanDone (sz : Size) (r : Reg) (u : State) (v : BitVec sz.bits) (z : Bool) : State :=
  freeFlags [.cf, .ov, .sf, .af, .pf] { u.withValue sz (.reg r) v with flags := { u.flags with zf := z } }

section
variable {s t : State} {rm : RM} {p : Place}

theorem bitScan_some (r : Reg) (index : {n : Nat} → BitVec n → Nat) (h : place s.opSize rm false s = .ok p t)
    (hx : t.valueAt s.opSize p ≠ 0) :
    bitScan r rm index s =
      .ok () (scanDone s.opSize r t (BitVec.ofNat _ (index (t.valueAt s.opSize p))) false) := by
  simp only [bitScan, exec_bind_apply, getState_apply, readRM_ok h, updateFlags_apply, if_neg hx, writeReg_apply,
    undefined_apply, beq_eq_false_iff_ne.mpr hx]
  rfl

theorem bitScan_none (r : Reg) (index : {n : Nat} → BitVec n → Nat) (h : place s.opSize rm false s = .ok p t)
    (hx : t.valueAt s.opSize p = 0) :
    bitScan r rm index s =
      .ok () (scanDone s.opSize r { t with draws := t.draws + 1 } ((Config.freeValue t.draws).setWidth _) true) := by
  simp only [bitScan, exec_bind_apply, getState_apply, readRM_ok h, updateFlags_apply, if_pos hx, draw_apply,
    writeReg_apply, undefined_apply, beq_iff_eq.mpr hx]
  rfl

end

/-! ## Bits selected and changed (R542 to R545) -/

/-- A bit set or reset. -/
theorem setBit_eq {n : Nat} (x : BitVec n) (i : Nat) (b : Bool) :
    setBit x i b = if b then x ||| (1#n <<< i) else x &&& ~~~(1#n <<< i) := by
  have h1 : (BitVec.ofBool true).setWidth n = 1#n := BitVec.eq_of_toNat_eq (by simp)
  cases b
  · simp [setBit]
  · rw [setBit, h1, if_pos rfl]
    ext j hj
    simp only [BitVec.getElem_or, BitVec.getElem_and, BitVec.getElem_not]
    cases x[j] <;> cases ((1#n <<< i)[j]) <;> rfl

/-- What BT (no change), BTC, BTR and BTS leave: CF is the selected bit, which the change then replaces. -/
def bitDone (change : Option (Bool → Bool)) (sz : Size) (u : State) (p : Place) (k : Nat) : State :=
  let x := u.valueAt sz p
  let v :=
    match change with
    | none => u
    | some f => u.withValue sz p (if f (x.getLsbD k) then x ||| (1#_ <<< k) else x &&& ~~~(1#_ <<< k))
  freeFlags [.ov, .sf, .zf, .af, .pf] { v with flags := { v.flags with cf := x.getLsbD k } }

theorem bitDone_sameOutside (change : Option (Bool → Bool)) (sz : Size) (u : State) (p : Place) (k : Nat) :
    sameOutside p.bytes u.mem (bitDone change sz u p k).mem := by
  cases change with
  | none => rw [bitDone, freeFlags_mem]; exact fun _ _ => rfl
  | some f => rw [bitDone, freeFlags_mem]; exact withValue_sameOutside u sz p _

theorem bitFlags_apply (b : Bool) (s : State) :
    bitFlags b s = .ok () (freeFlags [.ov, .sf, .zf, .af, .pf] { s with flags := { s.flags with cf := b } }) := by
  simp only [bitFlags, exec_bind_apply, updateFlags_apply, undefined_apply]

/-- BT, or one of the instructions that change the bit. -/
def bitOp (change : Option (Bool → Bool)) (select : Exec (Place × Nat)) : Exec Unit :=
  match change with
  | none => bitTest select
  | some f => bitChange select f

section
variable {s t : State} {select : Exec (Place × Nat)} {p : Place} {k : Nat}

theorem bitOp_ok (change : Option (Bool → Bool)) (h : select s = .ok (p, k) t) (hsz : t.opSize = s.opSize) :
    bitOp change select s = .ok () (bitDone change s.opSize t p k) := by
  rw [← hsz]
  cases change with
  | none => simp only [bitOp, bitTest, exec_bind_apply, h, getState_apply, readPlace_apply, bitFlags_apply, bitDone]
  | some f =>
    simp only [bitOp, bitChange, exec_bind_apply, h, getState_apply, readPlace_apply, writePlace_apply, bitFlags_apply,
      bitDone, setBit_eq]

theorem accessed_opSize {s t : State} (h : accessed s t) : t.opSize = s.opSize := by
  obtain ⟨-, -, -, -, -, -, -, hc, -⟩ := accessed_keeps h
  rw [State.opSize, hc, State.opSize]

theorem bitSelectImm_ok {rm : RM} {write : Bool} (n : BitVec 8) (h : place s.opSize rm write s = .ok p t) :
    bitSelectImm rm n write s = .ok (p, n.toNat % s.opSize.bits) t := by
  simp only [bitSelectImm, exec_bind_apply, getState_apply, h, exec_pure_apply]

end

/-- The word or doubleword of a bit string that holds bit `o` of it (R542). -/
theorem bitStringOffset_eq (s : State) (off : Dword) (sz : Size) (o : Int) :
    bitStringOffset s off sz o =
      if s.ctx.addr32 then BitVec.ofInt 32 (off.toNat + sz.bytes * (o / sz.bits))
      else BitVec.ofInt 32 ((off.toNat + sz.bytes * (o / sz.bits)) % 2 ^ 16) := by
  have hd : o.fdiv sz.bits = o / sz.bits := Int.fdiv_eq_ediv_of_nonneg _ (Int.natCast_nonneg _)
  unfold bitStringOffset
  dsimp only
  rw [hd]
  generalize (sz.bytes : Int) * (o / sz.bits) = d
  have hoff := off.isLt
  split
  · rw [BitVec.ofInt_add, BitVec.ofInt_natCast, BitVec.ofNat_toNat, BitVec.setWidth_eq]
  · apply BitVec.eq_of_toNat_eq
    have h16 := (low16 off + BitVec.ofInt 16 d).isLt
    rw [BitVec.toNat_setWidth, Nat.mod_eq_of_lt (by omega), BitVec.toNat_add, low16_toNat, BitVec.toNat_ofInt,
      BitVec.toNat_ofInt]
    omega

theorem bitSelect_mem_ok {s t a : State} {m : Mem} {r : Reg} {write : Bool} {sg : Seg} {off : Dword} {sp : List Nat}
    (ha : effAddr m s = .ok (sg, off) a)
    (ht : segSpan sg (bitStringOffset s off s.opSize (s.regs.read s.opSize r).toInt) s.opSize.bytes write a = .ok sp t) :
    bitSelect (.mem m) r write s =
      .ok (.mem sp, ((s.regs.read s.opSize r).toInt % s.opSize.bits).toNat) t := by
  have hd : (s.regs.read s.opSize r).toInt.fmod s.opSize.bits = (s.regs.read s.opSize r).toInt % s.opSize.bits :=
    Int.fmod_eq_emod_of_nonneg _ (Int.natCast_nonneg _)
  simp only [bitSelect, exec_bind_apply, getState_apply, readReg_apply, ha, ht, exec_pure_apply, hd]

/-- A row of the table of bit instructions. -/
def BitForms (imm : RM → BitVec 8 → Instr) (reg : RM → Reg → Instr) (change : Option (Bool → Bool)) : Prop :=
  ∀ (rm : RM) (n : BitVec 8) (r : Reg) (s : State),
    exec (imm rm n) s = runInstr (bitOp change (bitSelectImm rm n change.isSome)) s ∧
    exec (reg rm r) s = runInstr (bitOp change (bitSelect rm r change.isSome)) s

/-- Settles O26. -/
theorem bitInstructionsFindAndChangeBits : Obligations.BitInstructionsFindAndChangeBits := by
  refine ⟨?_, ?_⟩
  · intro s t r rm p sz done hp x
    have ne_zero : ∀ {k}, x.getLsbD k = true → x ≠ 0 := by
      intro k hk h0
      rw [h0] at hk
      simp at hk
    refine ⟨fun k hk hlow => ?_, fun k hk hhigh => ?_, fun h0 i hi => ?_⟩
    · refine (runInstr_ok (bitScan_some r (fun x => lowestBit x) hp (ne_zero hk))).trans ?_
      rw [show lowestBit (t.valueAt s.opSize p) = k from lowestBit_eq hk hlow]
      rfl
    · refine (runInstr_ok (bitScan_some r (fun x => highestBit x) hp (ne_zero hk))).trans ?_
      rw [show highestBit (t.valueAt s.opSize p) = k from highestBit_eq hk hhigh]
      rfl
    · obtain rfl | rfl := hi
      · exact ⟨_, runInstr_ok (bitScan_none r (fun x => lowestBit x) hp h0)⟩
      · exact ⟨_, runInstr_ok (bitScan_none r (fun x => highestBit x) hp h0)⟩
  · intro imm reg change hmem s t a rm m r q n p sg off sp sz done o d far
    have forms : BitForms imm reg change := by
      simp only [List.mem_cons, Prod.mk.injEq, List.not_mem_nil, or_false] at hmem
      obtain ⟨rfl, rfl, rfl⟩ | ⟨rfl, rfl, rfl⟩ | ⟨rfl, rfl, rfl⟩ | ⟨rfl, rfl, rfl⟩ := hmem
      all_goals exact fun _ _ _ _ => ⟨rfl, rfl⟩
    have hdone : done = bitDone change sz := by
      cases change <;> rfl
    rw [hdone]
    refine ⟨fun hp => ?_, ?_, fun ha ht => ?_, fun u p k => bitDone_sameOutside change sz u p k⟩
    · rw [(forms rm n r s).1]
      exact runInstr_ok (bitOp_ok change (bitSelectImm_ok n hp) (accessed_opSize (finds_place _ _ _ _ _ _ hp)))
    · rw [(forms (.reg q) n r s).2]
      exact runInstr_ok (bitOp_ok change rfl rfl)
    · rw [(forms (.mem m) n r s).2]
      refine runInstr_ok (bitOp_ok change (bitSelect_mem_ok ha ?_) ?_)
      · rw [bitStringOffset_eq]
        exact ht
      · exact accessed_opSize (accessed_trans (finds_effAddr m _ _ _ ha) (finds_segSpan _ _ _ _ _ _ _ ht))

end Sys2Proof.Machine
end


section
/-! Conditions, and transfers within the segment (spec/30_encoding.md R285, spec/46_control_transfer.md R560 to R573,
spec/47_setcc_enter_leave.md R620). -/

namespace Sys2Proof.Machine

/-! ## Targets (R560, R561) -/

/-- The target of a transfer by a distance from the next instruction (R561, R562). -/
def nearTarget (s : State) (d : Int) : Nat :=
  ((s.ctx.nextEip.toNat + d) % (if s.ctx.op32 then 2 ^ 32 else 2 ^ 16)).toNat

theorem relTarget_eq (s : State) (disp : Dword) (d : Int) (h : (disp.toNat : Int) = d % 2 ^ 32) :
    relTarget s disp = BitVec.ofNat 32 (nearTarget s d) := by
  apply ofNat_of_toNat
  have hand : ∀ x : Dword, (x &&& 0xFFFF).toNat = x.toNat % 2 ^ 16 := fun x => by
    rw [BitVec.toNat_and]
    exact Nat.and_two_pow_sub_one_eq_mod x.toNat 16
  unfold relTarget nearTarget
  split
  · rw [BitVec.toNat_add]
    omega
  · rw [hand, BitVec.toNat_add]
    omega

theorem nearTarget_lt (s : State) (d : Int) : nearTarget s d < 2 ^ 32 := by
  unfold nearTarget
  split <;> omega

theorem nearTarget_toNat (s : State) (d : Int) : (BitVec.ofNat 32 (nearTarget s d)).toNat = nearTarget s d := by
  rw [BitVec.toNat_ofNat, Nat.mod_eq_of_lt (nearTarget_lt s d)]

/-- The distances that the forms of a relative transfer hold (R256, R267). -/
theorem signExtend_distance {n : Nat} (x : BitVec n) : ((x.signExtend 32).toNat : Int) = x.toInt % 2 ^ 32 :=
  signExtend_toNat_emod 32 x

theorem dword_distance (x : Dword) : (x.toNat : Int) = x.toInt % 2 ^ 32 := by
  rw [← signExtend_toNat_emod 32 x, BitVec.signExtend_eq]

/-- The state that goes on at an offset. -/
def State.goesTo (s : State) (x : Dword) : State := { s with ctx := { s.ctx with nextEip := x } }

theorem jumpNear_apply (x : Dword) (s : State) :
    jumpNear x s =
      if x.toNat ≤ s.segs.cs.limit.toNat then .ok () (s.goesTo x) else .error (.exc (.protection 0)) s := by
  simp only [jumpNear, checkTarget, exec_bind_apply, getState_apply]
  by_cases h : x.toNat ≤ s.segs.cs.limit.toNat
  · simp only [decide_eq_true h, require_true, setNext_apply, if_pos h, State.goesTo]
  · simp only [decide_eq_false h, require_false, if_neg h]

theorem jumpRelative_apply (disp : Dword) (d : Int) (h : (disp.toNat : Int) = d % 2 ^ 32) (s : State) :
    jumpRelative disp s =
      if nearTarget s d ≤ s.segs.cs.limit.toNat then .ok () (s.goesTo (BitVec.ofNat 32 (nearTarget s d)))
      else .error (.exc (.protection 0)) s := by
  simp only [jumpRelative, exec_bind_apply, getState_apply, jumpNear_apply, relTarget_eq s disp d h, nearTarget_toNat]

/-! ## Conditions (R285, R566, R620) -/

/-- A jump by a condition, and the byte set by it. -/
def ConditionForms (c : Cond) (short : BitVec 8 → Instr) (near : Full → Instr) (set : RM → Instr) : Prop :=
  ∀ (d : BitVec 8) (f : Full) (rm : RM) (s : State),
    exec (short d) s = runInstr (jumpIf c (d.signExtend 32)) s ∧
    exec (near f) s = runInstr (jumpIf c (fullDistance f)) s ∧ exec (set rm) s = runInstr (setByte c rm) s

theorem jumpIf_false {c : Cond} {s : State} (h : c.holds s.flags = false) (disp : Dword) :
    jumpIf c disp s = .ok () s := by
  simp only [jumpIf, exec_bind_apply, getState_apply, h, when_false]

theorem jumpIf_true {c : Cond} {s : State} (h : c.holds s.flags = true) (disp : Dword) :
    jumpIf c disp s = jumpRelative disp s := by
  simp only [jumpIf, exec_bind_apply, getState_apply, h, when_true]

theorem setByte_ok {c : Cond} {s t : State} {rm : RM} {p : Place} (h : place .b rm true s = .ok p t) :
    setByte c rm s = .ok () (t.withValue .b p (if c.holds s.flags then 1 else 0)) := by
  simp only [setByte, exec_bind_apply, getState_apply, writeRM_ok _ h]

/-- Settles O27: every row of the table is a condition of the model with its flag expression. -/
theorem conditionsSelectJumpAndByte : Obligations.ConditionsSelectJumpAndByte := by
  intro short near set holds hmem s t d8 d16 d32 rm p i d target goes
  obtain ⟨c, hholds, forms⟩ : ∃ c : Cond, (∀ f, holds f = c.holds f) ∧ ConditionForms c short near set := by
    simp only [List.mem_cons, Prod.mk.injEq, List.not_mem_nil, or_false] at hmem
    obtain ⟨rfl, rfl, rfl, rfl⟩ | ⟨rfl, rfl, rfl, rfl⟩ | ⟨rfl, rfl, rfl, rfl⟩ | ⟨rfl, rfl, rfl, rfl⟩ |
      ⟨rfl, rfl, rfl, rfl⟩ | ⟨rfl, rfl, rfl, rfl⟩ | ⟨rfl, rfl, rfl, rfl⟩ | ⟨rfl, rfl, rfl, rfl⟩ |
      ⟨rfl, rfl, rfl, rfl⟩ | ⟨rfl, rfl, rfl, rfl⟩ | ⟨rfl, rfl, rfl, rfl⟩ | ⟨rfl, rfl, rfl, rfl⟩ |
      ⟨rfl, rfl, rfl, rfl⟩ | ⟨rfl, rfl, rfl, rfl⟩ | ⟨rfl, rfl, rfl, rfl⟩ | ⟨rfl, rfl, rfl, rfl⟩ := hmem
    · exact ⟨.o, fun _ => rfl, fun _ _ _ _ => ⟨rfl, rfl, rfl⟩⟩
    · exact ⟨.no, fun _ => rfl, fun _ _ _ _ => ⟨rfl, rfl, rfl⟩⟩
    · exact ⟨.b, fun _ => rfl, fun _ _ _ _ => ⟨rfl, rfl, rfl⟩⟩
    · exact ⟨.nb, fun _ => rfl, fun _ _ _ _ => ⟨rfl, rfl, rfl⟩⟩
    · exact ⟨.e, fun _ => rfl, fun _ _ _ _ => ⟨rfl, rfl, rfl⟩⟩
    · exact ⟨.ne, fun _ => rfl, fun _ _ _ _ => ⟨rfl, rfl, rfl⟩⟩
    · exact ⟨.be, fun _ => rfl, fun _ _ _ _ => ⟨rfl, rfl, rfl⟩⟩
    · exact ⟨.nbe, fun f => Bool.not_or f.cf f.zf, fun _ _ _ _ => ⟨rfl, rfl, rfl⟩⟩
    · exact ⟨.s, fun _ => rfl, fun _ _ _ _ => ⟨rfl, rfl, rfl⟩⟩
    · exact ⟨.ns, fun _ => rfl, fun _ _ _ _ => ⟨rfl, rfl, rfl⟩⟩
    · exact ⟨.p, fun _ => rfl, fun _ _ _ _ => ⟨rfl, rfl, rfl⟩⟩
    · exact ⟨.np, fun _ => rfl, fun _ _ _ _ => ⟨rfl, rfl, rfl⟩⟩
    · exact ⟨.l, fun _ => rfl, fun _ _ _ _ => ⟨rfl, rfl, rfl⟩⟩
    · exact ⟨.nl, fun _ => rfl, fun _ _ _ _ => ⟨rfl, rfl, rfl⟩⟩
    · exact ⟨.le, fun f => by cases f.zf <;> cases f.sf <;> cases f.ov <;> rfl, fun _ _ _ _ => ⟨rfl, rfl, rfl⟩⟩
    · exact ⟨.nle, fun f => by cases f.zf <;> cases f.sf <;> cases f.ov <;> rfl, fun _ _ _ _ => ⟨rfl, rfl, rfl⟩⟩
  refine ⟨fun hi => ?_, fun hp => ⟨?_, withValue_sameOutside t .b p _⟩⟩
  · obtain ⟨disp, hrun, hdisp⟩ : ∃ disp : Dword, exec i s = runInstr (jumpIf c disp) s ∧ (disp.toNat : Int) = d % 2 ^ 32 := by
      simp only [List.mem_cons, Prod.mk.injEq, List.not_mem_nil, or_false] at hi
      obtain ⟨rfl, rfl⟩ | ⟨rfl, rfl⟩ | ⟨rfl, rfl⟩ := hi
      · exact ⟨_, (forms d8 (.w32 0) rm s).1, signExtend_distance d8⟩
      · exact ⟨_, (forms 0 (.w16 d16) rm s).2.1, signExtend_distance d16⟩
      · exact ⟨_, (forms 0 (.w32 d32) rm s).2.1, dword_distance d32⟩
    have hjump := jumpRelative_apply disp d hdisp s
    rw [hrun, hholds]
    refine ⟨fun h => runInstr_ok (jumpIf_false h disp), fun h ht => 
      runInstr_ok ((jumpIf_true h disp).trans (hjump.trans (if_pos ht))), fun h ht =>
      runInstr_exc ((jumpIf_true h disp).trans (hjump.trans (if_neg (Nat.not_le.mpr ht))))⟩
  · rw [(forms 0 (.w32 0) rm s).2.2, hholds]
    exact runInstr_ok (setByte_ok hp)

end Sys2Proof.Machine
end


section
/-! The stack pointer as a number (spec/30_encoding.md R264, spec/40_data_transfer.md R350, R351), and transfers within the
segment (spec/46_control_transfer.md R560 to R573). -/

namespace Sys2Proof.Machine

/-! ## The stack pointer as a number -/

/-- The size of the stack's offsets: 64 Kbyte, or 4 Gbyte of a 32-bit stack (R264). -/
def stackSize (wide : Bool) : Nat := if wide then 2 ^ 32 else 2 ^ 16

theorem stackSize_true : stackSize true = 2 ^ 32 := rfl

theorem stackSize_false : stackSize false = 2 ^ 16 := rfl

theorem stackSize_pos (wide : Bool) : 0 < stackSize wide := by cases wide <;> decide

theorem stackEnd_eq (s : State) : stackEnd s = stackSize s.stack32 := rfl

theorem stackPtr_toNat (s : State) : (stackPtr s).toNat = s.regs.esp.toNat % stackSize s.stack32 := by
  unfold stackPtr stackSize
  split
  · exact (Nat.mod_eq_of_lt s.regs.esp.isLt).symm
  · rw [BitVec.toNat_setWidth, low16_toNat]
    omega

theorem stackPtr_lt (s : State) : (stackPtr s).toNat < stackSize s.stack32 := by
  rw [stackPtr_toNat]
  exact Nat.mod_lt _ (stackSize_pos _)

/-- The stack pointer moved up wraps at the stack's size (R351). -/
theorem ptrUp_eq (wide : Bool) (ptr : Dword) (n : Nat) :
    ptrUp wide ptr n = BitVec.ofNat 32 ((ptr.toNat + n) % stackSize wide) := by
  apply BitVec.eq_of_toNat_eq
  cases wide
  · rw [ptrUp, if_neg Bool.false_ne_true, BitVec.toNat_setWidth, BitVec.toNat_add, low16_toNat, BitVec.toNat_ofNat,
      BitVec.toNat_ofNat, stackSize, if_neg Bool.false_ne_true]
    omega
  · rw [ptrUp, if_pos rfl, BitVec.toNat_add, BitVec.toNat_ofNat, BitVec.toNat_ofNat, stackSize, if_pos rfl]
    omega

/-- The stack pointer moved down wraps at the stack's size (R350). -/
theorem ptrDown_toNat (wide : Bool) (ptr : Dword) (n : Nat) :
    ((ptrDown wide ptr n).toNat : Int) = ((ptr.toNat : Int) - n) % stackSize wide := by
  cases wide
  · rw [ptrDown, if_neg Bool.false_ne_true, BitVec.toNat_setWidth, BitVec.toNat_sub, low16_toNat, BitVec.toNat_ofNat,
      stackSize, if_neg Bool.false_ne_true]
    omega
  · rw [ptrDown, if_pos rfl, BitVec.toNat_sub, BitVec.toNat_ofNat, stackSize, if_pos rfl]
    omega

theorem ptrDown_eq {wide : Bool} (ptr : Dword) {n : Nat} (h : n ≤ stackSize wide) :
    ptrDown wide ptr n = BitVec.ofNat 32 ((ptr.toNat + stackSize wide - n) % stackSize wide) := by
  have e := ptrDown_toNat wide ptr n
  have hlt : (ptr.toNat + stackSize wide - n) % stackSize wide < stackSize wide := Nat.mod_lt _ (stackSize_pos wide)
  apply BitVec.eq_of_toNat_eq
  rw [BitVec.toNat_ofNat]
  cases wide <;> simp only [stackSize_true, stackSize_false] at * <;> omega

theorem above_eq (s : State) (n : Nat) : s.above n = ptrUp s.stack32 (stackPtr s) n := by
  rw [ptrUp_eq, stackPtr_toNat]
  unfold State.above stackSize
  apply BitVec.eq_of_toNat_eq
  cases s.stack32
  · simp only [Bool.false_eq_true, if_false, BitVec.toNat_ofNat]
    omega
  · simp only [if_true, BitVec.toNat_ofNat]
    omega

theorem below_eq (s : State) (n : Nat) : s.below n = ptrDown s.stack32 (stackPtr s) n := by
  have e := ptrDown_toNat s.stack32 (stackPtr s) n
  rw [stackPtr_toNat] at e
  apply BitVec.eq_of_toNat_eq
  unfold State.below
  unfold stackSize at e
  cases h : s.stack32
  · simp only [h, Bool.false_eq_true, if_false, BitVec.toNat_ofInt] at e ⊢
    omega
  · simp only [h, if_true, BitVec.toNat_ofInt] at e ⊢
    omega

/-- ESP or SP written, as the stack's width says (R350). -/
theorem setStackPtr_eq (v : Dword) (s : State) : setStackPtr v s = .ok () (s.withTop s.stack32 v) := by
  rw [setStackPtr_apply, State.withTop, putLow16_eq, low16_eq]

theorem release_apply (n : Nat) (s : State) : release n s = .ok () (s.popped n) := by
  simp only [release, exec_bind_apply, getState_apply, setStackPtr_eq, State.popped, above_eq]

theorem withTop_stack32 (wide : Bool) (s : State) (p : Dword) : (s.withTop wide p).stack32 = s.stack32 := rfl

theorem popped_eq (s : State) (n : Nat) : s.popped n = s.withTop s.stack32 (ptrUp s.stack32 (stackPtr s) n) := by
  rw [State.popped, above_eq]

/-! ## JMP, JCXZ and LOOP (R562 to R570) -/

/-- A transfer to an offset from a state: to it, or #13 where it is beyond the limit of CS (R560). -/
def endsAt (s u : State) (x : Nat) : Host.Outcome State Fault Refusal :=
  if x ≤ s.segs.cs.limit.toNat then .next (retire s.flags.tf (u.goesTo (BitVec.ofNat 32 x)))
  else s.raises u (.protection 0)

/-- An instruction that comes down to a relative transfer. -/
theorem runInstr_jumps {body : Exec Unit} {s u : State} {x : Nat}
    (h : body s = if x ≤ s.segs.cs.limit.toNat then .ok () (u.goesTo (BitVec.ofNat 32 x))
      else .error (.exc (.protection 0)) u) : runInstr body s = endsAt s u x := by
  unfold endsAt
  by_cases hx : x ≤ s.segs.cs.limit.toNat
  · rw [if_pos hx] at h ⊢
    exact runInstr_ok h
  · rw [if_neg hx] at h ⊢
    exact runInstr_exc h

theorem loopWhile_apply (more : Flags → Bool) (d8 : BitVec 8) (s : State) :
    loopWhile more d8 s =
      if s.countedDown.count ≠ 0 ∧ more s.flags = true then jumpRelative (d8.signExtend 32) s.countedDown
      else .ok () s.countedDown := by
  simp only [loopWhile, exec_bind_apply, countDown_apply, getState_apply]
  have hc : (countReg s.countedDown != 0) = decide (s.countedDown.count ≠ 0) := by
    rw [Bool.eq_iff_iff, bne_iff_ne, decide_eq_true_iff, ne_eq, countReg_eq_zero]
  rw [hc, show s.countedDown.flags = s.flags from rfl]
  by_cases h : s.countedDown.count ≠ 0 <;> cases more s.flags <;> simp [h]

/-! ## CALL and RET (R571 to R573) -/

section
variable {s t u : State} {x : Dword} {sp : List Nat}

theorem callNear_ok (h : x.toNat ≤ s.segs.cs.limit.toNat) (hc : claimSlot s.opSize.bytes s = .ok sp u) :
    callNear x s = .ok () { u with mem := u.mem.store sp s.ctx.nextEip, ctx := { u.ctx with nextEip := x } } := by
  simp only [callNear, checkTarget, exec_bind_apply, getState_apply, decide_eq_true h, require_true, push, hc,
    storeSpan_apply, setNext_apply]

theorem callNear_beyond (h : ¬ x.toNat ≤ s.segs.cs.limit.toNat) : callNear x s = .error (.exc (.protection 0)) s := by
  simp only [callNear, checkTarget, exec_bind_apply, getState_apply, decide_eq_false h, require_false]

theorem returnNear_apply (imm : Nat) {v : Dword} (h : peek 0 s.opSize.bytes s = .ok v t) :
    returnNear imm s =
      if v.toNat ≤ s.segs.cs.limit.toNat then .ok () ((t.popped (s.opSize.bytes + imm)).goesTo v)
      else .error (.exc (.protection 0)) t := by
  simp only [returnNear, checkTarget, exec_bind_apply, getState_apply, h]
  by_cases hv : v.toNat ≤ s.segs.cs.limit.toNat
  · simp only [decide_eq_true hv, require_true, release_apply, setNext_apply, if_pos hv, State.goesTo]
  · simp only [decide_eq_false hv, require_false, if_neg hv]

end

theorem setWidth_32_toNat {sz : Size} (x : BitVec sz.bits) : (x.setWidth 32).toNat = x.toNat := by
  have h := x.isLt
  rw [BitVec.toNat_setWidth, Nat.mod_eq_of_lt]
  cases sz <;> simp only [Size.bits] at h ⊢ <;> omega

/-- A value of an operand size as an offset. -/
theorem setWidth_32_eq_ofNat {sz : Size} (x : BitVec sz.bits) : x.setWidth 32 = BitVec.ofNat 32 x.toNat :=
  (BitVec.ofNat_toNat 32 x).symm

theorem accessed_limit {s t : State} (h : accessed s t) : t.segs.cs.limit = s.segs.cs.limit := by
  obtain ⟨-, -, -, hs, -⟩ := accessed_keeps h
  rw [hs]

theorem accessed_nextEip {s t : State} (h : accessed s t) : t.ctx.nextEip = s.ctx.nextEip := by
  obtain ⟨-, -, -, -, -, -, -, hc, -⟩ := accessed_keeps h
  rw [hc]

section CallThroughOperand

variable {rm : RM} {s t u : State} {p : Place} {sp : List Nat}

theorem exec_callRm (hp : place s.opSize rm false s = .ok p t)
    (hf : (t.valueAt s.opSize p).toNat ≤ s.segs.cs.limit.toNat) (hc : claimSlot s.opSize.bytes t = .ok sp u) :
    exec (.callRm rm) s = .next (retire s.flags.tf
      { u with mem := u.mem.store sp s.ctx.nextEip,
               ctx := { u.ctx with nextEip := BitVec.ofNat 32 (t.valueAt s.opSize p).toNat } }) := by
  have hacc := finds_place _ _ _ _ _ _ hp
  rw [← accessed_limit hacc, ← setWidth_32_toNat (t.valueAt s.opSize p)] at hf
  rw [← accessed_opSize hacc] at hc
  show execCallRm rm s = _
  refine runInstr_ok ?_
  simp only [exec_bind_apply, getState_apply, readRM_ok hp, callNear_ok hf hc, accessed_nextEip hacc]
  rw [setWidth_32_eq_ofNat]

theorem exec_callRm_beyond (hp : place s.opSize rm false s = .ok p t)
    (hf : ¬ (t.valueAt s.opSize p).toNat ≤ s.segs.cs.limit.toNat) :
    exec (.callRm rm) s = s.raises t (.protection 0) := by
  rw [← accessed_limit (finds_place _ _ _ _ _ _ hp), ← setWidth_32_toNat (t.valueAt s.opSize p)] at hf
  show execCallRm rm s = _
  refine runInstr_exc ?_
  simp only [exec_bind_apply, getState_apply, readRM_ok hp, callNear_beyond hf]

end CallThroughOperand

/-- Settles O28. -/
theorem nearTransfers : Obligations.NearTransfers := by
  refine ⟨?_, ?_⟩
  · intro s t d8 d16 d32 rm p i d wide target ends left count
    have rel : ∀ (u : State) (disp : Dword) (d : Int), u.ctx = s.ctx → u.segs = s.segs → (disp.toNat : Int) = d % 2 ^ 32 →
        jumpRelative disp u = if target d ≤ s.segs.cs.limit.toNat then .ok () (u.goesTo (BitVec.ofNat 32 (target d)))
          else .error (.exc (.protection 0)) u := by
      intro u disp d hc hs hd
      rw [jumpRelative_apply disp d hd, nearTarget, hc, hs]
    refine ⟨fun hi => ?_, fun hp => ?_, ?_, fun i more hi => ?_⟩
    · simp only [List.mem_cons, Prod.mk.injEq, List.not_mem_nil, or_false] at hi
      obtain ⟨rfl, rfl⟩ | ⟨rfl, rfl⟩ | ⟨rfl, rfl⟩ := hi
      · exact runInstr_jumps (rel s _ _ rfl rfl (signExtend_distance d8))
      · exact runInstr_jumps (rel s _ _ rfl rfl (signExtend_distance d16))
      · exact runInstr_jumps (rel s _ _ rfl rfl (dword_distance d32))
    · show execJmpRm rm s = _
      refine runInstr_jumps ?_
      simp only [exec_bind_apply, getState_apply, readRM_ok hp, jumpNear_apply, setWidth_32_toNat,
        accessed_limit (finds_place _ _ _ _ _ _ hp)]
      rw [setWidth_32_eq_ofNat]
    · show execJcxz d8 s = _
      by_cases h0 : s.count = 0
      · refine Eq.trans ?_ (if_pos h0).symm
        refine runInstr_jumps ?_
        simp only [exec_bind_apply, getState_apply, beq_iff_eq.mpr ((countReg_eq_zero s).mpr h0), when_true]
        exact rel s _ _ rfl rfl (signExtend_distance d8)
      · refine Eq.trans ?_ (if_neg h0).symm
        refine runInstr_ok ?_
        simp only [exec_bind_apply, getState_apply, beq_eq_false_iff_ne.mpr (mt (countReg_eq_zero s).mp h0), when_false]
    · have hrun : ∃ f : Flags → Bool, exec i s = runInstr (loopWhile f d8) s ∧ f s.flags = more := by
        simp only [List.mem_cons, Prod.mk.injEq, List.not_mem_nil, or_false] at hi
        obtain ⟨rfl, rfl⟩ | ⟨rfl, rfl⟩ | ⟨rfl, rfl⟩ := hi
        · exact ⟨fun _ => true, rfl, rfl⟩
        · exact ⟨fun f => f.zf, rfl, rfl⟩
        · exact ⟨fun f => !f.zf, rfl, rfl⟩
      obtain ⟨f, hrun, rfl⟩ := hrun
      have hloop := loopWhile_apply f d8 s
      rw [hrun]
      by_cases h : s.countedDown.count ≠ 0 ∧ f s.flags = true
      · refine Eq.trans ?_ (if_pos h).symm
        exact runInstr_jumps ((hloop.trans (if_pos h)).trans (rel s.countedDown _ _ rfl rfl (signExtend_distance d8)))
      · refine Eq.trans ?_ (if_neg h).symm
        exact runInstr_ok (hloop.trans (if_neg h))
  · intro s t u d16 d32 n rm p sp v i d sz target fits calls
    refine ⟨fun hi => ?_, fun hp => ?_, fun hp i extra hi => ?_, fun x => store_sameOutside sp x u.mem⟩
    · obtain ⟨disp, hrun, hdisp⟩ : ∃ disp : Dword, exec i s = runInstr (callNear (relTarget s disp)) s ∧
          (disp.toNat : Int) = d % 2 ^ 32 := by
        simp only [List.mem_cons, Prod.mk.injEq, List.not_mem_nil, or_false] at hi
        obtain ⟨rfl, rfl⟩ | ⟨rfl, rfl⟩ := hi
        · exact ⟨d16.signExtend 32, runInstr_congr (by simp only [exec_bind_apply, getState_apply]; rfl),
            signExtend_distance d16⟩
        · exact ⟨d32, runInstr_congr (by simp only [exec_bind_apply, getState_apply]; rfl), dword_distance d32⟩
      have ht : (BitVec.ofNat 32 (nearTarget s d)).toNat = target := nearTarget_toNat s d
      rw [hrun, relTarget_eq s disp d hdisp]
      refine ⟨fun hf hc => runInstr_ok (callNear_ok (by rw [ht]; exact hf) hc), fun hf => runInstr_exc
        (callNear_beyond (by rw [ht]; exact hf))⟩
    · refine ⟨fun hf hc => exec_callRm hp hf hc, fun hf => exec_callRm_beyond hp hf⟩
    · have hrun : exec i s = runInstr (returnNear extra) s := by
        simp only [List.mem_cons, Prod.mk.injEq, List.not_mem_nil, or_false] at hi
        obtain ⟨rfl, rfl⟩ | ⟨rfl, rfl⟩ := hi <;> rfl
      have hret := returnNear_apply extra hp
      rw [hrun]
      exact ⟨fun hf => runInstr_ok (hret.trans (if_pos hf)), fun hf => runInstr_exc (hret.trans (if_neg hf))⟩

end Sys2Proof.Machine
end


section
/-! The stack: slots, reads above the top and frames (spec/40_data_transfer.md R350, R351; spec/30_encoding.md R264). -/

namespace Sys2Proof.Machine

/-- A push of `n` bytes runs across offset FFFFh of a 16-bit stack (R350). -/
def Straddles (wide : Bool) (top n : Nat) : Prop := wide = false ∧ 0 < top ∧ top < n

theorem straddles_iff (s : State) (ptr : Dword) (n : Nat) :
    (!s.stack32 && decide (0 < ptr.toNat) && decide (ptr.toNat < n)) = true ↔ Straddles s.stack32 ptr.toNat n := by
  simp only [Straddles, Bool.and_eq_true, Bool.not_eq_true', decide_eq_true_eq, and_assoc]

section Pointer

variable {s : State} {ptr : Dword} {n : Nat}

theorem pushPtr_apply (h : ¬ Straddles s.stack32 ptr.toNat n) : pushPtr ptr n s = .ok (ptrDown s.stack32 ptr n) s := by
  rw [← straddles_iff] at h
  simp only [pushPtr, exec_bind_apply, getState_apply, if_neg h, exec_pure_apply]

theorem pushPtr_real (h : Straddles s.stack32 ptr.toNat n) (hp : s.pe = false) : pushPtr ptr n s = .error .shutdown s := by
  rw [← straddles_iff] at h
  simp only [pushPtr, exec_bind_apply, getState_apply, if_pos h, hp, Bool.false_eq_true, if_false]
  rfl

theorem pushPtr_protected (h : Straddles s.stack32 ptr.toNat n) (hp : s.pe = true) :
    pushPtr ptr n s = .error (.exc (.stack 0)) s := by
  rw [← straddles_iff] at h
  simp only [pushPtr, exec_bind_apply, getState_apply, if_pos h, hp, if_true]
  rfl

end Pointer

theorem accessed_stack32 {s t : State} (h : accessed s t) : t.stack32 = s.stack32 := by
  obtain ⟨-, -, hf, hs, hy, -⟩ := accessed_keeps h
  simp only [State.stack32, State.prot, State.pe, hf, hs, hy]

theorem accessed_stackPtr {s t : State} (h : accessed s t) : stackPtr t = stackPtr s := by
  obtain ⟨hr, -⟩ := accessed_keeps h
  simp only [stackPtr, accessed_stack32 h, hr]

/-- A claim whose slot passes its checks moves the stack pointer to the slot (R350). -/
theorem claimSlot_apply {s t : State} {n : Nat} {sp : List Nat} (h : ¬ Straddles s.stack32 (stackPtr s).toNat n)
    (hs : segSpan .ss (s.below n) n true s = .ok sp t) :
    claimSlot n s = .ok sp (t.withTop s.stack32 (s.below n)) := by
  rw [below_eq] at hs ⊢
  simp only [claimSlot, exec_bind_apply, getState_apply, pushPtr_apply h, hs, setStackPtr_eq, exec_pure_apply]
  rw [accessed_stack32 (finds_segSpan _ _ _ _ _ _ _ hs)]

theorem claimSlot_stop_of_pushPtr {s t : State} {n : Nat} {x : Stop} (h : pushPtr (stackPtr s) n s = .error x t) :
    claimSlot n s = .error x t := by
  simp only [claimSlot, exec_bind_apply, getState_apply, h]

/-! ## The stack top as the obligations write it -/

theorem below_eq_ofNat (s : State) {n : Nat} (h : n ≤ stackSize s.stack32) :
    s.below n =
      BitVec.ofNat 32 ((s.regs.esp.toNat % stackSize s.stack32 + stackSize s.stack32 - n) % stackSize s.stack32) := by
  rw [below_eq, ptrDown_eq _ h, stackPtr_toNat]

theorem above_eq_ofNat (s : State) (n : Nat) :
    s.above n = BitVec.ofNat 32 ((s.regs.esp.toNat % stackSize s.stack32 + n) % stackSize s.stack32) := by
  rw [above_eq, ptrUp_eq, stackPtr_toNat]

theorem stackPtr_add_eq (s : State) (n : Nat) :
    stackPtr s + BitVec.ofNat 32 n = BitVec.ofNat 32 (s.regs.esp.toNat % stackSize s.stack32 + n) := by
  apply BitVec.eq_of_toNat_eq
  rw [BitVec.toNat_add, stackPtr_toNat, BitVec.toNat_ofNat, BitVec.toNat_ofNat, Nat.add_mod_mod]

theorem stackPtr_eq_ofNat (s : State) : stackPtr s = BitVec.ofNat 32 (s.regs.esp.toNat % stackSize s.stack32) := by
  rw [← stackPtr_toNat, BitVec.ofNat_toNat, BitVec.setWidth_eq]

/-- The frame of a return is held: it lies below the stack's end, and SS may be read there (R595). -/
def State.holdsFrame (s : State) (n : Nat) : Prop :=
  s.regs.esp.toNat % stackSize s.stack32 + n ≤ stackSize s.stack32 ∧ accessOk s.prot s.segs.ss false = true ∧
  limitOk s.prot s.segs.ss (BitVec.ofNat 32 (s.regs.esp.toNat % stackSize s.stack32)) n = true

theorem segLinear_apply (sg : Seg) (off : Dword) (n : Nat) (write : Bool) (s : State) :
    segLinear sg off n write s =
      if accessOk s.prot (s.segs.get sg) write = true ∧ limitOk s.prot (s.segs.get sg) off n = true then
        .ok ((s.segs.get sg).base + off) s
      else .error (.exc (segFault sg)) s := by
  simp only [segLinear, exec_bind_apply, getState_apply, ← Bool.and_eq_true]
  by_cases h : (accessOk s.prot (s.segs.get sg) write && limitOk s.prot (s.segs.get sg) off n) = true
  · simp only [h, require_true, exec_pure_apply, if_true]
  · simp only [eq_false_of_ne_true h, require_false, Bool.false_eq_true, if_false]

theorem checkFrame_ok {s : State} {n : Nat} (h : s.holdsFrame n) : checkFrame n s = .ok () s := by
  obtain ⟨hfit, haccess, hlimit⟩ := h
  rw [← stackPtr_toNat, ← stackEnd_eq] at hfit
  rw [← stackPtr_eq_ofNat] at hlimit
  have hl := (segLinear_apply .ss (stackPtr s) n false s).trans (if_pos ⟨haccess, hlimit⟩)
  simp only [checkFrame, exec_bind_apply, requireStack_apply, Nat.add_zero, if_pos hfit, getState_apply, hl, exec_pure_apply]

theorem checkFrame_stop {s : State} {n : Nat} (h : ¬ s.holdsFrame n) : checkFrame n s = .error (.exc (.stack 0)) s := by
  rw [State.holdsFrame, ← stackPtr_eq_ofNat, ← stackPtr_toNat, ← stackEnd_eq] at h
  by_cases hfit : (stackPtr s).toNat + n ≤ stackEnd s
  · have hl := (segLinear_apply .ss (stackPtr s) n false s).trans (if_neg fun hc => h ⟨hfit, hc⟩)
    simp only [checkFrame, exec_bind_apply, requireStack_apply, Nat.add_zero, if_pos hfit, getState_apply, hl, segFault,
      if_true]
  · simp only [checkFrame, exec_bind_apply, requireStack_apply, Nat.add_zero, if_neg hfit]

theorem withTop_false_high (s : State) (p : Dword) {i : Nat} (h : 16 ≤ i) :
    (s.withTop false p).regs.esp.getLsbD i = s.regs.esp.getLsbD i := by
  simp only [State.withTop, Bool.false_eq_true, if_false, BitVec.getLsbD_append, BitVec.getLsbD_extractLsb',
    show ¬ i < 16 by omega, decide_false, show 16 + (i - 16) = i by omega, Bool.and_eq_right_iff_imp]
  intro hb
  have hi := BitVec.lt_of_getLsbD hb
  exact decide_eq_true (by omega)

/-- Settles O14: the sums of the obligation are the stack pointer moved by the stack's size. -/
theorem stackPointerMovesAndWraps : Obligations.StackPointerMovesAndWraps := by
  intro s t n delta sp hn wide size top below above crosses
  have hsize : size = stackSize s.stack32 := rfl
  have htop : top = (stackPtr s).toNat := (stackPtr_toNat s).symm
  have hcross : crosses ↔ Straddles s.stack32 (stackPtr s).toNat n := by
    show wide = false ∧ 0 < top ∧ top < n ↔ _
    rw [htop]
    exact Iff.rfl
  have hfit : n ≤ stackSize s.stack32 := by
    cases s.stack32 <;> simp only [stackSize_true, stackSize_false] <;> omega
  have hbelow : below = s.below n := (below_eq_ofNat s hfit).symm
  have habove : above = s.above delta := (above_eq_ofNat s delta).symm
  rw [hcross]
  refine ⟨fun h hp => claimSlot_stop_of_pushPtr (pushPtr_real h hp),
    fun h hp => claimSlot_stop_of_pushPtr (pushPtr_protected h hp), fun h hs => ?_, fun h hs => ?_, fun h => ?_,
    ⟨checkFrame_ok, checkFrame_stop⟩, habove.symm, ?_, fun i hi => withTop_false_high s above hi⟩
  · rw [hbelow] at hs ⊢
    exact claimSlot_apply h hs
  · rw [htop, hsize, ← stackEnd_eq] at h
    rw [peek_apply, if_pos h, stackPtr_add_eq]
    exact memRead_ok hs
  · rw [htop, hsize, ← stackEnd_eq] at h
    rw [peek_apply, if_neg (by omega)]
  · rw [habove]
    exact release_apply delta s

end Sys2Proof.Machine
end


section
/-! PUSH, PUSHF and LAHF (spec/40_data_transfer.md R352 to R356; spec/41_segment_flag_control.md R390, R391). -/

namespace Sys2Proof.Machine

/-! ## The image of the flags (R38, R39) -/

theorem bitAt_toNat (b : Bool) {k : Nat} (h : k < 32) : (bitAt b k).toNat = b.toNat * 2 ^ k := by
  have hlt : b.toNat * 2 ^ k < 2 ^ 32 := calc
    b.toNat * 2 ^ k ≤ 1 * 2 ^ k := Nat.mul_le_mul_right _ (Bool.toNat_le b)
    _ < 2 ^ 32 := by rw [Nat.one_mul]; exact Nat.pow_lt_pow_right (by decide) h
  have hb := Bool.toNat_le b
  rw [bitAt, BitVec.toNat_shiftLeft, BitVec.toNat_setWidth, BitVec.toNat_ofBool, Nat.shiftLeft_eq,
    Nat.mod_eq_of_lt (a := b.toNat) (by omega), Nat.mod_eq_of_lt hlt]

/-- A field put above a number that does not reach it adds. -/
theorem or_field {x : Nat} (y k : Nat) (h : x < 2 ^ k) : x ||| y * 2 ^ k = x + y * 2 ^ k := by
  rw [Nat.mul_comm, Nat.lor_comm, ← Nat.two_pow_add_eq_or_of_lt h, Nat.add_comm]

theorem iopl_toNat (v : BitVec 2) : (v.setWidth 32 <<< 12 : Dword).toNat = v.toNat * 2 ^ 12 := by
  have := v.isLt
  rw [BitVec.toNat_shiftLeft, BitVec.toNat_setWidth, Nat.shiftLeft_eq]
  omega

theorem Flags.image_toNat (f : Flags) : f.image.toNat =
    f.cf.toNat + 0x2 + 0x4 * f.pf.toNat + 0x10 * f.af.toNat + 0x40 * f.zf.toNat + 0x80 * f.sf.toNat + 0x100 * f.tf.toNat +
      0x200 * f.ie.toNat + 0x400 * f.df.toNat + 0x800 * f.ov.toNat + 0x1000 * f.iopl.toNat + 0x4000 * f.nt.toNat +
      0x10000 * f.rf.toNat + 0x20000 * f.vm.toNat := by
  have bit : ∀ b : Bool, b.toNat ≤ 1 := Bool.toNat_le
  have := bit f.cf; have := bit f.pf; have := bit f.af; have := bit f.zf; have := bit f.sf; have := bit f.tf
  have := bit f.ie; have := bit f.df; have := bit f.ov; have := bit f.nt; have := bit f.rf; have := bit f.vm
  have := f.iopl.isLt
  simp only [Flags.image, BitVec.toNat_or, bitAt_toNat _ (show 0 < 32 by decide), bitAt_toNat _ (show 1 < 32 by decide),
    bitAt_toNat _ (show 2 < 32 by decide), bitAt_toNat _ (show 4 < 32 by decide), bitAt_toNat _ (show 6 < 32 by decide),
    bitAt_toNat _ (show 7 < 32 by decide), bitAt_toNat _ (show 8 < 32 by decide), bitAt_toNat _ (show 9 < 32 by decide),
    bitAt_toNat _ (show 10 < 32 by decide), bitAt_toNat _ (show 11 < 32 by decide), bitAt_toNat _ (show 14 < 32 by decide),
    bitAt_toNat _ (show 16 < 32 by decide), bitAt_toNat _ (show 17 < 32 by decide), iopl_toNat, Bool.toNat_true]
  rw [or_field 1 1, or_field f.pf.toNat 2, or_field f.af.toNat 4, or_field f.zf.toNat 6, or_field f.sf.toNat 7,
    or_field f.tf.toNat 8, or_field f.ie.toNat 9, or_field f.df.toNat 10, or_field f.ov.toNat 11, or_field f.iopl.toNat 12,
    or_field f.nt.toNat 14, or_field f.rf.toNat 16, or_field f.vm.toNat 17]
  all_goals omega

theorem bitAt_and (b : Bool) (k : Nat) (m : Dword) : bitAt b k &&& m = bitAt (b && m.getLsbD k) k := by
  ext i hi
  simp only [bitAt, BitVec.getElem_and, BitVec.getElem_shiftLeft, BitVec.getElem_setWidth, BitVec.getLsbD_ofBool]
  by_cases h : i = k
  · subst h
    simp [BitVec.getLsbD_eq_getElem hi]
  · by_cases hlt : i < k
    · simp [hlt]
    · simp [show i - k ≠ 0 by omega]

theorem or_and_mask (a b m : Dword) : (a ||| b) &&& m = a &&& m ||| b &&& m := by
  ext i hi
  simp only [BitVec.getElem_and, BitVec.getElem_or, Bool.and_or_distrib_right]

/-- What PUSHF pushes has VM and RF clear (R391). -/
theorem pushf_image (f : Flags) : f.image &&& 0x00FCFFFF = ({ f with vm := false, rf := false } : Flags).image := by
  have hiopl : ∀ v : BitVec 2, (v.setWidth 32 <<< 12 : Dword) &&& (0x00FCFFFF : Dword) = v.setWidth 32 <<< 12 := by decide
  simp only [Flags.image, or_and_mask, bitAt_and, hiopl]
  simp

/-! ## Pushes -/

section
variable {s t u : State} {sp : List Nat}

theorem push_apply {sz : Size} {v : Dword} (h : claimSlot sz.bytes s = .ok sp u) :
    push sz v s = .ok () { u with mem := u.mem.store sp v } := by
  simp only [push, exec_bind_apply, h, storeSpan_apply]

theorem exec_pushRm {rm : RM} {p : Place} (hp : place s.opSize rm false s = .ok p t)
    (hc : claimSlot s.opSize.bytes t = .ok sp u) :
    exec (.pushRm rm) s =
      .next (retire s.flags.tf { u with mem := u.mem.store sp ((t.valueAt s.opSize p).setWidth 32) }) := by
  show execPushRm rm s = _
  refine runInstr_ok ?_
  simp only [exec_bind_apply, getState_apply, readRM_ok hp, push_apply hc]

theorem exec_pushReg (r : Reg) (hc : claimSlot s.opSize.bytes s = .ok sp u) :
    exec (.pushReg r) s =
      .next (retire s.flags.tf { u with mem := u.mem.store sp ((s.regs.read s.opSize r).setWidth 32) }) := by
  show execPushReg r s = _
  refine runInstr_ok ?_
  simp only [exec_bind_apply, getState_apply, readReg_apply, push_apply hc]

theorem exec_pushImm (sx : Bool) (imm : Imm) (hc : claimSlot s.opSize.bytes s = .ok sp u) :
    exec (.pushImm sx imm) s =
      .next (retire s.flags.tf { u with mem := u.mem.store sp ((immValue s.opSize imm).setWidth 32) }) := by
  show execPushImm sx imm s = _
  refine runInstr_ok ?_
  simp only [exec_bind_apply, getState_apply, push_apply hc]

theorem v86Trapped_iff (s : State) :
    s.v86Trapped = false ↔ s.pe = false ∨ s.flags.vm = false ∨ s.flags.iopl = 3 := by
  simp only [State.v86Trapped, State.v86]
  cases s.pe <;> cases s.flags.vm <;> simp

theorem requireV86Iopl_passes (h : s.pe = false ∨ s.flags.vm = false ∨ s.flags.iopl = 3) :
    requireV86Iopl s = .ok () s := by
  simp only [requireV86Iopl, exec_bind_apply, getState_apply, (v86Trapped_iff s).mpr h, Bool.not_false, require_true]

theorem exec_pushf (h : s.pe = false ∨ s.flags.vm = false ∨ s.flags.iopl = 3)
    (hc : claimSlot s.opSize.bytes s = .ok sp u) :
    exec .pushf s =
      .next (retire s.flags.tf
        { u with mem := u.mem.store sp ({ s.flags with vm := false, rf := false } : Flags).image }) := by
  show execPushf s = _
  refine runInstr_ok ?_
  simp only [exec_bind_apply, requireV86Iopl_passes h, getState_apply, push_apply hc, pushf_image]

/-! ## Selectors -/

theorem opSize_d (h : s.ctx.op32 = true) : s.opSize = .d := if_pos h

theorem opSize_w (h : s.ctx.op32 = false) : s.opSize = .w := if_neg (by rw [h]; decide)

theorem pushSegment_word (sg : Seg) (h : s.ctx.op32 = false) (hc : claimSlot s.opSize.bytes s = .ok sp u) :
    pushSegment sg s = .ok () { u with mem := u.mem.store sp ((s.segs.get sg).sel.setWidth 32) } := by
  simp only [pushSegment, exec_bind_apply, getState_apply, opSize_w h, selectorSlot, exec_pure_apply]
  rw [opSize_w h] at hc
  exact push_apply hc

theorem pushSegment_dword (sg : Seg) (h : s.ctx.op32 = true) (hc : claimSlot 4 { s with draws := s.draws + 1 } = .ok sp u) :
    pushSegment sg s =
      .ok () { u with mem := u.mem.store sp ((Config.freeValue s.draws).extractLsb' 16 16 ++ (s.segs.get sg).sel) } := by
  simp only [pushSegment, exec_bind_apply, getState_apply, opSize_d h, selectorSlot, draw_apply, exec_pure_apply]
  exact push_apply (sz := .d) hc

/-- An instruction that pushes a segment register. -/
def PushesSegment (sg : Seg) (i : Instr) : Prop := ∀ s, exec i s = runInstr (pushSegment sg) s

theorem pushes_segments : ∀ sg i, (sg, i) ∈ [(Seg.es, Instr.pushSeg .es), (Seg.cs, Instr.pushSeg .cs),
    (Seg.ss, Instr.pushSeg .ss), (Seg.ds, Instr.pushSeg .ds), (Seg.fs, Instr.pushFs), (Seg.gs, Instr.pushGs)] →
    PushesSegment sg i := by
  intro sg i h
  simp only [List.mem_cons, Prod.mk.injEq, List.not_mem_nil, or_false] at h
  obtain ⟨rfl, rfl⟩ | ⟨rfl, rfl⟩ | ⟨rfl, rfl⟩ | ⟨rfl, rfl⟩ | ⟨rfl, rfl⟩ | ⟨rfl, rfl⟩ := h <;> exact fun _ => rfl

end

theorem exec_lahf (s : State) :
    exec .lahf s = .next (retire s.flags.tf (s.withValue .b (.reg .esp) (s.flags.image.extractLsb' 0 8))) := by
  show execLahf s = _
  refine runInstr_ok ?_
  simp only [exec_bind_apply, getState_apply, writeReg_apply, withValue_reg]
  rfl

/-- Settles O15: each push stores into the slot that its claim finds. -/
theorem pushesStoreBelowTheTop : Obligations.PushesStoreBelowTheTop := by
  intro s t u rm r sx imm p sp sz stored segments
  refine ⟨exec_pushRm, fun hc => ⟨exec_pushReg r hc, exec_pushImm sx imm hc, fun h => exec_pushf h hc, fun h sg i hi => ?_⟩,
    fun h hc sg i hi => ?_, fun v => store_sameOutside sp v u.mem, exec_lahf s, Flags.image_toNat⟩
  · exact (pushes_segments sg i hi s).trans (runInstr_ok (pushSegment_word sg h hc))
  · exact ⟨_, (pushes_segments sg i hi s).trans (runInstr_ok (pushSegment_dword sg h hc))⟩

end Sys2Proof.Machine
end


section
/-! POP, POPF and SAHF (spec/40_data_transfer.md R353, R357; spec/41_segment_flag_control.md R392, R393). -/

namespace Sys2Proof.Machine

section
variable {s t u : State} {v : Dword}

theorem pop_apply {sz : Size} (h : peek 0 sz.bytes s = .ok v t) : pop sz s = .ok v (t.popped sz.bytes) := by
  simp only [pop, exec_bind_apply, h, release_apply, exec_pure_apply]

theorem exec_popReg (r : Reg) (h : peek 0 s.opSize.bytes s = .ok v t) :
    exec (.popReg r) s =
      .next (retire s.flags.tf ((t.popped s.opSize.bytes).withValue s.opSize (.reg r) (v.setWidth s.opSize.bits))) := by
  show execPopReg r s = _
  refine runInstr_ok ?_
  simp only [exec_bind_apply, getState_apply, pop_apply h, writeReg_apply, withValue_reg]

theorem exec_popRm {rm : RM} {p : Place} (h : peek 0 s.opSize.bytes s = .ok v t)
    (hp : place s.opSize rm true (t.popped s.opSize.bytes) = .ok p u) :
    exec (.popRm rm) s = .next (retire s.flags.tf (u.withValue s.opSize p (v.setWidth s.opSize.bits))) := by
  show execPopRm rm s = _
  refine runInstr_ok ?_
  simp only [exec_bind_apply, getState_apply, pop_apply h, writeRM_ok _ hp]

/-- What POPF loads, each flag from its bit (R38, R392). -/
theorem flags_load_eq (f : Flags) (v : Dword) (cpl : Nat) (wide : Bool) :
    f.load v cpl wide =
      { cf := v.getLsbD 0, pf := v.getLsbD 2, af := v.getLsbD 4, zf := v.getLsbD 6, sf := v.getLsbD 7, tf := v.getLsbD 8
        ie := if cpl ≤ f.iopl.toNat then v.getLsbD 9 else f.ie
        df := v.getLsbD 10, ov := v.getLsbD 11
        iopl := if cpl = 0 then v.extractLsb' 12 2 else f.iopl
        nt := v.getLsbD 14
        rf := if wide then v.getLsbD 16 else f.rf
        vm := f.vm } := rfl

theorem when_rfLoaded (c : Bool) (s : State) :
    when_ c (setEnding .rfLoaded) s =
      .ok () { s with ctx := { s.ctx with ending := if c then .rfLoaded else s.ctx.ending } } := by
  cases c <;> rfl

theorem exec_popf (h : peek 0 s.opSize.bytes s = .ok v t)
    (hm : s.pe = false ∨ s.flags.vm = false ∨ s.flags.iopl = 3) :
    exec .popf s =
      .next (retire s.flags.tf
        { t.popped s.opSize.bytes with
          flags := s.flags.load v (if s.pe then s.sys.cpl.toNat else 0) s.ctx.op32
          ctx := { t.ctx with ending := if s.ctx.op32 then .rfLoaded else t.ctx.ending } }) := by
  obtain ⟨-, -, hf, -⟩ := accessed_keeps (finds_peek _ _ _ _ _ h)
  show execPopf s = _
  refine runInstr_ok ?_
  simp only [exec_bind_apply, requireV86Iopl_passes hm, getState_apply, pop_apply h, updateFlags_apply, when_rfLoaded,
    popped_flags, popped_ctx, hf]

theorem popSegment_apply {sg : Seg} (h : peek 0 s.opSize.bytes s = .ok v t) (hl : loadSeg sg (v.setWidth 16) t = .ok () u) :
    popSegment sg s = inhibitAfterSs sg (u.withTop s.stack32 (s.above s.opSize.bytes)) := by
  simp only [popSegment, exec_bind_apply, getState_apply, h, low16, hl, update_apply, ← above_eq]
  rw [State.withTop, putLow16_eq, ← low16_eq]
  rfl

theorem inhibitAfterSs_apply (sg : Seg) (s : State) :
    inhibitAfterSs sg s =
      .ok () (if sg = .ss then { s with ctx := { s.ctx with inhibitNext := .all } } else s) := by
  by_cases h : sg = .ss
  · simp only [inhibitAfterSs, decide_eq_true h, when_true, update_apply, if_pos h]
  · simp only [inhibitAfterSs, decide_eq_false h, when_false, if_neg h]

/-- An instruction that pops a segment register. -/
def PopsSegment (sg : Seg) (i : Instr) : Prop := ∀ s, exec i s = runInstr (popSegment sg) s

theorem pops_segments : ∀ sg i, (sg, i) ∈ [(Seg.es, Instr.popEs), (Seg.ss, Instr.popSs), (Seg.ds, Instr.popDs),
    (Seg.fs, Instr.popFs), (Seg.gs, Instr.popGs)] → PopsSegment sg i := by
  intro sg i h
  simp only [List.mem_cons, Prod.mk.injEq, List.not_mem_nil, or_false] at h
  obtain ⟨rfl, rfl⟩ | ⟨rfl, rfl⟩ | ⟨rfl, rfl⟩ | ⟨rfl, rfl⟩ | ⟨rfl, rfl⟩ := h <;> exact fun _ => rfl

end

theorem exec_sahf (s : State) :
    exec .sahf s = .next (retire s.flags.tf { s with flags := s.flags.loadAh (s.regs.get8 .esp) }) := by
  show execSahf s = _
  exact runInstr_ok rfl

/-- Settles O16: a pop is the read of the stack top and the stack pointer moved up. -/
theorem popsLoadFromTheTop : Obligations.PopsLoadFromTheTop := by
  intro s t u rm r p v sz n x ah
  refine ⟨exec_sahf s, fun _ => rfl, fun h => ⟨exec_popReg r h, fun hp => ⟨exec_popRm h hp, ?_⟩, fun hm => exec_popf h hm, ?_⟩⟩
  · exact withValue_sameOutside u sz p x
  · intro sg i hi hl
    exact (pops_segments sg i hi s).trans (runInstr_ok ((popSegment_apply h hl).trans (inhibitAfterSs_apply _ _)))

end Sys2Proof.Machine
end


section
/-! Several pushes and pops one after the other without paging (spec/40_data_transfer.md R350, R351, R358, R359). -/

namespace Sys2Proof.Machine

/-! ## The offsets that a sequence of pushes and pops goes through -/

theorem below_toNat (s : State) (a : Nat) :
    ((s.below a).toNat : Int) = ((stackPtr s).toNat - (a : Int)) % stackSize s.stack32 := by
  rw [below_eq, ptrDown_toNat]

theorem above_toNat (s : State) (a : Nat) : (s.above a).toNat = ((stackPtr s).toNat + a) % stackSize s.stack32 := by
  rw [above_eq, ptrUp_eq, BitVec.toNat_ofNat]
  cases s.stack32 <;> simp only [stackSize_true, stackSize_false] <;> omega

theorem below_lt (s : State) (a : Nat) : (s.below a).toNat < stackSize s.stack32 := by
  have h := below_toNat s a
  cases hw : s.stack32 <;> simp only [hw, stackSize_true, stackSize_false] at h ⊢ <;> omega

theorem below_zero (s : State) : s.below 0 = stackPtr s := by
  have h := below_toNat s 0
  have hlt := stackPtr_lt s
  apply BitVec.eq_of_toNat_eq
  cases hw : s.stack32 <;> simp only [hw, stackSize_true, stackSize_false] at h hlt <;> omega

theorem above_zero (s : State) : s.above 0 = stackPtr s := by
  apply BitVec.eq_of_toNat_eq
  rw [above_toNat, Nat.add_zero, Nat.mod_eq_of_lt (stackPtr_lt s)]

theorem ptrDown_below (s : State) (a n : Nat) : ptrDown s.stack32 (s.below a) n = s.below (a + n) := by
  have h := below_toNat s a
  have h' := below_toNat s (a + n)
  have hd := ptrDown_toNat s.stack32 (s.below a) n
  apply BitVec.eq_of_toNat_eq
  cases hw : s.stack32 <;> simp only [hw, stackSize_true, stackSize_false] at h h' hd ⊢ <;> omega

theorem ptrUp_above (s : State) (a n : Nat) : ptrUp s.stack32 (s.above a) n = s.above (a + n) := by
  rw [ptrUp_eq, above_toNat, above_eq_ofNat, ← stackPtr_toNat, Nat.mod_add_mod, Nat.add_assoc]

/-- The stack pointer moved is the offset that it was moved to. -/
theorem stackPtr_withTop (s : State) {p : Dword} (h : p.toNat < stackSize s.stack32) :
    stackPtr (s.withTop s.stack32 p) = p := by
  apply BitVec.eq_of_toNat_eq
  rw [stackPtr_toNat, withTop_stack32]
  simp only [State.withTop]
  cases hw : s.stack32
  · rw [hw, stackSize_false] at h
    simp only [Bool.false_eq_true, if_false, stackSize_false, BitVec.toNat_append, BitVec.extractLsb'_toNat, Nat.shiftRight_zero]
    rw [← Nat.shiftLeft_add_eq_or_of_lt (Nat.mod_lt _ (by decide)), Nat.shiftLeft_eq]
    omega
  · rw [if_pos rfl, stackSize_true]
    exact Nat.mod_eq_of_lt p.isLt

theorem high_append (x y : Word) : (x ++ y : Dword).extractLsb' 16 16 = x := by
  ext i hi
  simp only [BitVec.getElem_extractLsb', BitVec.getLsbD_append]
  rw [if_neg (by omega), Nat.add_sub_cancel_left, BitVec.getLsbD_eq_getElem hi]

theorem low_append (x y : Word) : (x ++ y : Dword).extractLsb' 0 16 = y := by
  ext i hi
  simp only [BitVec.getElem_extractLsb', BitVec.getLsbD_append, Nat.zero_add]
  rw [if_pos hi, BitVec.getLsbD_eq_getElem hi]

theorem high_append_low (x : Dword) : x.extractLsb' 16 16 ++ x.extractLsb' 0 16 = x := by
  ext i hi
  simp only [BitVec.getElem_append, BitVec.getElem_extractLsb']
  split
  · rw [Nat.zero_add, BitVec.getLsbD_eq_getElem hi]
  · rw [show 16 + (i - 16) = i by omega, BitVec.getLsbD_eq_getElem hi]

theorem withTop_withTop (wide : Bool) (s : State) (p q : Dword) : (s.withTop wide p).withTop wide q = s.withTop wide q := by
  cases wide
  · simp only [State.withTop, Bool.false_eq_true, if_false, high_append]
  · simp only [State.withTop, if_true]

theorem below_withTop (s : State) (a m : Nat) : (s.withTop s.stack32 (s.below a)).below m = s.below (a + m) := by
  rw [below_eq, withTop_stack32, stackPtr_withTop s (below_lt s a), ptrDown_below]

theorem low16_extract (x : Dword) : ((low16 x).setWidth 32 : Dword).extractLsb' 0 16 = x.extractLsb' 0 16 := by
  ext i hi
  simp only [low16, BitVec.getElem_extractLsb', BitVec.getLsbD_setWidth, Nat.zero_add, decide_eq_true hi,
    decide_eq_true (show i < 32 by omega), Bool.true_and]

theorem withTop_stackPtr (s : State) : s.withTop s.stack32 (stackPtr s) = s := by
  have h : (if s.stack32 then stackPtr s else s.regs.esp.extractLsb' 16 16 ++ (stackPtr s).extractLsb' 0 16) = s.regs.esp := by
    unfold stackPtr
    cases s.stack32
    · rw [if_neg Bool.false_ne_true, if_neg Bool.false_ne_true, low16_extract, high_append_low]
    · rfl
  simp only [State.withTop, h]

/-! ## Accesses without paging -/

/-- The state with the data breakpoints that have been met (R822). -/
def State.noted (s : State) (b : BitVec 4) : State :=
  { s with events := { s.events with traps := { s.events.traps with b := b } } }

theorem noted_self (s : State) : s.noted s.events.traps.b = s := rfl

theorem noted_noted (s : State) (a b : BitVec 4) : (s.noted a).noted b = s.noted b := rfl

theorem noted_withTop (wide : Bool) (s : State) (p : Dword) (b : BitVec 4) :
    (s.withTop wide p).noted b = (s.noted b).withTop wide p := rfl

/-- An access of the stack passes the checks of SS (R165). -/
def State.stackFits (s : State) (off : Dword) (n : Nat) (write : Bool) : Prop :=
  accessOk s.prot s.segs.ss write = true ∧ limitOk s.prot s.segs.ss off n = true

section
variable {s : State} {off : Dword} {n : Nat} {write : Bool}

theorem stackSpan_passes (hu : s.unpaged) (hn : n ≤ 4096) (h : s.stackFits off n write) :
    ∃ b, segSpan .ss off n write s = .ok (linearBytes (s.segs.ss.base + off) n) (s.noted b) := by
  refine ⟨_, (segSpan_unpaged hu .ss off n hn write).trans (if_pos ?_)⟩
  rw [Bool.and_eq_true]
  exact h

theorem stackLinear_passes (h : s.stackFits off n write) : segLinear .ss off n write s = .ok (s.segs.ss.base + off) s :=
  (segLinear_apply .ss off n write s).trans (if_pos h)

theorem stackLinear_fails (h : ¬ s.stackFits off n write) : segLinear .ss off n write s = .error (.exc (.stack 0)) s :=
  (segLinear_apply .ss off n write s).trans (if_neg h)

end

/-! ## Pushes one after the other -/

/-- The push number `k` (from 0) of values of `n` bytes passes (R350). -/
def State.pushPasses (s : State) (n k : Nat) : Prop :=
  ¬ Straddles s.stack32 (s.below (n * k)).toNat n ∧ s.stackFits (s.below (n * (k + 1))) n true

/-- What stops a push that does not pass: a shutdown where it runs across FFFFh in real mode, else #12 (R350, R853). -/
def State.pushStop (s : State) (n k : Nat) (x : Stop) : Prop :=
  (Straddles s.stack32 (s.below (n * k)).toNat n ∧ s.pe = false ∧ x = .shutdown) ∨
  (¬ (Straddles s.stack32 (s.below (n * k)).toNat n ∧ s.pe = false) ∧ x = .exc (.stack 0))

theorem checkPushes_ok {s : State} {n : Nat} (count : Nat) :
    ∀ j, (∀ k, k < count → s.pushPasses n (j + k)) → checkPushes count n (s.below (n * j)) s = .ok () s := by
  induction count with
  | zero => intro j _; rfl
  | succ m ih =>
    intro j h
    obtain ⟨hcross, hfits⟩ : s.pushPasses n j := h 0 (by omega)
    have hrest := ih (j + 1) fun k hk => by rw [show j + 1 + k = j + (k + 1) by omega]; exact h (k + 1) (by omega)
    rw [Nat.mul_succ] at hfits hrest
    simp only [checkPushes, exec_bind_apply, pushPtr_apply hcross, ptrDown_below, stackLinear_passes hfits]
    exact hrest

/-- The first push that does not pass stops the check (R358). -/
theorem checkPushes_stop {s : State} {n i : Nat} (count : Nat) (hi : i < count) :
    ∀ j, (∀ k, k < i → s.pushPasses n (j + k)) → ¬ s.pushPasses n (j + i) →
      ∀ x : Stop, s.pushStop n (j + i) x → checkPushes count n (s.below (n * j)) s = .error x s := by
  induction count generalizing i with
  | zero => omega
  | succ m ih =>
    intro j hpass hstop x hx
    cases i with
    | zero =>
      rw [Nat.add_zero] at hx hstop
      obtain ⟨hcross, hp, rfl⟩ | ⟨hreal, rfl⟩ := hx
      · simp only [checkPushes, exec_bind_apply, pushPtr_real hcross hp]
      · by_cases hcross : Straddles s.stack32 (s.below (n * j)).toNat n
        · have hp : s.pe = true := eq_true_of_ne_false fun hp => hreal ⟨hcross, hp⟩
          simp only [checkPushes, exec_bind_apply, pushPtr_protected hcross hp]
        · have hfits : ¬ s.stackFits (s.below (n * (j + 1))) n true := fun hf => hstop ⟨hcross, hf⟩
          rw [Nat.mul_succ] at hfits
          simp only [checkPushes, exec_bind_apply, pushPtr_apply hcross, ptrDown_below, stackLinear_fails hfits]
    | succ i =>
      obtain ⟨hcross, hfits⟩ : s.pushPasses n j := hpass 0 (by omega)
      have hj : j + 1 + i = j + (i + 1) := by omega
      have hrest := ih (i := i) (by omega) (j + 1)
        (fun k hk => by rw [show j + 1 + k = j + (k + 1) by omega]; exact hpass (k + 1) (by omega))
        (by rw [hj]; exact hstop) x (by rw [hj]; exact hx)
      rw [Nat.mul_succ] at hfits hrest
      simp only [checkPushes, exec_bind_apply, pushPtr_apply hcross, ptrDown_below, stackLinear_passes hfits]
      exact hrest

/-- Slots claimed one after the other where each push passes: nothing but the stack pointer and the data breakpoints met
changes. -/
theorem claimSlots_ok {s : State} (hu : s.unpaged) {n : Nat} (hn : n ≤ 4096) (values : List Dword) :
    ∀ j b, (∀ k, k < values.length → s.pushPasses n (j + k)) →
      ∃ b', claimSlots n values ((s.noted b).withTop s.stack32 (s.below (n * j))) =
        .ok ((List.range' j values.length).map (s.slot n))
          ((s.noted b').withTop s.stack32 (s.below (n * (j + values.length)))) := by
  induction values with
  | nil => exact fun j b _ => ⟨b, rfl⟩
  | cons v rest ih =>
    intro j b h
    obtain ⟨hcross, hfits⟩ : s.pushPasses n j := h 0 (Nat.succ_pos _)
    have htop : ((s.noted b).withTop s.stack32 (s.below (n * j))).below n = s.below (n * (j + 1)) := by
      rw [Nat.mul_succ]
      exact below_withTop (s.noted b) (n * j) n
    have hptr : stackPtr ((s.noted b).withTop s.stack32 (s.below (n * j))) = s.below (n * j) :=
      stackPtr_withTop (s.noted b) (below_lt s _)
    obtain ⟨b1, hspan⟩ := stackSpan_passes (s := (s.noted b).withTop s.stack32 (s.below (n * j))) hu hn hfits
    rw [← htop] at hspan
    have hclaim := claimSlot_apply (by rw [hptr]; exact hcross) hspan
    rw [htop] at hclaim
    obtain ⟨b2, hrest⟩ := ih (j + 1) b1 fun k hk => by
      rw [show j + 1 + k = j + (k + 1) by omega]
      exact h (k + 1) (Nat.succ_lt_succ hk)
    refine ⟨b2, ?_⟩
    rw [noted_withTop, noted_noted, withTop_stack32] at hclaim
    rw [show (s.noted b).stack32 = s.stack32 from rfl, withTop_withTop] at hclaim
    simp only [claimSlots, exec_bind_apply, hclaim, hrest, exec_pure_apply, List.length_cons, List.range'_succ, List.map_cons]
    rw [show j + 1 + rest.length = j + (rest.length + 1) by omega]
    rfl

/-- The values filled into the slots of a sequence of pushes are those of the pushes (R350). -/
theorem fillSlots_pushed (s t : State) (n : Nat) (values : List Dword) :
    fillSlots ((List.range' 0 values.length).map (s.slot n)) values t = .ok () { t with mem := s.pushed n values t.mem } := by
  have fold : ∀ (l : List Dword) (j : Nat) (m : Memory),
      (((List.range' j l.length).map (s.slot n)).zip l).foldl (fun m v => Memory.store m v.1 v.2) m =
        (l.zipIdx j).foldl (fun m v => m.store (s.slot n v.2) v.1) m := by
    intro l
    induction l with
    | nil => exact fun _ _ => rfl
    | cons v rest ih => exact fun j m => ih (j + 1) _
  rw [fillSlots_apply, fold, State.pushed]

/-- Values pushed from the stack top down where each push passes. -/
theorem claimSlots_top {s : State} (hu : s.unpaged) {n : Nat} (hn : n ≤ 4096) (values : List Dword)
    (h : ∀ k, k < values.length → s.pushPasses n k) :
    ∃ b, claimSlots n values s =
      .ok ((List.range' 0 values.length).map (s.slot n))
        ((s.noted b).withTop s.stack32 (s.below (n * values.length))) := by
  obtain ⟨b, hb⟩ := claimSlots_ok hu hn values 0 s.events.traps.b fun k hk => by rw [Nat.zero_add]; exact h k hk
  rw [Nat.mul_zero, below_zero, noted_self, withTop_stackPtr, Nat.zero_add] at hb
  exact ⟨b, hb⟩

theorem checkPushes_top {s : State} {n count : Nat} (h : ∀ k, k < count → s.pushPasses n k) :
    checkPushes count n (stackPtr s) s = .ok () s := by
  have hc := checkPushes_ok count 0 fun k hk => by rw [Nat.zero_add]; exact h k hk
  rwa [Nat.mul_zero, below_zero] at hc

theorem checkPushes_top_stop {s : State} {n count i : Nat} (hi : i < count) (h : ∀ k, k < i → s.pushPasses n k)
    (hs : ¬ s.pushPasses n i) {x : Stop} (hx : s.pushStop n i x) : checkPushes count n (stackPtr s) s = .error x s := by
  have hc := checkPushes_stop count hi 0 (fun k hk => by rw [Nat.zero_add]; exact h k hk) (by rw [Nat.zero_add]; exact hs) x
    (by rw [Nat.zero_add]; exact hx)
  rwa [Nat.mul_zero, below_zero] at hc

/-! ## Pops one after the other -/

/-- The pop number `k` (from 0) of values of `n` bytes passes (R351). -/
def State.popPasses (s : State) (n k : Nat) : Prop :=
  (s.above (n * k)).toNat + n ≤ stackSize s.stack32 ∧ s.stackFits (s.above (n * k)) n false

theorem checkPops_ok {s : State} {n : Nat} (count : Nat) :
    ∀ j, (∀ k, k < count → s.popPasses n (j + k)) → checkPops count n (s.above (n * j)) s = .ok () s := by
  induction count with
  | zero => intro j _; rfl
  | succ m ih =>
    intro j h
    obtain ⟨hend, hfits⟩ : s.popPasses n j := h 0 (by omega)
    rw [← stackEnd_eq] at hend
    have hrest := ih (j + 1) fun k hk => by rw [show j + 1 + k = j + (k + 1) by omega]; exact h (k + 1) (by omega)
    rw [Nat.mul_succ] at hrest
    simp only [checkPops, exec_bind_apply, getState_apply, decide_eq_true hend, require_true,
      stackLinear_passes hfits, ptrUp_above]
    exact hrest

theorem checkPops_stop {s : State} {n : Nat} (count : Nat) :
    ∀ j, (∃ k, k < count ∧ ¬ s.popPasses n (j + k)) →
      checkPops count n (s.above (n * j)) s = .error (.exc (.stack 0)) s := by
  induction count with
  | zero => rintro j ⟨k, hk, -⟩; omega
  | succ m ih =>
    rintro j ⟨k, hk, hstop⟩
    by_cases hend : (s.above (n * j)).toNat + n ≤ stackEnd s
    · by_cases hfits : s.stackFits (s.above (n * j)) n false
      · have hk0 : k ≠ 0 := fun h0 => hstop (by rw [h0]; exact ⟨hend, hfits⟩)
        have hrest := ih (j + 1) ⟨k - 1, by omega, by rw [show j + 1 + (k - 1) = j + k by omega]; exact hstop⟩
        rw [Nat.mul_succ] at hrest
        simp only [checkPops, exec_bind_apply, getState_apply, decide_eq_true hend, require_true,
          stackLinear_passes hfits, ptrUp_above]
        exact hrest
      · simp only [checkPops, exec_bind_apply, getState_apply, decide_eq_true hend, require_true,
          stackLinear_fails hfits]
    · simp only [checkPops, exec_bind_apply, getState_apply, decide_eq_false hend, require_false]

/-- Values of the stack read one after the other where each read passes. -/
theorem stackReads_ok {s : State} (hu : s.unpaged) {n : Nat} (hn : n ≤ 4096) (off : Nat → Dword) (ks : List Nat)
    (h : ∀ k ∈ ks, s.stackFits (off k) n false) :
    ∀ b, ∃ b', eachGet ks (fun k => memRead .ss (off k) n) (s.noted b) =
      .ok (ks.map fun k => s.mem.load (linearBytes (s.segs.ss.base + off k) n)) (s.noted b') := by
  induction ks with
  | nil => exact fun b => ⟨b, rfl⟩
  | cons k rest ih =>
    intro b
    obtain ⟨b1, hspan⟩ := stackSpan_passes (s := s.noted b) hu hn (h k (List.mem_cons_self ..))
    obtain ⟨b2, hrest⟩ := ih (fun k hk => h k (List.mem_cons_of_mem _ hk)) b1
    rw [noted_noted] at hspan
    refine ⟨b2, ?_⟩
    simp only [eachGet, exec_bind_apply, memRead_ok hspan, hrest, exec_pure_apply, List.map_cons]
    rfl

end Sys2Proof.Machine
end


section
/-! PUSHA and POPA without paging (spec/40_data_transfer.md R358, R359). -/

namespace Sys2Proof.Machine

theorem opSize_cases (s : State) : s.opSize = .w ∨ s.opSize = .d := by
  unfold State.opSize
  split
  · exact .inr rfl
  · exact .inl rfl

theorem opSize_bytes_cases (s : State) : s.opSize.bytes = 2 ∨ s.opSize.bytes = 4 := by
  obtain h | h := opSize_cases s <;> rw [h]
  · exact .inl rfl
  · exact .inr rfl

/-- The values that PUSHA pushes, in order (R358). -/
def Regs.pushaValues (g : Regs) : List Dword := [g.eax, g.ecx, g.edx, g.ebx, g.esp, g.ebp, g.esi, g.edi]

theorem exec_pusha {s : State} (hu : s.unpaged) (h : ∀ k, k < 8 → s.pushPasses s.opSize.bytes k) :
    ∃ b, exec .pusha s =
      .next (retire s.flags.tf
        { (s.noted b).withTop s.stack32 (s.below (s.opSize.bytes * 8)) with
          mem := s.pushed s.opSize.bytes s.regs.pushaValues s.mem }) := by
  obtain ⟨b, hclaim⟩ := claimSlots_top hu (by have := opSize_bytes_cases s; omega) s.regs.pushaValues h
  refine ⟨b, ?_⟩
  show execPusha s = _
  refine runInstr_ok ?_
  have hfill := fillSlots_pushed s ((s.noted b).withTop s.stack32 (s.below (s.opSize.bytes * 8))) s.opSize.bytes s.regs.pushaValues
  simp only [Regs.pushaValues] at hclaim hfill ⊢
  simp only [exec_bind_apply, getState_apply, checkPushes_top h, hclaim]
  exact hfill

theorem exec_pusha_stop {s : State} {i : Nat} (hi : i < 8) (h : ∀ k, k < i → s.pushPasses s.opSize.bytes k)
    (hs : ¬ s.pushPasses s.opSize.bytes i) {x : Stop} (hx : s.pushStop s.opSize.bytes i x) :
    exec .pusha s = afterStop s x s := by
  show execPusha s = _
  refine runInstr_stop ?_
  simp only [exec_bind_apply, getState_apply, checkPushes_top_stop hi h hs hx]

/-- A register with a value of an operand size: of a word the upper half stays (R32, R351). -/
def Regs.loaded (g : Regs) (sz : Size) (r : Reg) (v : Dword) : Dword :=
  if sz = .d then v else (g.get r).extractLsb' 16 16 ++ v.extractLsb' 0 16

/-- POPA loads seven registers and skips the image of the stack pointer (R359). -/
theorem popa_loads {sz : Size} (hsz : sz = .w ∨ sz = .d) (v : Nat → Dword) (s : State) :
    eachDo ([Reg.edi, .esi, .ebp, .esp, .ebx, .edx, .ecx, .eax].zip ([0, 1, 2, 3, 4, 5, 6, 7].map v)) (fun p =>
        when_ (decide (p.1 ≠ .esp)) (writeReg sz p.1 (p.2.setWidth sz.bits))) s =
      .ok () { s with regs :=
        { eax := s.regs.loaded sz .eax (v 7), ecx := s.regs.loaded sz .ecx (v 6), edx := s.regs.loaded sz .edx (v 5)
          ebx := s.regs.loaded sz .ebx (v 4), esp := s.regs.esp, ebp := s.regs.loaded sz .ebp (v 2)
          esi := s.regs.loaded sz .esi (v 1), edi := s.regs.loaded sz .edi (v 0) } } := by
  obtain rfl | rfl := hsz <;> rfl

theorem exec_popa {s : State} (hu : s.unpaged) (h : ∀ k, k < 8 → s.popPasses s.opSize.bytes k) :
    let v (k : Nat) : Dword := s.mem.load (linearBytes (s.segs.ss.base + s.above (s.opSize.bytes * k)) s.opSize.bytes)
    let old (r : Reg) (k : Nat) : Dword := s.regs.loaded s.opSize r (v k)
    ∃ b, exec .popa s =
      .next (retire s.flags.tf
        (State.popped
          { s.noted b with
            regs := { eax := old .eax 7, ecx := old .ecx 6, edx := old .edx 5, ebx := old .ebx 4, esp := s.regs.esp
                      ebp := old .ebp 2, esi := old .esi 1, edi := old .edi 0 } } (8 * s.opSize.bytes))) := by
  intro v old
  have hcheck := checkPops_ok (s := s) (n := s.opSize.bytes) 8 0 fun k hk => by rw [Nat.zero_add]; exact h k hk
  rw [Nat.mul_zero, above_zero] at hcheck
  have hoff : (fun k => memRead .ss (ptrUp s.stack32 (stackPtr s) (k * s.opSize.bytes)) s.opSize.bytes) =
      fun k => memRead .ss (s.above (s.opSize.bytes * k)) s.opSize.bytes := by
    funext k
    rw [above_eq, Nat.mul_comm]
  obtain ⟨b, hreads⟩ := stackReads_ok hu (by have := opSize_bytes_cases s; omega) (fun k => s.above (s.opSize.bytes * k))
    [0, 1, 2, 3, 4, 5, 6, 7] (fun k hk => (h k (by simp only [List.mem_cons, List.not_mem_nil, or_false] at hk; omega)).2)
    s.events.traps.b
  rw [noted_self] at hreads
  refine ⟨b, ?_⟩
  show execPopa s = _
  refine runInstr_ok ?_
  simp only [exec_bind_apply, getState_apply, hcheck, hoff, hreads]
  rw [popa_loads (opSize_cases s)]
  exact release_apply _ _

theorem exec_popa_stop {s : State} (h : ∃ k, k < 8 ∧ ¬ s.popPasses s.opSize.bytes k) :
    exec .popa s = s.raises s (.stack 0) := by
  obtain ⟨k, hk, hstop⟩ := h
  have hcheck := checkPops_stop (s := s) (n := s.opSize.bytes) 8 0 ⟨k, hk, by rw [Nat.zero_add]; exact hstop⟩
  rw [Nat.mul_zero, above_zero] at hcheck
  show execPopa s = _
  refine runInstr_exc ?_
  simp only [exec_bind_apply, getState_apply, hcheck]

/-- Settles O17: the offsets of the obligation are those that the pushes and pops go through. -/
theorem pushAllAndPopAll : Obligations.PushAllAndPopAll := by
  intro s hu sz n wide top g slot checked noted size below crosses pushes
  have hn : n = 2 ∨ n = 4 := opSize_bytes_cases s
  have hbelow : ∀ k, k ≤ 8 → BitVec.ofNat 32 (below k) = s.below (n * k) := by
    intro k hk
    refine (below_eq_ofNat s ?_).symm
    have h32 : n * k ≤ 32 := by obtain hn | hn := hn <;> rw [hn] <;> omega
    cases s.stack32 <;> simp only [stackSize_true, stackSize_false] <;> omega
  have hnat : ∀ k, k ≤ 8 → below k = (s.below (n * k)).toNat := by
    intro k hk
    rw [← hbelow k hk, BitVec.toNat_ofNat]
    have hlt : below k < stackSize s.stack32 := Nat.mod_lt _ (stackSize_pos _)
    refine (Nat.mod_eq_of_lt (lt_of_lt_of_le hlt ?_)).symm
    cases s.stack32 <;> simp only [stackSize_true, stackSize_false] <;> omega
  have hcross : ∀ k, k ≤ 8 → (crosses k ↔ Straddles s.stack32 (s.below (n * k)).toNat n) := by
    intro k hk
    show wide = false ∧ 0 < below k ∧ below k < n ↔ _
    rw [hnat k hk]
    exact Iff.rfl
  have hpush : ∀ k, k < 8 → (pushes k ↔ s.pushPasses n k) := by
    intro k hk
    show ¬ crosses k ∧ (_ ∧ limitOk s.prot s.segs.ss (BitVec.ofNat 32 (below (k + 1))) n = true) ↔ _
    rw [hcross k (by omega), hbelow (k + 1) (by omega)]
    exact Iff.rfl
  refine ⟨fun h => ?_, fun k hk hpass hstop => ⟨fun hc hp => ?_, fun hc => ?_⟩, ?_⟩
  · obtain ⟨b, hb⟩ := exec_pusha hu fun k hk => (hpush k hk).mp (h k hk)
    refine ⟨b, ?_⟩
    have hmem : s.pushed n s.regs.pushaValues s.mem =
        ([g.eax, g.ecx, g.edx, g.ebx, g.esp, g.ebp, g.esi, g.edi].zipIdx).foldl
          (fun m v => m.store (slot (below (v.2 + 1))) v.1) s.mem := by
      refine List.foldl_ext _ _ _ fun m v hv => ?_
      have hv8 : v.2 < 8 := List.snd_lt_of_mem_zipIdx hv
      show m.store (s.slot n v.2) v.1 = m.store (linearBytes (s.segs.ss.base + BitVec.ofNat 32 (below (v.2 + 1))) n) v.1
      rw [hbelow (v.2 + 1) (by omega)]
      rfl
    rw [hb, hbelow 8 (by omega), ← hmem]
    rfl
  · exact exec_pusha_stop hk (fun j hj => (hpush j (by omega)).mp (hpass j hj)) (mt (hpush k hk).mpr hstop)
      (.inl ⟨(hcross k (by omega)).mp hc, hp, rfl⟩)
  · refine exec_pusha_stop hk (fun j hj => (hpush j (by omega)).mp (hpass j hj)) (mt (hpush k hk).mpr hstop) (.inr ⟨?_, rfl⟩)
    rwa [← hcross k (by omega)]
  · intro from_
    have habove : ∀ k, BitVec.ofNat 32 (from_ k) = s.above (n * k) := fun k => (above_eq_ofNat s (n * k)).symm
    have hfrom : ∀ k, from_ k = (s.above (n * k)).toNat := fun k => by rw [above_toNat, stackPtr_toNat]; rfl
    have hpop : ∀ k, from_ k + n ≤ size ∧ checked (from_ k) false ↔ s.popPasses n k := by
      intro k
      show from_ k + n ≤ size ∧ (_ ∧ limitOk s.prot s.segs.ss (BitVec.ofNat 32 (from_ k)) n = true) ↔ _
      rw [habove k, hfrom k]
      exact Iff.rfl
    refine ⟨?_, fun ⟨k, hk, hstop⟩ => exec_popa_stop ⟨k, hk, mt (hpop k).mpr hstop⟩⟩
    intro h old
    obtain ⟨b, hb⟩ := exec_popa hu fun k hk => (hpop k).mp (h k hk)
    refine ⟨b, hb.trans ?_⟩
    have hold : ∀ r k, old r k = s.regs.loaded sz r (s.mem.load (linearBytes (s.segs.ss.base + s.above (n * k)) n)) := by
      intro r k
      show (if sz = .d then Memory.load s.mem (linearBytes (s.segs.ss.base + BitVec.ofNat 32 (from_ k)) n)
        else (g.get r).extractLsb' 16 16 ++
          (Memory.load s.mem (linearBytes (s.segs.ss.base + BitVec.ofNat 32 (from_ k)) n)).extractLsb' 0 16) = _
      rw [habove k]
      rfl
    simp only [hold]
    rfl

end Sys2Proof.Machine
end


section
/-! Descriptors byte by byte, and the loads of the segment registers by mode (spec/20_memory.md R150, R152, R161, R163, R172 to
R174, R180, R181). -/

namespace Sys2Proof.Machine

/-! ## The eight bytes of a descriptor (R172) -/

theorem append_toNat {n m : Nat} (x : BitVec n) (y : BitVec m) : (x ++ y).toNat = x.toNat * 2 ^ m + y.toNat := by
  rw [BitVec.toNat_append, ← Nat.shiftLeft_add_eq_or_of_lt y.isLt, Nat.shiftLeft_eq]

theorem load_four (m : Memory) (a b c d : Nat) :
    m.load [a, b, c, d] = (m.read d ++ m.read c ++ m.read b ++ m.read a : BitVec 32) := by
  apply BitVec.eq_of_toNat_eq
  have h0 : (m.load []).toNat = 0 := rfl
  simp only [append_toNat, m.load_cons_toNat (rest := [b, c, d]) (by simp), m.load_cons_toNat (rest := [c, d]) (by simp),
    m.load_cons_toNat (rest := [d]) (by simp), m.load_cons_toNat (rest := []) (by simp), h0]
  omega

/-- A descriptor from its eight bytes, the one at the lowest address first. -/
def descOfBytes (b : Nat → Byte) : Desc :=
  { lo := (b 3 ++ b 2 ++ b 1 ++ b 0 : BitVec 32), hi := (b 7 ++ b 6 ++ b 5 ++ b 4 : BitVec 32) }

theorem descriptorAt_eq (m : Memory) (a : Dword) :
    descriptorAt m a = descOfBytes fun k => m.read ((a.toNat + k) % 2 ^ 32) := by
  unfold descriptorAt descOfBytes
  rw [← load_four, ← load_four]
  rfl

section
variable (b : Nat → Byte)

theorem descOfBytes_attr : (descOfBytes b).attr =
    { p := (b 5).getLsbD 7, dpl := (b 5).extractLsb' 5 2, s := (b 5).getLsbD 4, typ := (b 5).extractLsb' 0 4
      g := (b 6).getLsbD 7, db := (b 6).getLsbD 6 } := by
  have hdpl : (b 7 ++ b 6 ++ b 5 ++ b 4 : BitVec 32).extractLsb' 13 2 = (b 5).extractLsb' 5 2 := by
    ext i hi
    simp only [BitVec.getElem_extractLsb', BitVec.getLsbD_append]
    grind
  have htyp : (b 7 ++ b 6 ++ b 5 ++ b 4 : BitVec 32).extractLsb' 8 4 = (b 5).extractLsb' 0 4 := by
    ext i hi
    simp only [BitVec.getElem_extractLsb', BitVec.getLsbD_append]
    grind
  simp only [Desc.attr, descOfBytes, hdpl, htyp, BitVec.getLsbD_append]
  rfl

theorem descOfBytes_base :
    (descOfBytes b).base.toNat = (b 2).toNat + 2 ^ 8 * (b 3).toNat + 2 ^ 16 * (b 4).toNat + 2 ^ 24 * (b 7).toNat := by
  have h7 : (b 7 ++ b 6 ++ b 5 ++ b 4 : BitVec 32).extractLsb' 24 8 = b 7 := by
    ext i hi
    simp only [BitVec.getElem_extractLsb', BitVec.getLsbD_append]
    grind
  have h4 : (b 7 ++ b 6 ++ b 5 ++ b 4 : BitVec 32).extractLsb' 0 8 = b 4 := by
    ext i hi
    simp only [BitVec.getElem_extractLsb', BitVec.getLsbD_append]
    grind
  have h32 : (b 3 ++ b 2 ++ b 1 ++ b 0 : BitVec 32).extractLsb' 16 16 = b 3 ++ b 2 := by
    ext i hi
    simp only [BitVec.getElem_extractLsb', BitVec.getLsbD_append]
    grind
  simp only [Desc.base, descOfBytes, h7, h4, h32, append_toNat]
  omega

/-- The limit of a descriptor in its units (R172). -/
theorem descOfBytes_units :
    (((descOfBytes b).hi.extractLsb' 16 4 ++ (descOfBytes b).lo.extractLsb' 0 16).setWidth 32 : Dword).toNat =
      (b 0).toNat + 2 ^ 8 * (b 1).toNat + 2 ^ 16 * ((b 6).toNat % 16) := by
  have h6 : (b 7 ++ b 6 ++ b 5 ++ b 4 : BitVec 32).extractLsb' 16 4 = (b 6).extractLsb' 0 4 := by
    ext i hi
    simp only [BitVec.getElem_extractLsb', BitVec.getLsbD_append]
    grind
  have h10 : (b 3 ++ b 2 ++ b 1 ++ b 0 : BitVec 32).extractLsb' 0 16 = b 1 ++ b 0 := by
    ext i hi
    simp only [BitVec.getElem_extractLsb', BitVec.getLsbD_append]
    grind
  have := (b 0).isLt
  have := (b 1).isLt
  simp only [descOfBytes, h6, h10, BitVec.toNat_setWidth, append_toNat, BitVec.extractLsb'_toNat, Nat.shiftRight_zero]
  omega

theorem descOfBytes_limit :
    let units := (b 0).toNat + 2 ^ 8 * (b 1).toNat + 2 ^ 16 * ((b 6).toNat % 16)
    (descOfBytes b).limit.toNat = if (b 6).getLsbD 7 then units * 4096 + 4095 else units := by
  intro units
  have := (b 0).isLt
  have := (b 1).isLt
  have hunits := descOfBytes_units b
  have hg : (descOfBytes b).attr.g = (b 6).getLsbD 7 := by rw [descOfBytes_attr]
  simp only [Desc.limit, hg]
  split
  · rw [BitVec.toNat_or, BitVec.toNat_shiftLeft, hunits, Nat.shiftLeft_eq, Nat.mod_eq_of_lt (by omega)]
    exact (Nat.shiftLeft_eq units 12 ▸ Nat.shiftLeft_add_eq_or_of_lt (b := 4095) (i := 12) (by decide) units).symm
  · exact hunits

end

theorem typ_bit (x : Byte) {i : Nat} (h : i < 4) : (x.extractLsb' 0 4).getLsbD i = x.getLsbD i := by
  rw [BitVec.getLsbD_extractLsb', decide_eq_true h, Bool.true_and, Nat.zero_add]

theorem readable_bits (s e w : Bool) : (s && !e || s && e && w) = (s && (!e || w)) := by
  cases s <;> cases e <;> rfl

/-! ## Selectors -/

theorem rpl_eq (sel : Word) : rpl sel = sel.toNat % 4 := by
  rw [rpl, BitVec.extractLsb'_toNat, Nat.shiftRight_zero]

theorem isNull_iff (sel : Word) : isNull sel = true ↔ sel &&& 0xFFFC = 0 := beq_iff_eq

theorem isNull_eq_false (sel : Word) : isNull sel = false ↔ sel &&& 0xFFFC ≠ 0 := by
  rw [← Bool.not_eq_true, isNull_iff]

theorem selOffset_toNat (sel : Word) : (sel &&& 0xFFF8).toNat = sel.toNat / 8 * 8 := by
  have h : sel &&& 0xFFF8 = (sel.ushiftRight 3).shiftLeft 3 := by
    ext i hi
    interval_cases i <;> simp
  have := sel.isLt
  rw [h, BitVec.shiftLeft_eq, BitVec.ushiftRight_eq, BitVec.toNat_shiftLeft, BitVec.toNat_ushiftRight, Nat.shiftRight_eq_div_pow, Nat.shiftLeft_eq]
  omega

theorem realBase_eq (sel : Word) : realBase sel = BitVec.ofNat 32 (16 * sel.toNat) := by
  have := sel.isLt
  apply BitVec.eq_of_toNat_eq
  rw [realBase, BitVec.toNat_shiftLeft, BitVec.toNat_setWidth, BitVec.toNat_ofNat, Nat.shiftLeft_eq]
  omega

theorem descAddr_eq (s : State) (sel : Word) :
    descAddr s sel =
      if (sel.getLsbD 2 = true → s.sys.ldtr.valid = true) ∧
          sel.toNat / 8 * 8 + 7 ≤ (if sel.getLsbD 2 then s.sys.ldtr.limit.toNat else s.sys.gdtr.limit.toNat) then
        some ((if sel.getLsbD 2 then s.sys.ldtr.base else s.sys.gdtr.base) + BitVec.ofNat 32 (sel.toNat / 8 * 8))
      else none := by
  simp only [descAddr, selOffset_toNat, inLdt]
  cases sel.getLsbD 2
  · simp
  · simp

/-! ## The loads -/

section
variable {s : State} {sg : Seg} {sel : Word}

theorem v86_of_real (h : s.pe = false) : s.v86 = false := by rw [State.v86, h, Bool.false_and]

theorem v86_of_vm (h : s.pe = true) (hv : s.flags.vm = true) : s.v86 = true := by rw [State.v86, h, hv, Bool.and_self]

theorem prot_iff (s : State) : s.prot = true ↔ s.pe = true ∧ s.flags.vm = false := by
  rw [State.prot, Bool.and_eq_true, Bool.not_eq_true']

theorem v86_of_prot (h : s.prot = true) : s.v86 = false := by
  rw [State.v86, ((prot_iff s).mp h).2, Bool.and_false]

theorem pe_of_prot (h : s.prot = true) : s.pe = true := ((prot_iff s).mp h).1

theorem loadSeg_real (h : s.pe = false) :
    loadSeg sg sel s = .ok () { s with segs := s.segs.set sg (segReal (s.segs.get sg) sel) } := by
  simp only [loadSeg, exec_bind_apply, getState_apply, v86_of_real h, h, Bool.false_eq_true, if_false, setSeg_apply]

theorem loadSeg_v86 (h : s.pe = true) (hv : s.flags.vm = true) :
    loadSeg sg sel s = .ok () { s with segs := s.segs.set sg (segV86 sel) } := by
  simp only [loadSeg, exec_bind_apply, getState_apply, v86_of_vm h hv, if_true, setSeg_apply]

theorem loadSeg_data (h : s.prot = true) (hsg : sg ≠ .ss) : loadSeg sg sel s = loadDataSeg sg sel .protection s := by
  simp only [loadSeg, exec_bind_apply, getState_apply, v86_of_prot h, pe_of_prot h, Bool.false_eq_true, if_false, if_true,
    if_neg hsg]

theorem loadSeg_ss (h : s.prot = true) :
    loadSeg .ss sel s = loadStackSeg sel s.sys.cpl (.protection 0) .protection s := by
  simp only [loadSeg, exec_bind_apply, getState_apply, v86_of_prot h, pe_of_prot h, Bool.false_eq_true, if_false, if_true]

/-- A data segment register may hold the segment at this level (R180). -/
def State.mayLoad (s : State) (sel : Word) (a : Attr) : Prop :=
  a.conforming = true ∨ (s.sys.cpl.toNat ≤ a.dpl.toNat ∧ sel.toNat % 4 ≤ a.dpl.toNat)

theorem mayLoad_iff (s : State) (sel : Word) (a : Attr) :
    (a.conforming || decide (max s.sys.cpl.toNat (rpl sel) ≤ a.dpl.toNat)) = true ↔ s.mayLoad sel a := by
  rw [Bool.or_eq_true, decide_eq_true_iff, rpl_eq, max_le_iff]
  exact Iff.rfl

theorem readDesc_found (hu : s.unpaged) {a : Dword} (ha : descAddr s sel = some a) (bad : Exc) :
    readDesc sel bad s = .ok (descriptorAt s.mem a) s := by
  rw [readDesc_unpaged hu, ha]

theorem readDesc_missing (hu : s.unpaged) (ha : descAddr s sel = none) (bad : Exc) : readDesc sel bad s = .error (.exc bad) s := by
  rw [readDesc_unpaged hu, ha]

section DataSegment
variable {bad : Word → Exc}

theorem loadDataSeg_null (h : sel &&& 0xFFFC = 0) :
    loadDataSeg sg sel bad s = .ok () { s with segs := s.segs.set sg (segNull (s.segs.get sg) sel) } := by
  simp only [loadDataSeg, exec_bind_apply, getState_apply, (isNull_iff sel).mpr h, if_true, setSeg_apply]

theorem loadDataSeg_missing (hu : s.unpaged) (h : sel &&& 0xFFFC ≠ 0) (ha : descAddr s sel = none) :
    loadDataSeg sg sel bad s = .error (.exc (bad (sel &&& 0xFFFC))) s := by
  simp only [loadDataSeg, exec_bind_apply, getState_apply, (isNull_eq_false sel).mpr h, Bool.false_eq_true, if_false,
    readDesc_missing hu ha]
  rfl

variable {a : Dword}

theorem loadDataSeg_denied (hu : s.unpaged) (h : sel &&& 0xFFFC ≠ 0) (ha : descAddr s sel = some a)
    (hd : (descriptorAt s.mem a).attr.readable = false ∨ ¬ s.mayLoad sel (descriptorAt s.mem a).attr) :
    loadDataSeg sg sel bad s = .error (.exc (bad (sel &&& 0xFFFC))) s := by
  simp only [loadDataSeg, exec_bind_apply, getState_apply, (isNull_eq_false sel).mpr h, Bool.false_eq_true, if_false,
    readDesc_found hu ha]
  cases hr : (descriptorAt s.mem a).attr.readable
  · simp only [require_false]
    rfl
  · have hm := hd.resolve_left (by rw [hr]; decide)
    rw [← mayLoad_iff, Bool.not_eq_true] at hm
    simp only [require_true, hm, require_false]
    rfl

theorem loadDataSeg_absent (hu : s.unpaged) (h : sel &&& 0xFFFC ≠ 0) (ha : descAddr s sel = some a)
    (hr : (descriptorAt s.mem a).attr.readable = true) (hm : s.mayLoad sel (descriptorAt s.mem a).attr)
    (hp : (descriptorAt s.mem a).attr.p = false) :
    loadDataSeg sg sel bad s = .error (.exc (.notPresent (sel &&& 0xFFFC))) s := by
  simp only [loadDataSeg, exec_bind_apply, getState_apply, (isNull_eq_false sel).mpr h, Bool.false_eq_true, if_false,
    readDesc_found hu ha, hr, require_true, (mayLoad_iff s sel _).mpr hm, hp, require_false]
  rfl

theorem loadDataSeg_loads (hu : s.unpaged) (h : sel &&& 0xFFFC ≠ 0) (ha : descAddr s sel = some a)
    (hr : (descriptorAt s.mem a).attr.readable = true) (hm : s.mayLoad sel (descriptorAt s.mem a).attr)
    (hp : (descriptorAt s.mem a).attr.p = true) :
    loadDataSeg sg sel bad s =
      .ok () { s with segs := s.segs.set sg (segOfDesc sel (descriptorAt s.mem a))
                      mem := markAccessed s.mem a (descriptorAt s.mem a) } := by
  simp only [loadDataSeg, exec_bind_apply, getState_apply, (isNull_eq_false sel).mpr h, Bool.false_eq_true, if_false,
    readDesc_found hu ha, hr, require_true, (mayLoad_iff s sel _).mpr hm, hp, setAccessed_unpaged hu _ _ _ ha, setSeg_apply]

end DataSegment

section StackSegment
variable {l : BitVec 2} {badNull : Exc} {bad : Word → Exc} {a : Dword}

/-- A segment may be the stack of a privilege level (R181). -/
def Attr.stackOf (a : Attr) (sel : Word) (l : BitVec 2) : Prop :=
  sel.toNat % 4 = l.toNat ∧ a.writable = true ∧ a.dpl = l

theorem checkStackSeg_null (h : sel &&& 0xFFFC = 0) : checkStackSeg sel l badNull bad s = .error (.exc badNull) s := by
  simp only [checkStackSeg, exec_bind_apply, (isNull_iff sel).mpr h, Bool.not_true, require_false]

theorem checkStackSeg_missing (hu : s.unpaged) (h : sel &&& 0xFFFC ≠ 0) (ha : descAddr s sel = none) :
    checkStackSeg sel l badNull bad s = .error (.exc (bad (sel &&& 0xFFFC))) s := by
  simp only [checkStackSeg, exec_bind_apply, (isNull_eq_false sel).mpr h, Bool.not_false, require_true, readDesc_missing hu ha]
  rfl

theorem checkStackSeg_denied (hu : s.unpaged) (h : sel &&& 0xFFFC ≠ 0) (ha : descAddr s sel = some a)
    (hd : ¬ (descriptorAt s.mem a).attr.stackOf sel l) :
    checkStackSeg sel l badNull bad s = .error (.exc (bad (sel &&& 0xFFFC))) s := by
  simp only [checkStackSeg, exec_bind_apply, (isNull_eq_false sel).mpr h, Bool.not_false, require_true, readDesc_found hu ha,
    rpl_eq]
  by_cases hr : sel.toNat % 4 = l.toNat
  · simp only [decide_eq_true hr, require_true]
    cases hw : (descriptorAt s.mem a).attr.writable
    · simp only [require_false]
      rfl
    · have hl : ¬ (descriptorAt s.mem a).attr.dpl = l := fun hl => hd ⟨hr, hw, hl⟩
      simp only [require_true, decide_eq_false hl, require_false]
      rfl
  · simp only [decide_eq_false hr, require_false]
    rfl

theorem checkStackSeg_absent (hu : s.unpaged) (h : sel &&& 0xFFFC ≠ 0) (ha : descAddr s sel = some a)
    (hd : (descriptorAt s.mem a).attr.stackOf sel l) (hp : (descriptorAt s.mem a).attr.p = false) :
    checkStackSeg sel l badNull bad s = .error (.exc (.stack (sel &&& 0xFFFC))) s := by
  obtain ⟨hr, hw, hl⟩ := hd
  simp only [checkStackSeg, exec_bind_apply, (isNull_eq_false sel).mpr h, Bool.not_false, require_true, readDesc_found hu ha,
    rpl_eq, decide_eq_true hr, hw, decide_eq_true hl, hp, require_false]
  rfl

theorem checkStackSeg_ok (hu : s.unpaged) (h : sel &&& 0xFFFC ≠ 0) (ha : descAddr s sel = some a)
    (hd : (descriptorAt s.mem a).attr.stackOf sel l) (hp : (descriptorAt s.mem a).attr.p = true) :
    checkStackSeg sel l badNull bad s = .ok (descriptorAt s.mem a) s := by
  obtain ⟨hr, hw, hl⟩ := hd
  simp only [checkStackSeg, exec_bind_apply, (isNull_eq_false sel).mpr h, Bool.not_false, require_true, readDesc_found hu ha,
    rpl_eq, decide_eq_true hr, hw, decide_eq_true hl, hp, exec_pure_apply]

theorem loadStackSeg_stop {x : Stop} {t : State} (h : checkStackSeg sel l badNull bad s = .error x t) :
    loadStackSeg sel l badNull bad s = .error x t := by
  simp only [loadStackSeg, exec_bind_apply, h]

theorem loadStackSeg_loads (hu : s.unpaged) (h : sel &&& 0xFFFC ≠ 0) (ha : descAddr s sel = some a)
    (hd : (descriptorAt s.mem a).attr.stackOf sel l) (hp : (descriptorAt s.mem a).attr.p = true) :
    loadStackSeg sel l badNull bad s =
      .ok () { s with segs := s.segs.set .ss (segOfDesc sel (descriptorAt s.mem a))
                      mem := markAccessed s.mem a (descriptorAt s.mem a) } := by
  simp only [loadStackSeg, exec_bind_apply, checkStackSeg_ok hu h ha hd hp, setAccessed_unpaged hu _ _ _ ha, setSeg_apply]

end StackSegment

end

/-- Settles O12: the loads by mode, and the fields of a descriptor from its bytes. -/
theorem segmentRegisterLoadsByMode : Obligations.SegmentRegisterLoadsByMode := by
  refine ⟨?_, ?_, ?_, descAddr_eq, ?_⟩
  · intro s sg sel old base
    have hb : base = realBase sel := (realBase_eq sel).symm
    rw [hb]
    exact ⟨loadSeg_real, loadSeg_v86⟩
  · intro s sg sel hu hp hss hcs code fails
    simp only [fails, loadSeg_data hp hss]
    refine ⟨loadDataSeg_null, loadDataSeg_missing hu, fun a h ha => ?_⟩
    exact ⟨loadDataSeg_denied hu h ha, loadDataSeg_absent hu h ha, loadDataSeg_loads hu h ha⟩
  · intro s sel hu hp code fails
    simp only [fails, loadSeg_ss hp]
    refine ⟨fun h => loadStackSeg_stop (checkStackSeg_null h), fun h ha => loadStackSeg_stop (checkStackSeg_missing hu h ha),
      fun a h ha => ?_⟩
    exact ⟨fun hd => loadStackSeg_stop (checkStackSeg_denied hu h ha hd),
      fun hd hp => loadStackSeg_stop (checkStackSeg_absent hu h ha hd hp), loadStackSeg_loads hu h ha⟩
  · intro m a sel d byte bit units r
    have hd : d = descOfBytes fun k => m.read ((a.toNat + k) % 2 ^ 32) := descriptorAt_eq m a
    have ha := descOfBytes_attr fun k => m.read ((a.toNat + k) % 2 ^ 32)
    rw [← hd] at ha
    refine ⟨rfl, rfl, rfl, ?_, ?_, ?_⟩
    · show d.base.toNat = _
      rw [hd]
      exact descOfBytes_base _
    · show d.limit.toNat = _
      rw [hd]
      exact descOfBytes_limit _
    · simp only [Attr.readable, Attr.writable, Attr.isCode, Attr.isData, ha]
      refine ⟨rfl, ?_, rfl, ?_, rfl, rfl, ?_, ?_, ?_⟩
      · rw [BitVec.extractLsb'_toNat, Nat.shiftRight_eq_div_pow]
      · rw [BitVec.extractLsb'_toNat, Nat.shiftRight_zero]
      · rw [typ_bit _ (by decide)]
      · rw [typ_bit _ (by decide), typ_bit _ (by decide)]
      · rw [typ_bit _ (by decide), typ_bit _ (by decide)]
        exact readable_bits _ _ _

end Sys2Proof.Machine
end


section
/-! MOV to and from segment registers, and the loads of far pointers (spec/40_data_transfer.md R334, R335;
spec/41_segment_flag_control.md R380 to R384, R397). -/

namespace Sys2Proof.Machine

section
variable {s t u : State} {sg : Seg} {rm : RM} {p : Place}

theorem exec_movSegRm (hp : place .w rm false s = .ok p t) (hcs : sg ≠ .cs) (hl : loadSeg sg (t.valueAt .w p) t = .ok () u) :
    exec (.movSegRm sg rm) s =
      .next (retire s.flags.tf (if sg = .ss then { u with ctx := { u.ctx with inhibitNext := .all } } else u)) := by
  show execMovSegRm sg rm s = _
  refine runInstr_ok ?_
  simp only [exec_bind_apply, readRM_ok hp, decide_eq_true hcs, require_true, hl]
  exact inhibitAfterSs_apply sg u

theorem exec_movSegRm_cs (hp : place .w rm false s = .ok p t) : exec (.movSegRm .cs rm) s = s.raises t .invalidOpcode := by
  show execMovSegRm .cs rm s = _
  refine runInstr_exc ?_
  simp only [exec_bind_apply, readRM_ok hp, ne_eq, not_true_eq_false, decide_false, require_false]

/-- A selector goes to memory, or to a 16-bit register, as a word (R335). -/
theorem writeSystemWord_word (hp : place .w rm true s = .ok p t) (h : (∃ m, rm = .mem m) ∨ s.ctx.op32 = false) (v : Word) :
    writeSystemWord rm v s = .ok () (t.withValue .w p v) := by
  cases rm with
  | mem m => exact writeRM_ok v hp
  | reg r =>
    obtain ⟨m, hm⟩ | hop := h
    · exact nomatch hm
    · have hplace : (EStateM.Result.ok (Place.reg r) s : EStateM.Result Stop State Place) = .ok p t := hp
      obtain ⟨rfl, rfl⟩ := EStateM.Result.ok.inj hplace
      simp only [writeSystemWord, exec_bind_apply, getState_apply, hop, Bool.false_eq_true, if_false, writeReg_apply, withValue_reg]

/-- A 32-bit register takes a selector with a free upper half (R335, U21). -/
theorem writeSystemWord_dword (r : Reg) (h : s.ctx.op32 = true) (v : Word) :
    writeSystemWord (.reg r) v s =
      .ok () { s.withValue .d (.reg r) ((Config.freeValue s.draws).extractLsb' 16 16 ++ v) with draws := s.draws + 1 } := by
  simp only [writeSystemWord, exec_bind_apply, getState_apply, h, if_true, draw_apply, writeReg_apply, withValue_reg]

theorem exec_movRmSeg {t : State} (h : writeSystemWord rm (s.segs.get sg).sel s = .ok () t) :
    exec (.movRmSeg rm sg) s = .next (retire s.flags.tf t) := by
  show execMovRmSeg rm sg s = _
  refine runInstr_ok ?_
  simp only [exec_bind_apply, getState_apply, h]

/-- An instruction that loads a far pointer. -/
def LoadsFarPointer (sg : Seg) (load : Reg → Mem → Instr) : Prop := ∀ r m s, exec (load r m) s = runInstr (loadFarPointer sg r m) s

theorem loads_far_pointers : ∀ sg load, (sg, load) ∈ [(Seg.ds, Instr.lds), (Seg.es, Instr.les), (Seg.fs, Instr.lfs),
    (Seg.gs, Instr.lgs), (Seg.ss, Instr.lss)] → LoadsFarPointer sg load := by
  intro sg load h
  simp only [List.mem_cons, Prod.mk.injEq, List.not_mem_nil, or_false] at h
  obtain ⟨rfl, rfl⟩ | ⟨rfl, rfl⟩ | ⟨rfl, rfl⟩ | ⟨rfl, rfl⟩ | ⟨rfl, rfl⟩ := h <;> exact fun _ _ _ => rfl

theorem loadFarPointer_apply {a b c : State} {m : Mem} {from_ : Seg} {off v w : Dword} (r : Reg)
    (he : effAddr m s = .ok (from_, off) a) (hv : memRead from_ off s.opSize.bytes a = .ok v b)
    (hw : memRead from_ (off + BitVec.ofNat 32 s.opSize.bytes) 2 b = .ok w c) (hl : loadSeg sg (w.setWidth 16) c = .ok () u) :
    loadFarPointer sg r m s = .ok () (u.withValue s.opSize (.reg r) (v.setWidth _)) := by
  simp only [loadFarPointer, exec_bind_apply, getState_apply, he, hv, hw, low16, hl, writeReg_apply, withValue_reg]

end

/-- Settles O13: each form is a read of its source and a load by mode. -/
theorem segmentRegisterMoves : Obligations.SegmentRegisterMoves := by
  intro s t u a b c sg from_ rm r m p off v w full sel
  refine ⟨fun hp => ⟨exec_movSegRm hp, ?_⟩, fun hp h => ⟨?_, ?_⟩, fun h => ⟨_, exec_movRmSeg (writeSystemWord_dword r h sel)⟩, ?_⟩
  · rintro rfl
    exact exec_movSegRm_cs hp
  · exact exec_movRmSeg (writeSystemWord_word hp h sel)
  · exact withValue_sameOutside t .w p sel
  · intro load hi he hv hw hl
    exact (loads_far_pointers sg load hi r m s).trans (runInstr_ok (loadFarPointer_apply r he hv hw hl))

end Sys2Proof.Machine
end


section
/-! Instructions denied by mode or level (spec/50_protection_control.md R689; spec/41_segment_flag_control.md R387, R388;
spec/60_exceptions.md R788, R842). -/

namespace Sys2Proof.Machine

/-- An instruction that does nothing but raise the exception of a check that denies it. -/
def Guarded (check : Exec Unit) (i : Instr) : Prop :=
  ∀ (s : State) (e : Exc), check s = .error (.exc e) s → exec i s = s.raises s e

theorem guarded_of_body {check body : Exec Unit} {i : Instr} (h : ∀ s, exec i s = runInstr (check >>= fun _ => body) s) :
    Guarded check i :=
  fun s _ hc => (h s).trans (runInstr_check_denies hc)

/-- An instruction of protected mode alone, with the level checked behind the mode (R689). -/
theorem guarded_of_protected {check body : Exec Unit} {i : Instr} {s : State}
    (h : ∀ s, exec i s = runInstr (requireProtected >>= fun _ => check >>= fun _ => body) s) {e : Exc}
    (hm : requireProtected s = .ok () s) (hc : check s = .error (.exc e) s) : exec i s = s.raises s e :=
  (h s).trans ((runInstr_check_passes hm).trans (runInstr_check_denies hc))

theorem requireProtected_denies {s : State} (h : s.pe = false ∨ s.flags.vm = true) :
    requireProtected s = .error (.exc .invalidOpcode) s := by
  have hp : s.prot = false := by
    rw [State.prot]
    obtain h | h := h <;> rw [h]
    · rfl
    · exact Bool.and_false _
  simp only [requireProtected, exec_bind_apply, getState_apply, hp, require_false]

theorem requireProtected_passes {s : State} (h : s.prot = true) : requireProtected s = .ok () s := by
  simp only [requireProtected, exec_bind_apply, getState_apply, h, require_true]

theorem requireV86Iopl_denies {s : State} (hp : s.pe = true) (hv : s.flags.vm = true) (hi : s.flags.iopl ≠ 3) :
    requireV86Iopl s = .error (.exc (.protection 0)) s := by
  have ht : s.v86Trapped = true := by
    simp only [State.v86Trapped, v86_of_vm hp hv, Bool.true_and, bne_iff_ne]
    exact hi
  simp only [requireV86Iopl, exec_bind_apply, getState_apply, ht, Bool.not_true, require_false]

section
variable (rm : RM) (r : Reg) (m : Mem) (cr : CReg) (dr : DReg) (tr : TReg) (n : BitVec 8)

theorem guarded_protected {i : Instr}
    (h : i ∈ [Instr.arpl rm r, .lar r rm, .lsl r rm, .verr rm, .verw rm, .sldt rm, .str rm, .lldt rm, .ltr rm]) :
    Guarded requireProtected i := by
  simp only [List.mem_cons, List.not_mem_nil, or_false] at h
  obtain rfl | rfl | rfl | rfl | rfl | rfl | rfl | rfl | rfl := h <;> exact guarded_of_body fun _ => rfl

theorem guarded_privileged {i : Instr}
    (h : i ∈ [Instr.clts, .hlt, .lgdt m, .lidt m, .lmsw rm, .movCrReg cr r, .movRegCr r cr, .movDrReg dr r, .movRegDr r dr,
      .movTrReg tr r, .movRegTr r tr]) : Guarded requirePrivilege i := by
  simp only [List.mem_cons, List.not_mem_nil, or_false] at h
  obtain rfl | rfl | rfl | rfl | rfl | rfl | rfl | rfl | rfl | rfl | rfl := h <;> exact guarded_of_body fun _ => rfl

theorem guarded_io {i : Instr} (h : i ∈ [Instr.cli, .sti]) : Guarded requireIo i := by
  simp only [List.mem_cons, List.not_mem_nil, or_false] at h
  obtain rfl | rfl := h <;> exact guarded_of_body fun _ => rfl

/-- IRET makes the check of IOPL in V86 mode first, as the others do (R788). -/
theorem guarded_v86 {i : Instr} (h : i ∈ [Instr.pushf, .popf, .int n, .iret]) : Guarded requireV86Iopl i := by
  simp only [List.mem_cons, List.not_mem_nil, or_false] at h
  obtain rfl | rfl | rfl | rfl := h
  · exact guarded_of_body fun _ => rfl
  · exact guarded_of_body fun _ => rfl
  · exact guarded_of_body fun _ => rfl
  · intro s e hc
    show runInstr interruptReturn s = _
    refine runInstr_exc ?_
    simp only [requireV86Iopl, exec_bind_apply, getState_apply] at hc
    simp only [interruptReturn, exec_bind_apply, getState_apply, hc]

end

/-- Settles O20: each instruction makes its check before anything else. -/
theorem deniedInstructionsTakeAnException : Obligations.DeniedInstructionsTakeAnException := by
  intro s i rm r m cr dr tr n f
  refine ⟨fun h hi => guarded_protected rm r hi s _ (requireProtected_denies h), fun hp h hi => ?_, fun hp hv hl hi => ?_,
    fun hp h hi => ?_, fun hp hv hiopl hi => guarded_v86 n hi s _ (requireV86Iopl_denies hp hv hiopl)⟩
  · refine guarded_privileged rm r m cr dr tr hi s _ (requirePrivilege_denies ?_)
    rw [State.privileged_iff, hp]
    rintro (h' | ⟨hv, hl⟩)
    · exact Bool.noConfusion h'
    · obtain h | h := h
      · rw [show s.flags.vm = true from h] at hv
        exact Bool.noConfusion hv
      · exact h hl
  · have hd := requirePrivilege_denies (s := s) (by
      rw [State.privileged_iff, hp]
      rintro (h' | ⟨-, h'⟩)
      · exact Bool.noConfusion h'
      · exact hl h')
    have hm := requireProtected_passes ((prot_iff s).mpr ⟨hp, hv⟩)
    simp only [List.mem_cons, List.not_mem_nil, or_false] at hi
    obtain rfl | rfl := hi <;> exact guarded_of_protected (fun _ => rfl) hm hd
  · refine guarded_io hi s _ (requireIo_denies ?_)
    rw [State.ioAllowed_iff, hp]
    rintro (h' | h')
    · exact Bool.noConfusion h'
    · cases hv : s.flags.vm
      · rw [hv, if_neg Bool.false_ne_true] at h'
        rw [show f.vm = false from hv, if_neg Bool.false_ne_true] at h
        exact absurd h' (Nat.not_le.mpr h)
      · rw [hv, if_pos rfl] at h'
        rw [show f.vm = true from hv, if_pos rfl] at h
        exact h h'

end Sys2Proof.Machine
end


section
/-! Ports: the permission of an access, IN and OUT (spec/20_memory.md R226, R227; spec/40_data_transfer.md R363 to R367). -/

namespace Sys2Proof.Machine

theorem linRead_unpaged {s : State} (h : s.unpaged) (lin : Dword) {n : Nat} (hn : n ≤ 4096) :
    linRead lin n s = .ok (s.mem.load (linearBytes lin n)) s := by
  simp only [linRead, exec_bind_apply, linSpan_unpaged h _ _ hn, loadSpan_apply]

/-! ## The permission bitmap (R226, R227) -/

/-- The bit of a port in the I/O permission bitmap at `base` is there and 0 (R227). -/
def State.portBitClear (s : State) (base port : Nat) : Prop :=
  base + port / 8 ≤ s.sys.tr.limit.toNat ∧
  (s.mem.load (linearBytes (s.sys.tr.base + BitVec.ofNat 32 (base + port / 8)) 1)).getLsbD (port % 8) = false

/-- TR names a 286 TSS, which has no bitmap (R226). -/
def State.tss286 (s : State) : Prop := s.sys.tr.attr.s = false ∧ (s.sys.tr.attr.typ = 0x1 ∨ s.sys.tr.attr.typ = 0x3)

/-- The offset of the I/O permission bitmap in a 386 TSS (R227). -/
def State.bitmapBase (s : State) : Nat := (s.mem.load (linearBytes (s.sys.tr.base + 0x66) 2)).toNat

/-- Ports are used without the bitmap (R363). -/
def State.portsFree (s : State) : Prop := s.pe = false ∨ (s.flags.vm = false ∧ s.sys.cpl.toNat ≤ s.flags.iopl.toNat)

theorem portPermitted_apply {s : State} (h : s.unpaged) (base port : Nat) :
    ∃ b, portPermitted base port s = .ok b s ∧ (b = true ↔ s.portBitClear base port) := by
  by_cases hl : s.sys.tr.limit.toNat < base + port / 8
  · refine ⟨false, ?_, ⟨fun hf => Bool.noConfusion hf, fun hb => absurd hb.1 (Nat.not_le.mpr hl)⟩⟩
    simp only [portPermitted, exec_bind_apply, getState_apply, if_pos hl, exec_pure_apply]
  · refine ⟨!(s.mem.load (linearBytes (s.sys.tr.base + BitVec.ofNat 32 (base + port / 8)) 1)).getLsbD (port % 8), ?_, ?_⟩
    · simp only [portPermitted, exec_bind_apply, getState_apply, if_neg hl, linRead_unpaged h _ (show 1 ≤ 4096 by decide),
        exec_pure_apply]
    · rw [Bool.not_eq_true']
      exact ⟨fun hb => ⟨Nat.not_lt.mp hl, hb⟩, fun hb => hb.2⟩

theorem portsPermitted_apply {s : State} (h : s.unpaged) (base : Nat) (n : Nat) :
    ∀ port, ∃ b, portsPermitted base port n s = .ok b s ∧ (b = true ↔ ∀ k, k < n → s.portBitClear base (port + k)) := by
  induction n with
  | zero => exact fun port => ⟨true, rfl, ⟨fun _ k hk => absurd hk (Nat.not_lt_zero k), fun _ => rfl⟩⟩
  | succ m ih =>
    intro port
    obtain ⟨b, hb, hbit⟩ := portPermitted_apply h base port
    cases b with
    | false =>
      refine ⟨false, ?_, ⟨fun hf => Bool.noConfusion hf, fun hall => hbit.mpr (hall 0 (Nat.succ_pos m))⟩⟩
      simp only [portsPermitted, exec_bind_apply, hb, Bool.false_eq_true, if_false, exec_pure_apply]
    | true =>
      obtain ⟨c, hc, hrest⟩ := ih (port + 1)
      refine ⟨c, ?_, ?_⟩
      · simp only [portsPermitted, exec_bind_apply, hb, if_true, hc]
      · rw [hrest]
        constructor
        · intro hall k hk
          cases k with
          | zero => exact hbit.mp rfl
          | succ k => rw [show port + (k + 1) = port + 1 + k by omega]; exact hall k (by omega)
        · intro hall k hk
          rw [show port + 1 + k = port + (k + 1) by omega]
          exact hall (k + 1) (by omega)

theorem tss286_iff (s : State) :
    (!s.sys.tr.attr.s && (s.sys.tr.attr.typ == 0x1 || s.sys.tr.attr.typ == 0x3)) = true ↔ s.tss286 := by
  rw [Bool.and_eq_true, Bool.not_eq_true', Bool.or_eq_true, beq_iff_eq, beq_iff_eq]
  exact Iff.rfl

theorem ioPermitted_apply {s : State} (h : s.unpaged) (port : Word) (n : Nat) :
    ∃ b, ioPermitted port n s = .ok b s ∧
      (b = true ↔ ¬ s.tss286 ∧ ∀ k, k < n → s.portBitClear s.bitmapBase (port.toNat + k)) := by
  by_cases ht : s.tss286
  · refine ⟨false, ?_, ⟨fun hf => Bool.noConfusion hf, fun hb => absurd ht hb.1⟩⟩
    simp only [ioPermitted, exec_bind_apply, getState_apply, if_pos ((tss286_iff s).mpr ht), exec_pure_apply]
  · obtain ⟨b, hb, hall⟩ := portsPermitted_apply h s.bitmapBase n port.toNat
    refine ⟨b, ?_, ⟨fun hb => ⟨ht, hall.mp hb⟩, fun hb => hall.mpr hb.2⟩⟩
    simp only [ioPermitted, exec_bind_apply, getState_apply, if_neg (mt (tss286_iff s).mp ht),
      linRead_unpaged h _ (show 2 ≤ 4096 by decide)]
    exact hb

theorem portsFree_iff (s : State) :
    (s.pe && (s.flags.vm || decide (s.flags.iopl.toNat < s.sys.cpl.toNat))) = false ↔ s.portsFree := by
  rw [Bool.and_eq_false_iff, Bool.or_eq_false_iff, decide_eq_false_iff_not, Nat.not_lt]
  exact Iff.rfl

theorem ioCheck_free {s : State} (h : s.portsFree) (port : Word) (n : Nat) : ioCheck port n s = .ok () s := by
  simp only [ioCheck, exec_bind_apply, getState_apply, (portsFree_iff s).mpr h, Bool.false_eq_true, if_false, exec_pure_apply]

theorem ioCheck_asks {s t : State} (h : ¬ s.portsFree) {port : Word} {n : Nat} {b : Bool} (hb : ioPermitted port n s = .ok b t) :
    ioCheck port n s = require b (.protection 0) t := by
  rw [← portsFree_iff, Bool.not_eq_false] at h
  simp only [ioCheck, exec_bind_apply, getState_apply, h, if_true, hb]

/-! ## IN and OUT (R364 to R367) -/

section
variable {s t : State} {sz : Size} {port : Word}

theorem portRange_past (h : 2 ^ 16 < port.toNat + sz.bytes) : portRange port sz.bytes s = .error (.fault .ioPortWrap) s := by
  simp only [portRange, if_pos (show 0x10000 < port.toNat + sz.bytes from h)]
  rfl

theorem inputTo_ok (hc : ioCheck port sz.bytes s = .ok () t) (h : port.toNat + sz.bytes ≤ 2 ^ 16) :
    ∃ v : BitVec sz.bits, inputTo sz port s =
      .ok () { t.withValue sz (.reg .eax) v with
               draws := t.draws + 1, bus := .ioRead port sz.bytes (v.setWidth 32) :: t.bus } := by
  refine ⟨(Config.freeValue t.draws).setWidth sz.bits, ?_⟩
  simp only [inputTo, exec_bind_apply, hc, ioRead_ok h, writeReg_apply, withValue_reg]

theorem outputFrom_ok (hc : ioCheck port sz.bytes s = .ok () t) (h : port.toNat + sz.bytes ≤ 2 ^ 16) :
    outputFrom sz port s =
      .ok () { t with bus := .ioWrite port sz.bytes ((t.regs.read sz .eax).setWidth 32) :: t.bus } := by
  simp only [outputFrom, exec_bind_apply, hc, readReg_apply, ioWrite_ok h]

theorem inputTo_past (hc : ioCheck port sz.bytes s = .ok () t) (h : 2 ^ 16 < port.toNat + sz.bytes) :
    inputTo sz port s = .error (.fault .ioPortWrap) t := by
  simp only [inputTo, exec_bind_apply, hc, ioRead, portRange_past h]

theorem outputFrom_past (hc : ioCheck port sz.bytes s = .ok () t) (h : 2 ^ 16 < port.toNat + sz.bytes) :
    outputFrom sz port s = .error (.fault .ioPortWrap) t := by
  simp only [outputFrom, exec_bind_apply, hc, readReg_apply, ioWrite, portRange_past h]

end

/-- IN and OUT at a port. -/
def PortForms (s : State) (w : Bool) (port : Word) (input output : Instr) : Prop :=
  exec input s = runInstr (inputTo (s.sizeOf w) port) s ∧ exec output s = runInstr (outputFrom (s.sizeOf w) port) s

theorem port_forms (s : State) (w : Bool) (imm : BitVec 8) {port : Word} {input output : Instr}
    (h : (port, input, output) ∈ [(imm.setWidth 16, Instr.inImm w imm, Instr.outImm w imm),
      (s.regs.edx.setWidth 16, Instr.inDx w, Instr.outDx w)]) : PortForms s w port input output := by
  simp only [List.mem_cons, Prod.mk.injEq, List.not_mem_nil, or_false] at h
  obtain ⟨rfl, rfl, rfl⟩ | ⟨rfl, rfl, rfl⟩ := h <;> exact ⟨rfl, rfl⟩

/-- Settles O18: the bitmap is asked port by port; IN and OUT are one access behind the check. -/
theorem portAccessesArePermittedAndMade : Obligations.PortAccessesArePermittedAndMade := by
  refine ⟨?_, ?_⟩
  · intro s port n hu hn tr free tss286 base bitClear permitted
    obtain ⟨b, hb, hiff⟩ := ioPermitted_apply hu port n
    refine ⟨fun hp => ?_, fun hp => ?_⟩
    · by_cases hf : s.portsFree
      · exact ioCheck_free hf port n
      · rw [ioCheck_asks hf hb, hiff.mpr (hp.resolve_left hf), require_true]
    · obtain ⟨hf, hbits⟩ := not_or.mp hp
      rw [ioCheck_asks hf hb, eq_false_of_ne_true (mt hiff.mp hbits), require_false]
  · intro s t w imm port input output hi sz n hc
    obtain ⟨hin, hout⟩ := port_forms s w imm hi
    refine ⟨fun h => ⟨?_, ?_⟩, fun h => ⟨?_, ?_⟩⟩
    · obtain ⟨v, hv⟩ := inputTo_ok hc h
      exact ⟨v, hin.trans (runInstr_ok hv)⟩
    · exact hout.trans (runInstr_ok (outputFrom_ok hc h))
    · exact hin.trans (runInstr_stop (inputTo_past hc h))
    · exact hout.trans (runInstr_stop (outputFrom_past hc h))

end Sys2Proof.Machine
end


section
/-! ENTER and LEAVE (spec/47_setcc_enter_leave.md R622, R623). -/

namespace Sys2Proof.Machine

/-- The mode and the segment registers are the same: so are the stack's width and whether paging is on. -/
def SameMode (s t : State) : Prop := t.segs = s.segs ∧ t.flags = s.flags ∧ t.sys = s.sys

theorem sameMode_trans {s t u : State} (h : SameMode s t) (k : SameMode t u) : SameMode s u := by
  obtain ⟨hs, hf, hy⟩ := h
  obtain ⟨ks, kf, ky⟩ := k
  exact ⟨ks.trans hs, kf.trans hf, ky.trans hy⟩

theorem sameMode_accessed {s t : State} (h : accessed s t) : SameMode s t := by
  obtain ⟨-, -, hf, hs, hy, -⟩ := accessed_keeps h
  exact ⟨hs, hf, hy⟩

theorem sameMode_stack32 {s t : State} (h : SameMode s t) : t.stack32 = s.stack32 := by
  obtain ⟨hs, hf, hy⟩ := h
  simp only [State.stack32, State.prot, State.pe, hs, hf, hy]

theorem sameMode_unpaged {s t : State} (h : SameMode s t) (hu : s.unpaged) : t.unpaged := by
  obtain ⟨-, -, hy⟩ := h
  simpa only [State.unpaged, State.pe, State.pg, hy] using hu

theorem sameMode_claimSlot {s t : State} {n : Nat} {sp : List Nat} (h : claimSlot n s = .ok sp t) : SameMode s t := by
  obtain ⟨u, -, hacc, htop⟩ := claimSlot_ok h
  obtain ⟨-, rfl⟩ := EStateM.Result.ok.inj ((setStackPtr_eq _ _).symm.trans htop)
  obtain ⟨hs, hf, hy⟩ := sameMode_accessed hacc
  exact ⟨hs, hf, hy⟩

theorem sameMode_push {s t : State} {sz : Size} {v : Dword} (h : push sz v s = .ok () t) : SameMode s t := by
  obtain ⟨sp, u, hc, rfl⟩ := push_ok h
  obtain ⟨hs, hf, hy⟩ := sameMode_claimSlot hc
  exact ⟨hs, hf, hy⟩

section StackAccess
variable {s t : State} {x : Stop}

theorem memRead_stop {sg : Seg} {off : Dword} {n : Nat} (h : memRead sg off n s = .error x t) :
    segSpan sg off n false s = .error x t := by
  simp only [memRead, exec_bind_apply] at h
  cases hs : segSpan sg off n false s with
  | ok sp u => rw [hs] at h; exact nomatch h
  | error e u => rw [hs] at h; obtain ⟨rfl, rfl⟩ := EStateM.Result.error.inj h; rfl

theorem memRead_stop_unpaged (hu : s.unpaged) {sg : Seg} {off : Dword} {n : Nat} (hn : n ≤ 4096)
    (h : memRead sg off n s = .error x t) : t = s :=
  segSpan_stop_unpaged hu hn (memRead_stop h)

end StackAccess

theorem bytes_le_page (sz : Size) : sz.bytes ≤ 4096 := by cases sz <;> decide

/-! ## The copy of the display -/

section Copy
variable {sz : Size} {a b c : State} {ptr v : Dword} {j : Nat} {x : Stop}

theorem copyDisplay_beyond (h : stackEnd a < (ptrDown a.stack32 ptr sz.bytes).toNat + sz.bytes) :
    copyDisplay sz ptr (j + 1) a = .error (.exc (.stack 0)) a := by
  simp only [copyDisplay, exec_bind_apply, getState_apply, stackRead_apply, if_neg (Nat.not_le.mpr h)]

theorem copyDisplay_stop_read (h : (ptrDown a.stack32 ptr sz.bytes).toNat + sz.bytes ≤ stackEnd a)
    (hr : memRead .ss (ptrDown a.stack32 ptr sz.bytes) sz.bytes a = .error x b) :
    copyDisplay sz ptr (j + 1) a = .error x b := by
  simp only [copyDisplay, exec_bind_apply, getState_apply, stackRead_apply, if_pos h, hr]

theorem copyDisplay_stop_push (h : (ptrDown a.stack32 ptr sz.bytes).toNat + sz.bytes ≤ stackEnd a)
    (hr : memRead .ss (ptrDown a.stack32 ptr sz.bytes) sz.bytes a = .ok v b) (hp : push sz v b = .error x c) :
    copyDisplay sz ptr (j + 1) a = .error x c := by
  simp only [copyDisplay, exec_bind_apply, getState_apply, stackRead_apply, if_pos h, hr, hp]

theorem copyDisplay_next (h : (ptrDown a.stack32 ptr sz.bytes).toNat + sz.bytes ≤ stackEnd a)
    (hr : memRead .ss (ptrDown a.stack32 ptr sz.bytes) sz.bytes a = .ok v b) (hp : push sz v b = .ok () c) :
    copyDisplay sz ptr (j + 1) a = copyDisplay sz (ptrDown a.stack32 ptr sz.bytes) j c := by
  simp only [copyDisplay, exec_bind_apply, getState_apply, stackRead_apply, if_pos h, hr, hp]

end Copy

theorem sameMode_copyDisplay (sz : Size) (j : Nat) :
    ∀ (ptr : Dword) (a c : State), copyDisplay sz ptr j a = .ok () c → SameMode a c := by
  induction j with
  | zero =>
    intro ptr a c h
    obtain ⟨-, rfl⟩ := EStateM.Result.ok.inj h
    exact ⟨rfl, rfl, rfl⟩
  | succ j ih =>
    intro ptr a c h
    obtain ⟨_, _, hget, h⟩ := exec_bind_ok h
    obtain ⟨rfl, rfl⟩ := EStateM.Result.ok.inj hget
    obtain ⟨v, b, hread, h⟩ := exec_bind_ok h
    obtain ⟨_, d, hpush, h⟩ := exec_bind_ok h
    exact sameMode_trans (sameMode_accessed (finds_stackRead _ _ _ _ _ hread)) (sameMode_trans (sameMode_push hpush) (ih _ _ _ h))

theorem ptrDown_ofInt (wide : Bool) (ptr : Dword) (n : Nat) :
    ptrDown wide ptr n =
      if wide then ptr - BitVec.ofNat 32 n else BitVec.ofInt 32 (((ptr.toNat : Int) - n) % 2 ^ 16) := by
  cases wide
  · have h := ptrDown_toNat false ptr n
    rw [stackSize_false] at h
    apply BitVec.eq_of_toNat_eq
    rw [if_neg Bool.false_ne_true, BitVec.toNat_ofInt]
    omega
  · rfl

/-! ## ENTER -/

theorem framePtr_eq (s : State) :
    framePtr s = if s.stack32 then s.regs.ebp else BitVec.ofNat 32 (s.regs.ebp.toNat % 2 ^ 16) := by
  unfold framePtr
  split
  · rfl
  · apply BitVec.eq_of_toNat_eq
    rw [BitVec.toNat_setWidth, low16_toNat, BitVec.toNat_ofNat]

/-- What is left when an instruction of state `s` stops with an exception or a shutdown at `y` (R722, R854). -/
def StopsLike (s : State) (o : Host.Outcome State Fault Refusal) (x : Stop) (y : State) : Prop :=
  (∀ e, x = .exc e → o = takeEvent (exceptionEvent (rollback s y) e) (rollback s y)) ∧
  (x = .shutdown →
    ∃ t, o = .next t ∧ t.events.activity = .shutdown ∧ t.mem = y.mem ∧ t.regs = s.regs ∧ t.eip = s.eip ∧ t.flags = s.flags)

theorem stopsLike_runInstr {body : Exec Unit} {s y : State} {x : Stop} (h : body s = .error x y) :
    StopsLike s (runInstr body s) x y := by
  rw [runInstr_stop h]
  exact ⟨fun e he => he ▸ rfl, fun hx => hx ▸ ⟨_, rfl, rfl, rfl, rfl, rfl, rfl⟩⟩

section Enter
variable {s t u v : State} {n : BitVec 16} {level : BitVec 8} {x : Stop} {y : State}

/-- ENTER's last part: the new frame pointer, and room for the local variables. -/
def State.framed (s : State) (sz : Size) (frame : Dword) (n : Nat) : State :=
  let y := s.withValue sz (.reg .ebp) (frame.setWidth _)
  y.withTop s.stack32 (y.below n)

theorem framed_apply (sz : Size) (frame : Dword) (n : Nat) (s : State) :
    (writeReg sz .ebp (frame.setWidth sz.bits) >>= fun _ => getState >>= fun u =>
      setStackPtr (ptrDown u.stack32 (stackPtr u) n)) s = .ok () (s.framed sz frame n) := by
  simp only [exec_bind_apply, writeReg_apply, getState_apply, setStackPtr_eq, ← below_eq]
  rfl

theorem exec_enter_flat (hp : push s.opSize s.regs.ebp s = .ok () t) (hd : level.toNat % 32 = 0) :
    exec (.enter n level) s = .next (retire s.flags.tf (t.framed s.opSize (stackPtr t) n.toNat)) := by
  show execEnter n level s = _
  refine runInstr_ok ?_
  rw [exec_bind_apply, getState_apply]
  simp only
  rw [exec_bind_apply, hp]
  simp only
  rw [exec_bind_apply, getState_apply]
  simp only [hd, Nat.lt_irrefl, decide_false]
  rw [exec_bind_apply, when_false]
  exact framed_apply _ _ _ t

theorem exec_enter_nested (hp : push s.opSize s.regs.ebp s = .ok () t) (hd : 0 < level.toNat % 32)
    (hc : copyDisplay s.opSize (framePtr s) (level.toNat % 32 - 1) t = .ok () u) (hf : push s.opSize (stackPtr t) u = .ok () v) :
    exec (.enter n level) s = .next (retire s.flags.tf (v.framed s.opSize (stackPtr t) n.toNat)) := by
  show execEnter n level s = _
  refine runInstr_ok ?_
  rw [exec_bind_apply, getState_apply]
  simp only
  rw [exec_bind_apply, hp]
  simp only
  rw [exec_bind_apply, getState_apply]
  simp only [decide_eq_true hd]
  rw [exec_bind_apply, when_true, exec_bind_apply, hc]
  simp only [hf]
  exact framed_apply _ _ _ v

theorem enter_stop_first (hp : push s.opSize s.regs.ebp s = .error x y) : StopsLike s (exec (.enter n level) s) x y := by
  show StopsLike s (execEnter n level s) x y
  refine stopsLike_runInstr ?_
  rw [exec_bind_apply, getState_apply]
  simp only
  rw [exec_bind_apply, hp]

theorem enter_stop_copy (hp : push s.opSize s.regs.ebp s = .ok () t) (hd : 0 < level.toNat % 32)
    (hc : copyDisplay s.opSize (framePtr s) (level.toNat % 32 - 1) t = .error x y) :
    StopsLike s (exec (.enter n level) s) x y := by
  show StopsLike s (execEnter n level s) x y
  refine stopsLike_runInstr ?_
  rw [exec_bind_apply, getState_apply]
  simp only
  rw [exec_bind_apply, hp]
  simp only
  rw [exec_bind_apply, getState_apply]
  simp only [decide_eq_true hd]
  rw [exec_bind_apply, when_true, exec_bind_apply, hc]

theorem enter_stop_last (hp : push s.opSize s.regs.ebp s = .ok () t) (hd : 0 < level.toNat % 32)
    (hc : copyDisplay s.opSize (framePtr s) (level.toNat % 32 - 1) t = .ok () u) (hf : push s.opSize (stackPtr t) u = .error x y) :
    StopsLike s (exec (.enter n level) s) x y := by
  show StopsLike s (execEnter n level s) x y
  refine stopsLike_runInstr ?_
  rw [exec_bind_apply, getState_apply]
  simp only
  rw [exec_bind_apply, hp]
  simp only
  rw [exec_bind_apply, getState_apply]
  simp only [decide_eq_true hd]
  rw [exec_bind_apply, when_true, exec_bind_apply, hc]
  simp only [hf]

end Enter

/-! ## LEAVE -/

section Leave
variable {s t : State} {v : Dword} {x : Stop}

theorem exec_leave_beyond (h : stackEnd s < (framePtr s).toNat + s.opSize.bytes) : exec .leave s = s.raises s (.stack 0) := by
  show execLeave s = _
  refine runInstr_exc ?_
  simp only [exec_bind_apply, getState_apply, stackRead_apply, if_neg (Nat.not_le.mpr h)]

theorem leave_stop (h : (framePtr s).toNat + s.opSize.bytes ≤ stackEnd s)
    (hr : memRead .ss (framePtr s) s.opSize.bytes s = .error x t) : StopsLike s (exec .leave s) x t := by
  show StopsLike s (execLeave s) x t
  refine stopsLike_runInstr ?_
  simp only [exec_bind_apply, getState_apply, stackRead_apply, if_pos h, hr]

theorem exec_leave (h : (framePtr s).toNat + s.opSize.bytes ≤ stackEnd s)
    (hr : memRead .ss (framePtr s) s.opSize.bytes s = .ok v t) :
    exec .leave s =
      .next (retire s.flags.tf
        ((t.withTop s.stack32 (ptrUp s.stack32 (framePtr s) s.opSize.bytes)).withValue s.opSize (.reg .ebp) (v.setWidth _))) := by
  show execLeave s = _
  refine runInstr_ok ?_
  simp only [exec_bind_apply, getState_apply, stackRead_apply, if_pos h, hr, setStackPtr_eq, writeReg_apply, withValue_reg,
    accessed_stack32 (finds_memRead _ _ _ _ _ _ hr)]

end Leave

/-- Settles O33: ENTER is its pushes and the copy of the display, one after the other. -/
theorem enterAndLeaveBuildTheFrame : Obligations.EnterAndLeaveBuildTheFrame := by
  refine ⟨?_, ?_⟩
  · intro s n level sz k depth bp last enter kept ends
    have hbp : bp = framePtr s := (framePtr_eq s).symm
    rw [hbp]
    refine ⟨fun x y h => ⟨fun hu => push_stop_unpaged hu h, enter_stop_first h⟩, fun t ht => ?_,
      fun h => exec_leave_beyond h, fun h => ⟨fun x y hr => ⟨fun hu => memRead_stop_unpaged hu (bytes_le_page sz) hr, ?_⟩,
      fun v t hr => ?_⟩⟩
    · intro frame done
      have hframe : frame = stackPtr t := above_zero t
      have hdone : ∀ x, SameMode s x → done x = .next (retire s.flags.tf (x.framed sz (stackPtr t) n.toNat)) := by
        intro x hx
        rw [← hframe]
        show Host.Outcome.next (retire s.flags.tf (State.withTop s.stack32 _ _)) = _
        rw [← sameMode_stack32 hx]
        rfl
      have hst := sameMode_push ht
      rw [hframe]
      refine ⟨fun hd => (exec_enter_flat ht hd).trans (hdone t hst).symm,
        fun hd => ⟨fun x y hc => enter_stop_copy ht hd hc, fun u hc => ?_⟩⟩
      have hsu := sameMode_trans hst (sameMode_copyDisplay _ _ _ _ _ hc)
      exact ⟨fun x y hf => ⟨fun hu => push_stop_unpaged (sameMode_unpaged hsu hu) hf, enter_stop_last ht hd hc hf⟩,
        fun v hf => (exec_enter_nested ht hd hc hf).trans (hdone v (sameMode_trans hsu (sameMode_push hf))).symm⟩
    · exact leave_stop h hr
    · intro top
      have htop : top = ptrUp s.stack32 (framePtr s) k := by
        rw [ptrUp_eq]
        show (if s.stack32 then _ else _) = _
        apply BitVec.eq_of_toNat_eq
        cases s.stack32
        · rfl
        · simp only [stackSize_true, if_true, BitVec.toNat_ofNat]
          omega
      rw [htop]
      exact exec_leave h hr
  · intro sz a ptr j k below last copies
    have hbelow : below = ptrDown a.stack32 ptr k := (ptrDown_ofInt _ _ _).symm
    rw [hbelow]
    refine ⟨rfl, copyDisplay_beyond, fun h => ⟨fun x y hr => ⟨fun hu => memRead_stop_unpaged hu (bytes_le_page sz) hr, ?_⟩,
      fun v b hr => ⟨fun x y hp => ⟨fun hu => ?_, ?_⟩, fun c hp => ?_⟩⟩⟩
    · exact copyDisplay_stop_read h hr
    · exact push_stop_unpaged (sameMode_unpaged (sameMode_accessed (finds_memRead _ _ _ _ _ _ hr)) hu) hp
    · exact copyDisplay_stop_push h hr hp
    · exact copyDisplay_next h hr hp

end Sys2Proof.Machine
end


section
/-! Delivery in real mode, the interrupt instructions, BOUND, and IRET in real and V86 mode (spec/60_exceptions.md R746;
spec/48_interrupt_instructions.md R640 to R649). -/

namespace Sys2Proof.Machine

/-! ## Delivery in real mode (R746) -/

section Real
variable {s : State} {vector : Byte}

theorem prot_of_real (h : s.pe = false) : s.prot = false := by rw [State.prot, h, Bool.false_and]

theorem stack32_of_real (h : s.pe = false) : s.stack32 = false := by rw [State.stack32, prot_of_real h, Bool.false_and]

theorem unpaged_of_real (h : s.pe = false) : s.unpaged := by rw [State.unpaged, h, Bool.false_and]

/-- In real mode every access within the limit passes (R150, R165). -/
theorem stackFits_real (h : s.pe = false) {off : Dword} {n : Nat} {write : Bool} :
    s.stackFits off n write ↔ off.toNat + n ≤ s.segs.ss.limit.toNat + 1 := by
  simp [State.stackFits, accessOk, limitOk, prot_of_real h]

/-- The stack top moved down on a 16-bit stack that holds the bytes (R350). -/
theorem below_of_le (h : s.stack32 = false) {m : Nat} (hm : m ≤ s.regs.esp.toNat % 2 ^ 16) :
    s.below m = BitVec.ofNat 32 (s.regs.esp.toNat % 2 ^ 16 - m) := by
  rw [below_eq_ofNat s (by rw [h, stackSize_false]; omega), h, stackSize_false]
  congr 1
  omega

theorem below_toNat_of_le (h : s.stack32 = false) {m : Nat} (hm : m ≤ s.regs.esp.toNat % 2 ^ 16) :
    (s.below m).toNat = s.regs.esp.toNat % 2 ^ 16 - m := by
  rw [below_of_le h hm, BitVec.toNat_ofNat]
  omega

/-- The three words of a delivery have room where the stack pointer is 6 or more and within the limit of SS (R746). -/
theorem pushPasses_real (hp : s.pe = false) {k : Nat} (hk : 2 * (k + 1) ≤ s.regs.esp.toNat % 2 ^ 16)
    (hl : s.regs.esp.toNat % 2 ^ 16 ≤ s.segs.ss.limit.toNat + 1) : s.pushPasses 2 k := by
  have hw := stack32_of_real hp
  refine ⟨?_, (stackFits_real hp).mpr ?_⟩
  · rintro ⟨-, -, hlt⟩
    rw [below_toNat_of_le hw (by omega)] at hlt
    omega
  · rw [below_toNat_of_le hw hk]
    omega

theorem entry_offset (x : Dword) : (x.extractLsb' 0 16).setWidth 32 = BitVec.ofNat 32 (x.toNat % 2 ^ 16) := by
  apply BitVec.eq_of_toNat_eq
  rw [BitVec.toNat_setWidth, BitVec.extractLsb'_toNat, BitVec.toNat_ofNat, Nat.shiftRight_zero]

theorem loadCodeReal_real (h : s.pe = false) (sel : Word) :
    loadCodeReal sel s = .ok () { s with segs := { s.segs with cs := segReal s.segs.cs sel } } := by
  simp only [loadCodeReal, exec_bind_apply, getState_apply, v86_of_real h, Bool.false_eq_true, if_false, setSeg_apply]
  rfl

theorem loadCodeReal_v86 (h : s.v86 = true) (sel : Word) :
    loadCodeReal sel s = .ok () { s with segs := { s.segs with cs := segV86 sel } } := by
  simp only [loadCodeReal, exec_bind_apply, getState_apply, h, if_true, setSeg_apply]
  rfl

/-- A delivery whose entry and frame are there completes (R746). -/
theorem deliver_real {ev : Event} (h : s.realReady ev.vector) (nested : Bool) :
    deliver nested ev s = .ok () (s.realDelivery ev.vector ev.retEip ev.rf) := by
  obtain ⟨hp, hentry, hroom, hlimit⟩ := h
  have hu := unpaged_of_real hp
  have hw := stack32_of_real hp
  have hpasses : ∀ k, k < 3 → s.pushPasses 2 k := fun k hk => pushPasses_real hp (by omega) hlimit
  have hslot : ∀ k, k < 3 → s.slot 2 k =
      linearBytes (s.segs.ss.base + BitVec.ofNat 32 (s.regs.esp.toNat % 2 ^ 16 - 2 * (k + 1))) 2 := by
    intro k hk
    rw [State.slot, below_of_le hw (by omega)]
  obtain ⟨b, hclaim⟩ := claimSlots_top hu (by decide : 2 ≤ 4096)
    [({ s.flags with rf := ev.rf } : Flags).image, s.segs.cs.sel.setWidth 32, ev.retEip] hpasses
  have hfill := fillSlots_pushed s ((s.noted b).withTop s.stack32 (s.below 6)) 2
    [({ s.flags with rf := ev.rf } : Flags).image, s.segs.cs.sel.setWidth 32, ev.retEip]
  have hmem : s.pushed 2 [({ s.flags with rf := ev.rf } : Flags).image, s.segs.cs.sel.setWidth 32, ev.retEip] s.mem =
      (s.realDelivery ev.vector ev.retEip ev.rf).mem := by
    simp only [State.pushed, List.zipIdx_cons, List.zipIdx_nil, List.foldl_cons, List.foldl_nil, hslot 0 (by decide),
      hslot 1 (by decide), hslot 2 (by decide)]
    rfl
  rw [below_of_le hw hroom] at hfill
  simp only [List.length_cons, List.length_nil, below_of_le hw hroom, hw] at hclaim hfill
  have hreal : deliverReal nested ev s = .ok () { ((s.noted b).withTop false (BitVec.ofNat 32 (s.regs.esp.toNat % 2 ^ 16 - 6))) with
      mem := (s.realDelivery ev.vector ev.retEip ev.rf).mem
      flags := (s.realDelivery ev.vector ev.retEip ev.rf).flags
      segs := (s.realDelivery ev.vector ev.retEip ev.rf).segs
      ctx := { s.ctx with nextEip := (s.realDelivery ev.vector ev.retEip ev.rf).ctx.nextEip } } := by
    simp only [deliverReal, exec_bind_apply, getState_apply, if_neg (Nat.not_lt.mpr hentry),
      linRead_unpaged hu _ (show 4 ≤ 4096 by decide), checkPushes_top hpasses, hclaim, hfill, updateFlags_apply, setNext_apply,
      entry_offset]
    rw [loadCodeReal_real]
    · simp only [segReal, realBase_eq]
      rw [withTop_mem, show (s.noted b).mem = s.mem from rfl, hmem]
      rfl
    · exact hp
  simp only [deliver, exec_bind_apply, getState_apply, hp, Bool.false_eq_true, if_false, unmatched_apply, mapStop_apply, hreal,
    setEnding_apply]
  rfl

end Real

/-! ## INT n, INT 3, INTO and BOUND -/

/-- A software interrupt in real mode whose entry and frame are there (R640 to R642). -/
theorem exec_interrupts_real {s : State} {i : Instr} {ev : Event} (h : s.interrupts i ev) (hr : s.realReady ev.vector) :
    exec i s = .next (retire s.flags.tf (s.realDelivery ev.vector s.ctx.nextEip s.flags.rf)) := by
  rw [exec_interrupts h, runInstr_ok (deliver_real hr false), h.1]

/-- The event of a software interrupt of a vector (R640, R755). -/
def State.softwareEvent (s : State) (vector : Byte) : Event :=
  { vector := vector, code := none, source := .software, retEip := s.ctx.nextEip, rf := s.flags.rf, nmi := false }

theorem exec_into_not (s : State) (h : s.flags.ov = false) : exec .into s = .next (retire s.flags.tf s) := by
  show execInto s = _
  refine runInstr_ok ?_
  simp only [exec_bind_apply, getState_apply, h, when_false]

section Bound
variable {s a b c : State} {m : Mem} {sg : Seg} {o lo hi : Dword} (r : Reg)

/-- The index lies within the bounds that memory holds (R646). -/
def State.within (s : State) (r : Reg) (lo hi : Dword) : Prop :=
  (lo.setWidth s.opSize.bits).toInt ≤ (s.regs.read s.opSize r).toInt ∧
  (s.regs.read s.opSize r).toInt ≤ (hi.setWidth s.opSize.bits).toInt

theorem within_iff (s : State) (r : Reg) (lo hi : Dword) :
    (decide ((lo.setWidth s.opSize.bits).toInt ≤ (s.regs.read s.opSize r).toInt) &&
      decide ((s.regs.read s.opSize r).toInt ≤ (hi.setWidth s.opSize.bits).toInt)) = true ↔ s.within r lo hi := by
  rw [Bool.and_eq_true, decide_eq_true_iff, decide_eq_true_iff]
  exact Iff.rfl

theorem exec_bound (he : effAddr m s = .ok (sg, o) a) (hl : memRead sg o s.opSize.bytes a = .ok lo b)
    (hh : memRead sg (o + BitVec.ofNat 32 s.opSize.bytes) s.opSize.bytes b = .ok hi c) (h : s.within r lo hi) :
    exec (.bound r m) s = .next (retire s.flags.tf c) := by
  show execBound r m s = _
  refine runInstr_ok ?_
  simp only [exec_bind_apply, getState_apply, readReg_apply, he, hl, hh, (within_iff s r lo hi).mpr h, require_true]

theorem exec_bound_outside (he : effAddr m s = .ok (sg, o) a) (hl : memRead sg o s.opSize.bytes a = .ok lo b)
    (hh : memRead sg (o + BitVec.ofNat 32 s.opSize.bytes) s.opSize.bytes b = .ok hi c) (h : ¬ s.within r lo hi) :
    exec (.bound r m) s = s.raises c .bounds := by
  rw [← within_iff, Bool.not_eq_true] at h
  show execBound r m s = _
  refine runInstr_exc ?_
  simp only [exec_bind_apply, getState_apply, readReg_apply, he, hl, hh, h, require_false]

end Bound

/-! ## IRET in real mode and in V86 mode (R649) -/

/-- CS loaded in real or V86 mode (R581). -/
def State.codeReal (s : State) (sel : Word) : SegReg := if s.v86 then segV86 sel else segReal s.segs.cs sel

theorem loadCodeReal_apply (sel : Word) (s : State) :
    loadCodeReal sel s = .ok () { s with segs := { s.segs with cs := s.codeReal sel } } := by
  simp only [loadCodeReal, exec_bind_apply, getState_apply, setSeg_apply, State.codeReal]
  rfl

/-- What IRET leaves in real and V86 mode, from the state that has read the frame. -/
def State.iretRealFrom (s c : State) (off sel img : Dword) : State :=
  let w := c.popped (3 * s.opSize.bytes)
  { w with
    segs := { w.segs with cs := w.codeReal (low16 sel) }
    flags := s.flags.load img (if s.pe then s.sys.cpl.toNat else 0) s.ctx.op32
    ctx := { w.ctx with nextEip := off } }

section Iret
variable {s a b c : State} {off sel img : Dword}

theorem iretReal_ok (hf : checkFrame (3 * s.opSize.bytes) s = .ok () s) (ho : peek 0 s.opSize.bytes s = .ok off a)
    (hs : peek s.opSize.bytes 2 a = .ok sel b) (hi : peek (2 * s.opSize.bytes) s.opSize.bytes b = .ok img c)
    (hl : off.toNat ≤ s.segs.cs.limit.toNat) : iretReal s = .ok () (s.iretRealFrom c off sel img) := by
  have hc : accessed s c :=
    accessed_trans (finds_peek _ _ _ _ _ ho) (accessed_trans (finds_peek _ _ _ _ _ hs) (finds_peek _ _ _ _ _ hi))
  obtain ⟨-, -, hflags, -⟩ := accessed_keeps hc
  simp only [iretReal, checkTarget, exec_bind_apply, getState_apply, hf, ho, hs, hi, decide_eq_true hl, require_true,
    release_apply, loadCodeReal_apply, updateFlags_apply, setNext_apply, State.iretRealFrom, popped_flags, hflags]

theorem iretReal_beyond (hf : checkFrame (3 * s.opSize.bytes) s = .ok () s) (ho : peek 0 s.opSize.bytes s = .ok off a)
    (hs : peek s.opSize.bytes 2 a = .ok sel b) (hi : peek (2 * s.opSize.bytes) s.opSize.bytes b = .ok img c)
    (hl : ¬ off.toNat ≤ s.segs.cs.limit.toNat) : iretReal s = .error (.exc (.protection 0)) c := by
  simp only [iretReal, checkTarget, exec_bind_apply, getState_apply, hf, ho, hs, hi, decide_eq_false hl, require_false]

theorem iretReal_noFrame {x : Stop} (hf : checkFrame (3 * s.opSize.bytes) s = .error x s) : iretReal s = .error x s := by
  simp only [iretReal, exec_bind_apply, getState_apply, hf]

/-- An IRET leaves the handler of an NMI (R733), and RF as it was loaded. -/
def State.returned (s : State) : State :=
  { s with events := { s.events with nmiInService := false }, ctx := { s.ctx with ending := .rfLoaded } }

/-- Outside protected mode proper, and with IOPL 3 in V86 mode, IRET is the return of real mode (R648). -/
theorem interruptReturn_real (hp : s.prot = false) (hi : s.pe = true → s.flags.iopl = 3) :
    interruptReturn s =
      match iretReal s with
      | .ok _ t => .ok () t.returned
      | .error x t => .error x t := by
  have ht : s.v86Trapped = false := by
    rw [v86Trapped_iff]
    cases hpe : s.pe
    · exact .inl rfl
    · exact .inr (.inr (hi hpe))
  have hm : (!s.pe || s.flags.vm) = true := by
    rw [← Bool.not_not (b := s.flags.vm), ← Bool.not_and]
    exact congrArg (!·) hp
  simp only [interruptReturn, exec_bind_apply, getState_apply, ht, Bool.not_false, require_true, hm, if_true]
  cases iretReal s <;> rfl

end Iret

/-- What CS takes on a return of real or V86 mode depends on the mode before it alone. -/
theorem codeReal_popped {s c : State} (hp : s.prot = false) (hc : accessed s c) (n : Nat) (sel : Word) :
    (c.popped n).codeReal sel = if s.pe then segV86 sel else segReal c.segs.cs sel := by
  obtain ⟨-, -, hflags, -, hsys, -⟩ := accessed_keeps hc
  have hv : (c.popped n).v86 = (s.pe && s.flags.vm) := by
    simp only [State.v86, State.pe, popped_sys, popped_flags, hsys, hflags]
  have hvm : (s.pe && s.flags.vm) = s.pe := by
    rw [State.prot] at hp
    revert hp
    cases s.pe <;> cases s.flags.vm <;> decide
  rw [State.codeReal, hv, hvm]
  rfl

/-- Settles O34: the deliveries of real mode, the check of BOUND, and the return of real mode. -/
theorem interruptInstructionsEnterAndReturn : Obligations.InterruptInstructionsEnterAndReturn := by
  refine ⟨?_, ?_, ?_⟩
  · intro s a b c n r m sg o lo hi sz enters
    refine ⟨fun hr => ?_, fun hr => ?_, fun ho hr => ?_, exec_into_not s, fun he hl hh => ⟨?_, ?_⟩⟩
    · refine exec_interrupts_real (ev := s.softwareEvent n) ⟨rfl, .inl ⟨rfl, fun hv => ?_⟩⟩ hr
      rw [hr.1] at hv
      exact Bool.noConfusion hv
    · exact exec_interrupts_real (ev := s.softwareEvent 3) ⟨rfl, .inr (.inl ⟨rfl, rfl⟩)⟩ hr
    · exact exec_interrupts_real (ev := s.softwareEvent 4) ⟨rfl, .inr (.inr ⟨rfl, rfl, ho⟩)⟩ hr
    · exact exec_bound r he hl hh
    · exact exec_bound_outside r he hl hh
  · intro s a b c off sel img hp hiopl n cpl g w sel16 base hf ho hs hi
    refine ⟨fun hl => ?_, fun hl => ?_⟩
    · refine (runInstr_ok (body := interruptReturn) ?_ : exec .iret s = _)
      rw [interruptReturn_real hp hiopl, iretReal_ok hf ho hs hi hl]
      have hc : accessed s c :=
        accessed_trans (finds_peek _ _ _ _ _ ho) (accessed_trans (finds_peek _ _ _ _ _ hs) (finds_peek _ _ _ _ _ hi))
      have hbase : base = realBase (low16 sel) := (realBase_eq (low16 sel)).symm
      have hcode := codeReal_popped hp hc (3 * s.opSize.bytes) (low16 sel)
      rw [hbase]
      simp only [State.iretRealFrom, State.returned, hcode]
      rfl
    · refine (runInstr_exc (body := interruptReturn) ?_ : exec .iret s = _)
      rw [interruptReturn_real hp hiopl, iretReal_beyond hf ho hs hi (Nat.not_le.mpr hl)]
  · intro s hp hiopl hf
    refine (runInstr_exc (body := interruptReturn) ?_ : exec .iret s = _)
    have hstop : checkFrame (3 * s.opSize.bytes) s = .error (.exc (.stack 0)) s :=
      checkFrame_stop fun h => hf (checkFrame_ok h)
    rw [interruptReturn_real hp hiopl, iretReal_noFrame hstop]

end Sys2Proof.Machine
end


section
/-! The frame of a return read without paging, what memory holds after the pushes of a delivery, and IRET after INT n in real
mode (spec/60_exceptions.md R746; spec/48_interrupt_instructions.md R640, R649). -/

namespace Sys2Proof.Machine

/-! ## A frame on the stack (R351, R595) -/

theorem above_eq_add (s : State) {n : Nat} (h : (stackPtr s).toNat + n < stackSize s.stack32) :
    s.above n = stackPtr s + BitVec.ofNat 32 n := by
  apply BitVec.eq_of_toNat_eq
  rw [above_toNat, Nat.mod_eq_of_lt h, BitVec.toNat_add, BitVec.toNat_ofNat]
  have : stackSize s.stack32 ≤ 2 ^ 32 := by cases s.stack32 <;> decide
  omega

theorem holdsFrame_iff (s : State) (n : Nat) :
    s.holdsFrame n ↔ (stackPtr s).toNat + n ≤ stackSize s.stack32 ∧ s.stackFits (stackPtr s) n false := by
  rw [State.holdsFrame, ← stackPtr_eq_ofNat, ← stackPtr_toNat]
  exact Iff.rfl

/-- What lies within a part of a segment that passes the limit check passes it (R166, R167). -/
theorem limitOk_part {prot : Bool} {r : SegReg} {off : Dword} {m delta n : Nat} (h : limitOk prot r off m = true)
    (hm : delta + n ≤ m) (hw : off.toNat + delta < 2 ^ 32) : limitOk prot r (off + BitVec.ofNat 32 delta) n = true := by
  have hoff : (off + BitVec.ofNat 32 delta).toNat = off.toNat + delta := by
    rw [BitVec.toNat_add, BitVec.toNat_ofNat]
    omega
  unfold limitOk at h ⊢
  split at h
  · rename_i he
    simp only [Bool.and_eq_true, decide_eq_true_eq] at h
    simp only [he, if_true, hoff, Bool.and_eq_true, decide_eq_true_eq]
    omega
  · rename_i he
    simp only [decide_eq_true_eq] at h
    rw [if_neg he, hoff, decide_eq_true_eq]
    omega

/-- The values of a frame that is held can be read (R595). -/
theorem peek_frame {s : State} (hu : s.unpaged) {m delta n : Nat} (hf : s.holdsFrame m) (hm : delta + n ≤ m) (h0 : 0 < n)
    (hn : n ≤ 4096) : ∃ b, peek delta n s = .ok (s.stacked delta n) (s.noted b) := by
  obtain ⟨hend, haccess, hlimit⟩ := (holdsFrame_iff s m).mp hf
  have hsize : stackSize s.stack32 ≤ 2 ^ 32 := by cases s.stack32 <;> decide
  have hfits : s.stackFits (stackPtr s + BitVec.ofNat 32 delta) n false := ⟨haccess, limitOk_part hlimit hm (by omega)⟩
  obtain ⟨b, hspan⟩ := stackSpan_passes hu hn hfits
  refine ⟨b, ?_⟩
  rw [peek_apply, if_pos (by rw [stackEnd_eq]; omega), memRead_ok hspan, State.stacked, above_eq_add s (by omega)]
  rfl

/-! ## Memory after pushes -/

@[simp] theorem kindAt_store (sp : List Nat) (v : Dword) (m : Memory) (a : Nat) : (m.store sp v).kindAt a = m.kindAt a := by
  induction sp generalizing m v with
  | nil => rfl
  | cons b rest ih => rw [Memory.store, ih, Memory.kindAt_write]

theorem load_store_disjoint {sp sq : List Nat} (h : ∀ a, a ∈ sq → a ∉ sp) (m : Memory) (v : Dword) :
    (m.store sp v).load sq = m.load sq :=
  Memory.load_congr sq _ _ fun a ha => Memory.read_store_outside sp v a (h a ha) m

/-- What memory holds does not depend on the count of instructions. -/
theorem load_tick {m : Memory} {sp : List Nat} (h : ∀ a, a ∈ sp → m.kindAt a = some .ram) : m.tick.load sp = m.load sp := by
  refine Memory.load_congr sp _ _ fun a ha => ?_
  have hholds : m.holds a = true := by simp [Memory.holds, h a ha]
  rw [Memory.read, Memory.read, if_pos hholds, if_pos (show m.tick.holds a = true from hholds)]
  rfl

theorem mem_linearBytes {lin : Dword} {n a : Nat} : a ∈ linearBytes lin n ↔ ∃ k, k < n ∧ (lin.toNat + k) % 2 ^ 32 = a := by
  simp only [linearBytes, List.mem_map, List.mem_range]

theorem linearBytes_nodup (lin : Dword) {n : Nat} (h : n ≤ 2 ^ 32) : (linearBytes lin n).Nodup := by
  refine List.Nodup.map_on (fun x hx y hy hxy => ?_) List.nodup_range
  rw [List.mem_range] at hx hy
  omega

theorem linearBytes_length (lin : Dword) (n : Nat) : (linearBytes lin n).length = n := by
  rw [linearBytes, List.length_map, List.length_range]

/-! ## The image of the flags bit by bit (R38) -/

theorem bitAt_getLsbD (b : Bool) {j k : Nat} (h : k < 32) : (bitAt b j).getLsbD k = (decide (k = j) && b) := by
  simp only [bitAt, BitVec.getLsbD_shiftLeft, BitVec.getLsbD_setWidth, BitVec.getLsbD_ofBool, decide_eq_true h, Bool.true_and]
  by_cases hjk : k = j
  · subst hjk
    simp
  · by_cases hlt : k < j
    · simp [hlt, hjk]
    · simp [hjk, show k - j ≠ 0 by omega]

theorem ioplField_getLsbD (v : BitVec 2) {k : Nat} (h : k < 32) :
    (v.setWidth 32 <<< 12 : Dword).getLsbD k = (decide (12 ≤ k) && v.getLsbD (k - 12)) := by
  simp only [BitVec.getLsbD_shiftLeft, BitVec.getLsbD_setWidth, decide_eq_true h, Bool.true_and]
  by_cases h12 : k < 12
  · simp [h12, Nat.not_le.mpr h12]
  · simp [h12, Nat.not_lt.mp h12, show k - 12 < 32 by omega]

theorem image_getLsbD (f : Flags) {k : Nat} (h : k < 32) : f.image.getLsbD k =
    ((decide (k = 0) && f.cf) || (decide (k = 1) && true) || (decide (k = 2) && f.pf) || (decide (k = 4) && f.af) ||
     (decide (k = 6) && f.zf) || (decide (k = 7) && f.sf) || (decide (k = 8) && f.tf) || (decide (k = 9) && f.ie) ||
     (decide (k = 10) && f.df) || (decide (k = 11) && f.ov) || (decide (12 ≤ k) && f.iopl.getLsbD (k - 12)) ||
     (decide (k = 14) && f.nt) || (decide (k = 16) && f.rf) || (decide (k = 17) && f.vm)) := by
  simp only [Flags.image, BitVec.getLsbD_or, bitAt_getLsbD _ h, ioplField_getLsbD _ h]

/-- An image that agrees with that of the flags in its low sixteen bits gives the flags back, but for RF and VM (R38, R39). -/
theorem ofImage_low {f : Flags} {img : Dword} (h : ∀ k, k < 16 → img.getLsbD k = f.image.getLsbD k) (rf vm : Bool) :
    ({ Flags.ofImage img with rf := rf, vm := vm } : Flags) = { f with rf := rf, vm := vm } := by
  have hbit : ∀ k, k < 16 → img.getLsbD k = _ := fun k hk => (h k hk).trans (image_getLsbD f (by omega))
  have hiopl : img.extractLsb' 12 2 = f.iopl := by
    ext i hi
    rw [BitVec.getElem_extractLsb', hbit (12 + i) (by omega)]
    interval_cases i <;> simp
  simp only [Flags.ofImage, hiopl, hbit 0 (by decide), hbit 2 (by decide), hbit 4 (by decide), hbit 6 (by decide),
    hbit 7 (by decide), hbit 8 (by decide), hbit 9 (by decide), hbit 10 (by decide), hbit 11 (by decide), hbit 14 (by decide)]
  simp

end Sys2Proof.Machine
end


section
/-! INT n and then IRET in real mode (spec/48_interrupt_instructions.md R640, R649; spec/60_exceptions.md R746). -/

namespace Sys2Proof.Machine

/-! ## Three words below the stack top -/

/-- The bytes of the word `2 k` bytes below the stack top `top` of a segment at `base`. -/
def wordBelow (base : Dword) (top k : Nat) : List Nat := linearBytes (base + BitVec.ofNat 32 (top - 2 * k)) 2

/-- Memory with three words pushed below the stack top. -/
def Memory.threeWords (m : Memory) (base : Dword) (top : Nat) (v1 v2 v3 : Dword) : Memory :=
  ((m.store (wordBelow base top 1) v1).store (wordBelow base top 2) v2).store (wordBelow base top 3) v3

section Words
variable {base : Dword} {top : Nat} (h6 : 6 ≤ top) (htop : top < 2 ^ 16)
include h6 htop

theorem wordBelow_sub {k a : Nat} (hk : 1 ≤ k) (h3 : k ≤ 3) (ha : a ∈ wordBelow base top k) :
    a ∈ linearBytes (base + BitVec.ofNat 32 (top - 6)) 6 := by
  obtain ⟨i, hi, hai⟩ := mem_linearBytes.mp ha
  refine mem_linearBytes.mpr ⟨6 - 2 * k + i, by omega, ?_⟩
  rw [BitVec.toNat_add, BitVec.toNat_ofNat] at hai ⊢
  omega

theorem wordBelow_disjoint {j k a : Nat} (hj : 1 ≤ j) (hj3 : j ≤ 3) (hk : 1 ≤ k) (hk3 : k ≤ 3) (hjk : j ≠ k)
    (ha : a ∈ wordBelow base top j) : a ∉ wordBelow base top k := by
  intro hb
  obtain ⟨i, hi, hai⟩ := mem_linearBytes.mp ha
  obtain ⟨l, hl, hbl⟩ := mem_linearBytes.mp hb
  rw [BitVec.toNat_add, BitVec.toNat_ofNat] at hai hbl
  omega

variable {m : Memory} (hram : ∀ a, a ∈ linearBytes (base + BitVec.ofNat 32 (top - 6)) 6 → m.kindAt a = some .ram)
  (v1 v2 v3 : Dword)
include hram

theorem load_pushed_word {k : Nat} (hk : 1 ≤ k) (hk3 : k ≤ 3) {m' : Memory} (hkind : ∀ a, m'.kindAt a = m.kindAt a) (v : Dword) :
    ((m'.store (wordBelow base top k) v).load (wordBelow base top k)).toNat = v.toNat % 2 ^ 16 := by
  have hlen : (wordBelow base top k).length = 2 := linearBytes_length _ 2
  have h := Memory.load_store_ram (linearBytes_nodup (base + BitVec.ofNat 32 (top - 2 * k)) (by decide : 2 ≤ 2 ^ 32))
    (by rw [linearBytes_length]; decide) m' v fun a ha => by rw [hkind]; exact hram a (wordBelow_sub h6 htop hk hk3 ha)
  rw [linearBytes_length] at h
  exact h

theorem load_threeWords :
    ((m.threeWords base top v1 v2 v3).load (wordBelow base top 1)).toNat = v1.toNat % 2 ^ 16 ∧
    ((m.threeWords base top v1 v2 v3).load (wordBelow base top 2)).toNat = v2.toNat % 2 ^ 16 ∧
    ((m.threeWords base top v1 v2 v3).load (wordBelow base top 3)).toNat = v3.toNat % 2 ^ 16 := by
  unfold Memory.threeWords
  refine ⟨?_, ?_, ?_⟩
  · rw [load_store_disjoint fun a ha => wordBelow_disjoint h6 htop (by decide) (by decide) (by decide) (by decide) (by decide) ha,
      load_store_disjoint fun a ha => wordBelow_disjoint h6 htop (by decide) (by decide) (by decide) (by decide) (by decide) ha]
    exact load_pushed_word h6 htop hram (by decide) (by decide) (fun _ => rfl) v1
  · rw [load_store_disjoint fun a ha => wordBelow_disjoint h6 htop (by decide) (by decide) (by decide) (by decide) (by decide) ha]
    exact load_pushed_word h6 htop hram (by decide) (by decide) (fun a => kindAt_store _ _ _ a) v2
  · exact load_pushed_word h6 htop hram (by decide) (by decide) (fun a => by rw [kindAt_store, kindAt_store]) v3

end Words

/-! ## IRET in the handler's first instruction -/

/-- The state in which IRET runs as the first instruction of the handler that INT n has entered. -/
def State.inHandler (s : State) (n : BitVec 8) : State :=
  begin (retire s.flags.tf (s.realDelivery n s.ctx.nextEip s.flags.rf)) (.iret, 1)

section Handler
variable {s : State} {n : BitVec 8}

theorem inHandler_mem (s : State) (n : BitVec 8) :
    (s.inHandler n).mem =
      (s.mem.threeWords s.segs.ss.base (s.regs.esp.toNat % 2 ^ 16) s.flags.image (s.segs.cs.sel.setWidth 32) s.ctx.nextEip).tick := rfl

theorem inHandler_esp (s : State) (n : BitVec 8) :
    (s.inHandler n).regs.esp =
      s.regs.esp.extractLsb' 16 16 ++ (BitVec.ofNat 32 (s.regs.esp.toNat % 2 ^ 16 - 6)).extractLsb' 0 16 := rfl

theorem inHandler_pe (h : s.pe = false) : (s.inHandler n).pe = false := h

theorem inHandler_op32 (h : s.pe = false) : (s.inHandler n).ctx.op32 = false := by
  show (retire s.flags.tf (s.realDelivery n s.ctx.nextEip s.flags.rf)).default32 = false
  rw [State.default32, prot_of_real (s := retire s.flags.tf (s.realDelivery n s.ctx.nextEip s.flags.rf)) h, Bool.false_and]

theorem inHandler_opSize (h : s.pe = false) : (s.inHandler n).opSize = .w := opSize_w (inHandler_op32 h)

theorem inHandler_stackPtr (hp : s.pe = false) :
    (stackPtr (s.inHandler n)).toNat = s.regs.esp.toNat % 2 ^ 16 - 6 := by
  rw [stackPtr_toNat, stack32_of_real (inHandler_pe hp), stackSize_false, inHandler_esp, append_toNat, BitVec.extractLsb'_toNat,
    BitVec.extractLsb'_toNat, BitVec.toNat_ofNat, Nat.shiftRight_zero]
  omega

theorem inHandler_holdsFrame (h : s.realReady n) : (s.inHandler n).holdsFrame 6 := by
  obtain ⟨hp, -, hroom, hlimit⟩ := h
  rw [holdsFrame_iff, stack32_of_real (inHandler_pe hp), stackFits_real (inHandler_pe hp), inHandler_stackPtr hp, stackSize_false]
  show _ ∧ _ ≤ s.segs.ss.limit.toNat + 1
  omega

/-- A word of the frame, as IRET reads it. -/
theorem inHandler_stacked (h : s.realReady n) {k : Nat} (hk : 1 ≤ k) (hk3 : k ≤ 3) :
    (s.inHandler n).stacked (6 - 2 * k) 2 = (s.inHandler n).mem.load (wordBelow s.segs.ss.base (s.regs.esp.toNat % 2 ^ 16) k) := by
  obtain ⟨hp, -, hroom, -⟩ := h
  have habove : (s.inHandler n).above (6 - 2 * k) = BitVec.ofNat 32 (s.regs.esp.toNat % 2 ^ 16 - 2 * k) := by
    apply BitVec.eq_of_toNat_eq
    rw [above_toNat, inHandler_stackPtr hp, stack32_of_real (inHandler_pe hp), stackSize_false, BitVec.toNat_ofNat]
    omega
  rw [State.stacked, habove]
  rfl

end Handler

/-- What IRET leaves of the state that has entered a handler (R649). -/
theorem exec_iret_inHandler {s : State} {n : BitVec 8} (h : s.realReady n) {off sel img : Dword}
    (ho : (s.inHandler n).stacked 0 2 = off) (hs : (s.inHandler n).stacked 2 2 = sel) (hi : (s.inHandler n).stacked 4 2 = img)
    (hl : off.toNat ≤ s.segs.cs.limit.toNat) :
    ∃ b, exec .iret (s.inHandler n) =
      .next (retire (s.inHandler n).flags.tf
        ((s.inHandler n).iretRealFrom ((s.inHandler n).noted b) off sel img).returned) := by
  have hp := inHandler_pe (n := n) h.1
  have hu := unpaged_of_real hp
  have hf := inHandler_holdsFrame h
  have hn : (s.inHandler n).opSize.bytes = 2 := by rw [inHandler_opSize h.1]; rfl
  obtain ⟨b1, h1⟩ := peek_frame hu hf (delta := 0) (n := 2) (by decide) (by decide) (by decide)
  obtain ⟨b2, h2⟩ := peek_frame (s := (s.inHandler n).noted b1) hu hf (delta := 2) (n := 2) (by decide) (by decide) (by decide)
  obtain ⟨b3, h3⟩ := peek_frame (s := (s.inHandler n).noted b2) hu hf (delta := 4) (n := 2) (by decide) (by decide) (by decide)
  rw [ho] at h1
  rw [show ((s.inHandler n).noted b1).stacked 2 2 = sel from hs] at h2
  rw [show ((s.inHandler n).noted b2).stacked 4 2 = img from hi] at h3
  refine ⟨b3, (runInstr_ok (body := interruptReturn) ?_ : exec .iret (s.inHandler n) = _)⟩
  rw [interruptReturn_real (prot_of_real hp) (fun ht => by rw [hp] at ht; exact Bool.noConfusion ht),
    iretReal_ok (s := s.inHandler n) (a := (s.inHandler n).noted b1) (b := (s.inHandler n).noted b2) (c := (s.inHandler n).noted b3)
      (by rw [hn]; exact checkFrame_ok hf) (by rw [hn]; exact h1) (by rw [hn]; exact h2) (by rw [hn]; exact h3) hl]

section Back
variable {s : State} {n : BitVec 8}

/-- The six bytes taken off again leave the registers as they were. -/
theorem popped_inHandler_regs (h : s.realReady n) (b : BitVec 4) : (((s.inHandler n).noted b).popped 6).regs = s.regs := by
  obtain ⟨hp, -, hroom, -⟩ := h
  have habove : (s.inHandler n).above 6 = stackPtr s := by
    apply BitVec.eq_of_toNat_eq
    rw [above_toNat, inHandler_stackPtr hp, stack32_of_real (inHandler_pe hp), stackPtr_toNat, stack32_of_real hp, stackSize_false]
    omega
  have hback := congrArg State.regs
    (withTop_withTop false s (BitVec.ofNat 32 (s.regs.esp.toNat % 2 ^ 16 - 6)) (stackPtr s))
  have hself := congrArg State.regs (withTop_stackPtr s)
  rw [stack32_of_real hp] at hself
  show (((s.inHandler n).noted b).withTop (s.inHandler n).stack32 ((s.inHandler n).above 6)).regs = s.regs
  rw [stack32_of_real (inHandler_pe hp), habove, ← hself]
  exact hback

theorem codeReal_inHandler (hp : s.pe = false) (hbase : s.segs.cs.base = BitVec.ofNat 32 (16 * s.segs.cs.sel.toNat))
    (hvalid : s.segs.cs.valid = true) (b : BitVec 4) :
    (((s.inHandler n).noted b).popped 6).codeReal s.segs.cs.sel = s.segs.cs := by
  have hv : (((s.inHandler n).noted b).popped 6).v86 = false := v86_of_real (s := ((s.inHandler n).noted b).popped 6) hp
  rw [State.codeReal, hv, if_neg Bool.false_ne_true]
  show ({ s.segs.cs with sel := s.segs.cs.sel, base := realBase s.segs.cs.sel, valid := true } : SegReg) = s.segs.cs
  rw [realBase_eq, ← hbase, ← hvalid]

theorem flags_inHandler {img : Dword} (himg : ∀ k, k < 16 → img.getLsbD k = s.flags.image.getLsbD k) :
    (s.inHandler n).flags.load img 0 false = { s.flags with rf := false } :=
  ofImage_low himg false s.flags.vm

end Back

/-- Settles O35: IRET reads back the three words that INT n has pushed. -/
theorem interruptReturnUndoesTheInterrupt : Obligations.InterruptReturnUndoesTheInterrupt := by
  intro s n hr hop hnext hlimit hbase hvalid hram
  obtain ⟨hp, -, hroom, -⟩ := id hr
  have htop : s.regs.esp.toNat % 2 ^ 16 < 2 ^ 16 := Nat.mod_lt _ (by decide)
  obtain ⟨hflags, hsel, hoff⟩ := load_threeWords hroom htop hram s.flags.image (s.segs.cs.sel.setWidth 32) s.ctx.nextEip
  have hword : ∀ k, 1 ≤ k → k ≤ 3 → (s.inHandler n).stacked (6 - 2 * k) 2 =
      (s.mem.threeWords s.segs.ss.base (s.regs.esp.toNat % 2 ^ 16) s.flags.image (s.segs.cs.sel.setWidth 32) s.ctx.nextEip).load
        (wordBelow s.segs.ss.base (s.regs.esp.toNat % 2 ^ 16) k) := by
    intro k hk hk3
    rw [inHandler_stacked hr hk hk3, inHandler_mem]
    refine load_tick fun a ha => ?_
    rw [Memory.threeWords, kindAt_store, kindAt_store, kindAt_store]
    exact hram a (wordBelow_sub hroom htop hk hk3 ha)
  have h1 := hword 1 (by decide) (by decide)
  have h2 := hword 2 (by decide) (by decide)
  have h3 := hword 3 (by decide) (by decide)
  rw [← h1] at hflags
  rw [← h2] at hsel
  rw [← h3] at hoff
  have hoffEq : (s.inHandler n).stacked 0 2 = s.ctx.nextEip := by
    apply BitVec.eq_of_toNat_eq
    exact hoff.trans (Nat.mod_eq_of_lt hnext)
  have hselEq : low16 ((s.inHandler n).stacked 2 2) = s.segs.cs.sel := by
    apply BitVec.eq_of_toNat_eq
    have := s.segs.cs.sel.isLt
    rw [low16_toNat]
    rw [BitVec.toNat_setWidth] at hsel
    have e : ((s.inHandler n).stacked 2 2).toNat = s.segs.cs.sel.toNat % 2 ^ 32 % 2 ^ 16 := hsel
    omega
  have himg : ∀ k, k < 16 → ((s.inHandler n).stacked 4 2).getLsbD k = s.flags.image.getLsbD k := by
    intro k hk
    have e : ((s.inHandler n).stacked 4 2).toNat = s.flags.image.toNat % 2 ^ 16 := hflags
    rw [BitVec.getLsbD, BitVec.getLsbD, e, Nat.testBit_mod_two_pow, decide_eq_true hk, Bool.true_and]
  obtain ⟨b, hb⟩ := exec_iret_inHandler hr hoffEq rfl rfl hlimit
  refine ⟨_, _, exec_interrupts_real (ev := s.softwareEvent n) ⟨rfl, .inl ⟨rfl, fun hv => ?_⟩⟩ hr, hb, ?_, ?_, ?_, rfl, rfl, rfl⟩
  · rw [hp] at hv
    exact Bool.noConfusion hv
  · rw [retire_regs]
    show (((s.inHandler n).noted b).popped (3 * (s.inHandler n).opSize.bytes)).regs = s.regs
    rw [inHandler_opSize hp]
    exact popped_inHandler_regs hr b
  · have hcs := codeReal_inHandler (n := n) hp hbase hvalid b
    rw [retire_segs]
    show ({ s.segs with cs := (((s.inHandler n).noted b).popped (3 * (s.inHandler n).opSize.bytes)).codeReal _ } : SegRegs) = _
    rw [hselEq, inHandler_opSize hp]
    exact congrArg (fun x => { s.segs with cs := x }) hcs
  · rw [retire_flags, if_neg (by exact nofun)]
    show (s.inHandler n).flags.load _ (if (s.inHandler n).pe then _ else 0) (s.inHandler n).ctx.op32 = _
    rw [inHandler_pe hp, inHandler_op32 hp]
    exact flags_inHandler himg

end Sys2Proof.Machine
end


section
/-! Taking an exception in real mode (spec/60_exceptions.md R722, R746, R780, R853, R854). -/

namespace Sys2Proof.Machine

@[simp] theorem withMatches_self (s : State) : s.withMatches s = s := rfl

section
variable {s : State} {ev : Event}

/-- A vector beyond the interrupt table raises the double fault (R746). -/
theorem deliver_real_beyond (hp : s.pe = false) (hl : s.sys.idtr.limit.toNat < 4 * ev.vector.toNat + 3) {nested : Bool}
    (h8 : ev.vector ≠ 8) (hn : nested = false) : deliver nested ev s = .error (.exc .doubleFault) s := by
  subst hn
  have hreal : deliverReal false ev s = .error (.exc .doubleFault) s := by
    simp only [deliverReal, exec_bind_apply, getState_apply, if_pos hl, decide_eq_false h8, Bool.false_and, Bool.or_self,
      Bool.false_eq_true, if_false]
    rfl
  have hext : withExt ev.source .doubleFault = .doubleFault := by
    unfold withExt
    cases ev.source <;> rfl
  simp only [deliver, exec_bind_apply, getState_apply, hp, Bool.false_eq_true, if_false, unmatched_apply, mapStop_apply, hreal,
    addExt, hext, withMatches_self]

/-- A double fault beyond the interrupt table shuts the processor down (R853). -/
theorem deliver_real_shutdown (hp : s.pe = false) (hl : s.sys.idtr.limit.toNat < 4 * ev.vector.toNat + 3) (h8 : ev.vector = 8)
    (nested : Bool) : deliver nested ev s = .error .shutdown s := by
  have hreal : deliverReal nested ev s = .error .shutdown s := by
    simp only [deliverReal, exec_bind_apply, getState_apply, if_pos hl, decide_eq_true h8, Bool.true_or, if_true]
    rfl
  simp only [deliver, exec_bind_apply, getState_apply, hp, Bool.false_eq_true, if_false, unmatched_apply, mapStop_apply, hreal,
    addExt, withMatches_self]

/-- A double fault during the delivery of an exception other than the double fault is delivered (R780). -/
theorem secondException_doubleFault (s : State) {e : Exc} (h8 : e.vector ≠ 8) :
    secondException (exceptionEvent s e) .doubleFault false = some .doubleFault := by
  have hv : (exceptionEvent s e).vector ≠ 8 := h8
  simp only [secondException, show (exceptionEvent s e).source = .exception from rfl, if_true, if_neg hv, Bool.false_eq_true,
    if_false]
  split
  · rfl
  · split <;> rfl

end

/-- Settles O37: the handler, the double fault's handler, or shutdown, by the length of the interrupt table. -/
theorem realExceptionsEnterTheirHandler : Obligations.RealExceptionsEnterTheirHandler := by
  intro s e
  refine ⟨fun hr => takeEvent_ok (deliver_real (ev := exceptionEvent s e) hr false), fun hp hl h8 hr => ?_, fun hp hl hl8 => ?_⟩
  · have hfirst := deliver_real_beyond (ev := exceptionEvent s e) hp hl h8 rfl
    have hsecond := deliver_real (ev := exceptionEvent s .doubleFault) hr true
    show deliverChain 8 false false (exceptionEvent s e) s = _
    simp only [deliverChain, hfirst, secondException_doubleFault s h8, rollback_refl, hsecond]
    rfl
  · by_cases h8 : e.vector = 8
    · have hfirst := deliver_real_shutdown (ev := exceptionEvent s e) hp hl h8 false
      show deliverChain 8 false false (exceptionEvent s e) s = _
      simp only [deliverChain, hfirst, rollback_refl]
      rfl
    · have hfirst := deliver_real_beyond (ev := exceptionEvent s e) hp hl h8 rfl
      have hsecond := deliver_real_shutdown (ev := exceptionEvent s .doubleFault) hp hl8 rfl true
      show deliverChain 8 false false (exceptionEvent s e) s = _
      simp only [deliverChain, hfirst, secondException_doubleFault s h8, rollback_refl, hsecond]
      rfl

end Sys2Proof.Machine
end


section
/-! External interrupts, HLT, shutdown, and how an instruction ends (spec/60_exceptions.md R731, R733, R741, R824, R850, R854;
spec/10_state.md R36, R41). -/

namespace Sys2Proof.Machine

/-! ## What comes next at a boundary (R741, R850, R855) -/

section Boundary
variable {s : State}

theorem step_active (h : s.ext.reset = false) : step s = stepActive s := if_neg (by rw [h]; exact Bool.false_ne_true)

theorem step_running (h : s.ext.reset = false) (ha : s.events.activity = .running) : step s = stepRunning s := by
  rw [step_active h, stepActive, ha]

theorem step_halted (h : s.ext.reset = false) (ha : s.events.activity = .halted) : step s = stepHalted s := by
  rw [step_active h, stepActive, ha]

theorem step_shutdown (h : s.ext.reset = false) (ha : s.events.activity = .shutdown) : step s = stepShutdown s := by
  rw [step_active h, stepActive, ha]

/-- Where no debug exception is due no trap is. -/
theorem trapsDue_of_debugDue (h : debugDue s = false) : trapsDue s = false := (Bool.or_eq_false_iff.mp h).1

theorem awake_cases (h : s.events.activity ≠ .shutdown) : s.events.activity = .running ∨ s.events.activity = .halted := by
  revert h
  cases s.events.activity <;> simp

theorem step_nmi (h : s.ext.reset = false) (ha : s.events.activity ≠ .shutdown) (hd : debugDue s = false)
    (hn : nmiDue s = true) : step s = takeNmi s := by
  obtain ha | ha := awake_cases ha
  · rw [step_running h ha, stepRunning, hd, hn, if_neg Bool.false_ne_true, if_pos rfl]
  · rw [step_halted h ha, stepHalted, trapsDue_of_debugDue hd, hn, if_neg Bool.false_ne_true, if_pos rfl]

theorem step_intr (h : s.ext.reset = false) (ha : s.events.activity ≠ .shutdown) (hd : debugDue s = false)
    (hn : nmiDue s = false) (hi : intrDue s = true) : step s = takeIntr s := by
  obtain ha | ha := awake_cases ha
  · rw [step_running h ha, stepRunning, hd, hn, hi, if_neg Bool.false_ne_true, if_neg Bool.false_ne_true, if_pos rfl]
  · rw [step_halted h ha, stepHalted, trapsDue_of_debugDue hd, hn, hi, if_neg Bool.false_ne_true, if_neg Bool.false_ne_true,
      if_pos rfl]

theorem step_waits (h : s.ext.reset = false) (ha : s.events.activity = .halted) (hd : debugDue s = false)
    (hn : nmiDue s = false) (hi : intrDue s = false) : step s = .next s := by
  rw [step_halted h ha, stepHalted, trapsDue_of_debugDue hd, hn, hi, if_neg Bool.false_ne_true, if_neg Bool.false_ne_true,
    if_neg Bool.false_ne_true]

/-- An NMI is pending, and none is in service (R733). -/
def State.nmiWaits (s : State) : Prop := s.events.nmiPending = true ∧ s.events.nmiInService = false

theorem nmiWaits_iff (s : State) : (s.events.nmiPending && !s.events.nmiInService) = true ↔ s.nmiWaits := by
  rw [Bool.and_eq_true, Bool.not_eq_true']
  exact Iff.rfl

theorem nmiDue_iff (s : State) : nmiDue s = true ↔ s.nmiWaits ∧ s.events.inhibit ≠ .all := by
  rw [nmiDue, Bool.and_eq_true, nmiWaits_iff, decide_eq_true_iff]

theorem intrDue_iff (s : State) :
    intrDue s = true ↔ s.ext.intr = true ∧ s.flags.ie = true ∧ s.events.inhibit = .off := by
  rw [intrDue, Bool.and_eq_true, Bool.and_eq_true, decide_eq_true_iff, and_assoc]

theorem nmiDue_of_not (h : ¬ s.nmiWaits) : nmiDue s = false :=
  eq_false_of_ne_true fun hn => h ((nmiDue_iff s).mp hn).1

/-- The NMI can bring the processor out of shutdown (R854). -/
def State.canWake (s : State) : Prop :=
  s.pe = true ∨ (0x17 ≤ s.sys.idtr.limit.toNat ∧ 5 < s.regs.esp.toNat % 2 ^ 16)

theorem wakes_iff (s : State) : wakes s = true ↔ s.nmiWaits ∧ s.canWake := by
  rw [wakes, Bool.and_eq_true, nmiWaits_iff, Bool.or_eq_true, Bool.and_eq_true, decide_eq_true_iff, decide_eq_true_iff,
    low16_toNat]
  exact Iff.rfl

theorem step_stays_shut (h : s.ext.reset = false) (ha : s.events.activity = .shutdown) (hw : ¬ (s.nmiWaits ∧ s.canWake)) :
    step s = .next s := by
  rw [step_shutdown h ha, stepShutdown, if_neg (mt (wakes_iff s).mp hw)]

theorem step_wakes (h : s.ext.reset = false) (ha : s.events.activity = .shutdown) (hn : s.nmiWaits) (hw : s.canWake) :
    step s =
      match deliver false (externalEvent s 2 true) (nmiTaken s) with
      | .ok _ t => .next (settle t)
      | .error _ t => .next (enterShutdown (rollback (nmiTaken s) t)) :=
  (step_shutdown h ha).trans (if_pos ((wakes_iff s).mpr ⟨hn, hw⟩))

end Boundary

theorem exec_hlt {s : State} (h : s.privileged = true) :
    exec .hlt s =
      .next (retire s.flags.tf
        { s with events := { s.events with activity := .halted }, bus := .haltIndication :: s.bus }) := by
  show execHlt s = _
  refine runInstr_ok ?_
  simp only [exec_bind_apply, requirePrivilege_passes h, update_apply, emit_apply]

/-- Settles O41: each case is one branch of the step at a boundary. -/
theorem externalInterruptsAreTaken : Obligations.ExternalInterruptsAreTaken := by
  intro s hreset rf serviced acknowledged nmi intr
  refine ⟨fun h => exec_hlt ((State.privileged_iff s).mpr h), fun ha hd => ⟨fun hn hi hr => ?_, fun hn hi hr => ?_,
    fun hh hn hi => ?_⟩, fun ha => ?_⟩
  · rw [step_nmi hreset ha hd ((nmiDue_iff s).mpr ⟨hn, hi⟩)]
    exact takeEvent_ok (deliver_real (ev := externalEvent s 2 true) (s := nmiTaken s) hr false)
  · rw [step_intr hreset ha hd (nmiDue_of_not hn) ((intrDue_iff s).mpr hi)]
    exact takeEvent_ok (deliver_real (ev := externalEvent s s.ext.intVector false) (s := acknowledged) hr false)
  · exact step_waits hreset hh hd (nmiDue_of_not hn) (eq_false_of_ne_true (mt (intrDue_iff s).mp hi))
  · intro delivered wakes
    refine ⟨fun hn => step_stays_shut hreset ha fun h => hn h.1, fun hn hp hw => step_stays_shut hreset ha fun h => ?_,
      fun hn hl hr => ?_, fun hn hw t ht => ?_, fun hn hw x t ht => ?_⟩
    · obtain h | h := h.2
      · rw [hp] at h
        exact Bool.noConfusion h
      · omega
    · have hd := deliver_real (ev := externalEvent s 2 true) (s := nmiTaken s) hr false
      rw [step_wakes hreset ha hn (.inr ⟨hl, hr.2.2.1⟩), hd]
      rfl
    · rw [step_wakes hreset ha hn hw, show deliver false (externalEvent s 2 true) (nmiTaken s) = .ok () t from ht]
    · rw [step_wakes hreset ha hn hw, show deliver false (externalEvent s 2 true) (nmiTaken s) = .error x t from ht]
      rfl

/-! ## The end of an instruction (R36, R41, R396, R824) -/

theorem exec_sti {s : State} (h : s.ioAllowed = true) :
    exec .sti s =
      .next (retire s.flags.tf
        { s with flags := { s.flags with ie := true }
                 ctx := { s.ctx with inhibitNext := if s.flags.ie then s.ctx.inhibitNext else .intr } }) := by
  show execSti s = _
  refine runInstr_ok ?_
  cases hi : s.flags.ie
  · simp only [exec_bind_apply, requireIo_passes h, getState_apply, hi, Bool.not_false, when_true, update_apply,
      updateFlags_apply, Bool.false_eq_true, if_false]
  · simp only [exec_bind_apply, requireIo_passes h, getState_apply, hi, Bool.not_true, when_false, updateFlags_apply, if_true]

/-- A single-step trap that nothing holds back is the debug exception of the next step (R824, R742). -/
theorem step_singleStep {t : State} (hr : t.ext.reset = false) (ha : t.events.activity = .running)
    (hb : t.events.traps.bs = true) (hi : t.events.inhibit ≠ .all) :
    ∃ u, step t =
        takeEvent { vector := 1, code := none, source := .exception, retEip := t.eip, rf := t.flags.rf, nmi := false } u ∧
      u.dregs.dr6.getLsbD 14 = true ∧ u.events.traps = DebugTraps.none ∧ u.regs = t.regs ∧ u.segs = t.segs ∧ u.mem = t.mem := by
  have hdue : debugDue t = true := by
    simp only [debugDue, dueTraps, if_neg hi, hb, Bool.true_or]
  refine ⟨{ t with
      dregs := { t.dregs with dr6 := withCauses t.dregs.dr6 (dueTraps t) (dueBreakpoints t) }
      events := { t.events with traps := if t.events.inhibit = .all then t.events.traps else DebugTraps.none } },
    ?_, ?_, ?_, rfl, rfl, rfl⟩
  · rw [step_running hr ha, stepRunning, if_pos hdue]
    rfl
  · simp only [withCauses, BitVec.getLsbD_or, bitAt_getLsbD _ (show 14 < 32 by decide), dueTraps, if_neg hi, hb]
    simp
  · simp only [if_neg hi]

/-- Settles O42: `retire` case by case. -/
theorem instructionsEndAndTrap : Obligations.InstructionsEndAndTrap := by
  intro s tf t io
  refine ⟨fun h => exec_sti ((State.ioAllowed_iff s).mpr h), rfl, rfl, fun h => if_pos h, fun h => if_neg h, fun h => ?_,
    fun h => ?_, fun b h => ?_, fun h => ?_, rfl, fun ev u h => takeEvent_ok h, rfl, rfl, rfl, rfl, rfl, rfl,
    step_singleStep⟩
  · obtain h | h := h <;>
    · simp only [t, retire, h]
      refine ⟨trivial, trivial, ?_⟩
      show (true && (_ || (tf && true))) = _
      rw [Bool.true_and, Bool.and_true]
  · simp only [t, retire]
    obtain h | h | h := h <;> simp [h]
  · simp only [t, retire, h]
    trivial
  · simp only [t, retire, h]
    trivial

end Sys2Proof.Machine
end


section
/-! Breakpoints and the debug exception (spec/60_exceptions.md R742, R821 to R828). -/

namespace Sys2Proof.Machine

/-! ## The fields of DR7, and the places that a data breakpoint watches (R62, R822) -/

theorem rw_eq (d : DebugRegs) (i : Nat) : d.rw i = d.dr7.toNat / 2 ^ (16 + 4 * i) % 4 := by
  rw [DebugRegs.rw, BitVec.extractLsb'_toNat, Nat.shiftRight_eq_div_pow]

theorem len_eq (d : DebugRegs) (i : Nat) : d.len i = d.dr7.toNat / 2 ^ (18 + 4 * i) % 4 := by
  rw [DebugRegs.len, BitVec.extractLsb'_toNat, Nat.shiftRight_eq_div_pow]

theorem len_lt (d : DebugRegs) (i : Nat) : d.len i < 4 := by
  rw [len_eq]
  exact Nat.mod_lt _ (by decide)

/-- The bytes that a length field stands for (R822). -/
def fieldSize (len : Nat) : Nat := match len with | 0 => 1 | 1 => 2 | _ => 4

theorem and_clear_low (x : Dword) :
    (x &&& 0xFFFFFFFE).toNat = x.toNat / 2 * 2 ∧ (x &&& 0xFFFFFFFC).toNat = x.toNat / 4 * 4 := by
  have hlt := x.isLt
  have h2 : x &&& 0xFFFFFFFE = (x.ushiftRight 1).shiftLeft 1 := by
    ext i hi
    interval_cases i <;> simp
  have h4 : x &&& 0xFFFFFFFC = (x.ushiftRight 2).shiftLeft 2 := by
    ext i hi
    interval_cases i <;> simp
  rw [h2, h4]
  simp only [BitVec.shiftLeft_eq, BitVec.ushiftRight_eq, BitVec.toNat_shiftLeft, BitVec.toNat_ushiftRight,
    Nat.shiftRight_eq_div_pow, Nat.shiftLeft_eq]
  omega

/-- The condition of data breakpoint i holds for an access (R822, R828). -/
def DebugRegs.watches (d : DebugRegs) (i : Nat) (lin : Dword) (n : Nat) (write : Bool) : Prop :=
  (d.rw i = 3 ∨ (d.rw i = 1 ∧ write = true)) ∧ d.len i ≠ 2 ∧
  ∃ k, k < n ∧ (d.addr i).toNat / fieldSize (d.len i) * fieldSize (d.len i) ≤ (lin.toNat + k) % 2 ^ 32 ∧
    (lin.toNat + k) % 2 ^ 32 < (d.addr i).toNat / fieldSize (d.len i) * fieldSize (d.len i) + fieldSize (d.len i)

theorem field_eq (d : DebugRegs) (i : Nat) :
    d.field i =
      if d.len i = 2 then none
      else some ((d.addr i).toNat / fieldSize (d.len i) * fieldSize (d.len i), fieldSize (d.len i)) := by
  have hlt := len_lt d i
  obtain ⟨h2, h4⟩ := and_clear_low (d.addr i)
  unfold DebugRegs.field
  obtain h | h | h | h : d.len i = 0 ∨ d.len i = 1 ∨ d.len i = 2 ∨ d.len i = 3 := by omega
  all_goals simp only [h, fieldSize]
  · simp
  · rw [h2]; rfl
  · rfl
  · rw [h4]; rfl

theorem dataMatch_iff (d : DebugRegs) (i : Nat) (lin : Dword) (n : Nat) (write : Bool) :
    dataMatch d i lin n write = true ↔ d.watches i lin n write := by
  rw [dataMatch, field_eq, DebugRegs.watches, Bool.and_eq_true]
  refine and_congr ?_ ?_
  · rw [Bool.or_eq_true, Bool.and_eq_true, beq_iff_eq, beq_iff_eq]
    exact or_comm
  · by_cases h : d.len i = 2
    · simp [h]
    · simp [h]

/-! ## The bits of the conditions that hold (R823) -/

/-- Breakpoint i is enabled (R62). -/
def DebugRegs.isEnabled (d : DebugRegs) (i : Nat) : Prop := d.dr7.getLsbD (2 * i) = true ∨ d.dr7.getLsbD (2 * i + 1) = true

theorem enabled_iff (d : DebugRegs) (i : Nat) : d.enabled i = true ↔ d.isEnabled i := by
  rw [DebugRegs.enabled, Bool.or_eq_true]
  exact Iff.rfl

section Bits
variable {d : DebugRegs} {hit : Nat → Bool}

theorem exists_hit_iff (d : DebugRegs) (hit : Nat → Bool) :
    ((hit 0 && d.enabled 0) || (hit 1 && d.enabled 1) || (hit 2 && d.enabled 2) || (hit 3 && d.enabled 3)) = true ↔
      ∃ i, i < 4 ∧ d.isEnabled i ∧ hit i = true := by
  simp only [Bool.or_eq_true, Bool.and_eq_true, enabled_iff]
  constructor
  · rintro (((⟨h, e⟩ | ⟨h, e⟩) | ⟨h, e⟩) | ⟨h, e⟩)
    · exact ⟨0, by decide, e, h⟩
    · exact ⟨1, by decide, e, h⟩
    · exact ⟨2, by decide, e, h⟩
    · exact ⟨3, by decide, e, h⟩
  · rintro ⟨i, hi, e, h⟩
    interval_cases i
    · exact .inl (.inl (.inl ⟨h, e⟩))
    · exact .inl (.inl (.inr ⟨h, e⟩))
    · exact .inl (.inr ⟨h, e⟩)
    · exact .inr ⟨h, e⟩

theorem breakpointBits_none (h : ¬ ∃ i, i < 4 ∧ d.isEnabled i ∧ hit i = true) : breakpointBits d hit = 0 :=
  if_neg (mt (exists_hit_iff d hit).mp h)

theorem breakpointBits_some (h : ∃ i, i < 4 ∧ d.isEnabled i ∧ hit i = true) {i : Nat} (hi : i < 4) :
    (breakpointBits d hit).getLsbD i = hit i := by
  rw [breakpointBits, if_pos ((exists_hit_iff d hit).mpr h)]
  simp only [BitVec.getLsbD_append, BitVec.getLsbD_ofBool]
  interval_cases i <;> simp

theorem breakpointBits_ne_zero (h : ∃ i, i < 4 ∧ d.isEnabled i ∧ hit i = true) : breakpointBits d hit ≠ 0 := by
  obtain ⟨i, hi, he, hh⟩ := h
  intro hz
  have hbit := breakpointBits_some ⟨i, hi, he, hh⟩ hi
  rw [hz, hh] at hbit
  simp at hbit

end Bits

/-! ## An access and the data breakpoints (R822) -/

theorem faulted_events {s t : State} (h : faulted s t) : t.events = s.events ∧ t.dregs = s.dregs := by
  rw [h]
  exact ⟨rfl, rfl⟩

/-- An access adds the bits of the data breakpoints that it meets (R822, R823). -/
theorem segSpan_traps {s t : State} {sg : Seg} {off : Dword} {n : Nat} {write : Bool} {sp : List Nat}
    (h : segSpan sg off n write s = .ok sp t) :
    t.events.traps.b = s.events.traps.b |||
      breakpointBits s.dregs fun i => dataMatch s.dregs i ((s.segs.get sg).base + off) n write := by
  obtain ⟨lin, a, hl, h⟩ := exec_bind_ok h
  rw [segLinear_apply] at hl
  split at hl
  · obtain ⟨rfl, rfl⟩ := EStateM.Result.ok.inj hl
    obtain ⟨_, _, hg, h⟩ := exec_bind_ok h
    obtain ⟨rfl, rfl⟩ := EStateM.Result.ok.inj hg
    obtain ⟨sp', b, hs, h⟩ := exec_bind_ok h
    obtain ⟨he, hd⟩ := faulted_events ((translates_linSpan _ _ _ _ s).1 _ _ hs)
    simp only [noteAccess, exec_bind_apply, update_apply, exec_pure_apply, EStateM.Result.ok.injEq] at h
    obtain ⟨-, rfl⟩ := h
    simp only [he, hd]
  · exact nomatch hl

/-! ## The debug exception (R742, R821) -/

/-- Instruction breakpoint i is at the next instruction (R821). -/
def State.breaksAt (s : State) (i : Nat) : Prop :=
  s.dregs.dr7.toNat / 2 ^ (16 + 4 * i) % 16 = 0 ∧ s.dregs.addr i = s.segs.cs.base + s.eip

theorem codeMatch_iff (s : State) (i : Nat) : codeMatch s.dregs i (codeAddress s) = true ↔ s.breaksAt i := by
  have hsplit : s.dregs.dr7.toNat / 2 ^ (18 + 4 * i) = s.dregs.dr7.toNat / 2 ^ (16 + 4 * i) / 4 := by
    rw [Nat.div_div_eq_div_mul, show 18 + 4 * i = 16 + 4 * i + 2 by omega, Nat.pow_add]
  rw [codeMatch, Bool.and_eq_true, Bool.and_eq_true, beq_iff_eq, beq_iff_eq, beq_iff_eq, rw_eq, len_eq, hsplit]
  exact and_congr (by omega) Iff.rfl

/-- The debug traps that nothing inhibits (R735). -/
def State.trapsDueNow (s : State) : Prop :=
  s.events.inhibit ≠ .all ∧ (s.events.traps.b ≠ 0 ∨ s.events.traps.bs = true ∨ s.events.traps.bt = true)

/-- An instruction breakpoint is due (R821). -/
def State.breaksNow (s : State) : Prop :=
  s.flags.rf = false ∧ s.events.begun = .no ∧ ∃ i, i < 4 ∧ s.dregs.isEnabled i ∧ s.breaksAt i

section Debug
variable {s : State}

theorem exists_break_iff (s : State) :
    (∃ i, i < 4 ∧ s.dregs.isEnabled i ∧ codeMatch s.dregs i (codeAddress s) = true) ↔
      ∃ i, i < 4 ∧ s.dregs.isEnabled i ∧ s.breaksAt i := by
  simp only [codeMatch_iff]

theorem dueBreakpoints_none (h : ¬ s.breaksNow) : dueBreakpoints s = 0 := by
  unfold dueBreakpoints
  split
  · rfl
  · rename_i hc
    rw [Bool.or_eq_true, decide_eq_true_iff, not_or, not_not] at hc
    exact breakpointBits_none fun hb => h ⟨eq_false_of_ne_true hc.1, hc.2, (exists_break_iff s).mp hb⟩

theorem dueBreakpoints_eq (h : s.breaksNow) :
    dueBreakpoints s = breakpointBits s.dregs fun i => codeMatch s.dregs i (codeAddress s) := by
  obtain ⟨hrf, hb, -⟩ := h
  rw [dueBreakpoints, hrf, hb]
  rfl

theorem dueBreakpoints_bit {k : Nat} (hk : k < 4) : (dueBreakpoints s).getLsbD k = true ↔ s.breaksNow ∧ s.breaksAt k := by
  by_cases h : s.breaksNow
  · rw [dueBreakpoints_eq h, breakpointBits_some ((exists_break_iff s).mpr h.2.2) hk, codeMatch_iff]
    exact ⟨fun hb => ⟨h, hb⟩, fun hb => hb.2⟩
  · rw [dueBreakpoints_none h]
    exact ⟨fun hb => by simp at hb, fun hb => absurd hb.1 h⟩

theorem dueTraps_free (h : s.events.inhibit ≠ .all) : dueTraps s = s.events.traps := if_neg h

theorem dueTraps_inhibited (h : s.events.inhibit = .all) : dueTraps s = DebugTraps.none := if_pos h

theorem trapsDue_iff (s : State) : trapsDue s = true ↔ s.trapsDueNow := by
  unfold trapsDue State.trapsDueNow
  by_cases h : s.events.inhibit = .all
  · rw [dueTraps_inhibited h]
    exact ⟨fun ht => Bool.noConfusion ht, fun ht => absurd h ht.1⟩
  · rw [dueTraps_free h, Bool.or_eq_true, Bool.or_eq_true, bne_iff_ne]
    exact ⟨fun ht => ⟨h, by tauto⟩, fun ht => by tauto⟩

theorem debugDue_iff (s : State) : debugDue s = true ↔ s.breaksNow ∨ s.trapsDueNow := by
  rw [show debugDue s = (trapsDue s || dueBreakpoints s != 0) from rfl, Bool.or_eq_true, trapsDue_iff, bne_iff_ne, or_comm]
  refine or_congr_left ⟨fun hb => ?_, fun hb => ?_⟩
  · exact not_not.mp fun h => hb (dueBreakpoints_none h)
  · rw [dueBreakpoints_eq hb]
    exact breakpointBits_ne_zero ((exists_break_iff s).mpr hb.2.2)

/-- DR6 after a debug exception, bit by bit (R823). -/
theorem withCauses_bit (dr6 : Dword) (t : DebugTraps) (b : BitVec 4) {k : Nat} (hk : k < 32) :
    (withCauses dr6 t b).getLsbD k = true ↔
      dr6.getLsbD k = true ∨ (k < 4 ∧ (t.b.getLsbD k = true ∨ b.getLsbD k = true)) ∨ (k = 14 ∧ t.bs = true) ∨
        (k = 15 ∧ t.bt = true) := by
  simp only [withCauses, BitVec.getLsbD_or, BitVec.getLsbD_setWidth, bitAt_getLsbD _ hk, Bool.or_eq_true, Bool.and_eq_true,
    decide_eq_true_eq, hk, true_and, or_assoc]
  have hb : ∀ x : BitVec 4, x.getLsbD k = true → k < 4 := fun x hx => BitVec.lt_of_getLsbD hx
  constructor
  · rintro (h | h | h | h | h)
    · exact .inl h
    · exact .inr (.inl ⟨hb _ h, .inl h⟩)
    · exact .inr (.inl ⟨hb _ h, .inr h⟩)
    · exact .inr (.inr (.inl h))
    · exact .inr (.inr (.inr h))
  · rintro (h | ⟨-, h | h⟩ | h | h)
    · exact .inl h
    · exact .inr (.inl h)
    · exact .inr (.inr (.inl h))
    · exact .inr (.inr (.inr (.inl h)))
    · exact .inr (.inr (.inr (.inr h)))

theorem dueTraps_b (k : Nat) : (dueTraps s).b.getLsbD k = true ↔ s.trapsDueNow ∧ s.events.traps.b.getLsbD k = true := by
  by_cases h : s.events.inhibit = .all
  · rw [dueTraps_inhibited h]
    exact ⟨fun hb => by simp [DebugTraps.none] at hb, fun hb => absurd h hb.1.1⟩
  · rw [dueTraps_free h]
    refine ⟨fun hb => ⟨⟨h, .inl fun hz => ?_⟩, hb⟩, fun hb => hb.2⟩
    rw [hz] at hb
    simp at hb

theorem dueTraps_bs : (dueTraps s).bs = true ↔ s.trapsDueNow ∧ s.events.traps.bs = true := by
  by_cases h : s.events.inhibit = .all
  · rw [dueTraps_inhibited h]
    exact ⟨fun hb => Bool.noConfusion hb, fun hb => absurd h hb.1.1⟩
  · rw [dueTraps_free h]
    exact ⟨fun hb => ⟨⟨h, .inr (.inl hb)⟩, hb⟩, fun hb => hb.2⟩

theorem dueTraps_bt : (dueTraps s).bt = true ↔ s.trapsDueNow ∧ s.events.traps.bt = true := by
  by_cases h : s.events.inhibit = .all
  · rw [dueTraps_inhibited h]
    exact ⟨fun hb => Bool.noConfusion hb, fun hb => absurd h hb.1.1⟩
  · rw [dueTraps_free h]
    exact ⟨fun hb => ⟨⟨h, .inr (.inr hb)⟩, hb⟩, fun hb => hb.2⟩

end Debug

/-- Settles O43: the conditions as numbers, and the one debug exception for all that is due. -/
theorem breakpointsMatchAndTrap : Obligations.BreakpointsMatchAndTrap := by
  refine ⟨?_, ?_⟩
  · intro s t sg off n write sp hs dr7 rw len size first hit enabled before after
    have htraps := segSpan_traps hs
    have hhit : ∀ i, dataMatch s.dregs i ((s.segs.get sg).base + off) n write = true ↔ hit i := by
      intro i
      rw [dataMatch_iff, DebugRegs.watches, rw_eq, len_eq]
      exact Iff.rfl
    refine ⟨fun h => ?_, fun ⟨i, hi, he, hh⟩ k hk => ?_⟩
    · show t.events.traps.b = s.events.traps.b
      rw [htraps, breakpointBits_none fun ⟨i, hi, he, hh⟩ => h i hi he ((hhit i).mp hh)]
      exact BitVec.or_zero
    · show t.events.traps.b.getLsbD k = true ↔ _
      rw [htraps, BitVec.getLsbD_or, breakpointBits_some ⟨i, hi, he, (hhit i).mpr hh⟩ hk, Bool.or_eq_true, hhit]
  · intro s hr ha dr7 at_ enabled faults p traps
    have hat : ∀ i, s.breaksAt i ↔ at_ i := fun _ => Iff.rfl
    have hfaults : s.breaksNow ↔ faults :=
      and_congr Iff.rfl (and_congr Iff.rfl (exists_congr fun i => and_congr Iff.rfl (and_congr Iff.rfl (hat i))))
    refine ⟨fun hf ht => ?_, fun h => ⟨withCauses s.dregs.dr6 (dueTraps s) (dueBreakpoints s), ?_, fun k => ?_⟩⟩
    · refine eq_false_of_ne_true (mt (debugDue_iff s).mp ?_)
      rintro (h | h)
      · exact hf (hfaults.mp h)
      · exact ht h
    · have hdue : debugDue s = true := (debugDue_iff s).mpr (h.imp_left hfaults.mpr)
      rw [step_running hr ha, stepRunning, if_pos hdue]
      rfl
    · by_cases hk : k < 32
      · rw [withCauses_bit _ _ _ hk, dueTraps_b, dueTraps_bs, dueTraps_bt]
        refine or_congr Iff.rfl (or_congr (and_congr_right fun hk4 => ?_) Iff.rfl)
        rw [dueBreakpoints_bit hk4, hfaults, hat]
        exact Iff.rfl
      · have hout : ∀ x : Dword, x.getLsbD k = false := fun x => BitVec.getLsbD_of_ge x k (by omega)
        rw [hout, hout]
        constructor
        · exact fun h => Bool.noConfusion h
        · rintro (h | ⟨h, -⟩ | ⟨h, -⟩ | ⟨h, -⟩)
          · exact h
          all_goals omega

end Sys2Proof.Machine
end



section
/-! MOV to and from the control, debug and test registers, and the TLB operations that a write of TR6 runs
(spec/49_processor_control.md R663 to R670; spec/20_memory.md R222 to R224; spec/60_exceptions.md R826). -/

namespace Sys2Proof.Machine

/-! ## Moves to a special register -/

theorem readDword_apply (r : Reg) (s : State) : readReg .d r s = .ok (s.regs.get r) s := rfl

/-- CR0 takes any value but PG without PE (R664, D12). -/
theorem movCrReg_ok {s t : State} {x : CReg} {r : Reg} (level0 : s.privileged = true)
    (h : writeControl x (s.regs.get r) s = .ok () t) :
    exec (.movCrReg x r) s = .next (retire s.flags.tf (freeFlags allStatus t)) := by
  show execMovCrReg x r s = _
  refine runInstr_ok ?_
  simp only [exec_bind_apply, requirePrivilege_passes level0, readDword_apply, h, undefined_apply]

theorem writeControl_cr0 {s : State} {v : Dword} (h : v.getLsbD 31 = false ∨ v.getLsbD 0 = true) :
    writeControl .cr0 v s = .ok () { s with sys := { s.sys with cr0 := v, cpl := if s.pe then s.sys.cpl else 0 } } := by
  have legal : (!(v.getLsbD 31 && !v.getLsbD 0)) = true := by
    obtain h | h := h <;> simp only [h, Bool.false_and, Bool.not_true, Bool.and_false, Bool.not_false]
  simp only [writeControl, exec_bind_apply, legal, require_true, setCr0, update_apply]

theorem movCr0_denied {s : State} {r : Reg} (level0 : s.privileged = true) (pg : (s.regs.get r).getLsbD 31 = true)
    (pe : (s.regs.get r).getLsbD 0 = false) : exec (.movCrReg .cr0 r) s = s.raises s (.protection 0) := by
  show execMovCrReg .cr0 r s = _
  refine runInstr_exc ?_
  simp only [exec_bind_apply, requirePrivilege_passes level0, readDword_apply, writeControl,
    pg, pe, Bool.not_false, Bool.and_true, Bool.not_true, require_false]

theorem movDrReg_ok {s : State} {d : DReg} {r : Reg} (level0 : s.privileged = true)
    (access : requireDebugAccess s = .ok () s) :
    exec (.movDrReg d r) s =
      .next (retire s.flags.tf (freeFlags allStatus { s with dregs := s.dregs.set d (s.regs.get r) })) := by
  show execMovDrReg d r s = _
  refine runInstr_ok ?_
  simp only [exec_bind_apply, requirePrivilege_passes level0, access, readDword_apply, update_apply, undefined_apply]

theorem movTrReg_ok {s t : State} {x : TReg} {r : Reg} (level0 : s.privileged = true)
    (h : writeTest x (s.regs.get r) s = .ok () t) :
    exec (.movTrReg x r) s = .next (retire s.flags.tf (freeFlags allStatus t)) := by
  show execMovTrReg x r s = _
  refine runInstr_ok ?_
  simp only [exec_bind_apply, requirePrivilege_passes level0, readDword_apply, h, undefined_apply]

/-! ## Moves from a special register -/

theorem movRegCr_ok {s : State} {x : CReg} {r : Reg} (level0 : s.privileged = true) :
    exec (.movRegCr r x) s =
      .next (retire s.flags.tf (freeFlags allStatus (s.withValue .d (.reg r) (s.sys.control x)))) := by
  show execMovRegCr r x s = _
  refine runInstr_ok ?_
  simp only [exec_bind_apply, requirePrivilege_passes level0, getState_apply, writeReg_apply, withValue_reg,
    undefined_apply]

theorem movRegDr_ok {s : State} {d : DReg} {r : Reg} (level0 : s.privileged = true)
    (access : requireDebugAccess s = .ok () s) :
    exec (.movRegDr r d) s =
      .next (retire s.flags.tf (freeFlags allStatus (s.withValue .d (.reg r) (s.dregs.get d)))) := by
  show execMovRegDr r d s = _
  refine runInstr_ok ?_
  simp only [exec_bind_apply, requirePrivilege_passes level0, access, getState_apply, writeReg_apply, withValue_reg,
    undefined_apply]

theorem movRegTr_ok {s : State} {x : TReg} {r : Reg} (level0 : s.privileged = true) :
    exec (.movRegTr r x) s =
      .next (retire s.flags.tf (freeFlags allStatus (s.withValue .d (.reg r) (s.paging.test x)))) := by
  show execMovRegTr r x s = _
  refine runInstr_ok ?_
  simp only [exec_bind_apply, requirePrivilege_passes level0, getState_apply, writeReg_apply, withValue_reg,
    undefined_apply]

/-! ## General detect (R826) -/

/-- The debug registers after the fault of an access that GD catches. -/
def DebugRegs.detected (g : DebugRegs) : DebugRegs := { g with dr6 := g.dr6 ||| 0x2000, dr7 := g.dr7 &&& ~~~0x2000 }

theorem requireDebugAccess_passes {s : State} (clear : s.dregs.dr7.getLsbD 13 = false ∨ s.flags.rf = true) :
    requireDebugAccess s = .ok () s := by
  have not_caught : (s.dregs.dr7.getLsbD 13 && !s.flags.rf) = false := by
    obtain h | h := clear <;> simp only [h, Bool.false_and, Bool.not_true, Bool.and_false]
  simp only [requireDebugAccess, exec_bind_apply, getState_apply, not_caught]
  rfl

theorem requireDebugAccess_traps {s : State} (caught : ¬(s.dregs.dr7.getLsbD 13 = false ∨ s.flags.rf = true)) :
    requireDebugAccess s = .error (.exc .debug) { s with dregs := s.dregs.detected } := by
  rw [not_or, Bool.not_eq_false, Bool.not_eq_true] at caught
  simp only [requireDebugAccess, exec_bind_apply, getState_apply, caught.1, caught.2, Bool.not_false, Bool.and_self,
    if_true, update_apply]
  rfl

/-- Both moves look at GD before they touch a register. -/
theorem movDr_detected {s : State} {d : DReg} {r : Reg} (level0 : s.privileged = true)
    (caught : ¬(s.dregs.dr7.getLsbD 13 = false ∨ s.flags.rf = true)) {i : Instr}
    (hi : i = .movDrReg d r ∨ i = .movRegDr r d) :
    exec i s = s.raises { s with dregs := s.dregs.detected } .debug := by
  obtain rfl | rfl := hi
  · show execMovDrReg d r s = _
    refine runInstr_exc ?_
    simp only [exec_bind_apply, requirePrivilege_passes level0, requireDebugAccess_traps caught]
  · show execMovRegDr r d s = _
    refine runInstr_exc ?_
    simp only [exec_bind_apply, requirePrivilege_passes level0, requireDebugAccess_traps caught]

/-- Settles O44: each move is its register transfer between the privilege check and the free flags. -/
theorem specialRegisterMoves : Obligations.SpecialRegisterMoves := by
  unfold Obligations.SpecialRegisterMoves
  intro s r c d x hl v next loaded clear
  have level0 : s.privileged = true := s.privileged_iff.mpr hl
  exact ⟨movCr0_denied level0, fun h => movCrReg_ok level0 (writeControl_cr0 h), movCrReg_ok level0 rfl,
    movCrReg_ok level0 rfl, (movRegCr_ok level0).trans (by cases c <;> rfl),
    fun h => movDrReg_ok level0 (requireDebugAccess_passes h), fun e => DebugRegs.get_set s.dregs d e v,
    fun h => movRegDr_ok level0 (requireDebugAccess_passes h), fun h i hi => movDr_detected level0 h hi,
    movTrReg_ok level0 rfl, (movRegTr_ok level0).trans (by cases x <;> rfl)⟩

/-! ## The TLB operations -/

theorem drawBit_ok (s : State) : ∃ b, drawBit s = .ok b { s with draws := s.draws + 1 } := ⟨_, rfl⟩

/-- An attribute pair 01 or 10 says its bit, any other leaves it free (R222). -/
theorem testAttr_ok (x nx : Bool) (s : State) :
    ∃ b n, testAttr x nx s = .ok b { s with draws := n } ∧ ((x != nx) = true → b = x) := by
  unfold testAttr
  by_cases h : x = nx
  · obtain ⟨b, hb⟩ := drawBit_ok s
    refine ⟨b, s.draws + 1, ?_, fun hne => ?_⟩
    · rw [if_pos (beq_iff_eq.mpr h), hb]
    · exact absurd h (bne_iff_ne.mp hne)
  · refine ⟨x, s.draws, ?_, fun _ => rfl⟩
    rw [if_neg (mt beq_iff_eq.mp h)]
    rfl

theorem tlbTestWrite_ok (tr6 tr7 : Dword) (s : State) :
    ∃ (k : Nat) (d u w : Bool) (n : Nat), k < 4 ∧ (tr7.getLsbD 4 = true → k = (tr7.extractLsb' 2 2).toNat) ∧
      ((tr6.getLsbD 10 != tr6.getLsbD 9) = true → d = tr6.getLsbD 10) ∧
      ((tr6.getLsbD 8 != tr6.getLsbD 7) = true → u = tr6.getLsbD 8) ∧
      ((tr6.getLsbD 6 != tr6.getLsbD 5) = true → w = tr6.getLsbD 6) ∧
      tlbTestWrite tr6 tr7 s =
        .ok () { s with
          draws := n
          paging := { s.paging with
            tlb := s.paging.tlb.set (tlbBase (tr6.extractLsb' 12 20) + k)
              { valid := tr6.getLsbD 11, tag := tr6.extractLsb' 12 20, phys := tr7.extractLsb' 12 20, dirty := d
                user := u, writable := w } } } := by
  obtain ⟨d, n1, hd, dirty⟩ := testAttr_ok (tr6.getLsbD 10) (tr6.getLsbD 9) s
  obtain ⟨u, n2, hu, user⟩ := testAttr_ok (tr6.getLsbD 8) (tr6.getLsbD 7) { s with draws := n1 }
  obtain ⟨w, n3, hw, writable⟩ := testAttr_ok (tr6.getLsbD 6) (tr6.getLsbD 5) { s with draws := n2 }
  unfold tlbTestWrite
  simp only [exec_bind_apply, hd, hu, hw]
  cases pl : tr7.getLsbD 4
  · exact ⟨_, d, u, w, n3 + 1, Nat.mod_lt _ (by decide), fun h => Bool.noConfusion h, dirty, user, writable, rfl⟩
  · exact ⟨_, d, u, w, n3, (tr7.extractLsb' 2 2).isLt, fun _ => rfl, dirty, user, writable, rfl⟩

/-- The entries that a lookup finds are the ways that match. -/
theorem filter_ways_eq_singleton {p : Nat → Bool} {w : Nat} (hw : w < 4) (hit : p w = true)
    (one : ∀ k, k < 4 → p k = true → k = w) : tlbWays.filter p = [w] := by
  have same : tlbWays.filter p = tlbWays.filter (· == w) := by
    refine List.filter_congr fun k hk => ?_
    have lt : k < 4 := by
      simp only [tlbWays, List.mem_cons, List.not_mem_nil, or_false] at hk
      omega
    rw [Bool.eq_iff_iff, beq_iff_eq]
    exact ⟨one k lt, fun h => h ▸ hit⟩
  rw [same, List.filter_beq]
  interval_cases w <;> rfl

theorem filter_ways_eq_nil {p : Nat → Bool} (none : ∀ k, k < 4 → p k = false) : tlbWays.filter p = [] := by
  refine List.filter_eq_nil_iff.mpr fun k hk => ?_
  have lt : k < 4 := by
    simp only [tlbWays, List.mem_cons, List.not_mem_nil, or_false] at hk
    omega
  rw [none k lt]
  exact Bool.false_ne_true

/-- An attribute as TR6 shows it: the bit, and its complement below (R223). -/
theorem attrPair_eq (x : Bool) : (if x then 0b10 else 0b01 : BitVec 2) = BitVec.ofBool x ++ BitVec.ofBool (!x) := by
  cases x <;> rfl

theorem tr6Hit_eq (e : TlbEntry) (v : Dword) :
    tr6Hit e v =
      e.tag ++ BitVec.ofBool e.valid ++ (if e.dirty then 0b10 else 0b01 : BitVec 2) ++
        (if e.user then 0b10 else 0b01 : BitVec 2) ++ (if e.writable then 0b10 else 0b01 : BitVec 2) ++
        v.extractLsb' 1 4 ++ 1#1 := by
  rw [attrPair_eq, attrPair_eq, attrPair_eq, tr6Hit]
  refine BitVec.eq_of_getLsbD_eq fun i hi => ?_
  simp only [BitVec.getLsbD_append]
  interval_cases i <;> simp [bitAt]

theorem tr7Hit_eq (e : TlbEntry) (w : Nat) (v : Dword) :
    tr7Hit e w v = e.phys ++ v.extractLsb' 5 7 ++ 1#1 ++ BitVec.ofNat 2 w ++ v.extractLsb' 0 2 := by
  have way : BitVec.ofNat 32 (w % 4) = (BitVec.ofNat 2 w).setWidth 32 := by
    refine BitVec.eq_of_toNat_eq ?_
    simp only [BitVec.toNat_ofNat, BitVec.toNat_setWidth]
  rw [tr7Hit, way]
  refine BitVec.eq_of_getLsbD_eq fun i hi => ?_
  simp only [BitVec.getLsbD_append]
  interval_cases i <;> simp

theorem draw_ok (s : State) : ∃ v, draw s = .ok v { s with draws := s.draws + 1 } := ⟨_, rfl⟩

theorem tlbTestLookup_hit {tr6 : Dword} {s : State} {w : Nat}
    (one : (tlbWays.filter fun w => tr6Matches tr6 (tlbEntry s.paging.tlb (tlbBase (tr6.extractLsb' 12 20) + w))) = [w]) :
    ∃ a b : Dword,
      tlbTestLookup tr6 s =
        .ok () { s with
          draws := s.draws + 2
          paging := { s.paging with
            tr6 := tr6Hit (tlbEntry s.paging.tlb (tlbBase (tr6.extractLsb' 12 20) + w)) a
            tr7 := tr7Hit (tlbEntry s.paging.tlb (tlbBase (tr6.extractLsb' 12 20) + w)) w b } } := by
  obtain ⟨a, ha⟩ := draw_ok s
  obtain ⟨b, hb⟩ := draw_ok { s with draws := s.draws + 1 }
  refine ⟨a, b, ?_⟩
  unfold tlbTestLookup
  simp only [exec_bind_apply, getState_apply, one, ha, hb, update_apply]

theorem tlbTestLookup_miss {tr6 : Dword} {s : State}
    (none : (tlbWays.filter fun w => tr6Matches tr6 (tlbEntry s.paging.tlb (tlbBase (tr6.extractLsb' 12 20) + w))) = []) :
    ∃ a b : Dword,
      tlbTestLookup tr6 s =
        .ok () { s with draws := s.draws + 2, paging := { s.paging with tr6 := a, tr7 := b &&& 0xFFFFFFEF } } := by
  obtain ⟨a, ha⟩ := draw_ok s
  obtain ⟨b, hb⟩ := draw_ok { s with draws := s.draws + 1 }
  refine ⟨a, b, ?_⟩
  unfold tlbTestLookup
  simp only [exec_bind_apply, getState_apply, none, ha, hb, update_apply]

/-- A write of TR6 is the register, then the operation that its C bit selects (R222 to R224). -/
theorem writeTest_tr6 (v : Dword) (s : State) :
    writeTest .tr6 v s =
      if v.getLsbD 0 then tlbTestLookup v { s with paging := { s.paging with tr6 := v } }
      else tlbTestWrite v s.paging.tr7 { s with paging := { s.paging with tr6 := v } } := by
  simp only [writeTest, exec_bind_apply, update_apply, getState_apply]
  exact apply_ite (fun m : Exec Unit => m { s with paging := { s.paging with tr6 := v } }) _ _ _

/-- Settles O45: the write draws what the attribute pairs leave free, and the lookup finds the ways that match. -/
theorem testRegisterWritesReachTheTlb : Obligations.TestRegisterWritesReachTheTlb := by
  unfold Obligations.TestRegisterWritesReachTheTlb
  intro s r hl v tag set way b entry agrees hit next pair
  have level0 : s.privileged = true := s.privileged_iff.mpr hl
  refine ⟨fun c => ?_, fun c w hw h one => ?_, fun c none => ?_⟩
  · obtain ⟨k, d, u, w, n, lt, named, dirty, user, writable, wrote⟩ :=
      tlbTestWrite_ok v s.paging.tr7 { s with paging := { s.paging with tr6 := v } }
    refine ⟨k, d, u, w, n, lt, named, dirty, user, writable, movTrReg_ok level0 ?_⟩
    exact ((writeTest_tr6 v s).trans (if_neg (Bool.not_eq_true _ ▸ c))).trans wrote
  · have found := filter_ways_eq_singleton (p := hit) hw h one
    obtain ⟨x, y, looked⟩ := tlbTestLookup_hit (tr6 := v) (s := { s with paging := { s.paging with tr6 := v } }) found
    rw [tr6Hit_eq, tr7Hit_eq] at looked
    exact ⟨_, _, _, movTrReg_ok level0 (((writeTest_tr6 v s).trans (if_pos c)).trans looked)⟩
  · have nothing := filter_ways_eq_nil (p := hit) none
    obtain ⟨x, y, looked⟩ := tlbTestLookup_miss (tr6 := v) (s := { s with paging := { s.paging with tr6 := v } }) nothing
    refine ⟨x, y &&& 0xFFFFFFEF, ?_, movTrReg_ok level0 (((writeTest_tr6 v s).trans (if_pos c)).trans looked)⟩
    rw [BitVec.getLsbD_and]
    exact Bool.and_false _

end Sys2Proof.Machine
end


section
/-! WAIT and ESC (spec/49_processor_control.md R673, R676; spec/60_exceptions.md R811 to R816). -/

namespace Sys2Proof.Machine

/-! ## The opcodes -/

theorem escOpcode_reg (op sub : BitVec 3) (r : Reg) : escOpcode op sub (.reg r) = op ++ 3#2 ++ sub ++ r.code := by
  simp only [escOpcode, modRM, modByte, List.headD_cons]
  refine BitVec.eq_of_getLsbD_eq fun i hi => ?_
  simp only [BitVec.getLsbD_append]
  interval_cases i <;> rfl

/-- The mod field of a memory operand is not the one of a register. -/
theorem modRM_mem_head (sub : BitVec 3) (m : Mem) :
    ∃ k low, k ≠ 3 ∧ (modRM sub (.mem m)).headD 0 = modByte k sub low := by
  rcases m with d | ⟨b, d⟩ | d | ⟨b, d⟩ | ⟨sc, i, b, d⟩ | ⟨sc, i, d⟩
  case based16 => exact ⟨_, _, by cases d <;> exact of_decide_eq_false rfl, rfl⟩
  case based32 => exact ⟨_, _, by cases d <;> exact of_decide_eq_false rfl, rfl⟩
  case sib => exact ⟨_, _, by cases d <;> exact of_decide_eq_false rfl, rfl⟩
  all_goals exact ⟨_, _, of_decide_eq_false rfl, rfl⟩

theorem escOpcode_mem_ne (op sub : BitVec 3) (m : Mem) {x : BitVec 11} (hx : x.extractLsb' 6 2 = 3) :
    escOpcode op sub (.mem m) ≠ x := by
  obtain ⟨k, low, hk, head⟩ := modRM_mem_head sub m
  rintro rfl
  refine hk (Eq.trans ?_ hx)
  rw [escOpcode, head, modByte]
  refine BitVec.eq_of_getLsbD_eq fun i hi => ?_
  simp only [BitVec.getLsbD_extractLsb', BitVec.getLsbD_append]
  interval_cases i <;> simp

/-- An operand in memory: no opcode of the coprocessor's control (R814) is among them. -/
theorem escSkipsBusy_mem (op sub : BitVec 3) (m : Mem) : escSkipsBusy op sub (.mem m) = false := by
  rw [escSkipsBusy, escFninit, escFnclex, beq_false_of_ne (escOpcode_mem_ne op sub m rfl),
    beq_false_of_ne (escOpcode_mem_ne op sub m rfl), Bool.or_false]

theorem escFnstswAx_mem (op sub : BitVec 3) (m : Mem) : escFnstswAx op sub (.mem m) = false :=
  beq_false_of_ne (escOpcode_mem_ne op sub m rfl)

theorem escSkipsBusy_reg (op sub : BitVec 3) (r : Reg) :
    escSkipsBusy op sub (.reg r) = true ↔ op ++ 3#2 ++ sub ++ r.code = 0x3E3 ∨ op ++ 3#2 ++ sub ++ r.code = 0x3E2 := by
  rw [escSkipsBusy, Bool.or_eq_true, escFninit, escFnclex, beq_iff_eq, beq_iff_eq, escOpcode_reg]

theorem escFnstswAx_reg (op sub : BitVec 3) (r : Reg) :
    escFnstswAx op sub (.reg r) = true ↔ op ++ 3#2 ++ sub ++ r.code = 0x7E0 := by
  rw [escFnstswAx, beq_iff_eq, escOpcode_reg]

theorem escSkipsError_reg (op sub : BitVec 3) (r : Reg) :
    escSkipsError op sub (.reg r) = (escSkipsBusy op sub (.reg r) || escFnstswAx op sub (.reg r)) := by
  simp only [escSkipsError, escStoresWord, escMemory, Bool.or_false]

theorem escStoresWord_mem (op sub : BitVec 3) (m : Mem) :
    escStoresWord op sub (.mem m) = true ↔ sub = 7 ∧ (op = 5 ∨ op = 1) := by
  simp only [escStoresWord, escMemory, Bool.or_eq_true, Bool.and_eq_true, beq_iff_eq]
  tauto

theorem escSkipsError_mem (op sub : BitVec 3) (m : Mem) :
    escSkipsError op sub (.mem m) = true ↔ (op = 1 ∨ op = 5) ∧ (sub = 6 ∨ sub = 7) := by
  simp only [escSkipsError, escSkipsBusy_mem, escFnstswAx_mem, Bool.false_or, Bool.or_eq_true, escStoresWord_mem,
    escMemory, Bool.and_eq_true, beq_iff_eq]
  tauto

theorem escPresence_reg (op sub : BitVec 3) (r : Reg) :
    escPresence op sub (.reg r) = true ↔ op ++ 3#2 ++ sub ++ r.code = 0x3E3 ∨ op ++ 3#2 ++ sub ++ r.code = 0x7E0 := by
  rw [escPresence, Bool.or_eq_true, Bool.or_eq_true, escFnstswAx_reg, escFninit, beq_iff_eq, escOpcode_reg]
  simp only [escStoresWord, escMemory, Bool.or_false, Bool.false_eq_true, or_false]

theorem escPresence_mem (op sub : BitVec 3) (m : Mem) :
    escPresence op sub (.mem m) = true ↔ sub = 7 ∧ (op = 5 ∨ op = 1) := by
  rw [escPresence, escFnstswAx_mem, escFninit, beq_false_of_ne (escOpcode_mem_ne op sub m rfl), Bool.false_or,
    Bool.false_or, escStoresWord_mem]

/-! ## The order of the checks (R673, R676) -/

section Checks

variable {s : State}

theorem fitted_iff (s : State) : s.ext.fitted = true ↔ s.ext.platform.coprocessor ≠ .none := decide_eq_true_iff

theorem fitted_eq_false (h : ¬s.ext.platform.coprocessor ≠ .none) : s.ext.fitted = false := decide_eq_false h

/-- The wait for BUSY#: the same instruction is the next one (R814). -/
def State.waiting (s : State) : State := { s with ctx := { s.ctx with nextEip := s.eip, ending := .unfinished .wait } }

theorem waitForCoprocessor_apply (s : State) : waitForCoprocessor s = .ok () s.waiting := by
  simp only [waitForCoprocessor, exec_bind_apply, getState_apply, setNext_apply, setEnding_apply]
  rfl

theorem exec_wait_unavailable (ts : s.ts = true) (mp : s.mp = true) : exec .wait s = s.raises s .notAvailable := by
  show execWait s = _
  refine runInstr_exc ?_
  simp only [exec_bind_apply, getState_apply, ts, mp, Bool.and_self, Bool.not_true, require_false]

theorem execWait_available (h : s.ts = false ∨ s.mp = false) :
    execWait s =
      runInstr (if s.ext.fitted && s.ext.busy then waitForCoprocessor
        else require (!(s.ext.fitted && s.ext.error)) .coprocessor) s := by
  have clear : (s.ts && s.mp) = false := by
    obtain h | h := h <;> simp only [h, Bool.false_and, Bool.and_false]
  refine runInstr_congr ?_
  simp only [exec_bind_apply, getState_apply, clear, Bool.not_false, require_true]

theorem exec_esc_unavailable (op sub : BitVec 3) (rm : RM) (h : s.em = true ∨ s.ts = true) :
    exec (.esc op sub rm) s = s.raises s .notAvailable := by
  show execEsc op sub rm s = _
  refine runInstr_exc ?_
  have set : (s.em || s.ts) = true := Bool.or_eq_true _ _ ▸ h
  simp only [exec_bind_apply, getState_apply, set, Bool.not_true, require_false]

variable (em : s.em = false) (ts : s.ts = false) {op sub : BitVec 3} {rm : RM}
include em ts

theorem execEsc_available :
    exec (.esc op sub rm) s =
      runInstr (if s.ext.fitted && s.ext.busy && !escSkipsBusy op sub rm then waitForCoprocessor
        else do
          require (!(s.ext.fitted && s.ext.error) || escSkipsError op sub rm) .coprocessor
          if s.ext.fitted then escFitted op sub rm else escAbsent op sub rm) s := by
  show execEsc op sub rm s = _
  refine runInstr_congr ?_
  simp only [exec_bind_apply, getState_apply, em, ts, Bool.or_self, Bool.not_false, require_true]

theorem exec_esc_waits (fitted : s.ext.fitted = true) (busy : s.ext.busy = true) (h : escSkipsBusy op sub rm = false) :
    exec (.esc op sub rm) s = .next (retire s.flags.tf s.waiting) := by
  rw [execEsc_available em ts, fitted, busy, h, Bool.not_false, Bool.and_self, Bool.and_self, if_pos rfl]
  exact runInstr_ok (waitForCoprocessor_apply s)

theorem exec_esc_error (fitted : s.ext.fitted = true) (busy : s.ext.busy = false) (error : s.ext.error = true)
    (h : escSkipsError op sub rm = false) : exec (.esc op sub rm) s = s.raises s .coprocessor := by
  rw [execEsc_available em ts, fitted, busy, Bool.and_false, Bool.false_and, if_neg Bool.false_ne_true, error, h]
  refine runInstr_exc ?_
  simp only [exec_bind_apply, Bool.and_self, Bool.not_true, Bool.or_self, require_false]

/-- A fitted coprocessor takes the opcode where neither BUSY# nor ERROR# holds it up. -/
theorem exec_esc_fitted (fitted : s.ext.fitted = true) (busy : s.ext.busy = false ∨ escSkipsBusy op sub rm = true)
    (error : s.ext.error = false ∨ escSkipsError op sub rm = true) :
    exec (.esc op sub rm) s = runInstr (escFitted op sub rm) s := by
  have go : (s.ext.fitted && s.ext.busy && !escSkipsBusy op sub rm) = false := by
    obtain h | h := busy <;> simp only [h, Bool.and_false, Bool.false_and, Bool.not_true]
  have pass : (!(s.ext.fitted && s.ext.error) || escSkipsError op sub rm) = true := by
    obtain h | h := error <;> simp only [h, Bool.and_false, Bool.not_false, Bool.true_or, Bool.or_true]
  rw [execEsc_available em ts, go, if_neg Bool.false_ne_true, pass, fitted, if_pos rfl]
  refine runInstr_congr ?_
  simp only [exec_bind_apply, require_true]

theorem exec_esc_absent (absent : s.ext.fitted = false) :
    exec (.esc op sub rm) s = runInstr (escAbsent op sub rm) s := by
  rw [execEsc_available em ts, absent, Bool.false_and, Bool.false_and, if_neg Bool.false_ne_true, Bool.false_and,
    Bool.not_false, Bool.true_or, if_neg Bool.false_ne_true]
  refine runInstr_congr ?_
  simp only [exec_bind_apply, require_true]

end Checks

/-! ## What an opcode does (R676, R811) -/

section Opcodes

variable {s t u w : State} {op sub : BitVec 3} {rm : RM} {r : Reg} {m : Mem} {sg : Seg} {off : Dword}

/-- AX with the status word, as the bus shows it. -/
def State.answered (s : State) (v : Dword) : State :=
  { s with regs := s.regs.write .w .eax (v.extractLsb' 0 16), bus := .coprocRead 2 v :: .coprocOpcode 0x7E0 none :: s.bus }

/-- No transfer of an operand is asked for any more. -/
def State.asked (s : State) : State := { s with ext := { s.ext with requests := [] } }

theorem statusToAx_apply (v : Dword) (s : State) :
    statusToAx v { s with bus := .coprocOpcode 0x7E0 none :: s.bus } = .ok () (s.answered v) := by
  simp only [statusToAx, exec_bind_apply, emit_apply, writeReg_apply, low16_eq]
  rfl

theorem escFitted_reg (h : escFnstswAx op sub (.reg r) = false) :
    escFitted op sub (.reg r) s =
      .ok () { s with bus := .coprocOpcode (escOpcode op sub (.reg r)) none :: s.bus, ext := { s.ext with requests := [] } } := by
  simp only [escFitted, exec_bind_apply, getState_apply, emit_apply, h, when_false, update_apply]

/-- FNSTSW AX takes what the coprocessor sends (log entry 10). -/
theorem escFitted_statusWord {v : Dword}
    (h : coprocAnswer s.ext.requests { s with bus := .coprocOpcode 0x7E0 none :: s.bus } =
      .ok v { t with bus := .coprocOpcode 0x7E0 none :: t.bus }) :
    escFitted 7 4 (.reg .eax) s = .ok () (t.asked.answered v) := by
  have code : escOpcode 7 4 (.reg .eax) = 0x7E0 := rfl
  have ax : escFnstswAx 7 4 (.reg .eax) = true := rfl
  simp only [escFitted, exec_bind_apply, getState_apply, emit_apply, code, ax, when_true, h, statusToAx_apply,
    update_apply]
  rfl

theorem coprocAnswer_free {l : List OperandRequest} (h : ∀ wide x rest, l ≠ .toMemory wide x :: rest) :
    coprocAnswer l = draw := by
  obtain _ | ⟨_ | ⟨wide, x⟩, rest⟩ := l
  · rfl
  · rfl
  · exact absurd rfl (h wide x rest)

/-- The operand of a memory opcode is found before the opcode is handed over. -/
theorem escFitted_mem {lin : Dword} {spans : List (List Nat)} (ea : effAddr m s = .ok (sg, off) t)
    (first : segLinear sg off 1 false t = .ok lin t)
    (places : transferSpans sg (s.sys.cr0.getLsbD 4) off s.ext.requests t = .ok spans u)
    (moved : transferAll s.ext.requests spans
        { u with bus := .coprocOpcode (escOpcode op sub (.mem m)) (some (sg, off)) :: u.bus } = .ok () w) :
    escFitted op sub (.mem m) s = .ok () w.asked := by
  simp only [escFitted, exec_bind_apply, getState_apply, ea, first, places, emit_apply, moved, update_apply]
  rfl

theorem escFitted_mem_stop {x : Stop} (ea : effAddr m s = .ok (sg, off) t) (first : segLinear sg off 1 false t = .error x t) :
    escFitted op sub (.mem m) s = .error x t := by
  simp only [escFitted, exec_bind_apply, getState_apply, ea, first]

theorem transferSpans_nil (sg : Seg) (et : Bool) (off : Dword) (s : State) : transferSpans sg et off [] s = .ok [] s := rfl

theorem transferSpans_cons {et : Bool} {q : OperandRequest} {qs : List OperandRequest} {sp : List Nat}
    {sps : List (List Nat)} (h : segSpan sg off (q.bytes et) q.writes s = .ok sp t)
    (rest : transferSpans sg et (off + BitVec.ofNat 32 (q.bytes et)) qs t = .ok sps u) :
    transferSpans sg et off (q :: qs) s = .ok (sp :: sps) u := by
  simp only [transferSpans, exec_bind_apply, h, rest]
  rfl

theorem transferAll_nil (sps : List (List Nat)) (s : State) : transferAll [] sps s = .ok () s := rfl

theorem transferAll_toMemory (wide : Bool) (v : Dword) (rs : List OperandRequest) (sp : List Nat) (sps : List (List Nat))
    (s : State) :
    transferAll (.toMemory wide v :: rs) (sp :: sps) s =
      transferAll rs sps { s with mem := Memory.store s.mem sp v, bus := .coprocRead sp.length v :: s.bus } := by
  simp only [transferAll, transferOne, exec_bind_apply, storeSpan_apply, emit_apply]

theorem transferAll_fromMemory (wide : Bool) (rs : List OperandRequest) (sp : List Nat) (sps : List (List Nat)) (s : State) :
    transferAll (.fromMemory wide :: rs) (sp :: sps) s =
      transferAll rs sps { s with bus := .coprocWrite sp.length (Memory.load s.mem sp) :: s.bus } := by
  simp only [transferAll, transferOne, exec_bind_apply, loadSpan_apply, emit_apply]

theorem asked_of_nil (h : s.ext.requests = []) : s.asked = s := by
  unfold State.asked
  rw [← h]

theorem effAddr_ext (h : effAddr m s = .ok (sg, off) t) : t.ext = s.ext := by
  obtain ⟨p, k, e⟩ := effAddr_ok m s
  rw [e] at h
  cases h
  rfl

/-! ### Without a coprocessor (R816, D27) -/

theorem escAbsent_reg (known : escPresence op sub (.reg r) = true) (h : escFnstswAx op sub (.reg r) = false) :
    escAbsent op sub (.reg r) s = .ok () { s with bus := .coprocOpcode (escOpcode op sub (.reg r)) none :: s.bus } := by
  rw [escAbsent, if_pos known]
  simp only [exec_bind_apply, emit_apply, h, when_false]

theorem escAbsent_statusWord (s : State) :
    ∃ v, escAbsent 7 4 (.reg .eax) s = .ok () ({ s with draws := s.draws + 1 }.answered v) := by
  have code : escOpcode 7 4 (.reg .eax) = 0x7E0 := rfl
  have ax : escFnstswAx 7 4 (.reg .eax) = true := rfl
  obtain ⟨v, hv⟩ := draw_ok { s with bus := .coprocOpcode 0x7E0 none :: s.bus }
  refine ⟨v, ?_⟩
  rw [escAbsent, if_pos (show escPresence 7 4 (.reg .eax) = true from rfl)]
  simp only [exec_bind_apply, emit_apply, code, ax, when_true, hv]
  exact statusToAx_apply v { s with draws := s.draws + 1 }

theorem escAbsent_mem {sp : List Nat} (known : escPresence op sub (.mem m) = true) (ea : effAddr m s = .ok (sg, off) t)
    (place : segSpan sg off 2 true t = .ok sp u) :
    ∃ v, escAbsent op sub (.mem m) s =
      .ok () { u with
        mem := Memory.store u.mem sp v, draws := u.draws + 1
        bus := .coprocRead 2 v :: .coprocOpcode (escOpcode op sub (.mem m)) (some (sg, off)) :: u.bus } := by
  obtain ⟨v, hv⟩ := draw_ok { u with bus := .coprocOpcode (escOpcode op sub (.mem m)) (some (sg, off)) :: u.bus }
  refine ⟨v, ?_⟩
  rw [escAbsent, if_pos known]
  simp only [exec_bind_apply, ea, place, emit_apply, hv, storeSpan_apply]

theorem exec_esc_unmodelled (em : s.em = false) (ts : s.ts = false) (absent : s.ext.fitted = false)
    (h : escPresence op sub rm = false) : exec (.esc op sub rm) s = .refused .noCoprocessor := by
  rw [exec_esc_absent em ts absent]
  refine (runInstr_stop (x := .refuse .noCoprocessor) (t := s) ?_).trans rfl
  unfold escAbsent
  rw [if_neg (by rw [h]; exact Bool.false_ne_true)]
  rfl

end Opcodes

/-! ## The obligation -/

section Operands

variable {s t u w : State} {op sub : BitVec 3} {m : Mem} {sg : Seg} {off lin : Dword} {sp sp' : List Nat}
  (em : s.em = false) (ts : s.ts = false) (fitted : s.ext.fitted = true) (busy : s.ext.busy = false)
  (error : s.ext.error = false ∨ escSkipsError op sub (.mem m) = true)
  (ea : effAddr m s = .ok (sg, off) t) (first : segLinear sg off 1 false t = .ok lin t)
include em ts fitted busy error ea first

/-- The opcode of a memory operand, with the transfers that the coprocessor asks for. -/
theorem exec_esc_mem {spans : List (List Nat)}
    (places : transferSpans sg (s.sys.cr0.getLsbD 4) off s.ext.requests t = .ok spans u)
    (moved : transferAll s.ext.requests spans
        { u with bus := .coprocOpcode (escOpcode op sub (.mem m)) (some (sg, off)) :: u.bus } = .ok () w) :
    exec (.esc op sub (.mem m)) s = .next (retire s.flags.tf w.asked) := by
  rw [exec_esc_fitted em ts fitted (.inl busy) error]
  exact runInstr_ok (escFitted_mem ea first places moved)

theorem exec_esc_noTransfer (none : s.ext.requests = []) :
    exec (.esc op sub (.mem m)) s =
      .next (retire s.flags.tf
        { t with bus := .coprocOpcode (escOpcode op sub (.mem m)) (some (sg, off)) :: t.bus }) := by
  have nothing : t.ext.requests = [] := (congrArg External.requests (effAddr_ext ea)).trans none
  refine (exec_esc_mem (spans := []) (u := t) em ts fitted busy error ea first (by rw [none]; rfl)
    (by rw [none]; rfl)).trans ?_
  rw [asked_of_nil]
  exact nothing

theorem exec_esc_toMemory {wide : Bool} {v : Dword} (one : s.ext.requests = [.toMemory wide v])
    (place : segSpan sg off (if wide && s.sys.cr0.getLsbD 4 then 4 else 2) true t = .ok sp u) :
    exec (.esc op sub (.mem m)) s =
      .next (retire s.flags.tf (State.asked { u with
        mem := Memory.store u.mem sp v
        bus := .coprocRead sp.length v :: .coprocOpcode (escOpcode op sub (.mem m)) (some (sg, off)) :: u.bus })) := by
  refine exec_esc_mem (spans := [sp]) (u := u) em ts fitted busy error ea first ?_ ?_
  · rw [one]
    exact transferSpans_cons place rfl
  · rw [one, transferAll_toMemory]
    rfl

theorem exec_esc_fromMemory {wide : Bool} (one : s.ext.requests = [.fromMemory wide])
    (place : segSpan sg off (if wide && s.sys.cr0.getLsbD 4 then 4 else 2) false t = .ok sp u) :
    exec (.esc op sub (.mem m)) s =
      .next (retire s.flags.tf (State.asked { u with
        bus := .coprocWrite sp.length (Memory.load u.mem sp) ::
          .coprocOpcode (escOpcode op sub (.mem m)) (some (sg, off)) :: u.bus })) := by
  refine exec_esc_mem (spans := [sp]) (u := u) em ts fitted busy error ea first ?_ ?_
  · rw [one]
    exact transferSpans_cons place rfl
  · rw [one, transferAll_fromMemory]
    rfl

theorem exec_esc_toThenFromMemory {a b : Bool} {v : Dword} (two : s.ext.requests = [.toMemory a v, .fromMemory b])
    (place : segSpan sg off (if a && s.sys.cr0.getLsbD 4 then 4 else 2) true t = .ok sp u)
    (place' : segSpan sg (off + BitVec.ofNat 32 (if a && s.sys.cr0.getLsbD 4 then 4 else 2))
      (if b && s.sys.cr0.getLsbD 4 then 4 else 2) false u = .ok sp' w) :
    exec (.esc op sub (.mem m)) s =
      .next (retire s.flags.tf (State.asked { w with
        mem := Memory.store w.mem sp v
        bus := .coprocWrite sp'.length (Memory.load (Memory.store w.mem sp v) sp') :: .coprocRead sp.length v ::
          .coprocOpcode (escOpcode op sub (.mem m)) (some (sg, off)) :: w.bus })) := by
  refine exec_esc_mem (spans := [sp, sp']) (u := w) em ts fitted busy error ea first ?_ ?_
  · rw [two]
    exact transferSpans_cons place (transferSpans_cons place' rfl)
  · rw [two, transferAll_toMemory, transferAll_fromMemory]
    rfl

end Operands

/-- The register opcodes that AX does not answer. -/
theorem exec_esc_reg {s : State} {op sub : BitVec 3} {r : Reg} (em : s.em = false) (ts : s.ts = false)
    (fitted : s.ext.fitted = true)
    (go : (s.ext.busy = false ∧ s.ext.error = false) ∨ escSkipsBusy op sub (.reg r) = true)
    (h : escFnstswAx op sub (.reg r) = false) :
    exec (.esc op sub (.reg r)) s =
      .next (retire s.flags.tf
        { s with bus := .coprocOpcode (escOpcode op sub (.reg r)) none :: s.bus, ext := { s.ext with requests := [] } }) := by
  have skips : escSkipsBusy op sub (.reg r) = true → escSkipsError op sub (.reg r) = true := fun hs => by
    rw [escSkipsError_reg, hs, Bool.true_or]
  rw [exec_esc_fitted em ts fitted (go.imp And.left id) (go.imp And.right skips)]
  exact runInstr_ok (escFitted_reg h)

theorem exec_statusWord {s t : State} {v : Dword} (em : s.em = false) (ts : s.ts = false) (fitted : s.ext.fitted = true)
    (busy : s.ext.busy = false)
    (h : coprocAnswer s.ext.requests { s with bus := .coprocOpcode 0x7E0 none :: s.bus } =
      .ok v { t with bus := .coprocOpcode 0x7E0 none :: t.bus }) :
    exec (.esc 7 4 (.reg .eax)) s = .next (retire s.flags.tf (t.asked.answered v)) := by
  rw [exec_esc_fitted em ts fitted (.inl busy) (.inr rfl)]
  exact runInstr_ok (escFitted_statusWord h)

/-- Settles O46: the checks come first, then the opcode with its transfers; without a coprocessor the presence tests alone
have a meaning. -/
theorem coprocessorInstructionsAskTheCoprocessor : Obligations.CoprocessorInstructionsAskTheCoprocessor := by
  unfold Obligations.CoprocessorInstructionsAskTheCoprocessor
  intro s t u w op sub r m sg off sp sp' fitted next again mp em ts opcode quiet storesState statusWord answered
  have fit := fitted_iff s
  have absent (h : ¬fitted) : s.ext.fitted = false := fitted_eq_false h
  refine ⟨fun hts hmp => exec_wait_unavailable hts hmp, fun h => ⟨fun hf hb => ?_, fun hf hb he => ?_, fun hq => ?_⟩,
    fun h rm => exec_esc_unavailable op sub rm h, fun hem hts => ⟨fun hf go ax => ?_, fun hf hb => ⟨?_, ?_⟩, fun hn => ?_,
      fun hf hb => ⟨?_, ?_⟩, ?_, ?_, ?_, ?_, ?_, ?_, ?_, ?_⟩⟩
  · refine (execWait_available h).trans (runInstr_ok ?_)
    rw [fit.mpr hf, hb, Bool.and_self, if_pos rfl]
    exact waitForCoprocessor_apply s
  · refine (execWait_available h).trans (runInstr_exc ?_)
    rw [fit.mpr hf, hb, he, Bool.and_false, if_neg Bool.false_ne_true, Bool.and_self, Bool.not_true, require_false]
  · refine (execWait_available h).trans (runInstr_ok ?_)
    have clear : (s.ext.fitted && s.ext.busy) = false ∧ (s.ext.fitted && s.ext.error) = false := by
      obtain hn | ⟨hb, he⟩ := hq
      · rw [absent hn]
        exact ⟨rfl, rfl⟩
      · rw [hb, he, Bool.and_false]
        exact ⟨rfl, rfl⟩
    rw [clear.1, clear.2, if_neg Bool.false_ne_true, Bool.not_false, require_true]
  · have h := exec_esc_reg hem hts (fit.mpr hf) (go.imp_right (escSkipsBusy_reg op sub r).mpr)
      (eq_false_of_ne_true (mt (escFnstswAx_reg op sub r).mp ax))
    rw [escOpcode_reg] at h
    exact h
  · intro wide x rest hl
    exact exec_statusWord (t := s) hem hts (fit.mpr hf) hb (hl ▸ rfl)
  · intro unsent
    obtain ⟨x, hx⟩ := draw_ok { s with bus := .coprocOpcode 0x7E0 none :: s.bus }
    exact ⟨x, exec_statusWord (t := { s with draws := s.draws + 1 }) hem hts (fit.mpr hf) hb
      ((congrFun (coprocAnswer_free unsent) _).trans hx)⟩
  · obtain ⟨x, hx⟩ := escAbsent_statusWord s
    exact ⟨x, (exec_esc_absent hem hts (absent hn)).trans (runInstr_ok hx)⟩
  · intro h1 h2
    exact exec_esc_waits hem hts (fit.mpr hf) hb
      (eq_false_of_ne_true fun h => ((escSkipsBusy_reg op sub r).mp h).elim h1 h2)
  · exact exec_esc_waits hem hts (fit.mpr hf) hb (escSkipsBusy_mem op sub m)
  · intro hf hb he h1 h2 h3
    refine exec_esc_error hem hts (fit.mpr hf) hb he ?_
    rw [escSkipsError_reg, eq_false_of_ne_true (mt (escFnstswAx_reg op sub r).mp h3),
      eq_false_of_ne_true fun h => ((escSkipsBusy_reg op sub r).mp h).elim h1 h2, Bool.or_self]
  · intro hf hb he h
    exact exec_esc_error hem hts (fit.mpr hf) hb he (eq_false_of_ne_true (mt (escSkipsError_mem op sub m).mp h))
  · intro hf go ea e first
    have error : s.ext.error = false ∨ escSkipsError op sub (.mem m) = true :=
      go.imp And.right fun h => (escSkipsError_mem op sub m).mpr h.2
    exact (exec_esc_fitted hem hts (fit.mpr hf) (.inl (go.elim And.left And.left)) error).trans
      (runInstr_exc (escFitted_mem_stop ea first))
  · rintro hf go ea ⟨lin, first⟩ handed size done
    have busy : s.ext.busy = false := go.elim And.left And.left
    have error : s.ext.error = false ∨ escSkipsError op sub (.mem m) = true :=
      go.imp And.right fun h => (escSkipsError_mem op sub m).mpr h.2
    exact ⟨exec_esc_noTransfer hem hts (fit.mpr hf) busy error ea first,
      fun wide v one place => exec_esc_toMemory hem hts (fit.mpr hf) busy error ea first one place,
      fun wide one place => exec_esc_fromMemory hem hts (fit.mpr hf) busy error ea first one place,
      fun a b v two place place' => exec_esc_toThenFromMemory hem hts (fit.mpr hf) busy error ea first two place place'⟩
  · intro hn hsub hop ea place
    obtain ⟨v, hv⟩ := escAbsent_mem ((escPresence_mem op sub m).mpr ⟨hsub, hop⟩) ea place
    exact ⟨v, (exec_esc_absent hem hts (absent hn)).trans (runInstr_ok hv)⟩
  · intro hn
    exact (exec_esc_absent hem hts (absent hn)).trans (runInstr_ok (escAbsent_reg rfl rfl))
  · intro hn h1 h2
    exact exec_esc_unmodelled hem hts (absent hn)
      (eq_false_of_ne_true fun h => ((escPresence_reg op sub r).mp h).elim h1 h2)
  · intro hn h
    exact exec_esc_unmodelled hem hts (absent hn) (eq_false_of_ne_true (mt (escPresence_mem op sub m).mp h))

end Sys2Proof.Machine
end


section
/-! ARPL and the selector tests LAR, LSL, VERR and VERW (spec/50_protection_control.md R690, R691, R696, R698, R707,
R708). -/

namespace Sys2Proof.Machine

/-- ZF with the answer, no other flag. -/
def State.withZf (s : State) (b : Bool) : State := { s with flags := { s.flags with zf := b } }

theorem setZf_apply (b : Bool) (s : State) : setZf b s = .ok () (s.withZf b) := rfl

/-! ## ARPL (R690) -/

theorem withRpl_eq (sel ref : Word) : withRpl sel (ref.extractLsb' 0 2) = (sel &&& 0xFFFC) ||| (ref &&& 3) := by
  rw [withRpl, selCode]
  congr 1
  refine BitVec.eq_of_getLsbD_eq fun i hi => ?_
  interval_cases i <;> simp

theorem adjustRpl_raises {s t : State} {sel ref : Word} {write : Word → Exec Unit} (h : sel.toNat % 4 < ref.toNat % 4)
    (hw : write ((sel &&& 0xFFFC) ||| (ref &&& 3)) s = .ok () t) : adjustRpl sel ref write s = .ok () (t.withZf true) := by
  rw [adjustRpl, rpl_eq, rpl_eq, if_pos h, withRpl_eq]
  simp only [exec_bind_apply, hw, setZf_apply]

theorem adjustRpl_keeps {sel ref : Word} (h : ref.toNat % 4 ≤ sel.toNat % 4) (write : Word → Exec Unit) (s : State) :
    adjustRpl sel ref write s = .ok () (s.withZf false) := by
  rw [adjustRpl, rpl_eq, rpl_eq, if_neg (Nat.not_lt.mpr h), setZf_apply]

section Arpl

variable {s t u : State} (hp : s.prot = true)
include hp

theorem exec_arpl_reg {q r : Reg} {x : State}
    (h : adjustRpl (s.regs.read .w q) (s.regs.read .w r) (writeReg .w q) s = .ok () x) :
    exec (.arpl (.reg q) r) s = .next (retire s.flags.tf x) := by
  show execArpl (.reg q) r s = _
  refine runInstr_ok ?_
  simp only [exec_bind_apply, requireProtected_passes hp, readReg_apply, h]

theorem exec_arpl_mem {m : Mem} {r : Reg} {sg : Seg} {off v : Dword} {x : State} (ea : effAddr m s = .ok (sg, off) t)
    (hv : memRead sg off 2 t = .ok v u)
    (h : adjustRpl (low16 v) (s.regs.read .w r)
      (fun x => do let sp ← segSpan sg off 2 true; storeSpan sp (x.setWidth 32)) u = .ok () x) :
    exec (.arpl (.mem m) r) s = .next (retire s.flags.tf x) := by
  show execArpl (.mem m) r s = _
  refine runInstr_ok ?_
  simp only [exec_bind_apply, requireProtected_passes hp, readReg_apply, ea, hv]
  exact h

theorem exec_arpl_mem_raises {m : Mem} {r : Reg} {sg : Seg} {off v : Dword} {sp : List Nat} {w : State}
    (ea : effAddr m s = .ok (sg, off) t) (hv : memRead sg off 2 t = .ok v u)
    (h : (low16 v).toNat % 4 < (s.regs.read .w r).toNat % 4) (place : segSpan sg off 2 true u = .ok sp w) :
    exec (.arpl (.mem m) r) s =
      .next (retire s.flags.tf (State.withZf
        { w with mem := Memory.store w.mem sp (((low16 v &&& 0xFFFC) ||| (s.regs.read .w r &&& 3)).setWidth 32) } true)) := by
  refine exec_arpl_mem hp ea hv (adjustRpl_raises h ?_)
  simp only [exec_bind_apply, place, storeSpan_apply]

end Arpl

/-! ## The probe (R698) -/

theorem visible_iff (s : State) (sel : Word) (a : Attr) :
    visible s sel a = true ↔
      (a.conforming = true ∨ (s.sys.cpl.toNat ≤ a.dpl.toNat ∧ sel.toNat % 4 ≤ a.dpl.toNat)) := by
  rw [visible, Bool.or_eq_true, Bool.and_eq_true, decide_eq_true_iff, decide_eq_true_iff, rpl_eq]

theorem readDescAt_unpaged {s : State} (hu : s.unpaged) (a : Dword) : readDescAt a s = .ok (descriptorAt s.mem a) s := by
  simp [readDescAt, linSpan_unpaged hu _ 8 (by decide), descriptorAt]

/-- The descriptor as the probe leaves it: the accessed bit of a segment is 1 (R184, D28). -/
def Desc.seen (d : Desc) : Desc := if d.attr.s then { d with hi := d.hi ||| 0x100 } else d

section Seen

variable (d : Desc)

theorem Desc.seen_s : d.seen.attr.s = d.attr.s := by
  unfold Desc.seen
  cases h : d.attr.s
  · exact h
  · refine Eq.trans ?_ h
    simp [Desc.attr]

/-- The accessed bit is the lowest bit of the type. -/
theorem Desc.seen_typ {k : Nat} (hk : k ≠ 0) (hk4 : k < 4) : d.seen.attr.typ.getLsbD k = d.attr.typ.getLsbD k := by
  unfold Desc.seen
  cases h : d.attr.s
  · rfl
  · simp only [if_true, Desc.attr]
    interval_cases k
    · exact absurd rfl hk
    all_goals simp

theorem Desc.seen_of_system (h : d.attr.s = false) : d.seen = d := by
  unfold Desc.seen
  rw [h]
  rfl

theorem Desc.seen_limit : d.seen.limit = d.limit := by
  have g : (d.hi ||| 0x100).getLsbD 23 = d.hi.getLsbD 23 := by simp
  have l : (d.hi ||| 0x100).extractLsb' 16 4 = d.hi.extractLsb' 16 4 := by
    refine BitVec.eq_of_getLsbD_eq fun i hi => ?_
    interval_cases i <;> simp
  unfold Desc.seen
  cases d.attr.s
  · rfl
  · simp only [if_true, Desc.limit, Desc.attr, g, l]
    rfl

theorem Desc.seen_hi : d.seen.hi = if d.attr.s then d.hi ||| 0x100 else d.hi := by
  unfold Desc.seen
  cases d.attr.s <;> rfl

theorem Desc.seen_readable : d.seen.attr.readable = d.attr.readable := by
  simp only [Attr.readable, Attr.isData, Attr.isCode, d.seen_s, d.seen_typ (k := 3) (by decide) (by decide),
    d.seen_typ (k := 1) (by decide) (by decide)]

theorem Desc.seen_writable : d.seen.attr.writable = d.attr.writable := by
  simp only [Attr.writable, Attr.isData, d.seen_s, d.seen_typ (k := 3) (by decide) (by decide),
    d.seen_typ (k := 1) (by decide) (by decide)]

theorem larType_seen_iff :
    larType d.seen.attr = true ↔ (d.attr.s = true ∨ d.attr.typ.toNat ∈ [1, 2, 3, 4, 5, 9, 11, 12]) := by
  cases h : d.attr.s
  · rw [d.seen_of_system h]
    simp only [larType, Attr.availableTss, Attr.busyTss, Attr.isLdt, Attr.callGate, Attr.taskGate, h]
    generalize d.attr.typ = x
    revert x
    decide
  · simp only [larType, d.seen_s, h, Bool.true_or, true_or]

theorem lslType_seen_iff : lslType d.seen.attr = true ↔ (d.attr.s = true ∨ d.attr.typ.toNat ∈ [1, 2, 3, 9, 11]) := by
  cases h : d.attr.s
  · rw [d.seen_of_system h]
    simp only [lslType, Attr.availableTss, Attr.busyTss, Attr.isLdt, h]
    generalize d.attr.typ = x
    revert x
    decide
  · simp only [lslType, d.seen_s, h, Bool.true_or, true_or]

end Seen

section Probe

variable {s : State} {sel : Word}

theorem probe_null (h : sel &&& 0xFFFC = 0) : probe sel s = .ok none s := by
  simp only [probe, exec_bind_apply, getState_apply, (isNull_iff sel).mpr h, if_true, exec_pure_apply]

theorem probe_missing (ha : descAddr s sel = none) : probe sel s = .ok none s := by
  cases h : isNull sel
  · simp only [probe, exec_bind_apply, getState_apply, h, ha]
    rfl
  · exact probe_null ((isNull_iff sel).mp h)

theorem probe_hidden (hu : s.unpaged) {a : Dword} (h : sel &&& 0xFFFC ≠ 0) (ha : descAddr s sel = some a)
    (hv : visible s sel (descriptorAt s.mem a).attr = false) : probe sel s = .ok none s := by
  simp only [probe, exec_bind_apply, getState_apply, (isNull_eq_false sel).mpr h, ha, readDescAt_unpaged hu, hv,
    Bool.false_eq_true, if_false]
  rfl

theorem probe_finds (hu : s.unpaged) {a : Dword} (h : sel &&& 0xFFFC ≠ 0) (ha : descAddr s sel = some a)
    (hv : visible s sel (descriptorAt s.mem a).attr = true) :
    probe sel s =
      .ok (some (descriptorAt s.mem a).seen) { s with mem := markAccessed s.mem a (descriptorAt s.mem a) } := by
  simp only [probe, exec_bind_apply, getState_apply, (isNull_eq_false sel).mpr h, ha, readDescAt_unpaged hu, hv,
    setAccessed_unpaged hu sel _ a ha, Bool.false_eq_true, if_false, if_true]
  rfl

end Probe

/-! ## The instructions that probe -/

section Tests

variable {s t u : State} {rm : RM} {p : Place} (hp : s.prot = true) (h : place .w rm false s = .ok p t)
include hp h

theorem probeInto_none (r : Reg) (valid : Attr → Bool) (value : Desc → Dword)
    (hd : probe (t.valueAt .w p) t = .ok none u) : probeInto r rm valid value s = .ok () (u.withZf false) := by
  simp only [probeInto, exec_bind_apply, requireProtected_passes hp, readRM_ok h, hd, getState_apply, setZf_apply]

theorem probeInto_some {d : Desc} (r : Reg) (valid : Attr → Bool) (value : Desc → Dword)
    (hd : probe (t.valueAt .w p) t = .ok (some d) u) :
    probeInto r rm valid value s =
      .ok () (if valid d.attr then (u.withValue u.opSize (.reg r) ((value d).setWidth _)).withZf true
        else u.withZf false) := by
  simp only [probeInto, exec_bind_apply, requireProtected_passes hp, readRM_ok h, hd, getState_apply]
  cases valid d.attr <;> rfl

theorem verify_none (usable : Attr → Bool) (hd : probe (t.valueAt .w p) t = .ok none u) :
    verify rm usable s = .ok () (u.withZf false) := by
  simp only [verify, exec_bind_apply, requireProtected_passes hp, readRM_ok h, hd, setZf_apply]

theorem verify_some {d : Desc} (usable : Attr → Bool) (hd : probe (t.valueAt .w p) t = .ok (some d) u) :
    verify rm usable s = .ok () (u.withZf (usable d.attr)) := by
  simp only [verify, exec_bind_apply, requireProtected_passes hp, readRM_ok h, hd, setZf_apply]

/-- A probe that finds nothing answers 0, whatever the instruction asks. -/
theorem exec_tests_none (r : Reg) (hd : probe (t.valueAt .w p) t = .ok none t) :
    ∀ i, i ∈ [Instr.lar r rm, .lsl r rm, .verr rm, .verw rm] → exec i s = .next (retire s.flags.tf (t.withZf false)) := by
  intro i hi
  simp only [List.mem_cons, List.not_mem_nil, or_false] at hi
  obtain rfl | rfl | rfl | rfl := hi
  · show execLar r rm s = _
    exact runInstr_ok (probeInto_none hp h r _ _ hd)
  · show execLsl r rm s = _
    exact runInstr_ok (probeInto_none hp h r _ _ hd)
  · show execVerr rm s = _
    exact runInstr_ok (verify_none hp h _ hd)
  · show execVerw rm s = _
    exact runInstr_ok (verify_none hp h _ hd)

/-- LAR and LSL write the register of the operand size where the type is valid. -/
theorem runInstr_probeInto {d : Desc} (r : Reg) {valid : Attr → Bool} {value : Desc → Dword} {c : Prop} [Decidable c]
    {x : Dword} (hc : valid d.attr = true ↔ c) (hx : value d = x) (size : u.opSize = s.opSize)
    (hd : probe (t.valueAt .w p) t = .ok (some d) u) :
    runInstr (probeInto r rm valid value) s =
      if c then .next (retire s.flags.tf ((u.withValue s.opSize (.reg r) (x.setWidth _)).withZf true))
      else .next (retire s.flags.tf (u.withZf false)) := by
  rw [runInstr_ok (probeInto_some hp h r valid value hd), hx, size]
  by_cases hk : c
  · rw [if_pos hk, if_pos (hc.mpr hk)]
  · rw [if_neg hk, if_neg (mt hc.mp hk)]

end Tests

/-- Settles O47: ARPL compares the RPLs, and the four tests answer what the probe of the selector finds. -/
theorem selectorTestsAnswerInZf : Obligations.SelectorTestsAnswerInZf := by
  unfold Obligations.SelectorTestsAnswerInZf
  intro s t u rm r q m p sg off v sp at_ hp hu next zf ref raised own
  refine ⟨?_, fun ea hv => ⟨fun h => ?_, fun h w place => ?_⟩, fun hplace => ?_⟩
  · by_cases h : own.toNat % 4 < ref.toNat % 4
    · exact (exec_arpl_reg hp (adjustRpl_raises h rfl)).trans (if_pos h).symm
    · exact (exec_arpl_reg hp (adjustRpl_keeps (Nat.not_lt.mp h) _ s)).trans (if_neg h).symm
  · exact exec_arpl_mem hp ea hv (adjustRpl_keeps h _ u)
  · exact exec_arpl_mem_raises hp ea hv h place
  · intro sel all
    have acc : accessed s t := finds_place .w rm false s p t hplace
    obtain ⟨-, -, -, -, hsys, -, -, hctx, -⟩ := accessed_keeps acc
    have hut : t.unpaged := sameMode_unpaged (sameMode_accessed acc) hu
    have haddr : descAddr t sel = descAddr s sel := by simp only [descAddr, hsys]
    refine ⟨fun h => ?_, ?_⟩
    · obtain h | h := h
      · exact exec_tests_none hp hplace r (probe_null h)
      · exact exec_tests_none hp hplace r (probe_missing (haddr.trans h))
    intro hnull ha d a code data visible seen rights sz
    refine ⟨fun hv => ?_, fun hv => ?_⟩
    · refine exec_tests_none hp hplace r (probe_hidden hut hnull (haddr.trans ha) (eq_false_of_ne_true fun h => hv ?_))
      have := (visible_iff t sel _).mp h
      rw [hsys] at this
      exact this
    · have found := probe_finds hut hnull (haddr.trans ha) ((visible_iff t sel _).mpr (by rw [hsys]; exact hv))
      have size : State.opSize seen = s.opSize := by
        show (if t.ctx.op32 then Size.d else Size.w) = _
        rw [hctx]
        rfl
      refine ⟨?_, ?_, ?_, ?_⟩
      · exact runInstr_probeInto hp hplace r (larType_seen_iff d) (congrArg (· &&& 0x00F0FF00) d.seen_hi) size found
      · exact runInstr_probeInto hp hplace r (lslType_seen_iff d) d.seen_limit size found
      · exact (runInstr_ok (verify_some hp hplace _ found)).trans
          (congrArg (fun b => next (State.withZf seen b)) d.seen_readable)
      · exact (runInstr_ok (verify_some hp hplace _ found)).trans
          (congrArg (fun b => next (State.withZf seen b)) d.seen_writable)

end Sys2Proof.Machine
end


section
/-! The system segments and the descriptor-table registers (spec/50_protection_control.md R692 to R697, R702 to R706). -/

namespace Sys2Proof.Machine

/-! ## LLDT and LTR (R185, R186, R694, R697) -/

/-- The access-rights byte of a descriptor changed, without paging (R184). -/
theorem writeRights_unpaged {s : State} (h : s.unpaged) {sel : Word} {a : Dword} (ha : descAddr s sel = some a)
    (f : Byte → Byte) :
    writeRights sel f s =
      .ok () { s with mem := Memory.store s.mem [(a + 5).toNat] ((f (Memory.read s.mem (a + 5).toNat)).setWidth 32) } := by
  have span : linearBytes (a + 5) 1 = [(a + 5).toNat] := by
    have lt := (a + 5).isLt
    simp only [linearBytes, List.range_one, List.map_cons, List.map_nil, Nat.add_zero]
    rw [Nat.mod_eq_of_lt lt]
  simp only [writeRights, exec_bind_apply, getState_apply, ha, linSpan_unpaged h _ 1 (by decide), span, loadSpan_apply,
    storeSpan_apply]
  simp [Memory.load]

theorem isLdt_iff (a : Attr) : a.isLdt = true ↔ (a.s = false ∧ a.typ = 2) := by
  rw [Attr.isLdt, Bool.and_eq_true, Bool.not_eq_true', beq_iff_eq]

theorem availableTss_iff (a : Attr) : a.availableTss = true ↔ (a.s = false ∧ (a.typ = 1 ∨ a.typ = 9)) := by
  rw [Attr.availableTss, Bool.and_eq_true, Bool.not_eq_true', Bool.or_eq_true, beq_iff_eq, beq_iff_eq]

section SystemSegments

variable {s : State} {sel : Word} {a : Dword}

theorem loadLdt_null (h : sel &&& 0xFFFC = 0) :
    loadLdt sel s = .ok () { s with sys := { s.sys with ldtr := { s.sys.ldtr with sel := sel, valid := false } } } := by
  rw [loadLdt, (isNull_iff sel).mpr h, if_pos rfl, update_apply, segNull]

theorem loadTaskRegister_null (h : sel &&& 0xFFFC = 0) :
    loadTaskRegister sel s = .error (.exc (.protection (sel &&& 0xFFFC))) s := by
  simp only [loadTaskRegister, exec_bind_apply, (isNull_iff sel).mpr h, Bool.not_true, Bool.false_and, require_false,
    selCode]

theorem loadLdt_local (h : sel &&& 0xFFFC ≠ 0) (hl : sel.getLsbD 2 = true) :
    loadLdt sel s = .error (.exc (.protection (sel &&& 0xFFFC))) s := by
  rw [loadLdt, (isNull_eq_false sel).mpr h, if_neg Bool.false_ne_true]
  simp only [exec_bind_apply, inLdt, hl, Bool.not_true, require_false, selCode]

theorem loadTaskRegister_local (hl : sel.getLsbD 2 = true) :
    loadTaskRegister sel s = .error (.exc (.protection (sel &&& 0xFFFC))) s := by
  simp only [loadTaskRegister, exec_bind_apply, inLdt, hl, Bool.not_true, Bool.and_false, require_false, selCode]

variable (hu : s.unpaged) (h : sel &&& 0xFFFC ≠ 0) (hl : ¬sel.getLsbD 2 = true)
include hu h hl

theorem loadLdt_missing (ha : descAddr s sel = none) : loadLdt sel s = .error (.exc (.protection (sel &&& 0xFFFC))) s := by
  rw [loadLdt, (isNull_eq_false sel).mpr h, if_neg Bool.false_ne_true]
  simp only [exec_bind_apply, inLdt, eq_false_of_ne_true hl, Bool.not_false, require_true, readDesc_missing hu ha, selCode]

theorem loadTaskRegister_missing (ha : descAddr s sel = none) :
    loadTaskRegister sel s = .error (.exc (.protection (sel &&& 0xFFFC))) s := by
  simp only [loadTaskRegister, exec_bind_apply, (isNull_eq_false sel).mpr h, inLdt, eq_false_of_ne_true hl, Bool.not_false,
    Bool.and_self, require_true, readDesc_missing hu ha, selCode]

variable (ha : descAddr s sel = some a)
include ha

theorem loadLdt_denied (hk : (descriptorAt s.mem a).attr.isLdt = false) :
    loadLdt sel s = .error (.exc (.protection (sel &&& 0xFFFC))) s := by
  rw [loadLdt, (isNull_eq_false sel).mpr h, if_neg Bool.false_ne_true]
  simp only [exec_bind_apply, inLdt, eq_false_of_ne_true hl, Bool.not_false, require_true, readDesc_found hu ha, hk,
    require_false, selCode]

theorem loadLdt_absent (hk : (descriptorAt s.mem a).attr.isLdt = true) (hp : (descriptorAt s.mem a).attr.p = false) :
    loadLdt sel s = .error (.exc (.notPresent (sel &&& 0xFFFC))) s := by
  rw [loadLdt, (isNull_eq_false sel).mpr h, if_neg Bool.false_ne_true]
  simp only [exec_bind_apply, inLdt, eq_false_of_ne_true hl, Bool.not_false, require_true, readDesc_found hu ha, hk, hp,
    require_false, selCode]

theorem loadLdt_loads (hk : (descriptorAt s.mem a).attr.isLdt = true) (hp : (descriptorAt s.mem a).attr.p = true) :
    loadLdt sel s = .ok () { s with sys := { s.sys with ldtr := systemOfDesc sel (descriptorAt s.mem a) } } := by
  rw [loadLdt, (isNull_eq_false sel).mpr h, if_neg Bool.false_ne_true]
  simp only [exec_bind_apply, inLdt, eq_false_of_ne_true hl, Bool.not_false, require_true, readDesc_found hu ha, hk, hp,
    update_apply]

theorem loadTaskRegister_denied (hk : (descriptorAt s.mem a).attr.availableTss = false) :
    loadTaskRegister sel s = .error (.exc (.protection (sel &&& 0xFFFC))) s := by
  simp only [loadTaskRegister, exec_bind_apply, (isNull_eq_false sel).mpr h, inLdt, eq_false_of_ne_true hl, Bool.not_false,
    Bool.and_self, require_true, readDesc_found hu ha, hk, require_false, selCode]

theorem loadTaskRegister_absent (hk : (descriptorAt s.mem a).attr.availableTss = true)
    (hp : (descriptorAt s.mem a).attr.p = false) :
    loadTaskRegister sel s = .error (.exc (.notPresent (sel &&& 0xFFFC))) s := by
  simp only [loadTaskRegister, exec_bind_apply, (isNull_eq_false sel).mpr h, inLdt, eq_false_of_ne_true hl, Bool.not_false,
    Bool.and_self, require_true, readDesc_found hu ha, hk, hp, require_false, selCode]

/-- The descriptor of the TSS is marked busy in memory and in TR (R186). -/
theorem loadTaskRegister_loads (hk : (descriptorAt s.mem a).attr.availableTss = true)
    (hp : (descriptorAt s.mem a).attr.p = true) :
    loadTaskRegister sel s =
      .ok () { s with
        mem := Memory.store s.mem [(a + 5).toNat] ((Memory.read s.mem (a + 5).toNat ||| 2).setWidth 32)
        sys := { s.sys with
          tr := { systemOfDesc sel (descriptorAt s.mem a) with
            attr := { (descriptorAt s.mem a).attr with typ := (descriptorAt s.mem a).attr.typ ||| 2 } } } } := by
  simp only [loadTaskRegister, exec_bind_apply, (isNull_eq_false sel).mpr h, inLdt, eq_false_of_ne_true hl, Bool.not_false,
    Bool.and_self, require_true, readDesc_found hu ha, hk, hp, writeRights_unpaged hu ha, update_apply]

end SystemSegments

theorem privileged_of_prot {s : State} (hprot : s.prot = true) (hcpl : s.sys.cpl = 0) : s.privileged = true := by
  obtain ⟨-, vm⟩ := (prot_iff s).mp hprot
  exact s.privileged_iff.mpr (.inr ⟨vm, hcpl⟩)

section Loads

variable {s t u : State} {rm : RM} {p : Place} {e : Exc} (hprot : s.prot = true) (hcpl : s.sys.cpl = 0)
  (hp : place .w rm false s = .ok p t)
include hprot hcpl hp

theorem exec_lldt_ok (h : loadLdt (t.valueAt .w p) t = .ok () u) : exec (.lldt rm) s = .next (retire s.flags.tf u) := by
  show execLldt rm s = _
  refine runInstr_ok ?_
  simp only [exec_bind_apply, requireProtected_passes hprot, requirePrivilege_passes (privileged_of_prot hprot hcpl),
    readRM_ok hp, h]

theorem exec_lldt_raises (h : loadLdt (t.valueAt .w p) t = .error (.exc e) t) : exec (.lldt rm) s = s.raises t e := by
  show execLldt rm s = _
  refine runInstr_exc ?_
  simp only [exec_bind_apply, requireProtected_passes hprot, requirePrivilege_passes (privileged_of_prot hprot hcpl),
    readRM_ok hp, h]

theorem exec_ltr_ok (h : loadTaskRegister (t.valueAt .w p) t = .ok () u) :
    exec (.ltr rm) s = .next (retire s.flags.tf u) := by
  show execLtr rm s = _
  refine runInstr_ok ?_
  simp only [exec_bind_apply, requireProtected_passes hprot, requirePrivilege_passes (privileged_of_prot hprot hcpl),
    readRM_ok hp, h]

theorem exec_ltr_raises (h : loadTaskRegister (t.valueAt .w p) t = .error (.exc e) t) :
    exec (.ltr rm) s = s.raises t e := by
  show execLtr rm s = _
  refine runInstr_exc ?_
  simp only [exec_bind_apply, requireProtected_passes hprot, requirePrivilege_passes (privileged_of_prot hprot hcpl),
    readRM_ok hp, h]

end Loads

/-! ## SLDT, STR, SMSW and LMSW (R695, R704 to R706) -/

/-- The instructions that store a system word, and whether they belong to protected mode alone. -/
theorem exec_storesWord {s t : State} {rm : RM} {i : RM → Instr} {v : Word} {prot : Bool}
    (h : (i, v, prot) ∈ [(Instr.sldt, s.sys.ldtr.sel, true), (Instr.str, s.sys.tr.sel, true),
      (Instr.smsw, s.sys.cr0.extractLsb' 0 16, false)])
    (hprot : prot = true → s.prot = true) (hw : writeSystemWord rm v s = .ok () t) :
    exec (i rm) s = .next (retire s.flags.tf t) := by
  simp only [List.mem_cons, Prod.mk.injEq, List.not_mem_nil, or_false] at h
  obtain ⟨rfl, rfl, rfl⟩ | ⟨rfl, rfl, rfl⟩ | ⟨rfl, rfl, rfl⟩ := h
  · show execSldt rm s = _
    refine runInstr_ok ?_
    simp only [exec_bind_apply, requireProtected_passes (hprot rfl), getState_apply, hw]
  · show execStr rm s = _
    refine runInstr_ok ?_
    simp only [exec_bind_apply, requireProtected_passes (hprot rfl), getState_apply, hw]
  · show execSmsw rm s = _
    refine runInstr_ok ?_
    simp only [exec_bind_apply, getState_apply, low16_eq, hw]

theorem withMachineStatus_pe (cr0 : Dword) (v : Word) :
    (withMachineStatus cr0 v).getLsbD 0 = (cr0.getLsbD 0 || v.getLsbD 0) := by
  simp [withMachineStatus]

theorem withMachineStatus_low (cr0 : Dword) (v : Word) {k : Nat} (h1 : 1 ≤ k) (h4 : k < 4) :
    (withMachineStatus cr0 v).getLsbD k = v.getLsbD k := by
  interval_cases k <;> simp [withMachineStatus]

theorem withMachineStatus_high (cr0 : Dword) (v : Word) {k : Nat} (h4 : 4 ≤ k) :
    (withMachineStatus cr0 v).getLsbD k = cr0.getLsbD k := by
  by_cases h : k < 32
  · interval_cases k <;> simp [withMachineStatus]
  · rw [BitVec.getLsbD_of_ge _ k (by omega), BitVec.getLsbD_of_ge _ k (by omega)]

theorem exec_lmsw {s t : State} {rm : RM} {p : Place} (level0 : s.privileged = true) (hp : place .w rm false s = .ok p t) :
    exec (.lmsw rm) s =
      .next (retire s.flags.tf { t with sys := { t.sys with
        cr0 := withMachineStatus s.sys.cr0 (t.valueAt .w p), cpl := if s.pe then t.sys.cpl else 0 } }) := by
  obtain ⟨-, -, -, -, hsys, -⟩ := accessed_keeps (finds_place .w rm false s p t hp)
  show execLmsw rm s = _
  refine runInstr_ok ?_
  simp only [exec_bind_apply, requirePrivilege_passes level0, readRM_ok hp, getState_apply, setCr0, update_apply, State.pe,
    hsys]

/-! ## LGDT, LIDT, SGDT and SIDT (R692, R693, R702, R703) -/

section Tables

variable {s a b c : State} {m : Mem} {sg : Seg} {off x y : Dword} {sp sp' : List Nat} (ea : effAddr m s = .ok (sg, off) a)
include ea

theorem readTableReg_ok (hx : memRead sg off 2 a = .ok x b) (hy : memRead sg (off + 2) 4 b = .ok y c) :
    readTableReg m s =
      .ok { base := if s.ctx.op32 then y else y &&& 0x00FFFFFF, limit := x.setWidth 16 } c := by
  simp only [readTableReg, exec_bind_apply, getState_apply, ea, hx, hy, exec_pure_apply, low16]

/-- The base goes to memory whole, or its low three bytes below a free one (R702). -/
theorem writeTableReg_ok (g : TableReg) (hx : segSpan sg off 2 true a = .ok sp b)
    (hy : segSpan sg (off + 2) 4 true b = .ok sp' c) :
    ∃ hi : Byte,
      writeTableReg m g s =
        .ok () (if s.ctx.op32 then { c with mem := Memory.store (Memory.store c.mem sp (g.limit.setWidth 32)) sp' g.base }
          else { c with
            mem := Memory.store (Memory.store c.mem sp (g.limit.setWidth 32)) sp' (hi ++ g.base.extractLsb' 0 24)
            draws := c.draws + 1 }) := by
  obtain ⟨v, hv⟩ := draw_ok { c with mem := Memory.store c.mem sp (g.limit.setWidth 32) }
  refine ⟨v.extractLsb' 24 8, ?_⟩
  simp only [writeTableReg, exec_bind_apply, getState_apply, ea, hx, hy, storeSpan_apply]
  cases s.ctx.op32
  · simp only [Bool.false_eq_true, if_false, exec_bind_apply, hv, storeSpan_apply]
  · rfl

end Tables

/-- Settles O48: each instruction is its transfer behind its checks, in the order of the rules. -/
theorem systemSegmentsAndRegisters : Obligations.SystemSegmentsAndRegisters := by
  unfold Obligations.SystemSegmentsAndRegisters
  refine ⟨?_, ?_, ?_⟩
  · intro s t rm p hprot hu hcpl hp sel code lldt ltr next bad absent local_
    have acc : accessed s t := finds_place .w rm false s p t hp
    obtain ⟨-, -, -, -, hsys, -⟩ := accessed_keeps acc
    have hut : t.unpaged := sameMode_unpaged (sameMode_accessed acc) hu
    have haddr : descAddr t sel = descAddr s sel := by simp only [descAddr, hsys]
    refine ⟨fun h => exec_lldt_ok hprot hcpl hp (loadLdt_null h), fun h => exec_ltr_raises hprot hcpl hp (loadTaskRegister_null h),
      fun h hl => ⟨exec_lldt_raises hprot hcpl hp (loadLdt_local h hl), exec_ltr_raises hprot hcpl hp (loadTaskRegister_local hl)⟩,
      fun h hl ha => ⟨exec_lldt_raises hprot hcpl hp (loadLdt_missing hut h hl (haddr.trans ha)),
        exec_ltr_raises hprot hcpl hp (loadTaskRegister_missing hut h hl (haddr.trans ha))⟩, ?_⟩
    intro h hl at_ ha d attr ldt tss reg
    have ha' : descAddr t sel = some at_ := haddr.trans ha
    refine ⟨fun hk => ?_, fun hk hn => ?_, fun hk hn => ?_, fun hk => ?_, fun hk hn => ?_, fun hk hn => ?_⟩
    · exact exec_lldt_raises hprot hcpl hp (loadLdt_denied hut h hl ha' (eq_false_of_ne_true (mt (isLdt_iff attr).mp hk)))
    · exact exec_lldt_raises hprot hcpl hp (loadLdt_absent hut h hl ha' ((isLdt_iff attr).mpr hk) hn)
    · exact exec_lldt_ok hprot hcpl hp (loadLdt_loads hut h hl ha' ((isLdt_iff attr).mpr hk) hn)
    · exact exec_ltr_raises hprot hcpl hp
        (loadTaskRegister_denied hut h hl ha' (eq_false_of_ne_true (mt (availableTss_iff attr).mp hk)))
    · exact exec_ltr_raises hprot hcpl hp (loadTaskRegister_absent hut h hl ha' ((availableTss_iff attr).mpr hk) hn)
    · exact exec_ltr_ok hprot hcpl hp (loadTaskRegister_loads hut h hl ha' ((availableTss_iff attr).mpr hk) hn)
  · intro s t rm r p next
    refine ⟨fun i v prot hi hprot => ⟨fun hp hw => ⟨?_, withValue_sameOutside t .w p v⟩, fun hop => ⟨(Config.freeValue s.draws).extractLsb' 16 16, ?_⟩⟩, fun hl hp => ?_⟩
    · exact exec_storesWord hi hprot (writeSystemWord_word hp hw v)
    · exact exec_storesWord hi hprot (writeSystemWord_dword r hop v)
    · exact ⟨_, exec_lmsw (s.privileged_iff.mpr hl) hp, withMachineStatus_pe _ _, fun k => withMachineStatus_low _ _,
        fun k => withMachineStatus_high _ _⟩
  · intro s a b c m sg off x y sp sp' ea next
    refine ⟨fun hl hx hy => ?_, fun hx hy i g hi => ?_⟩
    · intro g
      have level0 := requirePrivilege_passes (s.privileged_iff.mpr hl)
      constructor
      · show execLgdt m s = _
        refine runInstr_ok ?_
        simp only [exec_bind_apply, level0, readTableReg_ok ea hx hy, update_apply]
        rfl
      · show execLidt m s = _
        refine runInstr_ok ?_
        simp only [exec_bind_apply, level0, readTableReg_ok ea hx hy, update_apply]
        rfl
    · obtain ⟨free, hw⟩ := writeTableReg_ok ea g hx hy
      refine ⟨free, ?_⟩
      intro low
      simp only [List.mem_cons, Prod.mk.injEq, List.not_mem_nil, or_false] at hi
      obtain ⟨rfl, rfl⟩ | ⟨rfl, rfl⟩ := hi
      · show execSgdt m s = _
        refine runInstr_ok ?_
        simp only [exec_bind_apply, getState_apply, hw]
        rfl
      · show execSidt m s = _
        refine runInstr_ok ?_
        simp only [exec_bind_apply, getState_apply, hw]
        rfl

end Sys2Proof.Machine
end


section
/-! The prefix bytes (spec/30_encoding.md R252, R262, R263, R280; spec/20_memory.md R147). -/

namespace Sys2Proof.Machine

/-! ## What LOCK may precede (R147) -/

/-- The prefixes. -/
def prefixes : List (Instr → Instr) :=
  [Instr.lockPrefix, .csPrefix, .dsPrefix, .esPrefix, .fsPrefix, .gsPrefix, .ssPrefix, .opSizePrefix, .addrSizePrefix,
   .repPrefix, .repnePrefix]

/-- An instruction behind prefixes. -/
def behind (l : List (Instr → Instr)) (i : Instr) : Instr := l.foldr (fun f x => f x) i

/-- The forms that R147 lists, with their destination in memory. -/
def LockForm (j : Instr) : Prop :=
  ∃ (m : Mem) (d w x : Bool) (q : Reg) (imm : Imm) (n : BitVec 8),
    let a : RM := .mem m
    (d = false ∧ j ∈ [Instr.addRmReg d w a q, .orRmReg d w a q, .adcRmReg d w a q, .sbbRmReg d w a q,
                      .andRmReg d w a q, .subRmReg d w a q, .xorRmReg d w a q]) ∨
    j ∈ [Instr.addRmImm x w a imm, .orRmImm x w a imm, .adcRmImm x w a imm, .sbbRmImm x w a imm,
         .andRmImm x w a imm, .subRmImm x w a imm, .xorRmImm x w a imm, .notRm w a, .negRm w a, .incRm w a,
         .decRm w a, .xchgRmReg w a q, .btsImm a n, .btsReg a q, .btrImm a n, .btrReg a q, .btcImm a n, .btcReg a q]

theorem lockable_of_lockForm {j : Instr} (h : LockForm j) : lockable j = true := by
  obtain ⟨m, d, w, x, q, imm, n, ⟨rfl, h⟩ | h⟩ := h
  · simp only [List.mem_cons, List.not_mem_nil, or_false] at h
    rcases h with rfl | rfl | rfl | rfl | rfl | rfl | rfl <;> rfl
  · simp only [List.mem_cons, List.not_mem_nil, or_false] at h
    rcases h with rfl | rfl | rfl | rfl | rfl | rfl | rfl | rfl | rfl | rfl | rfl | rfl | rfl | rfl | rfl | rfl | rfl |
      rfl <;> rfl

theorem lockable_prefix {f : Instr → Instr} (hf : f ∈ prefixes) (i : Instr) : lockable (f i) = lockable i := by
  simp only [prefixes, List.mem_cons, List.not_mem_nil, or_false] at hf
  rcases hf with rfl | rfl | rfl | rfl | rfl | rfl | rfl | rfl | rfl | rfl | rfl <;> rfl

theorem lockable_behind {l : List (Instr → Instr)} (hl : ∀ f, f ∈ l → f ∈ prefixes) (i : Instr) :
    lockable (behind l i) = lockable i := by
  induction l with
  | nil => rfl
  | cons f l ih =>
    exact (lockable_prefix (hl f List.mem_cons_self) _).trans (ih fun g hg => hl g (List.mem_cons_of_mem f hg))

/-- An instruction that is a listed form behind prefixes. -/
def LocksBehind (i : Instr) : Prop := ∃ l j, (∀ f, f ∈ l → f ∈ prefixes) ∧ i = behind l j ∧ LockForm j

theorem locksBehind_of_form {i : Instr} (h : LockForm i) : LocksBehind i := ⟨[], i, (fun _ hf => nomatch hf), rfl, h⟩

theorem locksBehind_prefix {f : Instr → Instr} (hf : f ∈ prefixes) {i : Instr} (h : LocksBehind i) : LocksBehind (f i) := by
  obtain ⟨l, j, hl, rfl, hj⟩ := h
  refine ⟨f :: l, j, fun g hg => ?_, rfl, hj⟩
  obtain rfl | hg := List.mem_cons.mp hg
  · exact hf
  · exact hl g hg

theorem isMem_elim {rm : RM} (h : RM.isMem rm = true) : ∃ m, rm = .mem m := by
  cases rm with
  | mem m => exact ⟨m, rfl⟩
  | reg r => exact nomatch h

/-- The forms with a direction bit lock where the destination is the memory operand. -/
theorem lockForm_rmReg {form : Bool → Bool → RM → Reg → Instr}
    (hform : form ∈ [Instr.addRmReg, .orRmReg, .adcRmReg, .sbbRmReg, .andRmReg, .subRmReg, .xorRmReg]) {d w : Bool} {rm : RM}
    {r : Reg} (h : (!d && RM.isMem rm) = true) : LocksBehind (form d w rm r) := by
  rw [Bool.and_eq_true, Bool.not_eq_true'] at h
  obtain ⟨m, rfl⟩ := isMem_elim h.2
  refine locksBehind_of_form ⟨m, d, w, false, r, .i8 0, 0, .inl ⟨h.1, ?_⟩⟩
  simp only [List.mem_cons, List.not_mem_nil, or_false] at hform
  rcases hform with rfl | rfl | rfl | rfl | rfl | rfl | rfl <;> simp

theorem lockForm_rmImm {form : Bool → Bool → RM → Imm → Instr}
    (hform : form ∈ [Instr.addRmImm, .orRmImm, .adcRmImm, .sbbRmImm, .andRmImm, .subRmImm, .xorRmImm]) {x w : Bool} {rm : RM}
    {imm : Imm} (h : RM.isMem rm = true) : LocksBehind (form x w rm imm) := by
  obtain ⟨m, rfl⟩ := isMem_elim h
  refine locksBehind_of_form ⟨m, false, w, x, .eax, imm, 0, .inr ?_⟩
  simp only [List.mem_cons, List.not_mem_nil, or_false] at hform
  rcases hform with rfl | rfl | rfl | rfl | rfl | rfl | rfl <;> simp

theorem lockForm_rm {form : Bool → RM → Instr} (hform : form ∈ [Instr.notRm, .negRm, .incRm, .decRm]) {w : Bool} {rm : RM}
    (h : RM.isMem rm = true) : LocksBehind (form w rm) := by
  obtain ⟨m, rfl⟩ := isMem_elim h
  refine locksBehind_of_form ⟨m, false, w, false, .eax, .i8 0, 0, .inr ?_⟩
  simp only [List.mem_cons, List.not_mem_nil, or_false] at hform
  rcases hform with rfl | rfl | rfl | rfl <;> simp

theorem lockForm_bit {form : RM → Reg → Instr} (hform : form ∈ [Instr.btsReg, .btrReg, .btcReg]) {rm : RM} {r : Reg}
    (h : RM.isMem rm = true) : LocksBehind (form rm r) := by
  obtain ⟨m, rfl⟩ := isMem_elim h
  refine locksBehind_of_form ⟨m, false, false, false, r, .i8 0, 0, .inr ?_⟩
  simp only [List.mem_cons, List.not_mem_nil, or_false] at hform
  rcases hform with rfl | rfl | rfl <;> simp

theorem lockForm_bitImm {form : RM → BitVec 8 → Instr} (hform : form ∈ [Instr.btsImm, .btrImm, .btcImm]) {rm : RM}
    {n : BitVec 8} (h : RM.isMem rm = true) : LocksBehind (form rm n) := by
  obtain ⟨m, rfl⟩ := isMem_elim h
  refine locksBehind_of_form ⟨m, false, false, false, .eax, .i8 0, n, .inr ?_⟩
  simp only [List.mem_cons, List.not_mem_nil, or_false] at hform
  rcases hform with rfl | rfl | rfl <;> simp

theorem lockForm_xchg {w : Bool} {rm : RM} {r : Reg} (h : RM.isMem rm = true) : LocksBehind (.xchgRmReg w rm r) := by
  obtain ⟨m, rfl⟩ := isMem_elim h
  exact locksBehind_of_form ⟨m, false, w, false, r, .i8 0, 0, .inr (by simp)⟩

/-- What may be locked is a listed form behind prefixes; no other instruction may be. -/
theorem locksBehind_of_lockable {i : Instr} (h : lockable i = true) : LocksBehind i := by
  induction i with
  | addRmReg | orRmReg | adcRmReg | sbbRmReg | andRmReg | subRmReg | xorRmReg => exact lockForm_rmReg (by simp) h
  | addRmImm | orRmImm | adcRmImm | sbbRmImm | andRmImm | subRmImm | xorRmImm => exact lockForm_rmImm (by simp) h
  | notRm | negRm | incRm | decRm => exact lockForm_rm (by simp) h
  | btsReg | btrReg | btcReg => exact lockForm_bit (by simp) h
  | btsImm | btrImm | btcImm => exact lockForm_bitImm (by simp) h
  | xchgRmReg => exact lockForm_xchg h
  | csPrefix _ ih | dsPrefix _ ih | esPrefix _ ih | fsPrefix _ ih | gsPrefix _ ih | ssPrefix _ ih | opSizePrefix _ ih
  | addrSizePrefix _ ih | lockPrefix _ ih | repPrefix _ ih | repnePrefix _ ih =>
    exact locksBehind_prefix (by simp [prefixes]) (ih h)
  | _ => exact absurd h Bool.false_ne_true

/-! ## What the prefixes set (R252) -/

section Table

variable {s t : State} {f : Instr → Instr}

/-- The state that the instruction behind a prefix runs from, prefix by prefix. -/
def prefixTable (s : State) : List ((Instr → Instr) × State) :=
  [(Instr.csPrefix, withSeg .cs s), (.dsPrefix, withSeg .ds s), (.esPrefix, withSeg .es s), (.fsPrefix, withSeg .fs s),
   (.gsPrefix, withSeg .gs s), (.ssPrefix, withSeg .ss s), (.opSizePrefix, withOpSize s), (.addrSizePrefix, withAddrSize s),
   (.repPrefix, withRepeat .rep s), (.repnePrefix, withRepeat .repne s)]

theorem mem_prefixTable (h : (f, t) ∈ prefixTable s) : t.flags = s.flags ∧ ∀ i, exec (f i) s = exec i t := by
  simp only [prefixTable, List.mem_cons, Prod.mk.injEq, List.not_mem_nil, or_false] at h
  rcases h with ⟨rfl, rfl⟩ | ⟨rfl, rfl⟩ | ⟨rfl, rfl⟩ | ⟨rfl, rfl⟩ | ⟨rfl, rfl⟩ | ⟨rfl, rfl⟩ | ⟨rfl, rfl⟩ | ⟨rfl, rfl⟩ |
    ⟨rfl, rfl⟩ | ⟨rfl, rfl⟩
  · exact ⟨rfl, fun i => exec_csPrefix i s⟩
  · exact ⟨rfl, fun i => exec_dsPrefix i s⟩
  · exact ⟨rfl, fun i => exec_esPrefix i s⟩
  · exact ⟨rfl, fun i => exec_fsPrefix i s⟩
  · exact ⟨rfl, fun i => exec_gsPrefix i s⟩
  · exact ⟨rfl, fun i => exec_ssPrefix i s⟩
  · exact ⟨rfl, fun i => exec_opSizePrefix i s⟩
  · exact ⟨rfl, fun i => exec_addrSizePrefix i s⟩
  · exact ⟨rfl, fun i => exec_repPrefix i s⟩
  · exact ⟨rfl, fun i => exec_repnePrefix i s⟩

theorem prefixes_eq (s : State) : prefixes = .lockPrefix :: (prefixTable s).map Prod.fst := rfl

theorem prefix_iff (s : State) (f : Instr → Instr) :
    f ∈ prefixes ↔ f = .lockPrefix ∨ ∃ t, (f, t) ∈ prefixTable s := by
  rw [prefixes_eq s, List.mem_cons, List.mem_map]
  refine or_congr_right ⟨?_, fun ⟨t, h⟩ => ⟨(f, t), h, rfl⟩⟩
  rintro ⟨⟨g, t⟩, h, rfl⟩
  exact ⟨t, h⟩

end Table

/-- Settles O49: a prefix is the context it sets; LOCK passes exactly the listed forms, behind any prefixes. -/
theorem prefixesChangeTheContext : Obligations.PrefixesChangeTheContext := by
  unfold Obligations.PrefixesChangeTheContext
  intro s t w rm r i p default with_ table listed prefixed
  have prefixed_iff : ∀ f, prefixed f ↔ f ∈ prefixes := fun f => (prefix_iff s f).symm
  refine ⟨fun f s' h => ?_, fun h l hl => ?_, fun h => ?_, ?_⟩
  · obtain ⟨hflags, hf⟩ := mem_prefixTable (s := s) h
    refine ⟨hf i, fun hp => ?_, ?_⟩
    · rw [hf, exec_movRegRm r hp, hflags]
    · rw [hf, exec_nop, hflags]
  · exact exec_lockPrefix
      ((lockable_behind (fun f hf => (prefixed_iff f).mp (hl f hf)) i).trans (lockable_of_lockForm h)) s
  · have no : lockable i = false := eq_false_of_ne_true fun hi => by
      obtain ⟨l, j, hl, rfl, hj⟩ := locksBehind_of_lockable hi
      exact h l j (fun f hf => (prefixed_iff f).mpr (hl f hf)) rfl hj
    exact (exec_lockPrefix_of_not no s).trans (runInstr_exc rfl)
  · rintro hp ⟨m, rfl⟩
    refine (exec_lockPrefix (i := .notRm w (.mem m)) rfl s).trans ?_
    refine (runInstr_ok (modifyRM_ok (fun a => ~~~a) (fun _ f => f) hp)).trans ?_
    cases p <;> rfl

end Sys2Proof.Machine
end


section
/-! Translation: page walks, page faults and cached translations (spec/20_memory.md R191, R200 to R204, R212, R216,
R217). -/

namespace Sys2Proof.Machine

/-! ## Table entries -/

theorem pdeAddr_eq (cr3 lin : Dword) : pdeAddr cr3 lin = cr3.extractLsb' 12 20 ++ lin.extractLsb' 22 10 ++ 0#2 := by
  rw [pdeAddr]
  refine BitVec.eq_of_getLsbD_eq fun i hi => ?_
  simp only [BitVec.getLsbD_append]
  interval_cases i <;> simp

theorem pteAddr_eq (pde lin : Dword) : pteAddr pde lin = pde.extractLsb' 12 20 ++ lin.extractLsb' 12 10 ++ 0#2 := by
  rw [pteAddr]
  refine BitVec.eq_of_getLsbD_eq fun i hi => ?_
  simp only [BitVec.getLsbD_append]
  interval_cases i <;> simp

/-- A table entry lies at a multiple of four, so its bytes do not wrap. -/
theorem entrySpan_eq (x : BitVec 20) (y : BitVec 10) :
    entrySpan (x ++ y ++ 0#2 : Dword) = linearBytes (x ++ y ++ 0#2 : Dword) 4 := by
  have aligned : (x ++ y ++ 0#2 : Dword).toNat = (x.toNat * 1024 + y.toNat) * 4 := by
    simp only [append_toNat, BitVec.toNat_ofNat]
    omega
  have hx := x.isLt
  have hy := y.isLt
  simp only [entrySpan, linearBytes, aligned]
  have wrap (k : Nat) (hk : k < 4) : ((x.toNat * 1024 + y.toNat) * 4 + k) % 2 ^ 32 = (x.toNat * 1024 + y.toNat) * 4 + k :=
    Nat.mod_eq_of_lt (by omega)
  simp only [List.range_succ, List.range_zero, List.nil_append, List.map_cons, List.map_nil, List.cons_append,
    wrap 0 (by decide), wrap 1 (by decide), wrap 2 (by decide), wrap 3 (by decide)]
  rfl

/-- The table entry at a physical address. -/
def tableEntry (m : Memory) (a : Dword) : Dword := m.load (linearBytes a 4)

/-- A table entry written, unless it holds the value already (R201). -/
def putEntry (m : Memory) (a e : Dword) : Memory := if tableEntry m a = e then m else m.store (linearBytes a 4) e

theorem updateEntry_apply {a : Dword} (ha : entrySpan a = linearBytes a 4) (e : Dword) (s : State) :
    updateEntry a (tableEntry s.mem a) e s = .ok () { s with mem := putEntry s.mem a e } := by
  unfold updateEntry putEntry
  by_cases h : tableEntry s.mem a = e
  · rw [if_pos h, h, bne_self_eq_false, when_false]
  · rw [if_neg h, bne_iff_ne.mpr h, when_true, storeSpan_apply, ha]

/-! ## The TLB -/

theorem tlbFind_lt {tlb : List TlbEntry} {tag : BitVec 20} {w : Nat} (h : tlbFind tlb tag = some w) : w < 4 := by
  have mem := List.mem_of_find?_eq_some h
  simp only [tlbWays, List.mem_cons, List.not_mem_nil, or_false] at mem
  omega

/-- A way holds a valid translation of a page. -/
def holdsPage (tlb : List TlbEntry) (tag : BitVec 20) (w : Nat) : Prop :=
  (tlbEntry tlb (tlbBase tag + w)).valid = true ∧ (tlbEntry tlb (tlbBase tag + w)).tag = tag

theorem holdsPage_iff (tlb : List TlbEntry) (tag : BitVec 20) (w : Nat) :
    holdsPage tlb tag w ↔
      ((tlbEntry tlb (tlbBase tag + w)).valid && (tlbEntry tlb (tlbBase tag + w)).tag == tag) = true := by
  rw [Bool.and_eq_true, beq_iff_eq, holdsPage]

theorem holdsPage_of_find {tlb : List TlbEntry} {tag : BitVec 20} {w : Nat} (h : tlbFind tlb tag = some w) :
    holdsPage tlb tag w :=
  (holdsPage_iff tlb tag w).mpr
    (List.find?_some (p := fun w => (tlbEntry tlb (tlbBase tag + w)).valid && (tlbEntry tlb (tlbBase tag + w)).tag == tag) h)

theorem tlbFind_of_holds {tlb : List TlbEntry} {tag : BitVec 20} {w : Nat} (hw : w < 4) (h : holdsPage tlb tag w)
    (one : ∀ k, k < 4 → holdsPage tlb tag k → k = w) : tlbFind tlb tag = some w := by
  cases found : tlbFind tlb tag with
  | some k => rw [one k (tlbFind_lt found) (holdsPage_of_find found)]
  | none =>
    have no := List.find?_eq_none.mp found w (by
      simp only [tlbWays, List.mem_cons, List.not_mem_nil, or_false]
      omega)
    exact absurd ((holdsPage_iff tlb tag w).mp h) no

/-- With its one valid translation dropped the TLB has none of the page. -/
theorem not_holdsPage_dropped {tlb : List TlbEntry} {tag : BitVec 20} {w : Nat} (h : holdsPage tlb tag w)
    (one : ∀ k, k < 4 → holdsPage tlb tag k → k = w) {k : Nat} (lt : k < 4) :
    ¬holdsPage (tlb.set (tlbBase tag + w) (tlbEntry tlb (tlbBase tag + w)).invalid) tag k := by
  have range : tlbBase tag + w < tlb.length := by
    by_contra no
    have empty : tlbEntry tlb (tlbBase tag + w) = TlbEntry.empty := List.getD_eq_default _ _ (Nat.not_lt.mp no)
    obtain ⟨valid, -⟩ := h
    rw [empty] at valid
    exact Bool.noConfusion valid
  intro still
  by_cases hk : k = w
  · obtain ⟨valid, -⟩ := still
    rw [hk, tlbEntry, List.getD_eq_getElem?_getD, List.getElem?_set_self range] at valid
    exact Bool.noConfusion valid
  · refine hk (one k lt ?_)
    have other : tlbEntry (tlb.set (tlbBase tag + w) (tlbEntry tlb (tlbBase tag + w)).invalid) (tlbBase tag + k) =
        tlbEntry tlb (tlbBase tag + k) := by
      simp only [tlbEntry, List.getD_eq_getElem?_getD]
      rw [List.getElem?_set_ne (by omega)]
    rw [holdsPage, other] at still
    exact still

theorem tlbVictim_ok (tag : BitVec 20) (s : State) : ∃ w n, w < 4 ∧ tlbVictim tag s = .ok w { s with draws := n } := by
  unfold tlbVictim
  cases found : tlbFind s.paging.tlb tag with
  | some w =>
    refine ⟨w, s.draws, tlbFind_lt found, ?_⟩
    simp only [exec_bind_apply, getState_apply, found]
    rfl
  | none =>
    obtain ⟨v, hv⟩ := draw_ok s
    refine ⟨v.toNat % 4, s.draws + 1, Nat.mod_lt _ (by decide), ?_⟩
    simp only [exec_bind_apply, getState_apply, found, hv]
    rfl

/-- A new translation is cached in a way of its set, or not at all (R216, log entry 19). -/
theorem tlbInsert_ok (e : TlbEntry) (s : State) :
    ∃ n tlb, (tlb = s.paging.tlb ∨ ∃ w, w < 4 ∧ tlb = s.paging.tlb.set (tlbBase e.tag + w) e) ∧
      tlbInsert e s = .ok () { s with draws := n, paging := { s.paging with tlb := tlb } } := by
  obtain ⟨w, n, lt, victim⟩ := tlbVictim_ok e.tag { s with draws := s.draws + 1 }
  unfold tlbInsert
  simp only [exec_bind_apply, drawChoice_apply, victim]
  cases Config.freeChoice s.draws
  · exact ⟨n, _, .inl rfl, rfl⟩
  · exact ⟨n, _, .inr ⟨w, lt, rfl⟩, rfl⟩

/-! ## Walks (R200) -/

theorem rightsAllow_iff (rights : Nat) (write user : Bool) :
    rightsAllow rights write user = true ↔ user = false ∨ (2 ≤ rights ∧ (write = true → rights = 3)) := by
  unfold rightsAllow
  cases user <;> cases write <;> simp

theorem pageFaultCode_eq (present write user : Bool) :
    pageFaultCode present write user = BitVec.ofNat 16 (present.toNat + 2 * write.toNat + 4 * user.toNat) := by
  cases present <;> cases write <;> cases user <;> rfl

/-- The outcome of a page fault (R212). -/
def State.pageFaulted (s : State) (lin : Dword) (present write user : Bool) (m : Memory) {α : Type} :
    EStateM.Result Stop State α :=
  .error (.exc (.page (BitVec.ofNat 16 (present.toNat + 2 * write.toNat + 4 * user.toNat))))
    { s with mem := m, sys := { s.sys with cr2 := lin } }

theorem pageFault_apply {α : Type} (lin : Dword) (present write user : Bool) (m : Memory) (s : State) :
    (pageFault lin present write user : Exec α) { s with mem := m } = s.pageFaulted lin present write user m := by
  unfold pageFault State.pageFaulted
  rw [pageFaultCode_eq]
  rfl

section Walk

variable (s : State) (lin : Dword) (write user : Bool)

/-- The addresses and entries that a walk of the tables reads, and what it leaves of memory (R191, R201). -/
def dirAddr : Dword := s.sys.cr3.extractLsb' 12 20 ++ lin.extractLsb' 22 10 ++ 0#2

def dirEntry : Dword := tableEntry s.mem (dirAddr s lin)

def dirMarked : Memory := putEntry s.mem (dirAddr s lin) (dirEntry s lin ||| 0x20)

def pageAddr : Dword := (dirEntry s lin).extractLsb' 12 20 ++ lin.extractLsb' 12 10 ++ 0#2

def pageEntry : Dword := tableEntry (dirMarked s lin) (pageAddr s lin)

def walkRights : Nat := min ((dirEntry s lin).extractLsb' 1 2).toNat ((pageEntry s lin).extractLsb' 1 2).toNat

def pageMarked : Memory :=
  putEntry (dirMarked s lin) (pageAddr s lin) (pageEntry s lin ||| 0x20 ||| (if write then 0x40 else 0))

def walkedEntry : TlbEntry :=
  { valid := true, tag := lin.extractLsb' 12 20, phys := (pageEntry s lin).extractLsb' 12 20
    dirty := write || (pageEntry s lin).getLsbD 6, user := decide (2 ≤ walkRights s lin)
    writable := walkRights s lin % 2 == 1 }

theorem dirSpan : entrySpan (pdeAddr s.sys.cr3 lin) = linearBytes (dirAddr s lin) 4 := by
  rw [pdeAddr_eq]
  exact entrySpan_eq _ _

theorem pageSpan : entrySpan (pteAddr (dirEntry s lin) lin) = linearBytes (pageAddr s lin) 4 := by
  rw [pteAddr_eq]
  exact entrySpan_eq _ _

theorem load_dirEntry : Memory.load s.mem (entrySpan (pdeAddr s.sys.cr3 lin)) = dirEntry s lin := by
  rw [dirSpan]
  rfl

theorem updateEntry_dir :
    updateEntry (pdeAddr s.sys.cr3 lin) (dirEntry s lin) (dirEntry s lin ||| bitA) s =
      .ok () { s with mem := dirMarked s lin } := by
  have h := dirSpan s lin
  rw [pdeAddr_eq] at h ⊢
  exact updateEntry_apply h _ s

theorem updateEntry_page :
    updateEntry (pteAddr (dirEntry s lin) lin) (pageEntry s lin)
        (pageEntry s lin ||| bitA ||| (if write then bitDirty else 0)) { s with mem := dirMarked s lin } =
      .ok () { s with mem := pageMarked s lin write } := by
  have h := pageSpan s lin
  rw [pteAddr_eq] at h ⊢
  exact updateEntry_apply h _ { s with mem := dirMarked s lin }

theorem walk_noTable (h : (dirEntry s lin).getLsbD 0 = false) :
    walk lin write user s = s.pageFaulted lin false write user s.mem := by
  unfold walk
  simp only [exec_bind_apply, getState_apply, loadSpan_apply, load_dirEntry, h, Bool.false_eq_true, if_false]
  exact pageFault_apply lin false write user s.mem s

theorem load_pageEntry :
    Memory.load (dirMarked s lin) (entrySpan (pteAddr (dirEntry s lin) lin)) = pageEntry s lin := by
  rw [pageSpan]
  rfl

variable (present : (dirEntry s lin).getLsbD 0 = true)
include present

theorem walk_noPage (h : (pageEntry s lin).getLsbD 0 = false) :
    walk lin write user s = s.pageFaulted lin false write user (dirMarked s lin) := by
  unfold walk
  simp only [exec_bind_apply, getState_apply, loadSpan_apply, load_dirEntry, present, if_true, updateEntry_dir,
    load_pageEntry, h, Bool.false_eq_true, if_false]
  exact pageFault_apply lin false write user (dirMarked s lin) s

theorem walk_denied (h : (pageEntry s lin).getLsbD 0 = true)
    (denied : ¬(user = false ∨ (2 ≤ walkRights s lin ∧ (write = true → walkRights s lin = 3)))) :
    walk lin write user s = s.pageFaulted lin true write user (dirMarked s lin) := by
  have no : rightsAllow (pageRights (dirEntry s lin) (pageEntry s lin)) write user = false :=
    eq_false_of_ne_true (mt (rightsAllow_iff _ _ _).mp denied)
  unfold walk
  simp only [exec_bind_apply, getState_apply, loadSpan_apply, load_dirEntry, present, if_true, updateEntry_dir,
    load_pageEntry, h, no, Bool.false_eq_true, if_false]
  exact pageFault_apply lin true write user (dirMarked s lin) s

theorem walk_maps (h : (pageEntry s lin).getLsbD 0 = true)
    (allowed : user = false ∨ (2 ≤ walkRights s lin ∧ (write = true → walkRights s lin = 3))) :
    ∃ n tlb, (tlb = s.paging.tlb ∨
        ∃ w, w < 4 ∧ tlb = s.paging.tlb.set (tlbBase (lin.extractLsb' 12 20) + w) (walkedEntry s lin write)) ∧
      walk lin write user s =
        .ok (walkedEntry s lin write)
          { s with mem := pageMarked s lin write, draws := n, paging := { s.paging with tlb := tlb } } := by
  have rights : pageRights (dirEntry s lin) (pageEntry s lin) = walkRights s lin := rfl
  have yes : rightsAllow (walkRights s lin) write user = true := (rightsAllow_iff _ _ _).mpr allowed
  have dirty : (pageEntry s lin ||| bitA ||| (if write then bitDirty else 0)).getLsbD 6 =
      (write || (pageEntry s lin).getLsbD 6) := by
    cases write <;> simp [bitA, bitDirty]
  obtain ⟨n, tlb, cached, inserted⟩ := tlbInsert_ok (walkedEntry s lin write) { s with mem := pageMarked s lin write }
  refine ⟨n, tlb, cached, ?_⟩
  rw [walkedEntry] at inserted
  unfold walk
  simp only [exec_bind_apply, getState_apply, loadSpan_apply, load_dirEntry, present, if_true, updateEntry_dir,
    load_pageEntry, h, rights, yes, updateEntry_page, dirty, inserted, exec_pure_apply]
  rfl

end Walk

/-! ## Translation -/

section Translate

variable {s : State} {lin : Dword} {write user : Bool}

theorem tlbPermits_iff (e : TlbEntry) (write user : Bool) :
    tlbPermits e write user = true ↔
      (user = false ∨ (e.user = true ∧ (write = true → e.writable = true))) ∧ (write = true → e.dirty = true) := by
  unfold tlbPermits
  cases user <;> cases write <;> simp

variable (paged : ¬s.unpaged)
include paged

theorem paging_on : (s.pe && s.pg) = true := Bool.eq_true_of_not_eq_false paged

/-- Where no cached translation permits the access the tables are walked. -/
theorem translate_walks
    (h : ∀ w, w < 4 → holdsPage s.paging.tlb (lin.extractLsb' 12 20) w →
      tlbPermits (tlbEntry s.paging.tlb (tlbBase (lin.extractLsb' 12 20) + w)) write user = false) :
    translate lin write user s = (walk lin write user >>= fun e => pure (framed e lin)) s := by
  unfold translate
  simp only [exec_bind_apply, getState_apply, paging_on paged, if_true]
  cases found : tlbFind s.paging.tlb (lin.extractLsb' 12 20) with
  | none => simp only [exec_bind_apply]
  | some w =>
    simp only [h w (tlbFind_lt found) (holdsPage_of_find found), Bool.false_eq_true, if_false, exec_bind_apply]

/-- A cached translation is used, or, where the tables say something else, may be dropped first (R217, log entry 18). -/
theorem translate_cached {w : Nat} (found : tlbFind s.paging.tlb (lin.extractLsb' 12 20) = some w)
    (permits : tlbPermits (tlbEntry s.paging.tlb (tlbBase (lin.extractLsb' 12 20) + w)) write user = true) :
    translate lin write user s =
      if tlbFresh s (tlbEntry s.paging.tlb (tlbBase (lin.extractLsb' 12 20) + w)) lin then
        .ok (framed (tlbEntry s.paging.tlb (tlbBase (lin.extractLsb' 12 20) + w)) lin) s
      else if Config.freeChoice s.draws then
        .ok (framed (tlbEntry s.paging.tlb (tlbBase (lin.extractLsb' 12 20) + w)) lin) { s with draws := s.draws + 1 }
      else
        (walk lin write user >>= fun e => pure (framed e lin))
          { s with
            draws := s.draws + 1
            paging := { s.paging with
              tlb := s.paging.tlb.set (tlbBase (lin.extractLsb' 12 20) + w)
                (tlbEntry s.paging.tlb (tlbBase (lin.extractLsb' 12 20) + w)).invalid } } := by
  unfold translate
  simp only [exec_bind_apply, getState_apply, paging_on paged, if_true, found, permits]
  cases tlbFresh s (tlbEntry s.paging.tlb (tlbBase (lin.extractLsb' 12 20) + w)) lin
  · simp only [Bool.false_eq_true, if_false, exec_bind_apply, drawChoice_apply]
    cases Config.freeChoice s.draws
    · simp only [Bool.false_eq_true, if_false, exec_bind_apply, setTlb, update_apply]
    · rfl
  · rfl

end Translate

theorem tlbFresh_iff (s : State) (e : TlbEntry) (lin : Dword) :
    tlbFresh s e lin = true ↔
      (dirEntry s lin).getLsbD 0 = true ∧ (tableEntry s.mem (pageAddr s lin)).getLsbD 0 = true ∧
      (dirEntry s lin).getLsbD 5 = true ∧ (tableEntry s.mem (pageAddr s lin)).getLsbD 5 = true ∧
      (tableEntry s.mem (pageAddr s lin)).extractLsb' 12 20 = e.phys ∧
      (tableEntry s.mem (pageAddr s lin)).getLsbD 6 = e.dirty ∧
      (2 ≤ pageRights (dirEntry s lin) (tableEntry s.mem (pageAddr s lin)) ↔ e.user = true) ∧
      (pageRights (dirEntry s lin) (tableEntry s.mem (pageAddr s lin)) % 2 = 1 ↔ e.writable = true) := by
  have page : Memory.load s.mem (entrySpan (pteAddr (dirEntry s lin) lin)) = tableEntry s.mem (pageAddr s lin) := by
    rw [pageSpan]
    rfl
  have bits (b : Bool) (c : Prop) [Decidable c] : (decide c == b) = true ↔ (c ↔ b = true) := by
    by_cases hc : c <;> cases b <;> simp [hc]
  have odd (r : Nat) (b : Bool) : (r % 2 == 1) = b ↔ (r % 2 = 1 ↔ b = true) := by
    rw [Bool.eq_iff_iff, beq_iff_eq]
  unfold tlbFresh walkEntries
  simp only [load_dirEntry, page]
  by_cases present : ((dirEntry s lin).getLsbD 0 && (tableEntry s.mem (pageAddr s lin)).getLsbD 0) = true
  · rw [if_pos present]
    rw [Bool.and_eq_true] at present
    simp only [Bool.and_eq_true, beq_iff_eq, bits, odd, present, true_and, and_assoc]
    exact ⟨fun ⟨phys, dirA, pageA, rest⟩ => ⟨dirA, pageA, phys, rest⟩, fun ⟨dirA, pageA, phys, rest⟩ => ⟨phys, dirA, pageA, rest⟩⟩
  · rw [if_neg present]
    rw [Bool.and_eq_true] at present
    constructor
    · exact fun h => Bool.noConfusion h
    · exact fun ⟨hd, ht, _⟩ => absurd ⟨hd, ht⟩ present

/-- The bytes of an access: one page, or two (R165, D16). -/
theorem linSpan_one {s t : State} {lin p : Dword} {n : Nat} {write user : Bool} (h : translate lin write user s = .ok p t)
    (hn : n ≤ 4096 - lin.toNat % 4096) :
    linSpan lin n write user s = .ok ((List.range n).map fun k => p.toNat + k) t := by
  unfold linSpan
  simp only [exec_bind_apply, h, hn, if_true, exec_pure_apply]

theorem linSpan_stop {s t : State} {lin : Dword} {n : Nat} {write user : Bool} {x : Stop}
    (h : translate lin write user s = .error x t) : linSpan lin n write user s = .error x t := by
  unfold linSpan
  simp only [exec_bind_apply, h]

section TwoPages

variable {s t u : State} {lin p : Dword} {n : Nat} {write user : Bool} (h : translate lin write user s = .ok p t)
  (hn : 4096 - lin.toNat % 4096 < n)
include h hn

theorem linSpan_two {q : Dword}
    (k : translate (lin + BitVec.ofNat 32 (4096 - lin.toNat % 4096)) write user t = .ok q u) :
    linSpan lin n write user s =
      .ok (((List.range (4096 - lin.toNat % 4096)).map fun k => p.toNat + k) ++
        (List.range (n - (4096 - lin.toNat % 4096))).map fun k => q.toNat + k) u := by
  unfold linSpan
  simp only [exec_bind_apply, h, Nat.not_le.mpr hn, if_false, k, exec_pure_apply]

theorem linSpan_second_stop {x : Stop}
    (k : translate (lin + BitVec.ofNat 32 (4096 - lin.toNat % 4096)) write user t = .error x u) :
    linSpan lin n write user s = .error x u := by
  unfold linSpan
  simp only [exec_bind_apply, h, Nat.not_le.mpr hn, if_false, k]

end TwoPages

/-- Settles O51: the walk case by case, the cached translation, and the pages of an access one after the other. -/
theorem pageWalksTranslateOrFault : Obligations.PageWalksTranslateOrFault := by
  unfold Obligations.PageWalksTranslateOrFault
  intro s lin write user tag low set cached holds permits entry put pa pde m1 ta pte rights allowed m2 fault page
  refine ⟨fun h => translate_unpaged h lin write user, fun paged no => ?_, fun paged w hw hold permit one => ?_,
    fun n _ => ?_⟩
  · have walks : translate lin write user s = (walk lin write user >>= fun e => pure (framed e lin)) s :=
      translate_walks paged fun w hw hold => eq_false_of_ne_true fun h => no w hw hold ((tlbPermits_iff _ _ _).mp h)
    rw [walks]
    refine ⟨fun hd => ?_, fun hd ht => ?_, fun hd ht denied => ?_, fun hd ht ok => ?_⟩
    · rw [exec_bind_apply, walk_noTable s lin write user hd]
      rfl
    · rw [exec_bind_apply, walk_noPage s lin write user hd ht]
      rfl
    · rw [exec_bind_apply, walk_denied s lin write user hd ht denied]
      rfl
    · obtain ⟨k, tlb, cache, walked⟩ := walk_maps s lin write user hd ht ok
      refine ⟨k, tlb, cache, ?_⟩
      rw [exec_bind_apply, walked]
      rfl
  · have found := tlbFind_of_holds hw hold one
    have permits' := (tlbPermits_iff _ _ _).mpr permit
    intro e dropped pte' fresh
    have fresh_iff := tlbFresh_iff s e lin
    have used := translate_cached (write := write) (user := user) paged found permits'
    refine ⟨fun h => used.trans (if_pos (fresh_iff.mpr h)), fun h => ?_⟩
    have stale := used.trans (if_neg (mt fresh_iff.mp h))
    cases choice : Config.freeChoice s.draws
    · refine .inr (stale.trans ((if_neg (by rw [choice]; exact Bool.false_ne_true)).trans ?_))
      exact (translate_walks (s := dropped) paged fun k lt hk => absurd hk (not_holdsPage_dropped hold one lt)).symm
    · exact .inl (stale.trans (if_pos choice))
  · intro room next from_
    exact ⟨fun x t h => linSpan_stop h, fun p t h => ⟨fun hn => linSpan_one h hn, fun hn =>
      ⟨fun x u k => linSpan_second_stop h hn k, fun q u k => linSpan_two h hn k⟩⟩⟩

end Sys2Proof.Machine
end


section
/-! Far JMP, CALL and RET in real mode and virtual M8086 mode (spec/46_control_transfer.md R581). -/

namespace Sys2Proof.Machine

/-! ## What the far transfers share -/

theorem checkTarget_passes {limit off : Dword} (h : off.toNat ≤ limit.toNat) (e : Exc) (s : State) :
    checkTarget limit off e s = .ok () s := by
  rw [checkTarget, decide_eq_true h, require_true]

theorem checkTarget_fails {limit off : Dword} (h : limit.toNat < off.toNat) (e : Exc) (s : State) :
    checkTarget limit off e s = .error (.exc e) s := by
  rw [checkTarget, decide_eq_false (Nat.not_le.mpr h), require_false]

/-- A selector pushed as a doubleword draws its upper half (log entry 27). -/
def State.selectorDrawn (s : State) : State := if s.ctx.op32 then { s with draws := s.draws + 1 } else s

theorem selectorDrawn_mode (s : State) : SameMode s s.selectorDrawn := by
  unfold State.selectorDrawn
  split <;> exact ⟨rfl, rfl, rfl⟩

theorem selectorSlot_ok (s : State) (sel : Word) :
    ∃ hi : Word, selectorSlot s.opSize sel s = .ok (hi ++ sel) s.selectorDrawn := by
  unfold State.selectorDrawn
  cases h : s.ctx.op32
  · refine ⟨0, ?_⟩
    rw [opSize_w h, if_neg Bool.false_ne_true]
    show EStateM.Result.ok (sel.setWidth 32) s = _
    refine congrArg (fun v => EStateM.Result.ok v s) (BitVec.eq_of_toNat_eq ?_)
    have lt := sel.isLt
    rw [append_toNat, BitVec.toNat_setWidth, Nat.mod_eq_of_lt (by omega)]
    exact (Nat.zero_add _).symm
  · obtain ⟨v, hv⟩ := draw_ok s
    refine ⟨v.extractLsb' 16 16, ?_⟩
    rw [opSize_d h, if_pos rfl]
    simp only [selectorSlot, exec_bind_apply, hv, exec_pure_apply]

/-- The offset and the selector of a pointer in memory (R576, R578). -/
theorem farPointer_mem {s a b c : State} {m : Mem} {sg : Seg} {o off v : Dword} (ea : effAddr m s = .ok (sg, o) a)
    (ho : memRead sg o s.opSize.bytes a = .ok off b) (hv : memRead sg (o + BitVec.ofNat 32 s.opSize.bytes) 2 b = .ok v c) :
    s.farPointer c (.jmpFarMem m) (.callFarMem m) (v.setWidth 16) off :=
  .inr ⟨m, sg, o, a, b, v, rfl, rfl, ea, ho, hv, rfl⟩

theorem farPointer_direct (s : State) (p : FarPtr) :
    s.farPointer s (.jmpFar p) (.callFar p) p.sel (fullOffset p.off) := .inl ⟨p, rfl, rfl, rfl, rfl, rfl⟩

theorem accessed_farPointer {s c : State} {jmp call : Instr} {sel : Word} {off : Dword}
    (h : s.farPointer c jmp call sel off) : accessed s c := by
  obtain ⟨p, -, -, -, -, rfl⟩ | ⟨m, sg, o, a, b, v, -, -, ea, ho, hv, -⟩ := h
  · exact accessed_refl _
  · exact accessed_trans (finds_effAddr m s _ a ea) (accessed_trans (finds_memRead _ _ _ a _ b ho) (finds_memRead _ _ _ b _ c hv))

/-- A far transfer behind its pointer, as an instruction of the state before. -/
theorem runInstr_from_ok {s c t : State} {body : Exec Unit} (h : body c = .ok () t) :
    runInstr (fun _ => body c) s = .next (retire s.flags.tf t) := runInstr_ok h

theorem runInstr_from_stop {s c t : State} {body : Exec Unit} {x : Stop} (h : body c = .error x t) :
    runInstr (fun _ => body c) s = afterStop s x t := runInstr_stop h

/-! ## Real and virtual M8086 mode -/

theorem sameMode_prot {s t : State} (h : SameMode s t) : t.prot = s.prot := by
  obtain ⟨-, hf, hy⟩ := h
  simp only [State.prot, State.pe, hf, hy]

/-- What CS takes outside protected mode (R150, R152). -/
def State.farCode (s : State) (sel : Word) : SegReg := if s.pe then segV86 sel else segReal s.segs.cs sel

theorem codeReal_eq {s t : State} (hp : s.prot = false) (h : SameMode s t) (sel : Word) : t.codeReal sel = s.farCode sel := by
  obtain ⟨hs, hf, hy⟩ := h
  have vm : (s.pe && s.flags.vm) = s.pe := by
    rw [State.prot] at hp
    revert hp
    cases s.pe <;> cases s.flags.vm <;> decide
  have mode : t.v86 = s.pe := by
    rw [← vm]
    simp only [State.v86, State.pe, hf, hy]
  rw [State.codeReal, State.farCode, mode, hs]

/-- A far transfer outside protected mode done from a state. -/
def State.farGone (s u : State) (sel : Word) (off : Dword) : State :=
  { u with segs := { u.segs with cs := s.farCode sel }, ctx := { u.ctx with nextEip := off } }

section Real

variable {s c : State} (hp : s.prot = false) (hc : accessed s c) {sel : Word} {off : Dword}
include hp

theorem loadCodeReal_goes {u : State} (hu : SameMode s u) :
    (do loadCodeReal sel; setNext off) u = .ok () (s.farGone u sel off) := by
  simp only [exec_bind_apply, loadCodeReal_apply, setNext_apply, codeReal_eq hp hu]
  rfl

include hc

theorem farJumpReal_ok (h : off.toNat ≤ s.segs.cs.limit.toNat) : farJump sel off c = .ok () (s.farGone c sel off) := by
  have mode := sameMode_accessed hc
  obtain ⟨-, -, -, hs, -⟩ := accessed_keeps hc
  have prot : c.prot = false := (sameMode_prot mode).trans hp
  rw [← hs] at h
  have go := loadCodeReal_goes (sel := sel) (off := off) hp mode
  simp only [farJump, exec_bind_apply, getState_apply, prot, Bool.false_eq_true, if_false, farJumpReal,
    checkTarget_passes h]
  simpa only [exec_bind_apply] using go

theorem farJumpReal_beyond (h : s.segs.cs.limit.toNat < off.toNat) :
    farJump sel off c = .error (.exc (.protection 0)) c := by
  have mode := sameMode_accessed hc
  obtain ⟨-, -, -, hs, -⟩ := accessed_keeps hc
  have prot : c.prot = false := (sameMode_prot mode).trans hp
  rw [← hs] at h
  simp only [farJump, exec_bind_apply, getState_apply, prot, Bool.false_eq_true, if_false, farJumpReal,
    checkTarget_fails h]

theorem farCallReal_beyond (h : s.segs.cs.limit.toNat < off.toNat) :
    farCall sel off c = .error (.exc (.protection 0)) c := by
  have mode := sameMode_accessed hc
  obtain ⟨-, -, -, hs, -⟩ := accessed_keeps hc
  have prot : c.prot = false := (sameMode_prot mode).trans hp
  rw [← hs] at h
  simp only [farCall, exec_bind_apply, getState_apply, prot, Bool.false_eq_true, if_false, farCallReal,
    checkTarget_fails h]

/-- A CALL within the limit is its two pushes, and then the transfer. -/
theorem farCallReal_within (h : off.toNat ≤ s.segs.cs.limit.toNat) :
    ∃ hi : Word, farCall sel off c =
      (do
        let slots ← claimSlots s.opSize.bytes [hi ++ s.segs.cs.sel, s.ctx.nextEip]
        fillSlots slots [hi ++ s.segs.cs.sel, s.ctx.nextEip]
        loadCodeReal sel
        setNext off) c.selectorDrawn := by
  have mode := sameMode_accessed hc
  obtain ⟨-, -, -, hs, -, -, -, hctx, -⟩ := accessed_keeps hc
  have prot : c.prot = false := (sameMode_prot mode).trans hp
  have size : c.opSize = s.opSize := by rw [State.opSize, hctx, State.opSize]
  obtain ⟨hi, hsel⟩ := selectorSlot_ok c c.segs.cs.sel
  refine ⟨hi, ?_⟩
  rw [← hs] at h
  rw [← hs, ← hctx, ← size]
  simp only [farCall, exec_bind_apply, getState_apply, prot, Bool.false_eq_true, if_false, farCallReal,
    checkTarget_passes h, hsel]

theorem farCallReal_stop_first {y : State} {x : Stop} (h : off.toNat ≤ s.segs.cs.limit.toNat)
    (first : claimSlot s.opSize.bytes c.selectorDrawn = .error x y) : farCall sel off c = .error x y := by
  obtain ⟨hi, within⟩ := farCallReal_within (sel := sel) hp hc h
  rw [within, exec_bind_apply, claimSlots_two, first]

theorem farCallReal_stop_second {u y : State} {x : Stop} {sp : List Nat} (h : off.toNat ≤ s.segs.cs.limit.toNat)
    (first : claimSlot s.opSize.bytes c.selectorDrawn = .ok sp u) (second : claimSlot s.opSize.bytes u = .error x y) :
    farCall sel off c = .error x y := by
  obtain ⟨hi, within⟩ := farCallReal_within (sel := sel) hp hc h
  rw [within, exec_bind_apply, claimSlots_two, first]
  simp only [second]

theorem farCallReal_ok {u w : State} {sp sp' : List Nat} (h : off.toNat ≤ s.segs.cs.limit.toNat)
    (first : claimSlot s.opSize.bytes c.selectorDrawn = .ok sp u) (second : claimSlot s.opSize.bytes u = .ok sp' w) :
    ∃ hi : Word, farCall sel off c =
      .ok () { s.farGone w sel off with
        mem := Memory.store (Memory.store w.mem sp (hi ++ s.segs.cs.sel)) sp' s.ctx.nextEip } := by
  obtain ⟨hi, within⟩ := farCallReal_within (sel := sel) hp hc h
  refine ⟨hi, ?_⟩
  have mode : SameMode s w := sameMode_trans (sameMode_trans (sameMode_trans (sameMode_accessed hc) (selectorDrawn_mode c))
    (sameMode_claimSlot first)) (sameMode_claimSlot second)
  rw [within, exec_bind_apply, claimSlots_two, first]
  simp only [second]
  simp only [exec_bind_apply, fillSlots_apply, List.zip_cons_cons, List.zip_nil_right, List.foldl_cons, List.foldl_nil]
  have go := loadCodeReal_goes (sel := sel) (off := off)
    (u := { w with mem := Memory.store (Memory.store w.mem sp (hi ++ s.segs.cs.sel)) sp' s.ctx.nextEip }) hp mode
  rw [exec_bind_apply] at go
  exact go

end Real

/-! ## Far RET -/

section Return

variable {s a b : State} (hp : s.prot = false) {off sel : Dword} (ho : peek 0 s.opSize.bytes s = .ok off a)
  (hs : peek s.opSize.bytes 2 a = .ok sel b)
include hp ho hs

theorem farReturnReal_ok (n : Nat) (h : off.toNat ≤ s.segs.cs.limit.toNat) :
    farReturn n s = .ok () (s.farGone (b.popped (2 * s.opSize.bytes + n)) (sel.setWidth 16) off) := by
  have acc : accessed s b := accessed_trans (finds_peek _ _ _ _ _ ho) (finds_peek _ _ _ _ _ hs)
  have mode : SameMode s (b.popped (2 * s.opSize.bytes + n)) := by
    obtain ⟨hsegs, hflags, hsys⟩ := sameMode_accessed acc
    exact ⟨hsegs, hflags, hsys⟩
  have go := loadCodeReal_goes (sel := sel.setWidth 16) (off := off) hp mode
  rw [exec_bind_apply] at go
  simp only [farReturn, exec_bind_apply, getState_apply, hp, Bool.false_eq_true, if_false, farReturnReal, ho, hs,
    checkTarget_passes h, release_apply, low16]
  exact go

theorem farReturnReal_beyond (n : Nat) (h : s.segs.cs.limit.toNat < off.toNat) :
    farReturn n s = .error (.exc (.protection 0)) b := by
  simp only [farReturn, exec_bind_apply, getState_apply, hp, Bool.false_eq_true, if_false, farReturnReal, ho, hs,
    checkTarget_fails h]

end Return

/-- The two forms of far RET release what their immediate says. -/
theorem farReturn_forms {n : BitVec 16} {i : Instr} {extra : Nat}
    (h : (i, extra) ∈ [(Instr.retFar, 0), (.retFarImm n, n.toNat)]) (s : State) : exec i s = runInstr (farReturn extra) s := by
  simp only [List.mem_cons, Prod.mk.injEq, List.not_mem_nil, or_false] at h
  obtain ⟨rfl, rfl⟩ | ⟨rfl, rfl⟩ := h <;> rfl

theorem farCode_eq (s : State) (sel : Word) :
    s.farCode sel =
      if s.pe then
        { sel := sel, base := BitVec.ofNat 32 (16 * sel.toNat), limit := 0xFFFF, valid := true
          attr := { p := true, dpl := 3, s := true, typ := 0b0011, g := false, db := false } }
      else { s.segs.cs with sel := sel, base := BitVec.ofNat 32 (16 * sel.toNat), valid := true } := by
  rw [State.farCode, segV86, segReal, realBase_eq]
  rfl

theorem selectorDrawn_eq {s c : State} (hc : accessed s c) :
    c.selectorDrawn = if s.ctx.op32 then { c with draws := c.draws + 1 } else c := by
  obtain ⟨-, -, -, -, -, -, -, hctx, -⟩ := accessed_keeps hc
  rw [State.selectorDrawn, hctx]

/-- Settles O29: the target is checked first, CALL makes its two pushes, and CS is loaded as the mode says. -/
theorem realFarTransfersLoadCs : Obligations.RealFarTransfersLoadCs := by
  unfold Obligations.RealFarTransfersLoadCs
  intro s a b c u w p m n sg o off sel sp sp' hp k limit cs goes drawn jumps calls
  have goes_eq (u : State) (sel : Word) (off : Dword) : s.farGone u sel off = goes u sel off := by
    rw [State.farGone, farCode_eq]
  have jump {c : State} {jmp call : Instr} {sel : Word} {off : Dword} (h : s.farPointer c jmp call sel off) :
      jumps jmp c sel off := by
    have acc := accessed_farPointer h
    obtain ⟨hj, -⟩ := exec_farPointer h
    show if _ then _ else _
    split
    next within => rw [hj, runInstr_from_ok (farJumpReal_ok hp acc within), goes_eq]
    next beyond => exact hj.trans (runInstr_from_stop (farJumpReal_beyond hp acc (Nat.not_le.mp beyond)))
  have call {c : State} {jmp call : Instr} {sel : Word} {off : Dword} (h : s.farPointer c jmp call sel off) :
      calls call c sel off := by
    have acc := accessed_farPointer h
    have hdrawn : c.selectorDrawn = drawn c := selectorDrawn_eq acc
    obtain ⟨-, hcall⟩ := exec_farPointer h
    refine ⟨fun beyond => ?_, fun within => ⟨fun x y first => ?_, fun first => ⟨fun x y second => ?_, fun second => ?_⟩⟩⟩
    · exact hcall.trans (runInstr_from_stop (farCallReal_beyond hp acc beyond))
    · exact hcall.trans (runInstr_from_stop (farCallReal_stop_first hp acc within (hdrawn ▸ first)))
    · exact hcall.trans (runInstr_from_stop (farCallReal_stop_second hp acc within (hdrawn ▸ first) second))
    · obtain ⟨hi, done⟩ := farCallReal_ok (sel := sel) hp acc within (hdrawn ▸ first) second
      refine ⟨hi, hcall.trans ?_⟩
      rw [runInstr_from_ok done, goes_eq]
  refine ⟨jump (farPointer_direct s p), call (farPointer_direct s p), fun ea ho hv => ?_, fun ho hs i extra hi => ?_⟩
  · exact ⟨jump (farPointer_mem ea ho hv), call (farPointer_mem ea ho hv)⟩
  · show if _ then _ else _
    rw [farReturn_forms hi]
    split
    next within => exact (runInstr_ok (farReturnReal_ok hp ho hs extra within)).trans (by rw [goes_eq])
    next beyond =>
      exact runInstr_exc (farReturnReal_beyond hp ho hs extra (Nat.not_le.mp beyond))

end Sys2Proof.Machine
end


section
/-! Far JMP, CALL and RET to a code segment of the same level in protected mode (spec/46_control_transfer.md R582 to R584,
R595). -/

namespace Sys2Proof.Machine

/-! ## Room for pushes in protected mode -/

theorem pushPtr_pe {s : State} (hp : s.pe = true) (ptr : Dword) (n : Nat) :
    (∃ new, pushPtr ptr n s = .ok new s) ∨ pushPtr ptr n s = .error (.exc (.stack 0)) s := by
  by_cases h : Straddles s.stack32 ptr.toNat n
  · exact .inr (pushPtr_protected h hp)
  · exact .inl ⟨_, pushPtr_apply h⟩

theorem segLinear_ss (off : Dword) (n : Nat) (write : Bool) (s : State) :
    (∃ lin, segLinear .ss off n write s = .ok lin s) ∨ segLinear .ss off n write s = .error (.exc (.stack 0)) s := by
  rw [segLinear_apply]
  split
  · exact .inl ⟨_, rfl⟩
  · exact .inr rfl

/-- In protected mode pushes have room, or there is #12(0). -/
theorem checkPushes_pe {s : State} (hp : s.pe = true) (count n : Nat) (ptr : Dword) :
    checkPushes count n ptr s = .ok () s ∨ checkPushes count n ptr s = .error (.exc (.stack 0)) s := by
  induction count generalizing ptr with
  | zero => exact .inl rfl
  | succ k ih =>
    obtain ⟨new, found⟩ | stop := pushPtr_pe hp ptr n
    · obtain ⟨lin, fits⟩ | stop := segLinear_ss new n true s
      · simp only [checkPushes, exec_bind_apply, found, fits]
        exact ih new
      · exact .inr (by simp only [checkPushes, exec_bind_apply, found, stop])
    · exact .inr (by simp only [checkPushes, exec_bind_apply, stop])

theorem checkPushes_no {s : State} (hp : s.pe = true) {count n : Nat} {ptr : Dword}
    (h : checkPushes count n ptr s ≠ .ok () s) : checkPushes count n ptr s = .error (.exc (.stack 0)) s :=
  (checkPushes_pe hp count n ptr).resolve_left h

/-! ## The descriptor and its checks (R582, R583) -/

theorem sameMode_descAddr {s t : State} (h : SameMode s t) (sel : Word) : descAddr t sel = descAddr s sel := by
  obtain ⟨-, -, hsys⟩ := h
  simp only [descAddr, hsys]

section Descriptor

variable {c : State} {sel : Word} {at_ : Dword}

theorem farDescriptor_null (h : sel &&& 0xFFFC = 0) : farDescriptor sel c = .error (.exc (.protection 0)) c := by
  simp only [farDescriptor, exec_bind_apply, (isNull_iff sel).mpr h, Bool.not_true, require_false]

variable (hu : c.unpaged) (h : sel &&& 0xFFFC ≠ 0)
include hu h

theorem farDescriptor_missing (ha : descAddr c sel = none) :
    farDescriptor sel c = .error (.exc (.protection (sel &&& 0xFFFC))) c := by
  simp only [farDescriptor, exec_bind_apply, (isNull_eq_false sel).mpr h, Bool.not_false, require_true,
    readDesc_missing hu ha, selCode]

theorem farDescriptor_found (ha : descAddr c sel = some at_) : farDescriptor sel c = .ok (descriptorAt c.mem at_) c := by
  simp only [farDescriptor, exec_bind_apply, (isNull_eq_false sel).mpr h, Bool.not_false, require_true,
    readDesc_found hu ha]

end Descriptor

/-- A code segment may be entered at the current level: a conforming one from any level not more privileged, any other from
its own level with an RPL that is not weaker (R583). -/
def State.mayEnter (s : State) (sel : Word) (a : Attr) : Prop :=
  if a.typ.getLsbD 2 then a.dpl.toNat ≤ s.sys.cpl.toNat else sel.toNat % 4 ≤ s.sys.cpl.toNat ∧ a.dpl = s.sys.cpl

theorem conforming_eq {a : Attr} (h : a.isCode = true) : a.conforming = a.typ.getLsbD 2 := by
  rw [Attr.conforming, h, Bool.true_and]

theorem isCode_iff (a : Attr) : a.isCode = true ↔ a.s = true ∧ a.typ.getLsbD 3 = true := by
  rw [Attr.isCode, Bool.and_eq_true]

theorem mayEnter_iff (s : State) (sel : Word) {a : Attr} (h : a.isCode = true) :
    (if a.conforming then decide (a.dpl.toNat ≤ s.sys.cpl.toNat)
      else decide (rpl sel ≤ s.sys.cpl.toNat) && decide (a.dpl = s.sys.cpl)) = true ↔ s.mayEnter sel a := by
  rw [conforming_eq h, rpl_eq, State.mayEnter]
  cases a.typ.getLsbD 2
  · simp only [Bool.false_eq_true, if_false, Bool.and_eq_true, decide_eq_true_iff]
  · simp only [if_true, decide_eq_true_iff]

section CheckCode

variable {s : State} {sel : Word} {d : Desc} (hk : d.attr.isCode = true)
include hk

theorem checkCode_denied (h : ¬s.mayEnter sel d.attr) :
    checkCode sel d s = .error (.exc (.protection (sel &&& 0xFFFC))) s := by
  have no := eq_false_of_ne_true (mt (mayEnter_iff s sel hk).mp h)
  simp only [checkCode, exec_bind_apply, getState_apply]
  rw [no, require_false, selCode]

theorem checkCode_absent (h : s.mayEnter sel d.attr) (hp : d.attr.p = false) :
    checkCode sel d s = .error (.exc (.notPresent (sel &&& 0xFFFC))) s := by
  have yes := (mayEnter_iff s sel hk).mpr h
  simp only [checkCode, exec_bind_apply, getState_apply]
  rw [yes, require_true]
  simp only [hp, require_false, selCode]

theorem checkCode_passes (h : s.mayEnter sel d.attr) (hp : d.attr.p = true) : checkCode sel d s = .ok () s := by
  have yes := (mayEnter_iff s sel hk).mpr h
  simp only [checkCode, exec_bind_apply, getState_apply]
  rw [yes, require_true]
  simp only [hp, require_true]

end CheckCode

/-- CS with a descriptor at a level, and execution at an offset of it (R583). -/
def State.entered (u : State) (sel : Word) (l : BitVec 2) (d : Desc) (at_ off : Dword) : State :=
  { u with segs := { u.segs with cs := segOfDesc ((sel &&& 0xFFFC) ||| l.setWidth 16) d }
           mem := markAccessed u.mem at_ d, ctx := { u.ctx with nextEip := off } }

theorem loadCode_unpaged {s : State} (hu : s.unpaged) {sel : Word} {at_ : Dword} (ha : descAddr s sel = some at_)
    (l : BitVec 2) (d : Desc) :
    loadCode sel l d s =
      .ok () { s with segs := { s.segs with cs := segOfDesc ((sel &&& 0xFFFC) ||| l.setWidth 16) d }
                      mem := markAccessed s.mem at_ d } := by
  simp only [loadCode, exec_bind_apply, setAccessed_unpaged hu sel d at_ ha, setSeg_apply]
  rfl

/-! ## JMP and CALL -/

section Transfers

variable {c : State} {sel : Word} {off at_ : Dword} (hp : c.prot = true)
include hp

theorem farJump_stop {x : Stop} {t : State} (h : farDescriptor sel c = .error x t) : farJump sel off c = .error x t := by
  simp only [farJump, exec_bind_apply, getState_apply, hp, if_true, h]

theorem farCall_stop {x : Stop} {t : State} (h : farDescriptor sel c = .error x t) : farCall sel off c = .error x t := by
  simp only [farCall, exec_bind_apply, getState_apply, hp, if_true, h]

/-- A data segment is no target. -/
theorem far_data {d : Desc} (h : farDescriptor sel c = .ok d c) (hs : d.attr.s = true) (hd : d.attr.typ.getLsbD 3 = false) :
    farJump sel off c = .error (.exc (.protection (sel &&& 0xFFFC))) c ∧
    farCall sel off c = .error (.exc (.protection (sel &&& 0xFFFC))) c := by
  have code : d.attr.isCode = false := by rw [Attr.isCode, hs, hd, Bool.and_false]
  have gate : d.attr.callGate = false := by rw [Attr.callGate, hs, Bool.not_true, Bool.false_and]
  have task : (d.attr.taskGate || d.attr.availableTss) = false := by
    rw [Attr.taskGate, Attr.availableTss, hs, Bool.not_true, Bool.false_and, Bool.false_and, Bool.or_self]
  constructor
  · simp only [farJump, exec_bind_apply, getState_apply, hp, if_true, h, code, gate, task, Bool.false_eq_true, if_false]
    rfl
  · simp only [farCall, exec_bind_apply, getState_apply, hp, if_true, h, code, gate, task, Bool.false_eq_true, if_false]
    rfl

/-- A code segment goes through its checks. -/
theorem far_code {d : Desc} (h : farDescriptor sel c = .ok d c) (hk : d.attr.isCode = true) :
    farJump sel off c = farJumpCode sel d off c ∧ farCall sel off c = farCallCode sel d off c := by
  constructor
  · simp only [farJump, exec_bind_apply, getState_apply, hp, if_true, h, hk]
  · simp only [farCall, exec_bind_apply, getState_apply, hp, if_true, h, hk]

end Transfers

section Code

variable {c : State} {sel : Word} {off at_ : Dword} {d : Desc}

theorem far_code_stop {e : Exc} (h : checkCode sel d c = .error (.exc e) c) :
    farJumpCode sel d off c = .error (.exc e) c ∧ farCallCode sel d off c = .error (.exc e) c := by
  constructor
  · simp only [farJumpCode, exec_bind_apply, getState_apply, h]
  · simp only [farCallCode, exec_bind_apply, getState_apply, h]

variable (checked : checkCode sel d c = .ok () c)
include checked

theorem far_code_beyond (h : d.limit.toNat < off.toNat) :
    farJumpCode sel d off c = .error (.exc (.protection 0)) c ∧ farCallCode sel d off c = .error (.exc (.protection 0)) c := by
  constructor
  · simp only [farJumpCode, exec_bind_apply, getState_apply, checked, checkTarget_fails h]
  · simp only [farCallCode, exec_bind_apply, getState_apply, checked, checkTarget_fails h]

variable (within : off.toNat ≤ d.limit.toNat)
include within

theorem farJumpCode_ok (hu : c.unpaged) (ha : descAddr c sel = some at_) :
    farJumpCode sel d off c = .ok () (c.entered sel c.sys.cpl d at_ off) := by
  simp only [farJumpCode, exec_bind_apply, getState_apply, checked, checkTarget_passes within, loadCode_unpaged hu ha,
    setNext_apply]
  rfl

theorem farCallCode_noRoom (hp : c.pe = true)
    (room : checkPushes 2 c.opSize.bytes (stackPtr c) c.selectorDrawn ≠ .ok () c.selectorDrawn) :
    farCallCode sel d off c = .error (.exc (.stack 0)) c.selectorDrawn := by
  obtain ⟨hi, slot⟩ := selectorSlot_ok c c.segs.cs.sel
  obtain ⟨-, -, hsys⟩ := selectorDrawn_mode c
  have pe : c.selectorDrawn.pe = true := by rw [State.pe, hsys]; exact hp
  simp only [farCallCode, exec_bind_apply, getState_apply, checked, checkTarget_passes within, slot,
    checkPushes_no pe room]

theorem farCallCode_ok {u w : State} {sp sp' : List Nat} (hu : c.unpaged) (ha : descAddr c sel = some at_)
    (room : checkPushes 2 c.opSize.bytes (stackPtr c) c.selectorDrawn = .ok () c.selectorDrawn)
    (first : claimSlot c.opSize.bytes c.selectorDrawn = .ok sp u) (second : claimSlot c.opSize.bytes u = .ok sp' w) :
    ∃ hi : Word, farCallCode sel d off c =
      .ok () { w.entered sel c.sys.cpl d at_ off with
        mem := Memory.store (Memory.store (markAccessed w.mem at_ d) sp (hi ++ c.segs.cs.sel)) sp' c.ctx.nextEip } := by
  obtain ⟨hi, slot⟩ := selectorSlot_ok c c.segs.cs.sel
  refine ⟨hi, ?_⟩
  have mode : SameMode c w := sameMode_trans (sameMode_trans (selectorDrawn_mode c) (sameMode_claimSlot first))
    (sameMode_claimSlot second)
  have loaded := loadCode_unpaged (sameMode_unpaged mode hu) ((sameMode_descAddr mode sel).trans ha) c.sys.cpl d
  simp only [farCallCode, exec_bind_apply, getState_apply, checked, checkTarget_passes within, slot, room, claimSlots_two,
    first, second, loaded, fillSlots_apply, setNext_apply, List.zip_cons_cons, List.zip_nil_right, List.foldl_cons,
    List.foldl_nil]
  rfl

end Code

/-! ## RET to the same level (R595) -/

/-- A return may go to a code segment of its own or an outer level (R595). -/
def State.mayReturn (s : State) (sel : Word) (a : Attr) : Prop :=
  a.s = true ∧ a.typ.getLsbD 3 = true ∧ s.sys.cpl.toNat ≤ sel.toNat % 4 ∧
    if a.typ.getLsbD 2 then a.dpl.toNat ≤ sel.toNat % 4 else a.dpl.toNat = sel.toNat % 4

theorem returnLevel_iff (sel : Word) {a : Attr} (h : a.isCode = true) :
    (if a.conforming then decide (a.dpl.toNat ≤ rpl sel) else decide (a.dpl.toNat = rpl sel)) = true ↔
      if a.typ.getLsbD 2 then a.dpl.toNat ≤ sel.toNat % 4 else a.dpl.toNat = sel.toNat % 4 := by
  rw [conforming_eq h, rpl_eq]
  cases a.typ.getLsbD 2
  · simp only [Bool.false_eq_true, if_false, decide_eq_true_iff]
  · simp only [if_true, decide_eq_true_iff]

section ReturnTarget

variable {s : State} {sel : Word} {at_ : Dword}

theorem returnTarget_null (h : sel &&& 0xFFFC = 0) : returnTarget sel s = .error (.exc (.protection 0)) s := by
  simp only [returnTarget, exec_bind_apply, getState_apply, (isNull_iff sel).mpr h, Bool.not_true, require_false]

variable (hu : s.unpaged) (h : sel &&& 0xFFFC ≠ 0)
include hu h

theorem returnTarget_missing (ha : descAddr s sel = none) :
    returnTarget sel s = .error (.exc (.protection (sel &&& 0xFFFC))) s := by
  simp only [returnTarget, exec_bind_apply, getState_apply, (isNull_eq_false sel).mpr h, Bool.not_false, require_true,
    readDesc_missing hu ha, selCode]

variable (ha : descAddr s sel = some at_)
include ha

theorem returnTarget_denied (no : ¬s.mayReturn sel (descriptorAt s.mem at_).attr) :
    returnTarget sel s = .error (.exc (.protection (sel &&& 0xFFFC))) s := by
  simp only [returnTarget, exec_bind_apply, getState_apply, (isNull_eq_false sel).mpr h, Bool.not_false, require_true,
    readDesc_found hu ha]
  generalize (descriptorAt s.mem at_).attr = a at no ⊢
  cases code : a.isCode
  · rw [require_false]
    rfl
  obtain ⟨hs, hk⟩ := (isCode_iff a).mp code
  rw [require_true]
  by_cases outer : s.sys.cpl.toNat ≤ sel.toNat % 4
  · have level := eq_false_of_ne_true fun h => no ⟨hs, hk, outer, (returnLevel_iff sel code).mp h⟩
    simp only [rpl_eq, outer, decide_true, require_true]
    rw [rpl_eq] at level
    rw [level, require_false]
    rfl
  · simp only [rpl_eq, outer, decide_false, require_false]
    rfl

variable (yes : s.mayReturn sel (descriptorAt s.mem at_).attr)
include yes

theorem returnTarget_absent (hp : (descriptorAt s.mem at_).attr.p = false) :
    returnTarget sel s = .error (.exc (.notPresent (sel &&& 0xFFFC))) s := by
  obtain ⟨hs, hk, outer, level⟩ := yes
  have code := (isCode_iff _).mpr ⟨hs, hk⟩
  have level' := (returnLevel_iff sel code).mpr level
  rw [← rpl_eq] at outer
  simp only [returnTarget, exec_bind_apply, getState_apply, (isNull_eq_false sel).mpr h, Bool.not_false, require_true,
    readDesc_found hu ha, code, decide_eq_true outer]
  rw [level', require_true]
  simp only [hp, require_false, selCode]

theorem returnTarget_ok (hp : (descriptorAt s.mem at_).attr.p = true) :
    returnTarget sel s = .ok (descriptorAt s.mem at_) s := by
  obtain ⟨hs, hk, outer, level⟩ := yes
  have code := (isCode_iff _).mpr ⟨hs, hk⟩
  have level' := (returnLevel_iff sel code).mpr level
  rw [← rpl_eq] at outer
  simp only [returnTarget, exec_bind_apply, getState_apply, (isNull_eq_false sel).mpr h, Bool.not_false, require_true,
    readDesc_found hu ha, code, decide_eq_true outer]
  rw [level', require_true]
  simp only [hp, require_true, exec_pure_apply]

end ReturnTarget

theorem peek_unpaged_mem {s t : State} (hu : s.unpaged) {delta n : Nat} {v : Dword} (hn : n ≤ 4096)
    (h : peek delta n s = .ok v t) : t.mem = s.mem := by
  rw [peek_apply] at h
  split at h
  · obtain ⟨sp, u, span, load⟩ := exec_bind_ok h
    obtain ⟨mem, -⟩ := segSpan_unpaged_keeps hu hn span
    obtain ⟨-, rfl⟩ := EStateM.Result.ok.inj load
    exact mem
  · exact nomatch h

section FarReturn

variable {s a b : State} {off sel : Dword} (hp : s.prot = true) (frame : checkFrame (2 * s.opSize.bytes) s = .ok () s)
  (ho : peek 0 s.opSize.bytes s = .ok off a) (hs : peek s.opSize.bytes 2 a = .ok sel b)
include hp frame ho hs

theorem farReturn_stop (n : Nat) {e : Exc} (h : returnTarget (sel.setWidth 16) b = .error (.exc e) b) :
    farReturn n s = .error (.exc e) b := by
  simp only [farReturn, exec_bind_apply, getState_apply, hp, if_true, frame, ho, hs, low16, h]

variable {d : Desc} (target : returnTarget (sel.setWidth 16) b = .ok d b)
  (same : (sel.setWidth 16 : Word).toNat % 4 = s.sys.cpl.toNat)
include target same

theorem farReturn_beyond (n : Nat) (h : d.limit.toNat < off.toNat) : farReturn n s = .error (.exc (.protection 0)) b := by
  simp only [farReturn, exec_bind_apply, getState_apply, hp, if_true, frame, ho, hs, low16, target, rpl_eq, same,
    checkTarget_fails h]

theorem farReturn_same (n : Nat) {at_ : Dword} (hu : b.unpaged) (ha : descAddr b (sel.setWidth 16) = some at_)
    (h : off.toNat ≤ d.limit.toNat) :
    farReturn n s =
      .ok () ((b.popped (2 * s.opSize.bytes + n)).entered (sel.setWidth 16) s.sys.cpl d at_ off) := by
  simp only [farReturn, exec_bind_apply, getState_apply, hp, if_true, frame, ho, hs, low16, target, rpl_eq, same,
    checkTarget_passes h, loadCode_unpaged hu ha, release_apply, setNext_apply]
  rfl

end FarReturn

/-! ## The obligation -/

/-- Settles O30: what a JMP, a CALL and a RET do behind their pointer or frame, in the order of their checks. -/
theorem protectedFarTransfersCheckTheDescriptor : Obligations.ProtectedFarTransfersCheckTheDescriptor := by
  unfold Obligations.ProtectedFarTransfersCheckTheDescriptor
  intro s a b c u w p m sg o at_ off sel sp sp' hp hu k cpl goes target returns
  have aim {c : State} {jmp call : Instr} {sel : Word} {off : Dword} (h : s.farPointer c jmp call sel off) :
      target jmp call c sel off := by
    have acc := accessed_farPointer h
    have mode := sameMode_accessed acc
    obtain ⟨-, -, -, hsegs, hsys, -, -, hctx, -⟩ := accessed_keeps acc
    have hpc : c.prot = true := (sameMode_prot mode).trans hp
    have huc : c.unpaged := sameMode_unpaged mode hu
    have haddr := sameMode_descAddr mode sel
    obtain ⟨hj, hcall⟩ := exec_farPointer h
    have fails {t : State} {e : Exc} (hx : farJump sel off c = .error (.exc e) t ∧ farCall sel off c = .error (.exc e) t) :
        exec jmp s = s.raises t e ∧ exec call s = s.raises t e :=
      ⟨hj.trans (runInstr_from_stop hx.1), hcall.trans (runInstr_from_stop hx.2)⟩
    have find (hn : sel &&& 0xFFFC ≠ 0) (ha : descAddr s sel = some at_) :
        farDescriptor sel c = .ok (descriptorAt c.mem at_) c :=
      farDescriptor_found huc hn (haddr.trans ha)
    refine ⟨fun h0 => ?_, fun hn ha => ?_, fun hn ha hs hd => ?_, fun hn ha hs hd => ?_⟩
    · exact fails ⟨farJump_stop hpc (farDescriptor_null h0), farCall_stop hpc (farDescriptor_null h0)⟩
    · have missing := farDescriptor_missing huc hn (haddr.trans ha)
      exact fails ⟨farJump_stop hpc missing, farCall_stop hpc missing⟩
    · exact fails (far_data hpc (find hn ha) hs hd)
    · have isCode : (descriptorAt c.mem at_).attr.isCode = true := (isCode_iff _).mpr ⟨hs, hd⟩
      obtain ⟨jumpCode, callCode⟩ := far_code (off := off) hpc (find hn ha) isCode
      have enter : c.mayEnter sel (descriptorAt c.mem at_).attr = s.mayEnter sel (descriptorAt c.mem at_).attr := by
        rw [State.mayEnter, State.mayEnter, hsys]
      have failsCode {e : Exc} {t : State}
          (hx : farJumpCode sel (descriptorAt c.mem at_) off c = .error (.exc e) t ∧
            farCallCode sel (descriptorAt c.mem at_) off c = .error (.exc e) t) :
          exec jmp s = s.raises t e ∧ exec call s = s.raises t e := fails ⟨jumpCode.trans hx.1, callCode.trans hx.2⟩
      refine ⟨fun no => ?_, fun yes absent => ?_, fun yes present beyond => ?_, fun yes present within => ?_⟩
      · exact failsCode (far_code_stop (checkCode_denied isCode (mt enter.mp no)))
      · exact failsCode (far_code_stop (checkCode_absent isCode (enter.mpr yes) absent))
      · exact failsCode (far_code_beyond (checkCode_passes isCode (enter.mpr yes) present) beyond)
      · have checked := checkCode_passes isCode (enter.mpr yes) present
        have size : c.opSize = s.opSize := by rw [State.opSize, hctx, State.opSize]
        refine ⟨?_, fun room => ?_, fun room first second => ?_⟩
        · rw [hj, runInstr_from_ok (jumpCode.trans (farJumpCode_ok checked within huc (haddr.trans ha))), hsys]
          rfl
        · have stop := farCallCode_noRoom checked within (pe_of_prot hpc) (by
            rw [selectorDrawn_eq acc, size]
            exact room)
          rw [selectorDrawn_eq acc] at stop
          exact hcall.trans (runInstr_from_stop (callCode.trans stop))
        · obtain ⟨hi, done⟩ := farCallCode_ok checked within huc (haddr.trans ha) (u := u) (w := w) (sp := sp) (sp' := sp')
            (by rw [selectorDrawn_eq acc, size]; exact room) (by rw [selectorDrawn_eq acc, size]; exact first)
            (by rw [size]; exact second)
          refine ⟨hi, hcall.trans ((runInstr_from_ok (callCode.trans done)).trans ?_)⟩
          rw [hsys, hctx, hsegs]
          rfl
  refine ⟨aim (farPointer_direct s p), fun ea ho hv => aim (farPointer_mem ea ho hv), fun frame ho hs n i extra hi => ?_,
    fun frame n i hi => ?_⟩
  · have acc : accessed s b := accessed_trans (finds_peek _ _ _ _ _ ho) (finds_peek _ _ _ _ _ hs)
    have mode := sameMode_accessed acc
    obtain ⟨-, -, -, -, hsys, -⟩ := accessed_keeps acc
    have hub : b.unpaged := sameMode_unpaged mode hu
    have haddr := sameMode_descAddr mode (sel.setWidth 16)
    have mem : b.mem = s.mem :=
      (peek_unpaged_mem (sameMode_unpaged (sameMode_accessed (finds_peek _ _ _ _ _ ho)) hu) (by decide) hs).trans
        (peek_unpaged_mem hu (bytes_le_page _) ho)
    have may : b.mayReturn (sel.setWidth 16) (descriptorAt b.mem at_).attr =
        s.mayReturn (sel.setWidth 16) (descriptorAt s.mem at_).attr := by
      rw [State.mayReturn, State.mayReturn, hsys, mem]
    have fails {e : Exc} (h : returnTarget (sel.setWidth 16) b = .error (.exc e) b) : exec i s = s.raises b e :=
      (farReturn_forms hi s).trans (runInstr_exc (farReturn_stop hp frame ho hs extra h))
    refine ⟨fun h0 => fails (returnTarget_null h0), fun hn ha => fails (returnTarget_missing hub hn (haddr.trans ha)),
      fun hn ha => ?_⟩
    have ha' := haddr.trans ha
    refine ⟨fun no => fails (returnTarget_denied hub hn ha' (mt may.mp no)),
      fun yes absent => fails (returnTarget_absent hub hn ha' (may.mpr yes) (by rw [mem]; exact absent)),
      fun yes present same => ?_⟩
    have found := returnTarget_ok hub hn ha' (may.mpr yes) (by rw [mem]; exact present)
    rw [mem] at found
    refine ⟨fun beyond => ?_, fun within => ?_⟩
    · exact (farReturn_forms hi s).trans (runInstr_exc (farReturn_beyond hp frame ho hs found same extra beyond))
    · exact (farReturn_forms hi s).trans (runInstr_ok (farReturn_same hp frame ho hs found same extra hub ha' within))
  · have stop : checkFrame (2 * s.opSize.bytes) s = .error (.exc (.stack 0)) s :=
      checkFrame_stop fun h => frame (checkFrame_ok h)
    have fails (n : Nat) : runInstr (farReturn n) s = s.raises s (.stack 0) := by
      refine runInstr_exc ?_
      simp only [farReturn, exec_bind_apply, getState_apply, hp, if_true, stop]
    obtain rfl | rfl := hi
    · exact fails 0
    · exact fails n.toNat

end Sys2Proof.Machine
end


section
/-! Far RET to an outer level, and IRET in protected mode: to the same and an outer level, to virtual M8086 mode, and to the
task of the back link (spec/46_control_transfer.md R596; spec/48_interrupt_instructions.md R650 to R652). -/

namespace Sys2Proof.Machine

/-! ## The frame -/

/-- What a read of the stack leaves is the state but for the breakpoints it has met: an exception forgets these. -/
theorem raises_noted (s : State) (b : BitVec 4) (e : Exc) : s.raises (s.noted b) e = s.raises s e := rfl

theorem runInstr_from_raises {s c t : State} {body : Exec Unit} {e : Exc} (h : body c = .error (.exc e) t) :
    runInstr (fun _ => body c) s = s.raises t e := runInstr_from_stop h

theorem noted_mode (s : State) (b : BitVec 4) : SameMode s (s.noted b) := ⟨rfl, rfl, rfl⟩

theorem checkFrame_holds {s : State} {n : Nat} (h : checkFrame n s = .ok () s) : s.holdsFrame n := by
  by_contra no
  rw [checkFrame_stop no] at h
  exact nomatch h

theorem checkFrame_fails {s : State} {n : Nat} (h : checkFrame n s ≠ .ok () s) (b : BitVec 4) :
    checkFrame n (s.noted b) = .error (.exc (.stack 0)) (s.noted b) :=
  checkFrame_stop (s := s.noted b) fun held => h (checkFrame_ok held)

theorem checkFrame_noted {s : State} {n : Nat} (h : s.holdsFrame n) (b : BitVec 4) :
    checkFrame n (s.noted b) = .ok () (s.noted b) := checkFrame_ok (s := s.noted b) h

theorem peek_noted {s : State} (hu : s.unpaged) {m : Nat} (hf : s.holdsFrame m) (b : BitVec 4) {delta n : Nat}
    (hm : delta + n ≤ m) (h0 : 0 < n) (hn : n ≤ 4096) :
    ∃ b', peek delta n (s.noted b) = .ok (s.stacked delta n) (s.noted b') := peek_frame (s := s.noted b) hu hf hm h0 hn

/-! ## The selector and its level -/

theorem level_toNat (sel : Word) : (sel.extractLsb' 0 2).toNat = sel.toNat % 4 := by
  rw [BitVec.extractLsb'_toNat, Nat.shiftRight_zero]

/-- A selector is its index part and its RPL. -/
theorem withRpl_self (sel : Word) : (sel &&& 0xFFFC) ||| (sel.extractLsb' 0 2).setWidth 16 = sel := by
  refine BitVec.eq_of_getLsbD_eq fun i hi => ?_
  interval_cases i <;> simp

/-- The check of a return, with the RPL of its selector as the level. -/
theorem mayReturn_iff (s : State) (sel : Word) (a : Attr) :
    s.mayReturn sel a ↔
      a.s = true ∧ a.typ.getLsbD 3 = true ∧ s.sys.cpl.toNat ≤ (sel.extractLsb' 0 2).toNat ∧
        if a.typ.getLsbD 2 then a.dpl.toNat ≤ (sel.extractLsb' 0 2).toNat else a.dpl = sel.extractLsb' 0 2 := by
  rw [State.mayReturn, level_toNat, ← BitVec.toNat_inj (x := a.dpl), level_toNat]

/-- A data segment register as a return to an outer level leaves it (R596). -/
def outerNull (l : BitVec 2) (r : SegReg) : SegReg :=
  if r.valid && r.attr.s && !(r.attr.typ.getLsbD 3 && r.attr.typ.getLsbD 2) && decide (r.attr.dpl.toNat < l.toNat) then
    { r with sel := 0, valid := false }
  else r

theorem nullIfInner_eq (l : BitVec 2) (r : SegReg) : nullIfInner l r = outerNull l r := by
  have kind : (r.attr.isData || (r.attr.isCode && !r.attr.conforming)) =
      (r.attr.s && !(r.attr.typ.getLsbD 3 && r.attr.typ.getLsbD 2)) := by
    simp only [Attr.isData, Attr.isCode, Attr.conforming]
    cases r.attr.s <;> cases r.attr.typ.getLsbD 3 <;> cases r.attr.typ.getLsbD 2 <;> rfl
  rw [nullIfInner, kind, ← Bool.and_assoc]
  rfl

theorem popped_zero (s : State) : s.popped 0 = s := by
  rw [State.popped, above_zero, withTop_stackPtr]

/-! ## To an outer level (R596, R650) -/

/-- The state that a return to an outer level leaves, before it releases what a RET releases. -/
def State.outer (s : State) (flags : Flags) (sel : Word) (d : Desc) (da off : Dword) (ssel : Word) (sd : Desc) (sa ptr : Dword) :
    State :=
  { s with
    flags := flags
    sys := { s.sys with cpl := sel.extractLsb' 0 2 }
    regs := { s.regs with esp := if s.ctx.op32 then ptr else s.regs.esp.extractLsb' 16 16 ++ ptr.extractLsb' 0 16 }
    segs := { es := outerNull (sel.extractLsb' 0 2) s.segs.es, cs := segOfDesc sel d, ss := segOfDesc ssel sd
              ds := outerNull (sel.extractLsb' 0 2) s.segs.ds, fs := outerNull (sel.extractLsb' 0 2) s.segs.fs
              gs := outerNull (sel.extractLsb' 0 2) s.segs.gs }
    mem := markAccessed (markAccessed s.mem da d) sa sd
    ctx := { s.ctx with nextEip := off } }

section Outer

variable {t : State} {sel ssel : Word} {da sa ptr : Dword} (hu : t.unpaged)
include hu

/-- CS of the outer level, loaded once CPL is that level. -/
theorem loadCode_outer (hd : descAddr t sel = some da) (d : Desc) :
    loadCode sel (sel.extractLsb' 0 2) d { t with sys := { t.sys with cpl := sel.extractLsb' 0 2 } } =
      .ok () { t with
        sys := { t.sys with cpl := sel.extractLsb' 0 2 }
        segs := { t.segs with cs := segOfDesc sel d }
        mem := markAccessed t.mem da d } := by
  have code := loadCode_unpaged (s := { t with sys := { t.sys with cpl := sel.extractLsb' 0 2 } }) hu hd
    (sel.extractLsb' 0 2) d
  rw [withRpl_self] at code
  exact code

/-- The stack of the outer level. -/
theorem loadOuterStack_unpaged (hs : descAddr t ssel = some sa) (sz : Size) (sd : Desc) :
    loadOuterStack sz ssel sd ptr t =
      .ok () { t with
        regs := { t.regs with esp := if sz = .d then ptr else putLow16 t.regs.esp (low16 ptr) }
        segs := { t.segs with ss := segOfDesc ssel sd }
        mem := markAccessed t.mem sa sd } := by
  simp only [loadOuterStack, exec_bind_apply, setAccessed_unpaged hu ssel sd sa hs, setSeg_apply, update_apply]
  rfl

end Outer

theorem nullInnerSegs_apply (l : BitVec 2) (s : State) :
    nullInnerSegs l s =
      .ok () { s with segs := { s.segs with es := outerNull l s.segs.es, ds := outerNull l s.segs.ds
                                            fs := outerNull l s.segs.fs, gs := outerNull l s.segs.gs } } := by
  simp only [nullInnerSegs, update_apply, nullIfInner_eq]

theorem outerTop (s : State) (ptr : Dword) :
    (if s.opSize = .d then ptr else putLow16 s.regs.esp (low16 ptr)) =
      if s.ctx.op32 then ptr else s.regs.esp.extractLsb' 16 16 ++ ptr.extractLsb' 0 16 := by
  cases h : s.ctx.op32
  · rw [opSize_w h, if_neg (by decide), if_neg Bool.false_ne_true, putLow16_eq, low16_eq]
  · rw [opSize_d h, if_pos rfl, if_pos rfl]

/-- What a return to an outer level does behind its frame: the checks of the stack segment and of the target, then the
loads. -/
def stackThen (ssel : Word) (l : BitVec 2) (limit off : Dword) (loads : Desc → Exec Unit) : Exec Unit := do
  let sd ← checkStackSeg ssel l (.protection 0) .protection
  checkTarget limit off (.protection 0)
  loads sd

/-- The outcomes of a return to an outer level, in the order of its checks. -/
theorem outerReturn {s : State} (hu : s.unpaged) {i : Instr} {ssel : Word} {l : BitVec 2} {limit off sa : Dword} {b : BitVec 4}
    {loads : Desc → Exec Unit} (run : exec i s = runInstr (fun _ => stackThen ssel l limit off loads (s.noted b)) s)
    {gone : BitVec 4 → State}
    (loaded : descAddr s ssel = some sa → ∃ b', loads (descriptorAt s.mem sa) (s.noted b) = .ok () (gone b')) :
    (ssel &&& 0xFFFC = 0 → exec i s = s.raises s (.protection 0)) ∧
    (ssel &&& 0xFFFC ≠ 0 → descAddr s ssel = none → exec i s = s.raises s (.protection (ssel &&& 0xFFFC))) ∧
    (ssel &&& 0xFFFC ≠ 0 → descAddr s ssel = some sa →
      (¬(descriptorAt s.mem sa).attr.stackOf ssel l → exec i s = s.raises s (.protection (ssel &&& 0xFFFC))) ∧
      ((descriptorAt s.mem sa).attr.stackOf ssel l → (descriptorAt s.mem sa).attr.p = false →
        exec i s = s.raises s (.stack (ssel &&& 0xFFFC))) ∧
      ((descriptorAt s.mem sa).attr.stackOf ssel l → (descriptorAt s.mem sa).attr.p = true →
        (limit.toNat < off.toNat → exec i s = s.raises s (.protection 0)) ∧
        (off.toNat ≤ limit.toNat → ∃ b, exec i s = .next (retire s.flags.tf (gone b))))) := by
  have hut : (s.noted b).unpaged := hu
  have fails {e : Exc} (h : checkStackSeg ssel l (.protection 0) .protection (s.noted b) = .error (.exc e) (s.noted b)) :
      exec i s = s.raises s e := by
    refine (run.trans (runInstr_from_raises ?_)).trans (raises_noted s b e)
    simp only [stackThen, exec_bind_apply, h]
  refine ⟨fun h => fails (checkStackSeg_null h), fun h ha => fails (checkStackSeg_missing hut h ha), fun h ha =>
    ⟨fun no => fails (checkStackSeg_denied hut h ha no), fun yes absent => fails (checkStackSeg_absent hut h ha yes absent),
      fun yes present => ⟨fun beyond => ?_, fun within => ?_⟩⟩⟩
  · refine (run.trans (runInstr_from_raises ?_)).trans (raises_noted s b _)
    simp only [stackThen, exec_bind_apply, checkStackSeg_ok hut h ha yes present, checkTarget_fails beyond]
  · obtain ⟨b', done⟩ := loaded ha
    refine ⟨b', run.trans (runInstr_from_ok ?_)⟩
    simp only [stackThen, exec_bind_apply, checkStackSeg_ok hut h ha yes present, checkTarget_passes within]
    exact done

/-! ## Far RET to an outer level -/

section FarRet

variable {s : State} (hp : s.prot = true) (hu : s.unpaged) (frame : s.holdsFrame (2 * s.opSize.bytes)) {da : Dword}
  (hn : (s.stacked s.opSize.bytes 2).setWidth 16 &&& (0xFFFC : Word) ≠ 0)
  (ha : descAddr s ((s.stacked s.opSize.bytes 2).setWidth 16) = some da)
  (may : s.mayReturn ((s.stacked s.opSize.bytes 2).setWidth 16) (descriptorAt s.mem da).attr)
  (present : (descriptorAt s.mem da).attr.p = true)
  (outer : ((s.stacked s.opSize.bytes 2).setWidth 16 : Word).toNat % 4 ≠ s.sys.cpl.toNat)
include hp hu frame hn ha may present outer

theorem farReturn_outer (n : Nat) :
    ∃ b, farReturn n s =
      farReturnOuter ((s.stacked s.opSize.bytes 2).setWidth 16) (s.stacked 0 s.opSize.bytes) (descriptorAt s.mem da) n
        (s.noted b) := by
  have size := opSize_bytes_cases s
  obtain ⟨b1, ho⟩ := peek_noted hu frame s.events.traps.b (delta := 0) (n := s.opSize.bytes) (by omega) (by omega) (by omega)
  obtain ⟨b2, hsel⟩ := peek_noted hu frame b1 (delta := s.opSize.bytes) (n := 2) (by omega) (by omega) (by omega)
  rw [noted_self] at ho
  have found := returnTarget_ok (s := s.noted b2) hu hn ha may present
  refine ⟨b2, ?_⟩
  simp only [farReturn, exec_bind_apply, getState_apply, hp, if_true, checkFrame_ok frame, ho, hsel, low16, found, rpl_eq]
  rw [if_neg outer]
  rfl

end FarRet

section FarRetOuter

variable {s : State} (hu : s.unpaged) {sel : Word} {off : Dword} {d : Desc} {n : Nat} (b : BitVec 4)

theorem farReturnOuter_noFrame (h : checkFrame (4 * s.opSize.bytes + n) s ≠ .ok () s) :
    farReturnOuter sel off d n (s.noted b) = .error (.exc (.stack 0)) (s.noted b) := by
  have stop := checkFrame_fails h b
  have op : (s.noted b).opSize = s.opSize := rfl
  simp only [farReturnOuter, exec_bind_apply, getState_apply, op, stop]

include hu

/-- The loads of a far RET to an outer level, behind its checks (R596). -/
def farReturnLoads (s : State) (sel ssel : Word) (d : Desc) (ptr off : Dword) (n : Nat) (sd : Desc) : Exec Unit := do
  update fun t => { t with sys := { t.sys with cpl := sel.extractLsb' 0 2 } }
  loadCode sel (sel.extractLsb' 0 2) d
  loadOuterStack s.opSize ssel sd ptr
  release n
  nullInnerSegs (sel.extractLsb' 0 2)
  setNext off

theorem farReturnOuter_stack (h : s.holdsFrame (4 * s.opSize.bytes + n)) :
    ∃ b', farReturnOuter sel off d n (s.noted b) =
      stackThen ((s.stacked (3 * s.opSize.bytes + n) 2).setWidth 16) (sel.extractLsb' 0 2) d.limit off
        (farReturnLoads s sel ((s.stacked (3 * s.opSize.bytes + n) 2).setWidth 16) d (s.stacked (2 * s.opSize.bytes + n) s.opSize.bytes)
          off n) (s.noted b') := by
  have size := opSize_bytes_cases s
  obtain ⟨b1, hptr⟩ := peek_noted hu h b (delta := 2 * s.opSize.bytes + n) (n := s.opSize.bytes) (by omega) (by omega) (by omega)
  obtain ⟨b2, hss⟩ := peek_noted hu h b1 (delta := 3 * s.opSize.bytes + n) (n := 2) (by omega) (by omega) (by omega)
  refine ⟨b2, ?_⟩
  have frame := checkFrame_noted h b
  have op : (s.noted b).opSize = s.opSize := rfl
  simp only [farReturnOuter, exec_bind_apply, getState_apply, op, frame, hptr, hss, low16, stackThen, farReturnLoads]

theorem farReturnLoads_ok {ssel : Word} {da sa ptr : Dword} {sd : Desc} (hd : descAddr s sel = some da)
    (hs : descAddr s ssel = some sa) :
    farReturnLoads s sel ssel d ptr off n sd (s.noted b) =
      .ok () (((s.outer s.flags sel d da off ssel sd sa ptr).popped n).noted b) := by
  have code := loadCode_outer (t := s.noted b) hu hd d
  simp only [farReturnLoads, exec_bind_apply, update_apply, code]
  rw [loadOuterStack_unpaged (sa := sa)]
  · simp only [release_apply, nullInnerSegs_apply, setNext_apply]
    rw [State.outer, ← outerTop]
    rfl
  · exact hu
  · exact hs

end FarRetOuter

end Sys2Proof.Machine
end


section
/-! IRET in protected mode (spec/48_interrupt_instructions.md R648 to R652). -/

namespace Sys2Proof.Machine

/-- How an IRET ends: NMI is no longer in service, and RF is as it was loaded (R648, R733). -/
def finishIret : Exec Unit := do
  update fun s => { s with events := { s.events with nmiInService := false } }
  setEnding .rfLoaded

theorem finishIret_apply (s : State) : finishIret s = .ok () s.returned := by
  simp only [finishIret, exec_bind_apply, update_apply, setEnding_apply, State.returned]

theorem interruptReturn_prot {s : State} (hp : s.prot = true) :
    interruptReturn s = ((if s.flags.nt then iretTask else iretProtected) >>= fun _ => finishIret) s := by
  obtain ⟨hpe, hvm⟩ := (prot_iff s).mp hp
  have trapped : s.v86Trapped = false := (v86Trapped_iff s).mpr (.inr (.inl hvm))
  cases hnt : s.flags.nt <;>
    simp only [interruptReturn, finishIret, exec_bind_apply, getState_apply, trapped, hpe, hvm, hnt, Bool.not_true, Bool.not_false,
      Bool.or_false, Bool.false_eq_true, if_true, if_false, require_true]

section Ends

variable {s : State} (hp : s.prot = true)
include hp

theorem iret_task_ok {t : State} (hn : s.flags.nt = true) (h : iretTask s = .ok () t) :
    exec .iret s = .next (retire s.flags.tf t.returned) := by
  refine (runInstr_ok (body := interruptReturn) ?_ : exec .iret s = _)
  simp only [interruptReturn_prot hp, exec_bind_apply, hn, if_true, h, finishIret_apply]

theorem iret_task_stop {t : State} {x : Stop} (hn : s.flags.nt = true) (h : iretTask s = .error x t) :
    exec .iret s = afterStop s x t := by
  refine (runInstr_stop (body := interruptReturn) ?_ : exec .iret s = _)
  simp only [interruptReturn_prot hp, exec_bind_apply, hn, if_true, h]

variable (hn : s.flags.nt = false)
include hn

theorem iret_from {c : State} {body : Exec Unit} (h : iretProtected s = body c) :
    exec .iret s = runInstr (fun _ => (body >>= fun _ => finishIret) c) s := by
  refine (runInstr_congr (body := interruptReturn) ?_ : exec .iret s = _)
  simp only [interruptReturn_prot hp, exec_bind_apply, hn, Bool.false_eq_true, if_false, h]

theorem iret_fails {c t : State} {body : Exec Unit} {e : Exc} (h : iretProtected s = body c) (stop : body c = .error (.exc e) t) :
    exec .iret s = s.raises t e := by
  rw [iret_from hp hn h]
  refine runInstr_from_raises ?_
  simp only [exec_bind_apply, stop]

theorem iret_returns {c t : State} {body : Exec Unit} (h : iretProtected s = body c) (done : body c = .ok () t) :
    exec .iret s = .next (retire s.flags.tf t.returned) := by
  rw [iret_from hp hn h]
  refine runInstr_from_ok ?_
  simp only [exec_bind_apply, done, finishIret_apply]

end Ends

/-! ## The parts of an IRET behind its first three words -/

/-- An IRET from the state `s` to the same level (R650). -/
def iretSame (s : State) (off : Dword) (sel : Word) (img : Dword) (d : Desc) : Exec Unit := do
  checkTarget d.limit off (.protection 0)
  loadCode sel (sel.extractLsb' 0 2) d
  updateFlags fun f => f.load img s.sys.cpl.toNat s.ctx.op32
  release (3 * s.opSize.bytes)
  setNext off

/-- The loads of an IRET from the state `s` to an outer level (R650). -/
def iretLoads (s : State) (sel ssel : Word) (img : Dword) (d : Desc) (ptr off : Dword) (sd : Desc) : Exec Unit := do
  updateFlags fun f => f.load img s.sys.cpl.toNat s.ctx.op32
  update fun t => { t with sys := { t.sys with cpl := sel.extractLsb' 0 2 } }
  loadCode sel (sel.extractLsb' 0 2) d
  loadOuterStack s.opSize ssel sd ptr
  nullInnerSegs (sel.extractLsb' 0 2)
  setNext off

/-- An IRET from the state `s` to an outer level (R650). -/
def iretOuter (s : State) (off : Dword) (sel : Word) (img : Dword) (d : Desc) : Exec Unit := do
  checkFrame (5 * s.opSize.bytes)
  let ptr ← peek (3 * s.opSize.bytes) s.opSize.bytes
  let ss ← peek (4 * s.opSize.bytes) 2
  stackThen (low16 ss) (sel.extractLsb' 0 2) d.limit off (iretLoads s sel (low16 ss) img d ptr off)

/-- An IRET from the state `s`, with the offset, selector and image of its frame. -/
def iretBehind (s : State) (off : Dword) (sel : Word) (img : Dword) : Exec Unit :=
  if s.ctx.op32 && img.getLsbD 17 && decide (s.sys.cpl = 0) then iretToV86 off img sel
  else do
    let d ← returnTarget sel
    if sel.extractLsb' 0 2 = s.sys.cpl then iretSame s off sel img d
    else iretOuter s off sel img d

section Frame

variable {s : State} (hu : s.unpaged)

theorem iretProtected_noFrame (h : checkFrame (3 * s.opSize.bytes) s ≠ .ok () s) :
    iretProtected s = .error (.exc (.stack 0)) s := by
  have stop : checkFrame (3 * s.opSize.bytes) s = .error (.exc (.stack 0)) s := checkFrame_stop fun held => h (checkFrame_ok held)
  simp only [iretProtected, exec_bind_apply, getState_apply, stop]

include hu

theorem iretProtected_reads (h : checkFrame (3 * s.opSize.bytes) s = .ok () s) :
    ∃ b, iretProtected s =
      iretBehind s (s.stacked 0 s.opSize.bytes) ((s.stacked s.opSize.bytes 2).setWidth 16)
        (s.stacked (2 * s.opSize.bytes) s.opSize.bytes) (s.noted b) := by
  have size := opSize_bytes_cases s
  have frame := checkFrame_holds h
  obtain ⟨b1, ho⟩ := peek_noted hu frame s.events.traps.b (delta := 0) (n := s.opSize.bytes) (by omega) (by omega) (by omega)
  obtain ⟨b2, hsel⟩ := peek_noted hu frame b1 (delta := s.opSize.bytes) (n := 2) (by omega) (by omega) (by omega)
  obtain ⟨b3, himg⟩ := peek_noted hu frame b2 (delta := 2 * s.opSize.bytes) (n := s.opSize.bytes) (by omega) (by omega) (by omega)
  rw [noted_self] at ho
  refine ⟨b3, ?_⟩
  simp only [iretProtected, exec_bind_apply, getState_apply, h, ho, hsel, himg]
  rfl

end Frame

section Behind

variable {s : State} {off img : Dword} {sel : Word} {c : State}

/-- IRET goes to V86 mode at level 0 with a 32-bit image that has VM set (R651). -/
def State.toV86 (s : State) (img : Dword) : Prop := s.ctx.op32 = true ∧ img.getLsbD 17 = true ∧ s.sys.cpl = 0

theorem toV86_iff : (s.ctx.op32 && img.getLsbD 17 && decide (s.sys.cpl = 0)) = true ↔ s.toV86 img := by
  rw [Bool.and_eq_true, Bool.and_eq_true, decide_eq_true_iff, and_assoc, State.toV86]

theorem iretBehind_v86 (v : s.toV86 img) : iretBehind s off sel img = iretToV86 off img sel := by
  rw [iretBehind, if_pos (toV86_iff.mpr v)]

variable (v : ¬s.toV86 img)
include v

theorem iretBehind_stop {e : Exc} (h : returnTarget sel c = .error (.exc e) c) :
    iretBehind s off sel img c = .error (.exc e) c := by
  rw [iretBehind, if_neg (mt toV86_iff.mp v)]
  simp only [exec_bind_apply, h]

variable {d : Desc} (h : returnTarget sel c = .ok d c)
include h

theorem iretBehind_same (same : sel.extractLsb' 0 2 = s.sys.cpl) : iretBehind s off sel img c = iretSame s off sel img d c := by
  rw [iretBehind, if_neg (mt toV86_iff.mp v)]
  simp only [exec_bind_apply, h, if_pos same]

theorem iretBehind_outer (outer : sel.extractLsb' 0 2 ≠ s.sys.cpl) : iretBehind s off sel img c = iretOuter s off sel img d c := by
  rw [iretBehind, if_neg (mt toV86_iff.mp v)]
  simp only [exec_bind_apply, h, if_neg outer]

end Behind

/-! ## To virtual M8086 mode (R651) -/

/-- The state that an IRET to V86 mode leaves. -/
def State.intoV86 (s : State) (off img : Dword) (sel : Word) : State :=
  { s with
    flags := Flags.ofImage img
    sys := { s.sys with cpl := 3 }
    regs := { s.regs with esp := s.stacked 12 4 }
    segs := { es := segV86 ((s.stacked 20 2).setWidth 16), cs := segV86 sel, ss := segV86 ((s.stacked 16 2).setWidth 16)
              ds := segV86 ((s.stacked 24 2).setWidth 16), fs := segV86 ((s.stacked 28 2).setWidth 16)
              gs := segV86 ((s.stacked 32 2).setWidth 16) }
    ctx := { s.ctx with nextEip := off &&& 0xFFFF } }

section IntoV86

variable {s : State} {off img : Dword} {sel : Word} (b : BitVec 4)

theorem iretToV86_noFrame (h : checkFrame 36 s ≠ .ok () s) :
    iretToV86 off img sel (s.noted b) = .error (.exc (.stack 0)) (s.noted b) := by
  simp only [iretToV86, exec_bind_apply, checkFrame_fails h b]

theorem iretToV86_ok (hu : s.unpaged) (h : checkFrame 36 s = .ok () s) :
    ∃ b', iretToV86 off img sel (s.noted b) = .ok () ((s.intoV86 off img sel).noted b') := by
  have frame := checkFrame_holds h
  obtain ⟨b1, h1⟩ := peek_noted hu frame b (delta := 12) (n := 4) (by decide) (by decide) (by decide)
  obtain ⟨b2, h2⟩ := peek_noted hu frame b1 (delta := 16) (n := 2) (by decide) (by decide) (by decide)
  obtain ⟨b3, h3⟩ := peek_noted hu frame b2 (delta := 20) (n := 2) (by decide) (by decide) (by decide)
  obtain ⟨b4, h4⟩ := peek_noted hu frame b3 (delta := 24) (n := 2) (by decide) (by decide) (by decide)
  obtain ⟨b5, h5⟩ := peek_noted hu frame b4 (delta := 28) (n := 2) (by decide) (by decide) (by decide)
  obtain ⟨b6, h6⟩ := peek_noted hu frame b5 (delta := 32) (n := 2) (by decide) (by decide) (by decide)
  refine ⟨b6, ?_⟩
  simp only [iretToV86, exec_bind_apply, checkFrame_noted frame b, h1, h2, h3, h4, h5, h6, loadV86Segs, tssSegs, List.zip_cons_cons,
    List.zip_nil_right, eachDo_cons, eachDo_nil, setSeg_apply, update_apply, setNext_apply]
  rfl

end IntoV86

/-! ## To the same level (R650) -/

/-- The flags that an IRET in protected mode loads: IF and IOPL as its level allows, RF only of a 32-bit image. -/
def State.iretFlags (s : State) (img : Dword) : Flags :=
  { Flags.ofImage img with
    ie := if s.sys.cpl.toNat ≤ s.flags.iopl.toNat then (Flags.ofImage img).ie else s.flags.ie
    iopl := if s.sys.cpl = 0 then (Flags.ofImage img).iopl else s.flags.iopl
    rf := if s.ctx.op32 then (Flags.ofImage img).rf else s.flags.rf
    vm := s.flags.vm }

theorem load_iretFlags (s : State) (img : Dword) : s.flags.load img s.sys.cpl.toNat s.ctx.op32 = s.iretFlags img := by
  have zero : s.sys.cpl.toNat = 0 ↔ s.sys.cpl = 0 := BitVec.toNat_inj (y := (0 : BitVec 2))
  simp only [Flags.load, State.iretFlags, zero]

/-- The state that an IRET to the same level leaves. -/
def State.iretSame (s : State) (off img : Dword) (sel : Word) (d : Desc) (da : Dword) : State :=
  { s.popped (3 * s.opSize.bytes) with
    flags := s.iretFlags img
    segs := { s.segs with cs := segOfDesc sel d }
    mem := markAccessed s.mem da d
    ctx := { s.ctx with nextEip := off } }

section Same

variable {s : State} {off img : Dword} {sel : Word} {d : Desc} (b : BitVec 4)

theorem iretSame_beyond (beyond : d.limit.toNat < off.toNat) :
    iretSame s off sel img d (s.noted b) = .error (.exc (.protection 0)) (s.noted b) := by
  simp only [iretSame, exec_bind_apply, checkTarget_fails beyond]

theorem iretSame_ok (hu : s.unpaged) {da : Dword} (hd : descAddr s sel = some da)
    (within : off.toNat ≤ d.limit.toNat) :
    iretSame s off sel img d (s.noted b) = .ok () ((s.iretSame off img sel d da).noted b) := by
  have code := loadCode_unpaged (s := s.noted b) hu hd (sel.extractLsb' 0 2) d
  rw [withRpl_self] at code
  simp only [iretSame, exec_bind_apply, checkTarget_passes within, code, updateFlags_apply, release_apply, setNext_apply]
  rw [State.iretSame, ← load_iretFlags]
  rfl

end Same

/-! ## To an outer level (R650) -/

section Outer

variable {s : State} {off img : Dword} {sel : Word} {d : Desc} (b : BitVec 4)

theorem iretOuter_noFrame (h : checkFrame (5 * s.opSize.bytes) s ≠ .ok () s) :
    iretOuter s off sel img d (s.noted b) = .error (.exc (.stack 0)) (s.noted b) := by
  simp only [iretOuter, exec_bind_apply, checkFrame_fails h b]

variable (hu : s.unpaged)
include hu

theorem iretOuter_stack (h : checkFrame (5 * s.opSize.bytes) s = .ok () s) :
    ∃ b', iretOuter s off sel img d (s.noted b) =
      stackThen ((s.stacked (4 * s.opSize.bytes) 2).setWidth 16) (sel.extractLsb' 0 2) d.limit off
        (iretLoads s sel ((s.stacked (4 * s.opSize.bytes) 2).setWidth 16) img d (s.stacked (3 * s.opSize.bytes) s.opSize.bytes)
          off) (s.noted b') := by
  have size := opSize_bytes_cases s
  have frame := checkFrame_holds h
  obtain ⟨b1, hptr⟩ := peek_noted hu frame b (delta := 3 * s.opSize.bytes) (n := s.opSize.bytes) (by omega) (by omega) (by omega)
  obtain ⟨b2, hss⟩ := peek_noted hu frame b1 (delta := 4 * s.opSize.bytes) (n := 2) (by omega) (by omega) (by omega)
  refine ⟨b2, ?_⟩
  simp only [iretOuter, exec_bind_apply, checkFrame_noted frame b, hptr, hss, low16]

theorem iretLoads_ok {ssel : Word} {da sa ptr : Dword} {sd : Desc} (hd : descAddr s sel = some da)
    (hs : descAddr s ssel = some sa) :
    iretLoads s sel ssel img d ptr off sd (s.noted b) =
      .ok () ((s.outer (s.iretFlags img) sel d da off ssel sd sa ptr).noted b) := by
  have code := loadCode_outer (t := { s.noted b with flags := s.iretFlags img }) hu hd d
  simp only [iretLoads, exec_bind_apply, updateFlags_apply, update_apply]
  rw [show (s.noted b).flags = s.flags from rfl, load_iretFlags, code]
  simp only
  rw [loadOuterStack_unpaged (sa := sa)]
  · simp only [nullInnerSegs_apply, setNext_apply]
    rw [State.outer, ← outerTop]
    rfl
  · exact hu
  · exact hs

end Outer

end Sys2Proof.Machine
end


section
/-! IRET to the task of the back link (spec/48_interrupt_instructions.md R652), and the returns of protected mode settled. -/

namespace Sys2Proof.Machine

/-! ## IRET to a task -/

theorem busyTss_iff (a : Attr) : a.busyTss = true ↔ (a.s = false ∧ a.typ.toNat ∈ [3, 11]) := by
  have kind (n : Nat) (h : n < 16) : a.typ = BitVec.ofNat 4 n ↔ a.typ.toNat = n := by
    rw [← BitVec.toNat_inj, BitVec.toNat_ofNat, Nat.mod_eq_of_lt h]
  rw [Attr.busyTss, Bool.and_eq_true, Bool.not_eq_true', Bool.or_eq_true, beq_iff_eq, beq_iff_eq, List.mem_pair,
    ← kind 3 (by decide), ← kind 11 (by decide)]
  rfl

theorem checkNewTask_passes {u : State} (h : u.eip.toNat ≤ u.segs.cs.limit.toNat) : checkNewTask u = .ok () u := by
  simp only [checkNewTask, exec_bind_apply, getState_apply, mapStop_apply, decide_eq_true h, require_true]

theorem checkNewTask_fails {u : State} (h : u.segs.cs.limit.toNat < u.eip.toNat) :
    checkNewTask u = .error (.excInNewTask (.protection 0)) u := by
  simp only [checkNewTask, exec_bind_apply, getState_apply, mapStop_apply, decide_eq_false (Nat.not_le.mpr h), require_false,
    inNewTask]

/-- The back link of the current task. -/
def State.backLink (s : State) : Word := (s.mem.load (linearBytes s.sys.tr.base 2)).setWidth 16

section Task

variable {s : State} (hu : s.unpaged)
include hu

theorem backLink_read : linRead s.sys.tr.base 2 s = .ok (s.mem.load (linearBytes s.sys.tr.base 2)) s :=
  linRead_unpaged hu _ (by decide)

theorem iretTask_noLink (h : s.backLink.getLsbD 2 = true ∨ s.backLink &&& 0xFFFC = 0 ∨ descAddr s s.backLink = none) :
    iretTask s = .error (.exc (.invalidTss (s.backLink &&& 0xFFFC))) s := by
  have link : low16 (s.mem.load (linearBytes s.sys.tr.base 2)) = s.backLink := rfl
  cases here : !inLdt s.backLink && !isNull s.backLink
  · simp only [iretTask, exec_bind_apply, getState_apply, backLink_read hu, link, here, require_false, selCode]
  · obtain ⟨gdt, named⟩ := (Bool.and_eq_true _ _).mp here
    rw [Bool.not_eq_true'] at gdt named
    have gone : descAddr s s.backLink = none := by
      obtain h | h | h := h
      · exact absurd (h.symm.trans gdt) (by decide)
      · exact absurd (((isNull_iff _).mpr h).symm.trans named) (by decide)
      · exact h
    simp only [iretTask, exec_bind_apply, getState_apply, backLink_read hu, link, here, require_true, readDesc_missing hu gone,
      selCode]

variable {da : Dword} (gdt : s.backLink.getLsbD 2 = false) (named : s.backLink &&& 0xFFFC ≠ 0)
  (found : descAddr s s.backLink = some da)
include gdt named found

/-- An IRET to a task, its link in the GDT, goes on with the checks of the descriptor there. -/
theorem iretTask_found :
    iretTask s = (do
      require (descriptorAt s.mem da).attr.busyTss (.invalidTss (s.backLink &&& 0xFFFC))
      require (descriptorAt s.mem da).attr.p (.notPresent (s.backLink &&& 0xFFFC))
      taskSwitch s.backLink (descriptorAt s.mem da) .iret s.ctx.nextEip
      checkNewTask : Exec Unit) s := by
  have link : low16 (s.mem.load (linearBytes s.sys.tr.base 2)) = s.backLink := rfl
  have here : (!inLdt s.backLink && !isNull s.backLink) = true := by
    rw [inLdt, gdt, (isNull_eq_false _).mpr named]
    rfl
  simp only [iretTask, exec_bind_apply, getState_apply, backLink_read hu, link, here, require_true, readDesc_found hu found,
    selCode]

theorem iretTask_denied (no : ¬((descriptorAt s.mem da).attr.s = false ∧ (descriptorAt s.mem da).attr.typ.toNat ∈ [3, 11])) :
    iretTask s = .error (.exc (.invalidTss (s.backLink &&& 0xFFFC))) s := by
  have free : (descriptorAt s.mem da).attr.busyTss = false := eq_false_of_ne_true (mt (busyTss_iff _).mp no)
  simp only [iretTask_found hu gdt named found, exec_bind_apply, free, require_false]

variable (busy : (descriptorAt s.mem da).attr.s = false ∧ (descriptorAt s.mem da).attr.typ.toNat ∈ [3, 11])
include busy

theorem iretTask_absent (absent : (descriptorAt s.mem da).attr.p = false) :
    iretTask s = .error (.exc (.notPresent (s.backLink &&& 0xFFFC))) s := by
  simp only [iretTask_found hu gdt named found, exec_bind_apply, (busyTss_iff _).mpr busy, require_true, absent, require_false]

/-- An IRET to a task that passes its checks is the task switch, with the check of EIP in the new task behind it. -/
theorem iretTask_switches (present : (descriptorAt s.mem da).attr.p = true) :
    iretTask s = (do
      taskSwitch s.backLink (descriptorAt s.mem da) .iret s.ctx.nextEip
      checkNewTask : Exec Unit) s := by
  simp only [iretTask_found hu gdt named found, exec_bind_apply, (busyTss_iff _).mpr busy, require_true, present]

variable (present : (descriptorAt s.mem da).attr.p = true)
include present

theorem iretTask_done {u : State} (switched : taskSwitch s.backLink (descriptorAt s.mem da) .iret s.ctx.nextEip s = .ok () u)
    (within : u.eip.toNat ≤ u.segs.cs.limit.toNat) : iretTask s = .ok () u := by
  simp only [iretTask_switches hu gdt named found busy present, exec_bind_apply, switched, checkNewTask_passes within]

theorem iretTask_beyond {u : State}
    (switched : taskSwitch s.backLink (descriptorAt s.mem da) .iret s.ctx.nextEip s = .ok () u)
    (beyond : u.segs.cs.limit.toNat < u.eip.toNat) : iretTask s = .error (.excInNewTask (.protection 0)) u := by
  simp only [iretTask_switches hu gdt named found busy present, exec_bind_apply, switched, checkNewTask_fails beyond]

theorem iretTask_stops {u : State} {x : Stop}
    (stop : taskSwitch s.backLink (descriptorAt s.mem da) .iret s.ctx.nextEip s = .error x u) : iretTask s = .error x u := by
  simp only [iretTask_switches hu gdt named found busy present, exec_bind_apply, stop]

end Task

/-- What is done behind the loads of a return is done behind the return. -/
theorem stackThen_bind (ssel : Word) (l : BitVec 2) (limit off : Dword) (loads : Desc → Exec Unit) (k : Exec Unit) (c : State) :
    (stackThen ssel l limit off loads >>= fun _ => k) c = stackThen ssel l limit off (fun sd => loads sd >>= fun _ => k) c := by
  simp only [stackThen, exec_bind_apply]
  cases checkStackSeg ssel l (.protection 0) .protection c with
  | error x t => rfl
  | ok sd t =>
    cases h : checkTarget limit off (.protection 0) t with
    | error x t => simp only [h]
    | ok _ t => simp only [h]

theorem iret_from_stackThen {s c : State} (hp : s.prot = true) (hn : s.flags.nt = false) {ssel : Word} {l : BitVec 2}
    {limit off : Dword} {loads : Desc → Exec Unit} (h : iretProtected s = stackThen ssel l limit off loads c) :
    exec .iret s = runInstr (fun _ => stackThen ssel l limit off (fun sd => loads sd >>= fun _ => finishIret) c) s :=
  (iret_from hp hn h).trans (runInstr_congr (stackThen_bind ssel l limit off loads finishIret c))

theorem iretLoads_finish {s : State} {off img : Dword} {sel ssel : Word} {d sd : Desc} (b : BitVec 4) (hu : s.unpaged)
    {da sa ptr : Dword} (hd : descAddr s sel = some da) (hs : descAddr s ssel = some sa) :
    (iretLoads s sel ssel img d ptr off sd >>= fun _ => finishIret) (s.noted b) =
      .ok () (((s.outer (s.iretFlags img) sel d da off ssel sd sa ptr).popped 0).noted b).returned := by
  simp only [exec_bind_apply, iretLoads_ok b hu hd hs, finishIret_apply, popped_zero]

/-! ## The obligation -/

/-- Settles O36: the frame, the code segment and the outer stack are checked in the order of the model's own checks, each
outcome by its lemma above. -/
theorem returnsInProtectedMode : Obligations.ReturnsInProtectedMode := by
  unfold Obligations.ReturnsInProtectedMode
  intro s da sa hp hu k cpl d off sel l code level good fails noted outer iretDone img f loaded toV86
  have may : s.mayReturn sel d.attr ↔ good := mayReturn_iff s sel d.attr
  have level (h : l ≠ cpl) : sel.toNat % 4 ≠ cpl.toNat := by
    rw [← level_toNat]
    exact fun same => h (BitVec.eq_of_toNat_eq same)
  refine ⟨fun n i extra hi frame hn ha yes present other => ?_,
    fun hnt => ⟨fun noFrame => ?_, fun frame v => ⟨fun noFrame => ?_, fun frame9 => ?_⟩, fun frame v => ?_⟩,
    fun hnt => ?_⟩
  · obtain ⟨b, far⟩ := farReturn_outer hp hu (checkFrame_holds frame) hn ha (may.mpr yes) present (level other) extra
    refine ⟨fun noFrame => ?_, fun frame4 => ?_⟩
    · exact (farReturn_forms hi s).trans ((runInstr_exc (far.trans (farReturnOuter_noFrame b noFrame))).trans (raises_noted s b _))
    · obtain ⟨b', stack⟩ := farReturnOuter_stack hu b (checkFrame_holds frame4)
      exact outerReturn hu ((farReturn_forms hi s).trans (runInstr_congr (far.trans stack)))
        fun hs => ⟨b', farReturnLoads_ok hu b' ha hs⟩
  · exact iret_fails hp hnt rfl (iretProtected_noFrame noFrame)
  · obtain ⟨b, reads⟩ := iretProtected_reads hu frame
    rw [iretBehind_v86 v] at reads
    exact (iret_fails hp hnt reads (iretToV86_noFrame b noFrame)).trans (raises_noted s b _)
  · obtain ⟨b, reads⟩ := iretProtected_reads hu frame
    rw [iretBehind_v86 v] at reads
    obtain ⟨b', done⟩ := iretToV86_ok b hu frame9
    refine ⟨b', (iret_returns hp hnt reads done).trans ?_⟩
    simp only [State.intoV86, segV86, realBase_eq]
    rfl
  · obtain ⟨b, reads⟩ := iretProtected_reads hu frame
    have fails {e : Exc} (h : returnTarget sel (s.noted b) = .error (.exc e) (s.noted b)) : exec .iret s = s.raises s e :=
      (iret_fails hp hnt reads (iretBehind_stop v h)).trans (raises_noted s b e)
    refine ⟨fun h0 => fails (returnTarget_null h0), fun hn ha => fails (returnTarget_missing hu hn ha), fun hn ha =>
      ⟨fun no => fails (returnTarget_denied hu hn ha (mt may.mp no)),
        fun yes absent => fails (returnTarget_absent hu hn ha (may.mpr yes) absent),
        fun yes present same => ?_, fun yes present other => ?_⟩⟩
    · have found := returnTarget_ok (s := s.noted b) hu hn ha (may.mpr yes) present
      have behind := reads.trans (iretBehind_same v found same)
      refine ⟨fun beyond => (iret_fails hp hnt behind (iretSame_beyond b beyond)).trans (raises_noted s b _), fun within => ⟨b, ?_⟩⟩
      exact iret_returns hp hnt behind (iretSame_ok b hu ha within)
    · have found := returnTarget_ok (s := s.noted b) hu hn ha (may.mpr yes) present
      have behind := reads.trans (iretBehind_outer v found other)
      refine ⟨fun noFrame => (iret_fails hp hnt behind (iretOuter_noFrame b noFrame)).trans (raises_noted s b _), fun frame5 => ?_⟩
      obtain ⟨b', stack⟩ := iretOuter_stack b hu frame5
      refine outerReturn hu (iret_from_stackThen hp hnt (behind.trans stack))
        (gone := fun b => (((s.outer loaded sel d da off _ (descriptorAt s.mem sa) sa _).popped 0).noted b).returned)
        fun hs => ⟨b', iretLoads_finish b' hu ha hs⟩
  · intro link named t busy
    refine ⟨fun none => iret_task_stop hp hnt (iretTask_noLink hu none), fun gdt hn ha =>
      ⟨fun no => iret_task_stop hp hnt (iretTask_denied hu gdt hn ha no),
        fun yes absent => iret_task_stop hp hnt (iretTask_absent hu gdt hn ha yes absent), fun yes present =>
        ⟨fun u switched => ⟨fun within => ?_, fun beyond => ?_⟩, fun e u stop => ?_, fun e u stop => ?_⟩⟩⟩
    · exact iret_task_ok hp hnt (iretTask_done hu gdt hn ha yes present switched within)
    · exact iret_task_stop hp hnt (iretTask_beyond hu gdt hn ha yes present switched beyond)
    · exact iret_task_stop hp hnt (iretTask_stops hu gdt hn ha yes present stop)
    · exact iret_task_stop hp hnt (iretTask_stops hu gdt hn ha yes present stop)

end Sys2Proof.Machine
end


section
/-! An exception that is raised while another is delivered (spec/60_exceptions.md R780, R854, R855). -/

namespace Sys2Proof.Machine

/-- A delivery of `s` has raised `e`, and what follows begins at `r`: the delivery is undone but for what R723 lets stand,
or stays where it had switched the task. -/
def raisedAt (s t r : State) (x : Stop) (e : Exc) : Prop :=
  (x = .exc e ∧ r = rollback s t) ∨ (x = .excInNewTask e ∧ r = t)

/-! ## The table of R780 -/

section Table

variable {ev : Event} {e : Exc} {again : Bool}

theorem secondException_external (h : ev.source ≠ .exception) : secondException ev e again = some e := by
  rw [secondException, if_neg h]

variable (h : ev.source = .exception)
include h

theorem secondException_benign (h8 : ev.vector.toNat ≠ 8) (h14 : ev.vector.toNat ≠ 14)
    (segment : ¬(10 ≤ ev.vector.toNat ∧ ev.vector.toNat ≤ 13)) : secondException ev e again = some e := by
  have not8 : ev.vector ≠ 8 := fun eq => h8 (congrArg BitVec.toNat eq)
  have not14 : ev.vector ≠ 14 := fun eq => h14 (congrArg BitVec.toNat eq)
  have benign : contributory ev.vector = false := by
    rw [contributory, ← Bool.decide_and, decide_eq_false segment]
  rw [secondException, if_pos h, if_neg not8, if_neg not14, benign, if_neg Bool.false_ne_true]

theorem secondException_afterDouble (h8 : ev.vector.toNat = 8) : secondException ev e again = none := by
  have is8 : ev.vector = 8 := BitVec.eq_of_toNat_eq h8
  rw [secondException, if_pos h, if_pos is8]

theorem secondException_segment (segment : 10 ≤ ev.vector.toNat ∧ ev.vector.toNat ≤ 13) :
    secondException ev e again = if e.vector = 14 then some e else some .doubleFault := by
  have not8 : ev.vector ≠ 8 := fun eq => absurd (eq ▸ segment) (by decide)
  have not14 : ev.vector ≠ 14 := fun eq => absurd (eq ▸ segment) (by decide)
  have contributes : contributory ev.vector = true := by
    rw [contributory, ← Bool.decide_and, decide_eq_true segment]
  rw [secondException, if_pos h, if_neg not8, if_neg not14, contributes, if_pos rfl]

theorem secondException_page (h14 : ev.vector.toNat = 14) :
    secondException ev e again = if again then none else if e.vector = 14 then some e else some .doubleFault := by
  have is14 : ev.vector = 14 := BitVec.eq_of_toNat_eq h14
  have not8 : ev.vector ≠ 8 := by
    rw [is14]
    decide
  rw [secondException, if_pos h, if_neg not8, if_pos is14]

end Table

/-! ## The chain of deliveries -/

theorem deliverChain_ok {k : Nat} {nested again : Bool} {ev : Event} {s u : State} (h : deliver nested ev s = .ok () u) :
    deliverChain (k + 1) nested again ev s = .next (settle u) := by
  rw [deliverChain, h]

section Chain

variable {k : Nat} {nested again : Bool} {ev : Event} {s t r : State} {x : Stop} {e : Exc}
  (h : deliver nested ev s = .error x t)
include h

variable (raised : raisedAt s t r x e)
include raised

/-- The second exception is delivered from the state at which it is raised. -/
theorem deliverChain_some {e' : Exc} (second : secondException ev e again = some e') :
    deliverChain (k + 1) nested again ev s =
      deliverChain k true (decide (ev.vector = 14 ∧ ev.source = .exception)) (exceptionEvent r e') r := by
  obtain ⟨rfl, rfl⟩ | ⟨rfl, rfl⟩ := raised <;> simp only [deliverChain, h, second]

theorem deliverChain_none (second : secondException ev e again = none) :
    deliverChain (k + 1) nested again ev s = .next (enterShutdown r) := by
  obtain ⟨rfl, rfl⟩ | ⟨rfl, rfl⟩ := raised <;> simp only [deliverChain, h, second]

end Chain

/-- What is raised with the second delivery begins where that delivery goes back to, or in the new task. -/
theorem raisedAt_second {r u : State} {y : Stop} {z : Exc} (h : y = .exc z ∨ y = .excInNewTask z) :
    raisedAt r u (if y = .exc z then rollback r u else u) y z := by
  obtain rfl | rfl := h
  · exact .inl ⟨rfl, if_pos rfl⟩
  · exact .inr ⟨rfl, if_neg nofun⟩

/-- Settles O40: a chain of deliveries by the table of R780. -/
theorem doubleFaultsAndShutdown : Obligations.DoubleFaultsAndShutdown := by
  unfold Obligations.DoubleFaultsAndShutdown
  intro s t r ev x e failed v internal segment event down then_ last
  refine ⟨fun hx => ?_, fun raised => ?_⟩
  · subst hx
    show deliverChain 8 false false ev s = _
    simp only [deliverChain, failed]
    rfl
  · have follow {e' : Exc} (second : secondException ev e false = some e') :
        takeEvent ev s =
          deliverChain 7 true (decide (ev.vector = 14 ∧ ev.source = .exception)) (exceptionEvent r e') r :=
      deliverChain_some failed raised second
    have delivered {e' : Exc} (second : secondException ev e false = some e') : then_ e' := fun u done =>
      (follow second).trans (deliverChain_ok done)
    have double (second : secondException ev e false = some .doubleFault) : last .doubleFault := fun y z u stop kind =>
      (follow second).trans (deliverChain_none stop (raisedAt_second kind) (secondException_afterDouble rfl rfl))
    have faults (h : internal) (kind : segment ∨ v = 14) :
        secondException ev e false = if e.vector = 14 then some e else some .doubleFault := by
      obtain kind | kind := kind
      · exact secondException_segment h kind
      · exact secondException_page h kind
    refine ⟨fun benign => delivered ?_, fun h h8 => ?_, fun h kind page => delivered ?_, fun h kind other => ?_,
      fun h h14 page y z u stop kind => ?_⟩
    · by_cases h : internal
      · obtain no | ⟨h8, h14, seg⟩ := benign
        · exact absurd h no
        · exact secondException_benign h h8 h14 seg
      · exact secondException_external h
    · exact deliverChain_none failed raised (secondException_afterDouble h h8)
    · rw [faults h kind, if_pos page]
    · have second := (faults h kind).trans (if_neg other)
      exact ⟨delivered second, double second⟩
    · have second := (faults h (.inr h14)).trans (if_pos page)
      have again : decide (ev.vector = 14 ∧ ev.source = .exception) = true := decide_eq_true ⟨BitVec.eq_of_toNat_eq h14, h⟩
      have none : secondException (exceptionEvent r e) z true = none :=
        secondException_page rfl (congrArg BitVec.toNat page)
      rw [follow second, again]
      exact deliverChain_none stop (raisedAt_second kind) none

end Sys2Proof.Machine
end


section
/-! Delivery in protected and virtual M8086 mode: the IDT entry, its gate, and what the gate names
(spec/60_exceptions.md R750 to R752, R756, R758). -/

namespace Sys2Proof.Machine

/-! ## A delivery that fails -/

@[simp] theorem withExt_stack (ev : Event) (c : Word) : withExt ev.source (.stack c) = .stack (ev.ext c) := by
  unfold withExt Event.ext
  cases ev.source <;> simp [Exc.stack]

@[simp] theorem withExt_invalidTss (ev : Event) (c : Word) : withExt ev.source (.invalidTss c) = .invalidTss (ev.ext c) := by
  unfold withExt Event.ext
  cases ev.source <;> simp [Exc.invalidTss]

/-- A delivery that raises an exception, and the software interrupts that are that delivery. -/
theorem delivery_fails {s t : State} {ev : Event} {e : Exc} (nested : Bool) (hp : s.pe = true)
    (h : deliverProtected ev s = .error (.exc e) t) :
    deliver nested ev s = .error (.exc (withExt ev.source e)) (t.withMatches s) ∧
      ∀ i, s.interrupts i ev → exec i s = s.raises (t.withMatches s) (withExt ev.source e) :=
  ⟨deliver_raises nested hp h, fun _ hi => (exec_interrupts hi).trans (runInstr_exc (deliver_raises false hp h))⟩

/-- A delivery that completes, and the software interrupts that are that delivery. -/
theorem delivery_completes {s t : State} {ev : Event} (nested : Bool) (hp : s.pe = true)
    (h : deliverProtected ev s = .ok () t) :
    deliver nested ev s = .ok () { t.withMatches s with ctx := { t.ctx with ending := .vectored } } ∧
      ∀ i, s.interrupts i ev →
        exec i s = .next (retire s.flags.tf { t.withMatches s with ctx := { t.ctx with ending := .vectored } }) := by
  have done (nested : Bool) :
      deliver nested ev s = .ok () { t.withMatches s with ctx := { t.ctx with ending := .vectored } } := by
    simp only [deliver, exec_bind_apply, getState_apply, hp, if_true, unmatched_apply, mapStop_apply, h, setEnding_apply]
    rfl
  exact ⟨done nested, fun _ hi => (exec_interrupts hi).trans (runInstr_ok (done false))⟩

/-! ## The IDT entry (R750, R751) -/

/-- The gate of a vector. -/
def State.gateAt (s : State) (v : Byte) : Desc := descriptorAt s.mem (s.sys.idtr.base + BitVec.ofNat 32 (8 * v.toNat))

theorem typ_eq_iff (a : Attr) {n : Nat} (h : n < 16) : a.typ = BitVec.ofNat 4 n ↔ a.typ.toNat = n := by
  rw [← BitVec.toNat_inj, BitVec.toNat_ofNat, Nat.mod_eq_of_lt h]

theorem idtType_iff (a : Attr) : idtType a = true ↔ (a.s = false ∧ a.typ.toNat ∈ [5, 6, 7, 14, 15]) := by
  simp only [idtType, Bool.and_eq_true, Bool.not_eq_true', Bool.or_eq_true, beq_iff_eq, List.mem_cons, List.not_mem_nil, or_false,
    ← typ_eq_iff a (show 5 < 16 by decide), ← typ_eq_iff a (show 6 < 16 by decide), ← typ_eq_iff a (show 7 < 16 by decide),
    ← typ_eq_iff a (show 14 < 16 by decide), ← typ_eq_iff a (show 15 < 16 by decide), or_assoc]
  rfl

section Entry

variable {s : State} {ev : Event} (hu : s.unpaged)

theorem deliverProtected_beyond (h : ¬8 * ev.vector.toNat + 7 ≤ s.sys.idtr.limit.toNat) :
    deliverProtected ev s = .error (.exc (.protection (BitVec.ofNat 16 (8 * ev.vector.toNat + 2)))) s := by
  simp only [deliverProtected, exec_bind_apply, getState_apply, decide_eq_false h, require_false]

variable (held : 8 * ev.vector.toNat + 7 ≤ s.sys.idtr.limit.toNat)
include hu held

/-- A delivery whose vector the IDT holds, with the gate read. -/
theorem deliverProtected_held :
    deliverProtected ev s = (do
      require (idtType (s.gateAt ev.vector).attr) (.protection (BitVec.ofNat 16 (8 * ev.vector.toNat + 2)))
      require (decide (ev.source ≠ .software) || decide (s.sys.cpl.toNat ≤ (s.gateAt ev.vector).attr.dpl.toNat))
        (.protection (BitVec.ofNat 16 (8 * ev.vector.toNat + 2)))
      require (s.gateAt ev.vector).attr.p (.notPresent (BitVec.ofNat 16 (8 * ev.vector.toNat + 2)))
      if (s.gateAt ev.vector).attr.taskGate then deliverTask ev (s.gateAt ev.vector)
        else deliverGate ev (s.gateAt ev.vector) : Exec Unit) s := by
  simp only [deliverProtected, exec_bind_apply, getState_apply, decide_eq_true held, require_true, readDescAt_unpaged hu]
  rfl

theorem deliverProtected_unlisted
    (no : ¬((s.gateAt ev.vector).attr.s = false ∧ (s.gateAt ev.vector).attr.typ.toNat ∈ [5, 6, 7, 14, 15])) :
    deliverProtected ev s = .error (.exc (.protection (BitVec.ofNat 16 (8 * ev.vector.toNat + 2)))) s := by
  simp only [deliverProtected_held hu held, exec_bind_apply, eq_false_of_ne_true (mt (idtType_iff _).mp no), require_false]

variable (listed : (s.gateAt ev.vector).attr.s = false ∧ (s.gateAt ev.vector).attr.typ.toNat ∈ [5, 6, 7, 14, 15])
include listed

theorem deliverProtected_closed (no : ¬(ev.source = .software → s.sys.cpl.toNat ≤ (s.gateAt ev.vector).attr.dpl.toNat)) :
    deliverProtected ev s = .error (.exc (.protection (BitVec.ofNat 16 (8 * ev.vector.toNat + 2)))) s := by
  obtain ⟨soft, level⟩ := Classical.not_imp.mp no
  have closed : (decide (ev.source ≠ .software) || decide (s.sys.cpl.toNat ≤ (s.gateAt ev.vector).attr.dpl.toNat)) = false := by
    rw [decide_eq_false (not_not.mpr soft), decide_eq_false level]
    rfl
  simp only [deliverProtected_held hu held, exec_bind_apply, (idtType_iff _).mpr listed, require_true, closed, require_false]

variable (opened : ev.source = .software → s.sys.cpl.toNat ≤ (s.gateAt ev.vector).attr.dpl.toNat)
include opened

omit hu held listed in
theorem gateOpen : (decide (ev.source ≠ .software) || decide (s.sys.cpl.toNat ≤ (s.gateAt ev.vector).attr.dpl.toNat)) = true := by
  by_cases soft : ev.source = .software
  · rw [decide_eq_true (opened soft), Bool.or_true]
  · rw [decide_eq_true soft, Bool.true_or]

theorem deliverProtected_absent (absent : (s.gateAt ev.vector).attr.p = false) :
    deliverProtected ev s = .error (.exc (.notPresent (BitVec.ofNat 16 (8 * ev.vector.toNat + 2)))) s := by
  simp only [deliverProtected_held hu held, exec_bind_apply, (idtType_iff _).mpr listed, require_true, gateOpen opened,
    absent, require_false]

variable (present : (s.gateAt ev.vector).attr.p = true)
include present

theorem deliverProtected_task (kind : (s.gateAt ev.vector).attr.typ = 5) :
    deliverProtected ev s = deliverTask ev (s.gateAt ev.vector) s := by
  have task : (s.gateAt ev.vector).attr.taskGate = true := by
    rw [Attr.taskGate, kind, listed.1]
    rfl
  simp only [deliverProtected_held hu held, exec_bind_apply, (idtType_iff _).mpr listed, require_true, gateOpen opened,
    present, task, if_true]

theorem deliverProtected_gate (kind : (s.gateAt ev.vector).attr.typ ≠ 5) :
    deliverProtected ev s = deliverGate ev (s.gateAt ev.vector) s := by
  have gate : (s.gateAt ev.vector).attr.taskGate = false := by
    rw [Attr.taskGate, beq_eq_false_iff_ne.mpr kind, Bool.and_false]
  simp only [deliverProtected_held hu held, exec_bind_apply, (idtType_iff _).mpr listed, require_true, gateOpen opened,
    present, gate, Bool.false_eq_true, if_false]

end Entry

/-! ## The target of a task gate (R593, R758) -/

section TaskTarget

variable {s : State} (hu : s.unpaged) {tsel : Word} {at_ : Dword}
include hu

theorem readTaskTarget_missing (h : tsel.getLsbD 2 = true ∨ tsel &&& 0xFFFC = 0 ∨ descAddr s tsel = none) :
    readTaskTarget tsel s = .error (.exc (.protection (tsel &&& 0xFFFC))) s := by
  cases here : !inLdt tsel && !isNull tsel
  · simp only [readTaskTarget, exec_bind_apply, here, require_false, selCode]
  · obtain ⟨gdt, named⟩ := (Bool.and_eq_true _ _).mp here
    rw [Bool.not_eq_true'] at gdt named
    have gone : descAddr s tsel = none := by
      obtain h | h | h := h
      · exact absurd (h.symm.trans gdt) (by decide)
      · exact absurd (((isNull_iff _).mpr h).symm.trans named) (by decide)
      · exact h
    simp only [readTaskTarget, exec_bind_apply, here, require_true, readDesc_missing hu gone, selCode]

variable (gdt : tsel.getLsbD 2 = false) (named : tsel &&& 0xFFFC ≠ 0) (found : descAddr s tsel = some at_)
include gdt named found

theorem readTaskTarget_found :
    readTaskTarget tsel s = (do
      require (descriptorAt s.mem at_).attr.availableTss (.protection (tsel &&& 0xFFFC))
      require (descriptorAt s.mem at_).attr.p (.notPresent (tsel &&& 0xFFFC))
      pure (descriptorAt s.mem at_) : Exec Desc) s := by
  have here : (!inLdt tsel && !isNull tsel) = true := by
    rw [inLdt, gdt, (isNull_eq_false _).mpr named]
    rfl
  simp only [readTaskTarget, exec_bind_apply, here, require_true, readDesc_found hu found, selCode]

theorem readTaskTarget_denied (no : (descriptorAt s.mem at_).attr.availableTss = false) :
    readTaskTarget tsel s = .error (.exc (.protection (tsel &&& 0xFFFC))) s := by
  simp only [readTaskTarget_found hu gdt named found, exec_bind_apply, no, require_false]

variable (tss : (descriptorAt s.mem at_).attr.availableTss = true)
include tss

theorem readTaskTarget_absent (absent : (descriptorAt s.mem at_).attr.p = false) :
    readTaskTarget tsel s = .error (.exc (.notPresent (tsel &&& 0xFFFC))) s := by
  simp only [readTaskTarget_found hu gdt named found, exec_bind_apply, tss, require_true, absent, require_false]

theorem readTaskTarget_ok (present : (descriptorAt s.mem at_).attr.p = true) :
    readTaskTarget tsel s = .ok (descriptorAt s.mem at_) s := by
  simp only [readTaskTarget_found hu gdt named found, exec_bind_apply, tss, require_true, present, exec_pure_apply]

end TaskTarget

theorem deliverTask_stop {s : State} {ev : Event} {g : Desc} {e : Exc} (h : readTaskTarget g.gateSel s = .error (.exc e) s) :
    deliverTask ev g s = .error (.exc e) s := by
  simp only [deliverTask, exec_bind_apply, h]

/-! ## The target of an interrupt or trap gate (R752) -/

section GateTarget

variable {s : State} (hu : s.unpaged) {ev : Event} {g : Desc} {at_ : Dword}

theorem deliverGate_null (h : g.gateSel &&& 0xFFFC = 0) : deliverGate ev g s = .error (.exc (.protection 0)) s := by
  simp only [deliverGate, exec_bind_apply, getState_apply, (isNull_iff _).mpr h, Bool.not_true, require_false]

variable (named : g.gateSel &&& 0xFFFC ≠ 0)
include hu named

theorem deliverGate_missing (gone : descAddr s g.gateSel = none) :
    deliverGate ev g s = .error (.exc (.protection (g.gateSel &&& 0xFFFC))) s := by
  simp only [deliverGate, exec_bind_apply, getState_apply, (isNull_eq_false _).mpr named, Bool.not_false, require_true,
    readDesc_missing hu gone, selCode]

variable (found : descAddr s g.gateSel = some at_)
include found

theorem deliverGate_denied
    (no : ¬((descriptorAt s.mem at_).attr.s = true ∧ (descriptorAt s.mem at_).attr.typ.getLsbD 3 = true ∧
      (descriptorAt s.mem at_).attr.dpl.toNat ≤ s.sys.cpl.toNat)) :
    deliverGate ev g s = .error (.exc (.protection (g.gateSel &&& 0xFFFC))) s := by
  have denied : ((descriptorAt s.mem at_).attr.isCode && decide ((descriptorAt s.mem at_).attr.dpl.toNat ≤ s.sys.cpl.toNat)) = false := by
    refine eq_false_of_ne_true fun yes => no ?_
    obtain ⟨code, level⟩ := (Bool.and_eq_true _ _).mp yes
    obtain ⟨hs, hk⟩ := (isCode_iff _).mp code
    exact ⟨hs, hk, of_decide_eq_true level⟩
  simp only [deliverGate, exec_bind_apply, getState_apply, (isNull_eq_false _).mpr named, Bool.not_false, require_true,
    readDesc_found hu found, denied, require_false, selCode]

variable (target : (descriptorAt s.mem at_).attr.s = true ∧ (descriptorAt s.mem at_).attr.typ.getLsbD 3 = true ∧
  (descriptorAt s.mem at_).attr.dpl.toNat ≤ s.sys.cpl.toNat)
include target

omit hu named found in
theorem gateTarget_code :
    ((descriptorAt s.mem at_).attr.isCode && decide ((descriptorAt s.mem at_).attr.dpl.toNat ≤ s.sys.cpl.toNat)) = true := by
  obtain ⟨hs, hk, level⟩ := target
  rw [(isCode_iff _).mpr ⟨hs, hk⟩, decide_eq_true level]
  rfl

theorem deliverGate_absent (absent : (descriptorAt s.mem at_).attr.p = false) :
    deliverGate ev g s = .error (.exc (.notPresent (g.gateSel &&& 0xFFFC))) s := by
  simp only [deliverGate, exec_bind_apply, getState_apply, (isNull_eq_false _).mpr named, Bool.not_false, require_true,
    readDesc_found hu found, gateTarget_code target, absent, require_false, selCode]

end GateTarget

end Sys2Proof.Machine
end


section
/-! Delivery through an interrupt or trap gate to the same level (spec/60_exceptions.md R752 to R755). -/

namespace Sys2Proof.Machine

theorem availableTss_mem (a : Attr) : a.availableTss = true ↔ (a.s = false ∧ a.typ.toNat ∈ [1, 9]) := by
  rw [availableTss_iff, List.mem_pair, ← typ_eq_iff a (show 1 < 16 by decide), ← typ_eq_iff a (show 9 < 16 by decide)]
  rfl

/-! ## The slots of a gate's frame -/

/-- The state behind `k` selectors drawn for a frame of a 386 gate or segment; of a 286 one nothing is drawn (log 27). -/
def State.gateDrawn (s : State) (a : Attr) (k : Nat) : State := if a.typ.getLsbD 3 then { s with draws := s.draws + k } else s

theorem gateDrawn_add (s : State) (a : Attr) (j k : Nat) : (s.gateDrawn a j).gateDrawn a k = s.gateDrawn a (j + k) := by
  unfold State.gateDrawn
  cases a.typ.getLsbD 3
  · rfl
  · simp only [if_true, Nat.add_assoc]

theorem gateDrawn_mode (s : State) (a : Attr) (k : Nat) : SameMode s (s.gateDrawn a k) := by
  unfold State.gateDrawn
  split <;> exact ⟨rfl, rfl, rfl⟩

theorem gateSize_bytes (a : Attr) : (gateSize a).bytes = if a.typ.getLsbD 3 then 4 else 2 := by
  rw [gateSize, Attr.is386]
  cases a.typ.getLsbD 3 <;> rfl

/-- A selector in a slot of a gate's frame: its upper half is free. -/
theorem selectorSlot_gate (a : Attr) (s : State) (sel : Word) :
    ∃ hi : Word, selectorSlot (gateSize a) sel s = .ok (hi ++ sel) (s.gateDrawn a 1) := by
  rw [gateSize, Attr.is386, State.gateDrawn]
  cases h : a.typ.getLsbD 3
  · refine ⟨0, congrArg (fun v => EStateM.Result.ok v s) (BitVec.eq_of_toNat_eq ?_)⟩
    rw [append_toNat, BitVec.toNat_setWidth, Nat.mod_eq_of_lt (by omega)]
    simp
  · obtain ⟨v, hv⟩ := draw_ok s
    exact ⟨v.extractLsb' 16 16, by simp only [if_true, selectorSlot, exec_bind_apply, hv, exec_pure_apply]⟩

/-- An error code as the last slot of a frame, if there is one. -/
theorem codeValues_gate (a : Attr) (s : State) (code : Option Word) :
    ∃ hi : Word, codeValues code (gateSize a) s =
      .ok (code.toList.map fun c => hi ++ c) (s.gateDrawn a (if code.isSome then 1 else 0)) := by
  cases code with
  | none =>
    have same : s.gateDrawn a 0 = s := by
      unfold State.gateDrawn
      split <;> rfl
    exact ⟨0, by simp only [codeValues, exec_pure_apply, Option.toList, List.map_nil, Option.isSome, Bool.false_eq_true, if_false, same]⟩
  | some c =>
    obtain ⟨hi, slot⟩ := selectorSlot_gate a s c
    exact ⟨hi, by simp only [codeValues, exec_bind_apply, slot, exec_pure_apply, Option.toList, List.map_cons, List.map_nil, Option.isSome,
      if_true]⟩

/-- Which slots are claimed depends on how many values there are. -/
theorem claimSlots_length (n : Nat) {l m : List Dword} (h : l.length = m.length) (s : State) :
    claimSlots n l s = claimSlots n m s := by
  induction l generalizing m s with
  | nil => rw [List.eq_nil_of_length_eq_zero h.symm]
  | cons a l ih =>
    cases m with
    | nil => exact nomatch h
    | cons b m =>
      have rest := ih (Nat.succ.inj h)
      simp only [claimSlots, exec_bind_apply, rest]

theorem sameMode_claimSlots {n : Nat} {l : List Dword} {s t : State} {slots : List (List Nat)}
    (h : claimSlots n l s = .ok slots t) : SameMode s t := by
  induction l generalizing s slots with
  | nil =>
    obtain ⟨-, rfl⟩ := EStateM.Result.ok.inj h
    exact ⟨rfl, rfl, rfl⟩
  | cons a l ih =>
    obtain ⟨sp, u, first, h⟩ := exec_bind_ok h
    obtain ⟨sps, v, rest, h⟩ := exec_bind_ok h
    obtain ⟨-, rfl⟩ := EStateM.Result.ok.inj h
    exact sameMode_trans (sameMode_claimSlot first) (ih rest)

/-! ## A gate to the same level -/

/-- The values that a frame at the same level holds: flags, CS, EIP, and an error code. -/
def gateCount (ev : Event) : Nat := if ev.code.isSome then 4 else 3

theorem gateFrame_length (ev : Event) (a b c : Dword) (f : Word → Dword) :
    ([a, b, c] ++ ev.code.toList.map f).length = gateCount ev := by
  rw [gateCount]
  cases ev.code <;> rfl

theorem gateDrawn_count (s : State) (a : Attr) (ev : Event) :
    s.gateDrawn a (1 + if ev.code.isSome then 1 else 0) = s.gateDrawn a (gateCount ev - 2) := by
  rw [gateCount]
  cases ev.code <;> rfl

/-- The state that a delivery to the same level leaves: `u` behind its slots. -/
def State.gateEntered (s u : State) (ev : Event) (g d : Desc) (at_ : Dword) (slots : List (List Nat)) (values : List Dword) : State :=
  { u with
    mem := (slots.zip values).foldl (fun m v => Memory.store m v.1 v.2) (markAccessed u.mem at_ d)
    segs := { u.segs with
      cs := segOfDesc ((g.gateSel &&& 0xFFFC) ||| s.sys.cpl.setWidth 16) d }
    flags := { u.flags with
      tf := false, nt := false, rf := false, vm := false
      ie := u.flags.ie && !(!g.attr.typ.getLsbD 0 || ev.nmi) }
    ctx := { u.ctx with nextEip := g.gateOffset g.attr.is386 } }

/-- The frame of a delivery to the same level. -/
def gateValues (s : State) (ev : Event) (x y : Word) : List Dword :=
  [{ s.flags with rf := ev.rf }.image, x ++ s.segs.cs.sel, ev.retEip] ++ ev.code.toList.map fun c => y ++ c

/-- What a gate to the same level does behind its checks, from the state `s`. -/
def sameFrame (s : State) (ev : Event) (g d : Desc) (vals : List Dword) : Exec Unit := do
  checkPushes (gateCount ev) (gateSize g.attr).bytes (stackPtr s)
  checkTarget d.limit (g.gateOffset g.attr.is386) (.protection 0)
  let slots ← claimSlots (gateSize g.attr).bytes vals
  loadCode g.gateSel s.sys.cpl d
  fillSlots slots vals
  updateFlags fun f =>
    { f with tf := false, nt := false, rf := false, vm := false, ie := f.ie && !(!g.attr.typ.getLsbD 0 || ev.nmi) }
  setNext (g.gateOffset g.attr.is386)

section SameLevel

variable {s : State} (hp : s.prot = true) (hu : s.unpaged) {ev : Event} {g : Desc} {at_ : Dword}
  (named : g.gateSel &&& 0xFFFC ≠ 0) (found : descAddr s g.gateSel = some at_)
  (hs : (descriptorAt s.mem at_).attr.s = true) (hk : (descriptorAt s.mem at_).attr.typ.getLsbD 3 = true)
  (present : (descriptorAt s.mem at_).attr.p = true)
  (level : if (descriptorAt s.mem at_).attr.typ.getLsbD 2 then (descriptorAt s.mem at_).attr.dpl.toNat ≤ s.sys.cpl.toNat
    else (descriptorAt s.mem at_).attr.dpl = s.sys.cpl)

include level in
theorem gate_level : (descriptorAt s.mem at_).attr.dpl.toNat ≤ s.sys.cpl.toNat := by
  cases conf : (descriptorAt s.mem at_).attr.typ.getLsbD 2
  · rw [conf, if_neg Bool.false_ne_true] at level
    exact Nat.le_of_eq (congrArg BitVec.toNat level)
  · rw [conf, if_pos rfl] at level
    exact level

include hs hk level in
theorem gate_notInner :
    (!(descriptorAt s.mem at_).attr.conforming &&
      decide ((descriptorAt s.mem at_).attr.dpl.toNat < s.sys.cpl.toNat)) = false := by
  rw [conforming_eq ((isCode_iff _).mpr ⟨hs, hk⟩)]
  cases conf : (descriptorAt s.mem at_).attr.typ.getLsbD 2
  · rw [conf, if_neg Bool.false_ne_true] at level
    rw [level, decide_eq_false (Nat.lt_irrefl _), Bool.and_false]
  · rfl

include hp hu named found hs hk present level

/-- Behind its checks a gate to the same level is its frame, with the free halves of its selectors. -/
theorem deliverGate_same :
    ∃ x y : Word, deliverGate ev g s =
      sameFrame s ev g (descriptorAt s.mem at_) (gateValues s ev x y) (s.gateDrawn g.attr (gateCount ev - 2)) := by
  obtain ⟨x, cs⟩ := selectorSlot_gate g.attr s s.segs.cs.sel
  obtain ⟨y, code⟩ := codeValues_gate g.attr (s.gateDrawn g.attr 1) ev.code
  rw [gateDrawn_add, gateDrawn_count] at code
  refine ⟨x, y, ?_⟩
  simp only [deliverGate, exec_bind_apply, getState_apply, (isNull_eq_false _).mpr named, Bool.not_false, require_true,
    readDesc_found hu found, gateTarget_code ⟨hs, hk, gate_level level⟩, present, v86_of_prot hp, gate_notInner hs hk level,
    Bool.true_or, cs, code, Bool.false_eq_true, if_false, sameFrame, gateValues, gateFrame_length]

end SameLevel

section SameFrame

variable {s : State} {ev : Event} {g d : Desc} {vals : List Dword}

theorem sameFrame_noRoom (hp : s.prot = true)
    (room : checkPushes (gateCount ev) (gateSize g.attr).bytes (stackPtr s) (s.gateDrawn g.attr (gateCount ev - 2)) ≠
      .ok () (s.gateDrawn g.attr (gateCount ev - 2))) :
    sameFrame s ev g d vals (s.gateDrawn g.attr (gateCount ev - 2)) =
      .error (.exc (.stack 0)) (s.gateDrawn g.attr (gateCount ev - 2)) := by
  obtain ⟨-, -, hsys⟩ := gateDrawn_mode s g.attr (gateCount ev - 2)
  have pe : (s.gateDrawn g.attr (gateCount ev - 2)).pe = true := by
    rw [State.pe, hsys]
    exact pe_of_prot hp
  simp only [sameFrame, exec_bind_apply, checkPushes_no pe room]

variable {c : State} (room : checkPushes (gateCount ev) (gateSize g.attr).bytes (stackPtr s) c = .ok () c)
include room

theorem sameFrame_beyond (beyond : d.limit.toNat < (g.gateOffset g.attr.is386).toNat) :
    sameFrame s ev g d vals c = .error (.exc (.protection 0)) c := by
  simp only [sameFrame, exec_bind_apply, room, checkTarget_fails beyond]

theorem sameFrame_ok {u : State} {slots : List (List Nat)} {at_ : Dword}
    (within : (g.gateOffset g.attr.is386).toNat ≤ d.limit.toNat)
    (claimed : claimSlots (gateSize g.attr).bytes vals c = .ok slots u) (hu : u.unpaged) (found : descAddr u g.gateSel = some at_) :
    sameFrame s ev g d vals c = .ok () (s.gateEntered u ev g d at_ slots vals) := by
  simp only [sameFrame, exec_bind_apply, room, checkTarget_passes within, claimed, loadCode_unpaged hu found, fillSlots_apply,
    updateFlags_apply, setNext_apply]
  rfl

end SameFrame

theorem gateOffset_eq (g : Desc) :
    g.gateOffset g.attr.is386 =
      if g.attr.typ.getLsbD 3 then g.hi.extractLsb' 16 16 ++ g.lo.extractLsb' 0 16
      else BitVec.ofNat 32 (g.lo.toNat % 2 ^ 16) := by
  rw [Desc.gateOffset, Attr.is386]
  refine if_congr Iff.rfl rfl (BitVec.eq_of_toNat_eq ?_)
  rw [BitVec.toNat_setWidth, BitVec.extractLsb'_toNat, BitVec.toNat_ofNat, Nat.shiftRight_zero]

theorem gateDrawn_matches (s : State) (a : Attr) (k : Nat) : (s.gateDrawn a k).withMatches s = s.gateDrawn a k := by
  unfold State.gateDrawn
  split <;> rfl

/-- An interrupt or trap gate is one of the types that the IDT may hold, and no task gate. -/
theorem gate_listed {a : Attr} (hs : a.s = false) (kind : a.typ.toNat % 8 = 6 ∨ a.typ.toNat % 8 = 7) :
    (a.s = false ∧ a.typ.toNat ∈ [5, 6, 7, 14, 15]) ∧ a.typ ≠ 5 := by
  have lt := a.typ.isLt
  refine ⟨⟨hs, ?_⟩, fun task => ?_⟩
  · simp only [List.mem_cons, List.not_mem_nil, or_false]
    omega
  · rw [task] at kind
    exact absurd kind (by decide)

/-- Settles O38: the checks of the IDT entry, of the gate and of its target in their order, then the frame. -/
theorem gatesOfTheSameLevelAreEntered : Obligations.GatesOfTheSameLevelAreEntered := by
  unfold Obligations.GatesOfTheSameLevelAreEntered
  refine ⟨fun s nested ev at_ hp hu => ?_, fun s u nested ev at_ slots hp hu => ?_⟩
  · intro cpl entry g sel code d fails held listed open_
    have failsWith {e : Exc} (h : deliverProtected ev s = .error (.exc e) s) : fails (withExt ev.source e) := by
      have delivered := delivery_fails nested hp h
      rw [withMatches_self] at delivered
      exact delivered
    have protection {c : Word} (h : deliverProtected ev s = .error (.exc (.protection c)) s) :
        fails (.protection (ev.ext c)) := withExt_protection ev c ▸ failsWith h
    have notPresent {c : Word} (h : deliverProtected ev s = .error (.exc (.notPresent c)) s) :
        fails (.notPresent (ev.ext c)) := withExt_notPresent ev c ▸ failsWith h
    refine ⟨fun no => protection (deliverProtected_beyond no), fun yes no => protection (deliverProtected_unlisted hu yes no),
      fun yes kind no => protection (deliverProtected_closed hu yes kind no),
      fun yes kind opened absent => notPresent (deliverProtected_absent hu yes kind opened absent),
      fun yes kind opened present task => ?_, fun yes kind opened present gate => ?_⟩
    · intro tss
      have entered := deliverProtected_task hu yes kind opened present task
      refine ⟨fun gone => protection (entered.trans (deliverTask_stop (readTaskTarget_missing hu gone))), fun gdt named found =>
        ⟨fun no => protection (entered.trans (deliverTask_stop (readTaskTarget_denied hu gdt named found ?_))),
          fun yes absent => notPresent (entered.trans (deliverTask_stop (readTaskTarget_absent hu gdt named found ?_ absent)))⟩⟩
      · exact eq_false_of_ne_true (mt (availableTss_mem _).mp no)
      · exact (availableTss_mem _).mpr yes
    · intro target
      have entered := deliverProtected_gate hu yes kind opened present gate
      refine ⟨fun gone => ?_, fun named found =>
        ⟨fun no => protection (entered.trans (deliverGate_denied hu named found no)),
          fun yes absent => notPresent (entered.trans (deliverGate_absent hu named found yes absent))⟩⟩
      by_cases null : code = 0
      · rw [null]
        exact protection (entered.trans (deliverGate_null null))
      · exact protection (entered.trans (deliverGate_missing hu null (gone.resolve_left null)))
  · intro cpl g wide n sel off d count drawn held hs kind opened present named found dS dK dP level fails room
    obtain ⟨listed, notTask⟩ := gate_listed hs kind
    have size : (gateSize g.attr).bytes = n := gateSize_bytes g.attr
    have entered := deliverProtected_gate hu held listed opened present notTask
    obtain ⟨x, y, same⟩ := deliverGate_same hp hu (ev := ev) (g := g) named found dS dK dP level
    have behind := entered.trans same
    have failsWith {e : Exc} (h : deliverProtected ev s = .error (.exc e) drawn) : fails (withExt ev.source e) := by
      have delivered := delivery_fails nested (pe_of_prot hp) h
      rw [show drawn.withMatches s = drawn from gateDrawn_matches s g.attr (gateCount ev - 2)] at delivered
      exact delivered
    refine ⟨fun no => ?_, fun yes beyond => ?_, fun yes within claimed => ⟨x, y, ?_⟩⟩
    · rw [← withExt_stack]
      exact failsWith (behind.trans (sameFrame_noRoom hp (size ▸ no)))
    · rw [← withExt_protection]
      exact failsWith (behind.trans (sameFrame_beyond (size ▸ yes) ((gateOffset_eq g).symm ▸ beyond)))
    · have mode : SameMode s u := sameMode_trans (gateDrawn_mode s g.attr (gateCount ev - 2)) (sameMode_claimSlots claimed)
      have lengths : (List.replicate count (0 : Dword)).length = (gateValues s ev x y).length := by
        rw [List.length_replicate, gateValues, gateFrame_length]
        rfl
      rw [claimSlots_length n lengths, ← size] at claimed
      have done := behind.trans (sameFrame_ok (size ▸ yes) ((gateOffset_eq g).symm ▸ within) claimed (sameMode_unpaged mode hu)
        ((sameMode_descAddr mode sel).trans found))
      have delivered := delivery_completes nested (pe_of_prot hp) done
      obtain ⟨-, hflags, -⟩ := mode
      rw [State.gateEntered, hflags, gateOffset_eq, Bool.not_or, Bool.not_not, ← Bool.and_assoc] at delivered
      exact delivered

end Sys2Proof.Machine
end


section
/-! The stack of an inner level (spec/46_control_transfer.md R592; spec/60_exceptions.md R754). -/

namespace Sys2Proof.Machine

/-- Where the check of the pushes passes, each push passes. -/
theorem pushPasses_of_checkPushes {s : State} (hp : s.pe = true) {n count : Nat}
    (h : checkPushes count n (stackPtr s) s = .ok () s) : ∀ k, k < count → s.pushPasses n k := by
  by_contra no
  push Not at no
  classical
  obtain ⟨least, stops⟩ := Nat.find_spec no
  have before (k : Nat) (hk : k < Nat.find no) : s.pushPasses n k := by
    by_contra stop
    exact Nat.find_min no hk ⟨by omega, stop⟩
  have stop : s.pushStop n (Nat.find no) (.exc (.stack 0)) := .inr ⟨fun real => by simp [hp] at real, rfl⟩
  rw [checkPushes_top_stop least before stops stop] at h
  exact nomatch h

/-! ## The entry of the TSS -/

section Entry

variable {s : State} {l : BitVec 2}

theorem tssStack_none (h : s.tssEntry l = none) :
    tssStack l s = .error (.exc (.invalidTss (s.sys.tr.sel &&& 0xFFFC))) s := by
  simp only [State.tssEntry] at h
  cases wide : s.sys.tr.attr.typ.getLsbD 3 <;> have kind : s.sys.tr.attr.is386 = _ := wide
  · simp only [wide, Bool.false_eq_true, if_false, ite_eq_right_iff, reduceCtorEq, imp_false] at h
    simp only [tssStack, exec_bind_apply, getState_apply, kind, Bool.false_eq_true, if_false, exec_bind_apply,
      decide_eq_false h, require_false, selCode]
  · simp only [wide, if_true, ite_eq_right_iff, reduceCtorEq, imp_false] at h
    simp only [tssStack, exec_bind_apply, getState_apply, kind, if_true, decide_eq_false h, require_false, selCode]

theorem tssStack_some (hu : s.unpaged) {ssel : Word} {ptr : Dword} (h : s.tssEntry l = some (ssel, ptr)) :
    tssStack l s = .ok (ssel, ptr) s := by
  simp only [State.tssEntry] at h
  cases wide : s.sys.tr.attr.typ.getLsbD 3 <;> have kind : s.sys.tr.attr.is386 = _ := wide
  · simp only [wide, Bool.false_eq_true, if_false, Option.ite_none_right_eq_some, Option.some.injEq, Prod.mk.injEq] at h
    obtain ⟨reach, rfl, rfl⟩ := h
    simp only [tssStack, exec_bind_apply, getState_apply, kind, Bool.false_eq_true, if_false, decide_eq_true reach,
      require_true, linRead_unpaged hu _ (show 2 ≤ 4096 by decide), exec_pure_apply, low16, Nat.add_comm]
  · simp only [wide, if_true, Option.ite_none_right_eq_some, Option.some.injEq, Prod.mk.injEq] at h
    obtain ⟨reach, rfl, rfl⟩ := h
    simp only [tssStack, exec_bind_apply, getState_apply, kind, if_true, decide_eq_true reach,
      require_true, linRead_unpaged hu _ (show 2 ≤ 4096 by decide), linRead_unpaged hu _ (show 4 ≤ 4096 by decide),
      exec_pure_apply, low16, Nat.add_comm]

end Entry

/-! ## SS, CPL and the stack pointer of the inner level -/

section Inner

variable {s : State} {l : BitVec 2}

theorem enterInnerStack_none (h : s.tssEntry l = none) :
    enterInnerStack l s = .error (.exc (.invalidTss (s.sys.tr.sel &&& 0xFFFC))) s := by
  simp only [enterInnerStack, exec_bind_apply, tssStack_none h]

variable (hu : s.unpaged) {ssel : Word} {ptr : Dword} (h : s.tssEntry l = some (ssel, ptr))
include hu h

theorem enterInnerStack_stop {e : Exc}
    (stop : checkStackSeg ssel l (.invalidTss 0) .invalidTss s = .error (.exc e) s) :
    enterInnerStack l s = .error (.exc e) s := by
  simp only [enterInnerStack, exec_bind_apply, tssStack_some hu h, stop]

theorem enterInnerStack_ok (hp : s.prot = true) {d : Desc}
    (found : checkStackSeg ssel l (.invalidTss 0) .invalidTss s = .ok d s) :
    enterInnerStack l s = .ok (ssel, d) (s.onInnerStack l ssel d ptr) := by
  simp only [enterInnerStack, exec_bind_apply, tssStack_some hu h, found, setSeg_apply, update_apply, setStackPtr_eq, exec_pure_apply]
  have width : ({ s with segs := s.segs.set .ss (segOfDesc ssel d), sys := { s.sys with cpl := l } } : State).stack32 = d.attr.db := by
    show (s.prot && d.attr.db) = _
    rw [hp, Bool.true_and]
  exact congrArg (fun wide => EStateM.Result.ok (ssel, d) (State.withTop wide
    ({ s with segs := s.segs.set .ss (segOfDesc ssel d), sys := { s.sys with cpl := l } } : State) ptr)) width

end Inner

end Sys2Proof.Machine
end


section
/-! Delivery through an interrupt or trap gate to an inner level, and from virtual M8086 mode (spec/60_exceptions.md R754,
R790). -/

namespace Sys2Proof.Machine

theorem gateDrawn_draws (s : State) (a : Attr) (k : Nat) :
    s.gateDrawn a k = { s with draws := s.draws + if a.typ.getLsbD 3 then k else 0 } := by
  unfold State.gateDrawn
  cases a.typ.getLsbD 3 <;> rfl

theorem gateDrawn_zero (s : State) (a : Attr) : s.gateDrawn a 0 = s := by
  unfold State.gateDrawn
  split <;> rfl

/-- The data segment selectors that leaving V86 mode pushes first. -/
def leftSelectors (s : State) (a : Attr) : Exec (List Dword) := if s.v86 then v86Values s (gateSize a) else pure []

theorem leftSelectors_gate (a : Attr) (s t : State) :
    ∃ h0 h1 h2 h3 : Word, leftSelectors s a t =
      .ok (if s.v86 then [h0 ++ s.segs.gs.sel, h1 ++ s.segs.fs.sel, h2 ++ s.segs.ds.sel, h3 ++ s.segs.es.sel] else [])
        (t.gateDrawn a (if s.v86 then 4 else 0)) := by
  rw [leftSelectors]
  cases s.v86
  · exact ⟨0, 0, 0, 0, by simp only [Bool.false_eq_true, if_false, exec_pure_apply, gateDrawn_zero]⟩
  · obtain ⟨h0, gs⟩ := selectorSlot_gate a t s.segs.gs.sel
    obtain ⟨h1, fs⟩ := selectorSlot_gate a (t.gateDrawn a 1) s.segs.fs.sel
    obtain ⟨h2, ds⟩ := selectorSlot_gate a ((t.gateDrawn a 1).gateDrawn a 1) s.segs.ds.sel
    obtain ⟨h3, es⟩ := selectorSlot_gate a (((t.gateDrawn a 1).gateDrawn a 1).gateDrawn a 1) s.segs.es.sel
    refine ⟨h0, h1, h2, h3, ?_⟩
    simp only [gateDrawn_add] at fs ds es
    simp only [if_true, v86Values, eachGet, exec_bind_apply, gs, fs, ds, es, exec_pure_apply]

/-! ## The frame on the inner stack -/

/-- What a gate to an inner level does once it is on the inner stack `st`. -/
def innerFrame (v86 : Bool) (ev : Event) (g d : Desc) (st : Word × Desc) (vals : List Dword) : Exec Unit := do
  let t ← getState
  checkPushes vals.length (gateSize g.attr).bytes (stackPtr t)
  checkTarget d.limit (g.gateOffset g.attr.is386) (.protection 0)
  let slots ← claimSlots (gateSize g.attr).bytes vals
  setAccessed st.1 st.2
  loadCode g.gateSel d.attr.dpl d
  fillSlots slots vals
  when_ v86 nullDataSegs
  updateFlags fun f =>
    { f with tf := false, nt := false, rf := false, vm := false, ie := f.ie && !(!g.attr.typ.getLsbD 0 || ev.nmi) }
  setNext (g.gateOffset g.attr.is386)

section InnerFrame

variable {u : State} (hp : u.prot = true) {v86 : Bool} {ev : Event} {g d : Desc} {st : Word × Desc} {vals : List Dword}
include hp

theorem innerFrame_noRoom (room : checkPushes vals.length (gateSize g.attr).bytes (stackPtr u) u ≠ .ok () u) :
    innerFrame v86 ev g d st vals u = .error (.exc (.stack 0)) u := by
  simp only [innerFrame, exec_bind_apply, getState_apply, checkPushes_no (pe_of_prot hp) room]

variable (room : checkPushes vals.length (gateSize g.attr).bytes (stackPtr u) u = .ok () u)
include room

omit hp in
theorem innerFrame_beyond (beyond : d.limit.toNat < (g.gateOffset g.attr.is386).toNat) :
    innerFrame v86 ev g d st vals u = .error (.exc (.protection 0)) u := by
  simp only [innerFrame, exec_bind_apply, getState_apply, room, checkTarget_fails beyond]

/-- A data segment register as leaving V86 mode leaves it (R790). -/
def leftV86 (v86 : Bool) (r : SegReg) : SegReg := if v86 then { r with sel := 0, valid := false } else r

/-- The state that a delivery to an inner level leaves. -/
def State.innerEntered (u : State) (v86 : Bool) (ev : Event) (g d : Desc) (st : Word × Desc) (vals : List Dword)
    (sa ca : Dword) : State :=
  { u.withTop u.stack32 (u.below ((gateSize g.attr).bytes * vals.length)) with
    mem := u.pushed (gateSize g.attr).bytes vals (markAccessed (markAccessed u.mem sa st.2) ca d)
    segs := { es := leftV86 v86 u.segs.es, cs := segOfDesc ((g.gateSel &&& 0xFFFC) ||| d.attr.dpl.setWidth 16) d
              ss := u.segs.ss, ds := leftV86 v86 u.segs.ds, fs := leftV86 v86 u.segs.fs, gs := leftV86 v86 u.segs.gs }
    flags := { u.flags with
      tf := false, nt := false, rf := false, vm := false, ie := u.flags.ie && !(!g.attr.typ.getLsbD 0 || ev.nmi) }
    ctx := { u.ctx with nextEip := g.gateOffset g.attr.is386 } }

theorem innerFrame_ok (hu : u.unpaged) {sa ca : Dword} (within : (g.gateOffset g.attr.is386).toNat ≤ d.limit.toNat)
    (stack : descAddr u st.1 = some sa) (code : descAddr u g.gateSel = some ca) :
    ∃ b, innerFrame v86 ev g d st vals u = .ok () ((u.innerEntered v86 ev g d st vals sa ca).noted b) := by
  have small : (gateSize g.attr).bytes ≤ 4096 := bytes_le_page _
  obtain ⟨b, claimed⟩ := claimSlots_top hu small vals (pushPasses_of_checkPushes (pe_of_prot hp) room)
  refine ⟨b, ?_⟩
  have accessed := setAccessed_unpaged
    (s := (u.noted b).withTop u.stack32 (u.below ((gateSize g.attr).bytes * vals.length))) hu st.1 st.2 sa stack
  simp only [innerFrame, exec_bind_apply, getState_apply, room, checkTarget_passes within, claimed, accessed]
  rw [loadCode_unpaged (at_ := ca)]
  · cases v86 <;>
      simp only [fillSlots_pushed, when_true, when_false, nullDataSegs, update_apply, updateFlags_apply, setNext_apply]
    · rfl
    · rfl
  · exact hu
  · exact code

end InnerFrame

/-! ## The gate -/

/-- The state in which a gate to an inner level reads the stack of that level. -/
def State.gateLeft (s : State) (ev : Event) (g : Desc) : State :=
  { s with
    flags := { s.flags with vm := false }
    draws := s.draws + if g.attr.typ.getLsbD 3 then 1 + (if ev.code.isSome then 1 else 0) else 0 }

/-- The selectors in the frame of a delivery to an inner level, an error code among them. -/
def innerSelectors (v86 : Bool) (ev : Event) : Nat := (if v86 then 6 else 2) + if ev.code.isSome then 1 else 0

theorem innerSelectors_drawn (n : Nat) (wide v86 : Bool) (ev : Event) :
    (n + if wide then 1 + (if ev.code.isSome then 1 else 0) else 0) + (if wide then (if v86 then 4 else 0) + 1 else 0) =
      n + if wide then innerSelectors v86 ev else 0 := by
  rw [innerSelectors]
  cases wide <;> cases v86 <;> cases ev.code <;> rfl

/-- The state in which a gate to an inner level pushes its frame. -/
def State.onGateStack (s : State) (v86 : Bool) (ev : Event) (g : Desc) (l : BitVec 2) (ssel : Word) (sd : Desc) (ptr : Dword) : State :=
  ({ s with
      flags := { s.flags with vm := false }
      draws := s.draws + if g.attr.typ.getLsbD 3 then innerSelectors v86 ev else 0 } : State).onInnerStack l ssel sd ptr

/-- The frame of a delivery to an inner level, with the free halves of its selectors. -/
def innerValues (s : State) (v86 : Bool) (ev : Event) (h : Fin 7 → Word) : List Dword :=
  (if v86 then [h 0 ++ s.segs.gs.sel, h 1 ++ s.segs.fs.sel, h 2 ++ s.segs.ds.sel, h 3 ++ s.segs.es.sel] else []) ++
    [h 4 ++ s.segs.ss.sel, s.regs.esp, { s.flags with rf := ev.rf }.image, h 5 ++ s.segs.cs.sel, ev.retEip] ++
    ev.code.toList.map fun c => h 6 ++ c

theorem innerValues_length (s : State) (v86 : Bool) (ev : Event) (h : Fin 7 → Word) :
    (innerValues s v86 ev h).length = innerSelectors v86 ev + 3 := by
  rw [innerValues, innerSelectors]
  cases v86 <;> cases ev.code <;> rfl

section InnerGate

variable {s : State} (hu : s.unpaged) {ev : Event} {g : Desc} {ca : Dword}
  (named : g.gateSel &&& 0xFFFC ≠ 0) (found : descAddr s g.gateSel = some ca)
  (hs : (descriptorAt s.mem ca).attr.s = true) (hk : (descriptorAt s.mem ca).attr.typ.getLsbD 3 = true)
  (level : (descriptorAt s.mem ca).attr.dpl.toNat ≤ s.sys.cpl.toNat) (present : (descriptorAt s.mem ca).attr.p = true)

include hs hk in
theorem gate_inner_iff :
    (!(descriptorAt s.mem ca).attr.conforming && decide ((descriptorAt s.mem ca).attr.dpl.toNat < s.sys.cpl.toNat)) = true ↔
      ((descriptorAt s.mem ca).attr.typ.getLsbD 2 = false ∧ (descriptorAt s.mem ca).attr.dpl.toNat < s.sys.cpl.toNat) := by
  rw [conforming_eq ((isCode_iff _).mpr ⟨hs, hk⟩), Bool.and_eq_true, Bool.not_eq_true', decide_eq_true_iff]

include hu named found hs hk level present

/-- From V86 mode a gate leads to a non-conforming segment of level 0, through a 386 gate, or nowhere (R790). -/
theorem deliverGate_v86 (v86 : s.v86 = true)
    (no : ¬(((descriptorAt s.mem ca).attr.typ.getLsbD 2 = false ∧ (descriptorAt s.mem ca).attr.dpl.toNat < s.sys.cpl.toNat) ∧
      (descriptorAt s.mem ca).attr.dpl = 0 ∧ g.attr.typ.getLsbD 3 = true)) :
    deliverGate ev g s = .error (.exc (.protection (g.gateSel &&& 0xFFFC))) s := by
  have denied : (!s.v86 ||
      ((!(descriptorAt s.mem ca).attr.conforming && decide ((descriptorAt s.mem ca).attr.dpl.toNat < s.sys.cpl.toNat)) &&
        decide ((descriptorAt s.mem ca).attr.dpl = 0) && g.attr.is386)) = false := by
    refine eq_false_of_ne_true fun yes => no ?_
    rw [v86, Bool.not_true, Bool.false_or, Bool.and_eq_true, Bool.and_eq_true, gate_inner_iff hs hk, decide_eq_true_iff] at yes
    obtain ⟨⟨inner, zero⟩, wide⟩ := yes
    exact ⟨inner, zero, wide⟩
  simp only [deliverGate, exec_bind_apply, getState_apply, (isNull_eq_false _).mpr named, Bool.not_false, require_true,
    readDesc_found hu found, gateTarget_code ⟨hs, hk, level⟩, present, denied, require_false, selCode]

variable (inner : (descriptorAt s.mem ca).attr.typ.getLsbD 2 = false ∧ (descriptorAt s.mem ca).attr.dpl.toNat < s.sys.cpl.toNat)
  (leave : s.v86 = true → (descriptorAt s.mem ca).attr.dpl = 0 ∧ g.attr.typ.getLsbD 3 = true)
include inner leave

theorem deliverGate_inner :
    ∃ cs y : Word, deliverGate ev g s = (do
      let st ← enterInnerStack (descriptorAt s.mem ca).attr.dpl
      let data ← leftSelectors s g.attr
      let ssSlot ← selectorSlot (gateSize g.attr) s.segs.ss.sel
      innerFrame s.v86 ev g (descriptorAt s.mem ca) st
        (data ++ [ssSlot, s.regs.esp, { s.flags with rf := ev.rf }.image, cs ++ s.segs.cs.sel, ev.retEip] ++
          ev.code.toList.map fun c => y ++ c) : Exec Unit) (s.gateLeft ev g) := by
  obtain ⟨cs, csSlot⟩ := selectorSlot_gate g.attr s s.segs.cs.sel
  obtain ⟨y, code⟩ := codeValues_gate g.attr (s.gateDrawn g.attr 1) ev.code
  rw [gateDrawn_add, gateDrawn_draws s g.attr (1 + if ev.code.isSome then 1 else 0)] at code
  refine ⟨cs, y, ?_⟩
  have isInner := (gate_inner_iff hs hk).mpr inner
  have passes : (!s.v86 || (true && decide ((descriptorAt s.mem ca).attr.dpl = 0) && g.attr.is386)) = true := by
    cases v86 : s.v86
    · rfl
    · obtain ⟨zero, wide⟩ := leave v86
      rw [decide_eq_true zero, Attr.is386, wide]
      rfl
  cases v86 : s.v86 <;> rw [v86] at passes <;>
    simp only [deliverGate, exec_bind_apply, getState_apply, (isNull_eq_false _).mpr named, Bool.not_false, require_true,
      readDesc_found hu found, gateTarget_code ⟨hs, hk, level⟩, present, isInner, v86, passes, csSlot, code, if_true,
      Bool.false_eq_true, if_false, Bool.true_or, updateFlags_apply, leftSelectors, innerFrame]
  · rfl
  · rfl

theorem deliverGate_innerStop {e : Exc}
    (stop : enterInnerStack (descriptorAt s.mem ca).attr.dpl (s.gateLeft ev g) = .error (.exc e) (s.gateLeft ev g)) :
    deliverGate ev g s = .error (.exc e) (s.gateLeft ev g) := by
  obtain ⟨cs, y, run⟩ := deliverGate_inner hu (ev := ev) named found hs hk level present inner leave
  simp only [run, exec_bind_apply, stop]

/-- Behind the checks of its stack a gate to an inner level is its frame there. -/
theorem deliverGate_innerFrame {ssel : Word} {sd : Desc} {ptr : Dword}
    (stack : enterInnerStack (descriptorAt s.mem ca).attr.dpl (s.gateLeft ev g) =
      .ok (ssel, sd) ((s.gateLeft ev g).onInnerStack (descriptorAt s.mem ca).attr.dpl ssel sd ptr)) :
    ∃ h : Fin 7 → Word, deliverGate ev g s =
      innerFrame s.v86 ev g (descriptorAt s.mem ca) (ssel, sd) (innerValues s s.v86 ev h)
        (s.onGateStack s.v86 ev g (descriptorAt s.mem ca).attr.dpl ssel sd ptr) := by
  obtain ⟨cs, y, run⟩ := deliverGate_inner hu (ev := ev) named found hs hk level present inner leave
  obtain ⟨h0, h1, h2, h3, data⟩ := leftSelectors_gate g.attr s
    ((s.gateLeft ev g).onInnerStack (descriptorAt s.mem ca).attr.dpl ssel sd ptr)
  obtain ⟨h4, ss⟩ := selectorSlot_gate g.attr
    (((s.gateLeft ev g).onInnerStack (descriptorAt s.mem ca).attr.dpl ssel sd ptr).gateDrawn g.attr (if s.v86 then 4 else 0))
    s.segs.ss.sel
  refine ⟨![h0, h1, h2, h3, h4, cs, y], ?_⟩
  have drawn :
      (((s.gateLeft ev g).onInnerStack (descriptorAt s.mem ca).attr.dpl ssel sd ptr).gateDrawn g.attr
        (if s.v86 then 4 else 0)).gateDrawn g.attr 1 =
        s.onGateStack s.v86 ev g (descriptorAt s.mem ca).attr.dpl ssel sd ptr := by
    rw [gateDrawn_add, gateDrawn_draws, State.onGateStack, ← innerSelectors_drawn]
    rfl
  rw [drawn] at ss
  simp only [run, exec_bind_apply, stack, data, ss]
  rfl

end InnerGate

/-! ## The obligation -/

/-- A delivery that fails and leaves nothing changed but the count of free values. -/
theorem delivery_undone {s t : State} {ev : Event} {e : Exc} (nested : Bool) (hp : s.pe = true)
    (h : deliverProtected ev s = .error (.exc e) t) (same : rollback s t = { s with draws := t.draws }) :
    ∃ t, deliver nested ev s = .error (.exc (withExt ev.source e)) t ∧ rollback s t = { s with draws := t.draws } ∧
      ∀ i, s.interrupts i ev → exec i s = s.raises t (withExt ev.source e) := by
  obtain ⟨stop, run⟩ := delivery_fails nested hp h
  exact ⟨t.withMatches s, stop, same, run⟩

/-- Settles O39: the gate, the stack of the inner level and the frame on it, in the order of their checks. -/
theorem innerGatesAndGatesFromVirtualMode : Obligations.InnerGatesAndGatesFromVirtualMode := by
  unfold Obligations.InnerGatesAndGatesFromVirtualMode
  intro s nested ev ca sa hp hu cpl v86 fails g wide n sel off d l inner held hs kind opened present named found dS dK level dP
  obtain ⟨listed, notTask⟩ := gate_listed hs kind
  have entered := deliverProtected_gate hu held listed opened present notTask
  have size : (gateSize g.attr).bytes = n := gateSize_bytes g.attr
  have offset : g.gateOffset g.attr.is386 = off := gateOffset_eq g
  have hv : s.v86 = s.flags.vm := by rw [State.v86, hp, Bool.true_and]
  have failsWith {t : State} {e : Exc} (h : deliverGate ev g s = .error (.exc e) t)
      (same : rollback s t = { s with draws := t.draws }) : fails (withExt ev.source e) :=
    delivery_undone nested hp (entered.trans h) same
  refine ⟨fun left no => ?_, fun in_ leave => ⟨fun none => ?_, fun ssel ptr entry => ?_⟩⟩
  · have stop := entered.trans (deliverGate_v86 hu named found dS dK level dP (hv.trans left) no)
    have delivered := delivery_fails nested hp stop
    rw [withMatches_self, withExt_protection] at delivered
    exact delivered
  · have leave' : s.v86 = true → l = 0 ∧ wide = true := fun h => leave (hv.symm.trans h)
    rw [← withExt_invalidTss]
    exact failsWith (deliverGate_innerStop hu named found dS dK level dP in_ leave'
      (enterInnerStack_none (s := s.gateLeft ev g) none)) rfl
  · have leave' : s.v86 = true → l = 0 ∧ wide = true := fun h => leave (hv.symm.trans h)
    have stops {e : Exc} (h : checkStackSeg ssel l (.invalidTss 0) .invalidTss (s.gateLeft ev g) =
        .error (.exc e) (s.gateLeft ev g)) : fails (withExt ev.source e) :=
      failsWith (deliverGate_innerStop hu named found dS dK level dP in_ leave'
        (enterInnerStack_stop (s := s.gateLeft ev g) hu entry h)) rfl
    intro stack sd fit
    refine ⟨fun null => ?_, fun sn gone => ?_, fun sn sf => ⟨fun no => ?_, fun yes absent => ?_, fun yes sp => ?_⟩⟩
    · rw [← withExt_invalidTss]
      exact stops (checkStackSeg_null null)
    · rw [← withExt_invalidTss]
      exact stops (checkStackSeg_missing (s := s.gateLeft ev g) hu sn gone)
    · rw [← withExt_invalidTss]
      exact stops (checkStackSeg_denied (s := s.gateLeft ev g) hu sn sf no)
    · rw [← withExt_stack]
      exact stops (checkStackSeg_absent (s := s.gateLeft ev g) hu sn sf yes absent)
    · intro selectors count base u
      have hpl : (s.gateLeft ev g).prot = true := (prot_iff _).mpr ⟨hp, rfl⟩
      obtain ⟨h, frame⟩ := deliverGate_innerFrame hu named found dS dK level dP in_ leave'
        (enterInnerStack_ok (s := s.gateLeft ev g) hu entry hpl (checkStackSeg_ok (s := s.gateLeft ev g) hu sn sf yes sp))
      rw [hv] at frame
      have hpu : u.prot = true := (prot_iff _).mpr ⟨hp, rfl⟩
      have length : (innerValues s s.flags.vm ev h).length = count := innerValues_length s s.flags.vm ev h
      refine ⟨fun no => ?_, fun room => ?_⟩
      · rw [← withExt_stack]
        refine failsWith (frame.trans (innerFrame_noRoom hpu ?_)) rfl
        rw [length, size]
        exact no
      have room' : checkPushes (innerValues s s.flags.vm ev h).length (gateSize g.attr).bytes (stackPtr u) u = .ok () u := by
        rw [length, size]
        exact room
      refine ⟨fun beyond => ?_, fun within => ⟨h, ?_⟩⟩
      · rw [← withExt_protection]
        exact failsWith (frame.trans (innerFrame_beyond room' (by rw [offset]; exact beyond))) rfl
      · obtain ⟨b, done⟩ := innerFrame_ok (v86 := s.flags.vm) (ev := ev) (st := (ssel, sd)) hpu room' hu
          (by rw [offset]; exact within) sf found
        have delivered := delivery_completes nested hp (entered.trans (frame.trans done))
        rw [State.innerEntered, length, size, gateOffset_eq, Bool.not_or, Bool.not_not, ← Bool.and_assoc] at delivered
        exact delivered

end Sys2Proof.Machine
end


section
/-! Far JMP and CALL through call gates: the checks, and a target of the caller's level (spec/46_control_transfer.md
R590). -/

namespace Sys2Proof.Machine

theorem checkPushes_iff {s : State} (hp : s.pe = true) {n count : Nat} :
    checkPushes count n (stackPtr s) s = .ok () s ↔ ∀ k, k < count → s.pushPasses n k :=
  ⟨pushPasses_of_checkPushes hp, checkPushes_top⟩

/-- Whether pushes pass does not depend on the free values drawn. -/
theorem checkPushes_gateDrawn {s : State} (hp : s.pe = true) (a : Attr) (k : Nat) {n count : Nat} :
    checkPushes count n (stackPtr s) (s.gateDrawn a k) = .ok () (s.gateDrawn a k) ↔
      checkPushes count n (stackPtr s) s = .ok () s := by
  rw [gateDrawn_draws]
  exact (checkPushes_iff (s := { s with draws := s.draws + if a.typ.getLsbD 3 then k else 0 }) hp).trans (checkPushes_iff hp).symm

/-! ## The checks of the gate and of its code segment -/

theorem callGate_typ {a : Attr} (hs : a.s = false) (kind : a.typ.toNat % 8 = 4) : a.isCode = false ∧ a.callGate = true := by
  have lt := a.typ.isLt
  refine ⟨by rw [Attr.isCode, hs, Bool.false_and], ?_⟩
  rw [Attr.callGate, hs, Bool.not_false, Bool.true_and, Bool.or_eq_true, beq_iff_eq, beq_iff_eq]
  have cases_ : a.typ.toNat = 4 ∨ a.typ.toNat = 12 := by omega
  exact cases_.imp (typ_eq_iff a (by decide)).mpr (typ_eq_iff a (by decide)).mpr

/-- A far JMP and CALL whose selector names a call gate. -/
theorem far_callGate {c : State} {sel : Word} {off : Dword} {g : Desc} (hp : c.prot = true)
    (h : farDescriptor sel c = .ok g c) (hs : g.attr.s = false) (kind : g.attr.typ.toNat % 8 = 4) :
    farJump sel off c = farJumpGate sel g c ∧ farCall sel off c = farCallGate sel g c := by
  obtain ⟨code, gate⟩ := callGate_typ hs kind
  constructor
  · simp only [farJump, exec_bind_apply, getState_apply, hp, if_true, h, code, gate, Bool.false_eq_true, if_false]
  · simp only [farCall, exec_bind_apply, getState_apply, hp, if_true, h, code, gate, Bool.false_eq_true, if_false]

section Target

variable {r : State} {sel : Word} {g : Desc} {ca : Dword}

/-- A call gate may be used at its level (R590). -/
def State.mayCall (s : State) (sel : Word) (g : Desc) : Prop :=
  s.sys.cpl.toNat ≤ g.attr.dpl.toNat ∧ sel.toNat % 4 ≤ g.attr.dpl.toNat

theorem mayCall_iff :
    (decide (r.sys.cpl.toNat ≤ g.attr.dpl.toNat) && decide (rpl sel ≤ g.attr.dpl.toNat)) = true ↔ r.mayCall sel g := by
  rw [Bool.and_eq_true, decide_eq_true_iff, decide_eq_true_iff, rpl_eq, State.mayCall]

theorem gateTarget_closed (no : ¬r.mayCall sel g) :
    gateTarget sel g r = .error (.exc (.protection (sel &&& 0xFFFC))) r := by
  simp only [gateTarget, exec_bind_apply, getState_apply, eq_false_of_ne_true (mt mayCall_iff.mp no), require_false, selCode]

variable (opened : r.mayCall sel g)
include opened

theorem gateTarget_gateAbsent (absent : g.attr.p = false) :
    gateTarget sel g r = .error (.exc (.notPresent (sel &&& 0xFFFC))) r := by
  simp only [gateTarget, exec_bind_apply, getState_apply, mayCall_iff.mpr opened, require_true, absent, require_false, selCode]

variable (gp : g.attr.p = true)
include gp

theorem gateTarget_null (null : g.gateSel &&& 0xFFFC = 0) : gateTarget sel g r = .error (.exc (.protection 0)) r := by
  simp only [gateTarget, exec_bind_apply, getState_apply, mayCall_iff.mpr opened, require_true, gp, (isNull_iff _).mpr null,
    Bool.not_true, require_false]

variable (hu : r.unpaged) (named : g.gateSel &&& 0xFFFC ≠ 0)
include hu named

theorem gateTarget_missing (gone : descAddr r g.gateSel = none) :
    gateTarget sel g r = .error (.exc (.protection (g.gateSel &&& 0xFFFC))) r := by
  simp only [gateTarget, exec_bind_apply, getState_apply, mayCall_iff.mpr opened, require_true, gp, (isNull_eq_false _).mpr named,
    Bool.not_false, readDesc_missing hu gone, selCode]

variable (found : descAddr r g.gateSel = some ca)
include found

theorem gateTarget_denied
    (no : ¬((descriptorAt r.mem ca).attr.s = true ∧ (descriptorAt r.mem ca).attr.typ.getLsbD 3 = true ∧
      (descriptorAt r.mem ca).attr.dpl.toNat ≤ r.sys.cpl.toNat)) :
    gateTarget sel g r = .error (.exc (.protection (g.gateSel &&& 0xFFFC))) r := by
  cases code : (descriptorAt r.mem ca).attr.isCode
  · simp only [gateTarget, exec_bind_apply, getState_apply, mayCall_iff.mpr opened, require_true, gp, (isNull_eq_false _).mpr named,
      Bool.not_false, readDesc_found hu found, code, require_false, selCode]
  · obtain ⟨hs, hk⟩ := (isCode_iff _).mp code
    have level : ¬(descriptorAt r.mem ca).attr.dpl.toNat ≤ r.sys.cpl.toNat := fun level => no ⟨hs, hk, level⟩
    simp only [gateTarget, exec_bind_apply, getState_apply, mayCall_iff.mpr opened, require_true, gp, (isNull_eq_false _).mpr named,
      Bool.not_false, readDesc_found hu found, code, decide_eq_false level, require_false, selCode]

variable (target : (descriptorAt r.mem ca).attr.s = true ∧ (descriptorAt r.mem ca).attr.typ.getLsbD 3 = true ∧
  (descriptorAt r.mem ca).attr.dpl.toNat ≤ r.sys.cpl.toNat)
include target

theorem gateTarget_absent (absent : (descriptorAt r.mem ca).attr.p = false) :
    gateTarget sel g r = .error (.exc (.notPresent (g.gateSel &&& 0xFFFC))) r := by
  obtain ⟨hs, hk, level⟩ := target
  simp only [gateTarget, exec_bind_apply, getState_apply, mayCall_iff.mpr opened, require_true, gp, (isNull_eq_false _).mpr named,
    Bool.not_false, readDesc_found hu found, (isCode_iff _).mpr ⟨hs, hk⟩, decide_eq_true level, absent, require_false, selCode]

theorem gateTarget_ok (present : (descriptorAt r.mem ca).attr.p = true) :
    gateTarget sel g r = .ok (descriptorAt r.mem ca) r := by
  obtain ⟨hs, hk, level⟩ := target
  simp only [gateTarget, exec_bind_apply, getState_apply, mayCall_iff.mpr opened, require_true, gp, (isNull_eq_false _).mpr named,
    Bool.not_false, readDesc_found hu found, (isCode_iff _).mpr ⟨hs, hk⟩, decide_eq_true level, present, exec_pure_apply]

end Target

theorem farGate_stop {r : State} {sel : Word} {g : Desc} {e : Exc} (h : gateTarget sel g r = .error (.exc e) r) :
    farJumpGate sel g r = .error (.exc e) r ∧ farCallGate sel g r = .error (.exc e) r := by
  constructor
  · simp only [farJumpGate, exec_bind_apply, getState_apply, h]
  · simp only [farCallGate, exec_bind_apply, getState_apply, h]

theorem sameLevel_iff {r : State} {c : Desc} (code : c.attr.isCode = true) :
    sameLevel r c = true ↔ (c.attr.typ.getLsbD 2 = true ∨ c.attr.dpl = r.sys.cpl) := by
  rw [sameLevel, conforming_eq code, Bool.or_eq_true, decide_eq_true_iff]

/-! ## A target of the caller's level -/

section Same

variable {r : State} {sel : Word} {g c : Desc} (h : gateTarget sel g r = .ok c r)
include h

theorem farJumpGate_inner (inner : sameLevel r c = false) :
    farJumpGate sel g r = .error (.exc (.protection (g.gateSel &&& 0xFFFC))) r := by
  simp only [farJumpGate, exec_bind_apply, getState_apply, h, inner, require_false, selCode]

theorem farCallGate_inner (inner : sameLevel r c = false) : farCallGate sel g r = farCallInner g c r := by
  simp only [farCallGate, exec_bind_apply, getState_apply, h, inner, Bool.false_eq_true, if_false]

variable (same : sameLevel r c = true)
include same

theorem farCallGate_same : farCallGate sel g r = farCallSame g c r := by
  simp only [farCallGate, exec_bind_apply, getState_apply, h, same, if_true]

theorem farJumpGate_beyond (beyond : c.limit.toNat < (g.gateOffset g.attr.is386).toNat) :
    farJumpGate sel g r = .error (.exc (.protection 0)) r := by
  simp only [farJumpGate, exec_bind_apply, getState_apply, h, same, require_true, checkTarget_fails beyond]

theorem farJumpGate_ok {ca : Dword} (hu : r.unpaged) (found : descAddr r g.gateSel = some ca)
    (within : (g.gateOffset g.attr.is386).toNat ≤ c.limit.toNat) :
    farJumpGate sel g r = .ok () (r.entered g.gateSel r.sys.cpl c ca (g.gateOffset g.attr.is386)) := by
  simp only [farJumpGate, exec_bind_apply, getState_apply, h, same, require_true, checkTarget_passes within, loadCode_unpaged hu found,
    setNext_apply]
  rfl

end Same

section CallSame

variable {r : State} (hp : r.prot = true) {g c : Desc}
include hp

theorem farCallSame_noRoom (room : checkPushes 2 (gateSize g.attr).bytes (stackPtr r) r ≠ .ok () r) :
    farCallSame g c r = .error (.exc (.stack 0)) (r.gateDrawn g.attr 1) := by
  obtain ⟨hi, slot⟩ := selectorSlot_gate g.attr r r.segs.cs.sel
  have pe : (r.gateDrawn g.attr 1).pe = true := by
    rw [gateDrawn_draws]
    exact pe_of_prot hp
  simp only [farCallSame, exec_bind_apply, getState_apply, slot,
    checkPushes_no pe (mt (checkPushes_gateDrawn (pe_of_prot hp) g.attr 1).mp room)]

variable (room : checkPushes 2 (gateSize g.attr).bytes (stackPtr r) r = .ok () r)
include room

theorem farCallSame_beyond (beyond : c.limit.toNat < (g.gateOffset g.attr.is386).toNat) :
    farCallSame g c r = .error (.exc (.protection 0)) (r.gateDrawn g.attr 1) := by
  obtain ⟨hi, slot⟩ := selectorSlot_gate g.attr r r.segs.cs.sel
  simp only [farCallSame, exec_bind_apply, getState_apply, slot, (checkPushes_gateDrawn (pe_of_prot hp) g.attr 1).mpr room,
    checkTarget_fails beyond]

/-- The state that a CALL through a gate leaves: on the stack of `u`, with values pushed there. -/
def State.calledFrom (u : State) (g c : Desc) (l : BitVec 2) (vals : List Dword) (mem : Memory) : State :=
  { u.withTop u.stack32 (u.below ((gateSize g.attr).bytes * vals.length)) with
    mem := u.pushed (gateSize g.attr).bytes vals mem
    segs := { u.segs with cs := segOfDesc ((g.gateSel &&& 0xFFFC) ||| l.setWidth 16) c }
    ctx := { u.ctx with nextEip := g.gateOffset g.attr.is386 } }

theorem farCallSame_ok {ca : Dword} (hu : r.unpaged) (found : descAddr r g.gateSel = some ca)
    (within : (g.gateOffset g.attr.is386).toNat ≤ c.limit.toNat) :
    ∃ (hi : Word) (b : BitVec 4), farCallSame g c r =
      .ok () (((r.gateDrawn g.attr 1).calledFrom g c r.sys.cpl [hi ++ r.segs.cs.sel, r.ctx.nextEip]
        (markAccessed r.mem ca c)).noted b) := by
  obtain ⟨hi, slot⟩ := selectorSlot_gate g.attr r r.segs.cs.sel
  have room' := (checkPushes_gateDrawn (pe_of_prot hp) g.attr 1).mpr room
  rw [gateDrawn_draws] at slot room' ⊢
  generalize drawn_eq : ({ r with draws := r.draws + if g.attr.typ.getLsbD 3 then 1 else 0 } : State) = t at slot room' ⊢
  have passes : ∀ k, k < 2 → t.pushPasses (gateSize g.attr).bytes k := by
    subst drawn_eq
    exact pushPasses_of_checkPushes (pe_of_prot hp) room
  have hut : t.unpaged := by
    subst drawn_eq
    exact hu
  have foundt : descAddr t g.gateSel = some ca := by
    subst drawn_eq
    exact found
  obtain ⟨b, claimed⟩ := claimSlots_top hut (bytes_le_page (gateSize g.attr)) [hi ++ r.segs.cs.sel, r.ctx.nextEip] passes
  refine ⟨hi, b, ?_⟩
  simp only [farCallSame, exec_bind_apply, getState_apply, slot, room', checkTarget_passes within, claimed]
  rw [loadCode_unpaged (at_ := ca)]
  · simp only [fillSlots_pushed, setNext_apply]
    subst drawn_eq
    rfl
  · exact hut
  · exact foundt

end CallSame

end Sys2Proof.Machine
end


section
/-! CALL through a call gate to an inner level, with the parameters of the old stack (spec/46_control_transfer.md R591). -/

namespace Sys2Proof.Machine

/-! ## The parameters on the old stack -/

/-- The `n` bytes that stand `delta` bytes above the stack top can be read (R351). -/
def State.holdsAbove (s : State) (delta n : Nat) : Prop :=
  (stackPtr s).toNat + delta + n ≤ stackEnd s ∧ accessOk s.prot s.segs.ss false = true ∧
    limitOk s.prot s.segs.ss (s.above delta) n = true

theorem gateSize_pos (a : Attr) : 0 < (gateSize a).bytes := by
  rw [gateSize_bytes]
  split <;> decide

section Peek

variable {s : State} {n : Nat} (h0 : 0 < n)
include h0

theorem above_of_end {delta : Nat} (reach : (stackPtr s).toNat + delta + n ≤ stackEnd s) :
    s.above delta = stackPtr s + BitVec.ofNat 32 delta := by
  rw [stackEnd_eq] at reach
  exact above_eq_add s (by omega)

theorem peek_stops {delta : Nat} (no : ¬s.holdsAbove delta n) : peek delta n s = .error (.exc (.stack 0)) s := by
  by_cases reach : (stackPtr s).toNat + delta + n ≤ stackEnd s
  · have linear := segLinear_apply .ss (stackPtr s + BitVec.ofNat 32 delta) n false s
    rw [if_neg fun ⟨access, limit⟩ => no ⟨reach, access, (above_of_end h0 reach).symm ▸ limit⟩] at linear
    rw [peek_apply, if_pos reach]
    simp only [memRead, segSpan, exec_bind_apply, linear]
    rfl
  · rw [peek_apply, if_neg reach]

variable (hu : s.unpaged) (hn : n ≤ 4096)
include hu hn

theorem peek_holds {delta : Nat} (held : s.holdsAbove delta n) :
    ∃ b, peek delta n s = .ok (s.stacked delta n) (s.noted b) := by
  obtain ⟨reach, access, limit⟩ := held
  rw [above_of_end h0 reach] at limit
  obtain ⟨b, span⟩ := stackSpan_passes hu hn ⟨access, limit⟩
  refine ⟨b, ?_⟩
  rw [peek_apply, if_pos reach, memRead_ok span, State.stacked, above_of_end h0 reach]
  rfl

/-- Parameters that can all be read are read in their order. -/
theorem params_read (l : List Nat) : ∀ b, (∀ k, k ∈ l → s.holdsAbove (k * n) n) →
    ∃ b', eachGet l (fun k => peek (k * n) n) (s.noted b) = .ok (l.map fun k => s.stacked (k * n) n) (s.noted b') := by
  induction l with
  | nil => exact fun b _ => ⟨b, rfl⟩
  | cons k l ih =>
    intro b held
    obtain ⟨b1, first⟩ : ∃ b1, peek (k * n) n (s.noted b) = .ok (s.stacked (k * n) n) (s.noted b1) :=
        peek_holds (s := s.noted b) h0 hu hn (held k List.mem_cons_self)
    obtain ⟨b2, rest⟩ := ih b1 fun j hj => held j (List.mem_cons_of_mem k hj)
    exact ⟨b2, by simp only [eachGet, exec_bind_apply, first, rest, exec_pure_apply, List.map_cons]⟩

/-- The first parameter that cannot be read stops the CALL. -/
theorem params_stop (l : List Nat) : ∀ b, (∃ k, k ∈ l ∧ ¬s.holdsAbove (k * n) n) →
    ∃ b', eachGet l (fun k => peek (k * n) n) (s.noted b) = .error (.exc (.stack 0)) (s.noted b') := by
  induction l with
  | nil => exact fun b ⟨k, hk, _⟩ => absurd hk List.not_mem_nil
  | cons k l ih =>
    rintro b ⟨j, hj, no⟩
    by_cases held : s.holdsAbove (k * n) n
    · obtain ⟨b1, first⟩ : ∃ b1, peek (k * n) n (s.noted b) = .ok (s.stacked (k * n) n) (s.noted b1) :=
        peek_holds (s := s.noted b) h0 hu hn held
      have later : j ∈ l := (List.mem_cons.mp hj).resolve_left fun same => no (same ▸ held)
      obtain ⟨b2, rest⟩ := ih b1 ⟨j, later, no⟩
      exact ⟨b2, by simp only [eachGet, exec_bind_apply, first, rest]⟩
    · exact ⟨b, by simp only [eachGet, exec_bind_apply, peek_stops (s := s.noted b) h0 held]⟩

end Peek

/-! ## The CALL -/

theorem onStackOf_inner {α : Type} {r : State} {x : Exec α} {l : BitVec 2} {ssel : Word} {d : Desc} {ptr : Dword} :
    onStackOf r x (r.onInnerStack l ssel d ptr) =
      match x r with
      | .ok a t => .ok a { t with
          regs := { t.regs with esp := (r.onInnerStack l ssel d ptr).regs.esp }
          segs := { t.segs with ss := segOfDesc ssel d }
          sys := { t.sys with cpl := l } }
      | .error e t => .error e t := by
  simp only [onStackOf, exec_bind_apply, getState_apply, update_apply, State.onInnerStack]
  rfl

/-- The frame of a CALL to an inner level, claimed and filled behind every check. -/
def callFrame (g c : Desc) (l : BitVec 2) (ssel : Word) (d : Desc) (vals : List Dword) : Exec Unit := do
  let slots ← claimSlots (gateSize g.attr).bytes vals
  setAccessed ssel d
  loadCode g.gateSel l c
  fillSlots slots vals
  setNext (g.gateOffset g.attr.is386)

theorem callFrame_ok {t : State} (hu : t.unpaged) {g c d : Desc} {l : BitVec 2} {ssel : Word} {sa ca : Dword} (vals : List Dword)
    (passes : ∀ k, k < vals.length → t.pushPasses (gateSize g.attr).bytes k) (stackAt : descAddr t ssel = some sa)
    (found : descAddr t g.gateSel = some ca) :
    ∃ b, callFrame g c l ssel d vals t =
      .ok () ((t.calledFrom g c l vals (markAccessed (markAccessed t.mem sa d) ca c)).noted b) := by
  obtain ⟨b, claimed⟩ := claimSlots_top hu (bytes_le_page (gateSize g.attr)) vals passes
  refine ⟨b, ?_⟩
  have marked := setAccessed_unpaged
    (s := (t.noted b).withTop t.stack32 (t.below ((gateSize g.attr).bytes * vals.length))) hu ssel d sa stackAt
  simp only [callFrame, exec_bind_apply, claimed, marked]
  rw [loadCode_unpaged (at_ := ca)]
  · simp only [fillSlots_pushed, setNext_apply]
    rfl
  · exact hu
  · exact found

section Inner

variable {r : State} (hp : r.prot = true) {g c : Desc} {ssel : Word} {d : Desc} {ptr : Dword}

theorem farCallInner_stop {e : Exc} (stop : enterInnerStack c.attr.dpl r = .error (.exc e) r) :
    farCallInner g c r = .error (.exc e) r := by
  simp only [farCallInner, exec_bind_apply, getState_apply, stop]

variable (stack : enterInnerStack c.attr.dpl r = .ok (ssel, d) (r.onInnerStack c.attr.dpl ssel d ptr))
include stack

include hp in
theorem farCallInner_noRoom
    (room : checkPushes (4 + g.wordCount) (gateSize g.attr).bytes (stackPtr (r.onInnerStack c.attr.dpl ssel d ptr))
      (r.onInnerStack c.attr.dpl ssel d ptr) ≠ .ok () (r.onInnerStack c.attr.dpl ssel d ptr)) :
    farCallInner g c r = .error (.exc (.stack 0)) (r.onInnerStack c.attr.dpl ssel d ptr) := by
  have pe : (r.onInnerStack c.attr.dpl ssel d ptr).pe = true := pe_of_prot hp
  simp only [farCallInner, exec_bind_apply, getState_apply, stack, checkPushes_no pe room]

variable (room : checkPushes (4 + g.wordCount) (gateSize g.attr).bytes (stackPtr (r.onInnerStack c.attr.dpl ssel d ptr))
      (r.onInnerStack c.attr.dpl ssel d ptr) = .ok () (r.onInnerStack c.attr.dpl ssel d ptr))
include room

theorem farCallInner_beyond (beyond : c.limit.toNat < (g.gateOffset g.attr.is386).toNat) :
    farCallInner g c r = .error (.exc (.protection 0)) (r.onInnerStack c.attr.dpl ssel d ptr) := by
  simp only [farCallInner, exec_bind_apply, getState_apply, stack, room, checkTarget_fails beyond]

variable (hu : r.unpaged) (within : (g.gateOffset g.attr.is386).toNat ≤ c.limit.toNat)
include hu within

theorem farCallInner_noParams
    (no : ∃ k, k ∈ List.range g.wordCount ∧ ¬r.holdsAbove (k * (gateSize g.attr).bytes) (gateSize g.attr).bytes) :
    ∃ b, farCallInner g c r = .error (.exc (.stack 0)) (r.noted b) := by
  obtain ⟨b, params⟩ := params_stop (gateSize_pos g.attr) hu (bytes_le_page _) _ r.events.traps.b no
  rw [noted_self] at params
  have onOld : onStackOf r (eachGet (List.range g.wordCount) fun k => peek (k * (gateSize g.attr).bytes) (gateSize g.attr).bytes)
      (r.onInnerStack c.attr.dpl ssel d ptr) = .error (.exc (.stack 0)) (r.noted b) := by
    rw [onStackOf_inner, params]
  refine ⟨b, ?_⟩
  simp only [farCallInner, exec_bind_apply, getState_apply, stack, room, checkTarget_passes within, onOld]

include hp in
theorem farCallInner_ok {sa ca : Dword} (found : descAddr r g.gateSel = some ca) (stackAt : descAddr r ssel = some sa)
    (held : ∀ k, k ∈ List.range g.wordCount → r.holdsAbove (k * (gateSize g.attr).bytes) (gateSize g.attr).bytes) :
    ∃ (hi : Word) (b : BitVec 4), farCallInner g c r =
      .ok () ((((r.onInnerStack c.attr.dpl ssel d ptr).gateDrawn g.attr 1).calledFrom g c c.attr.dpl
        ([r.segs.ss.sel.setWidth 32, r.regs.esp] ++
          ((List.range g.wordCount).map fun k => r.stacked (k * (gateSize g.attr).bytes) (gateSize g.attr).bytes).reverse ++
          [hi ++ r.segs.cs.sel, r.ctx.nextEip])
        (markAccessed (markAccessed r.mem sa d) ca c)).noted b) := by
  obtain ⟨b, params⟩ := params_read (gateSize_pos g.attr) hu (bytes_le_page _) _ r.events.traps.b held
  rw [noted_self] at params
  obtain ⟨hi, slot⟩ := selectorSlot_gate g.attr ((r.onInnerStack c.attr.dpl ssel d ptr).noted b) r.segs.cs.sel
  have passes := pushPasses_of_checkPushes (s := r.onInnerStack c.attr.dpl ssel d ptr) (pe_of_prot hp) room
  generalize values : ((List.range g.wordCount).map fun k =>
    r.stacked (k * (gateSize g.attr).bytes) (gateSize g.attr).bytes) = vals at params ⊢
  have length : ([r.segs.ss.sel.setWidth 32, r.regs.esp] ++ vals.reverse ++ [hi ++ r.segs.cs.sel, r.ctx.nextEip]).length =
      4 + g.wordCount := by
    have count : vals.length = g.wordCount := by rw [← values, List.length_map, List.length_range]
    simp only [List.length_append, List.length_cons, List.length_nil, List.length_reverse, count]
    omega
  rw [gateDrawn_draws] at slot ⊢
  generalize drawn_eq : ({ (r.onInnerStack c.attr.dpl ssel d ptr) with
    draws := (r.onInnerStack c.attr.dpl ssel d ptr).draws + if g.attr.typ.getLsbD 3 then 1 else 0 } : State) = t at ⊢
  have same : t.mem = r.mem ∧ t.unpaged ∧ descAddr t ssel = some sa ∧ descAddr t g.gateSel = some ca ∧
      ∀ k, k < 4 + g.wordCount → t.pushPasses (gateSize g.attr).bytes k := by
    subst drawn_eq
    exact ⟨rfl, hu, stackAt, found, passes⟩
  obtain ⟨mem, hut, stackt, foundt, passest⟩ := same
  obtain ⟨b', done⟩ := callFrame_ok (t := t.noted b) hut
    ([r.segs.ss.sel.setWidth 32, r.regs.esp] ++ vals.reverse ++ [hi ++ r.segs.cs.sel, r.ctx.nextEip]) (l := c.attr.dpl)
    (fun k hk => passest k (length ▸ hk)) (d := d) stackt (c := c) foundt
  refine ⟨hi, b', ?_⟩
  simp only [callFrame, exec_bind_apply] at done
  have onOld : onStackOf r (eachGet (List.range g.wordCount) fun k => peek (k * (gateSize g.attr).bytes) (gateSize g.attr).bytes)
      (r.onInnerStack c.attr.dpl ssel d ptr) = .ok vals ((r.onInnerStack c.attr.dpl ssel d ptr).noted b) := by
    rw [onStackOf_inner, params]
    rfl
  simp only [farCallInner, exec_bind_apply, getState_apply, stack, room, checkTarget_passes within, onOld, slot]
  rw [← mem]
  subst drawn_eq
  exact done

end Inner

end Sys2Proof.Machine
end


section
/-! Far JMP and CALL through call gates, settled (spec/46_control_transfer.md R576, R578, R590 to R592). -/

namespace Sys2Proof.Machine

theorem gateDrawn_one (s : State) (a : Attr) :
    s.gateDrawn a 1 = { s with draws := if a.typ.getLsbD 3 then s.draws + 1 else s.draws } := by
  unfold State.gateDrawn
  cases a.typ.getLsbD 3 <;> rfl

theorem calledFrom_eq {g : Desc} {n count : Nat} {vals : List Dword} (size : (gateSize g.attr).bytes = n)
    (length : vals.length = count) (u : State) (c : Desc) (l : BitVec 2) (mem : Memory) :
    u.calledFrom g c l vals mem =
      { u.withTop u.stack32 (u.below (n * count)) with
        mem := u.pushed n vals mem
        segs := { u.segs with cs := segOfDesc ((g.gateSel &&& 0xFFFC) ||| l.setWidth 16) c }
        ctx := { u.ctx with nextEip := g.gateOffset g.attr.is386 } } := by
  rw [State.calledFrom, size, length]

theorem callFrame_length (count : Nat) (f : Nat → Dword) (ss esp cs eip : Dword) :
    ([ss, esp] ++ ((List.range count).map f).reverse ++ [cs, eip]).length = 4 + count := by
  simp only [List.length_append, List.length_cons, List.length_nil, List.length_reverse, List.length_map, List.length_range]
  omega

/-- Settles O31: the gate, the code segment that it names, and the stack of the inner level, in the order of their checks. -/
theorem callGatesEnterTheirTarget : Obligations.CallGatesEnterTheirTarget := by
  unfold Obligations.CallGatesEnterTheirTarget
  intro s r jmpFar callFar sel o ga ca sa hp hus h sn sf g hs kind cpl gate wide n count csel code off c jmp call fails open_ target
    fits draws enters
  have acc := accessed_farPointer h
  have mode := sameMode_accessed acc
  have hpr : r.prot = true := (sameMode_prot mode).trans hp
  have hu : r.unpaged := sameMode_unpaged mode hus
  obtain ⟨hj, hc⟩ := exec_farPointer h
  obtain ⟨gateJump, gateCall⟩ := far_callGate (off := o) hpr (farDescriptor_found hu sn sf) hs kind
  have size : (gateSize g.attr).bytes = n := gateSize_bytes g.attr
  have offset : g.gateOffset g.attr.is386 = off := gateOffset_eq g
  have reach (h : fits) : (g.gateOffset g.attr.is386).toNat ≤ c.limit.toNat := by
    rw [offset]
    exact h
  have beyond (h : ¬fits) : c.limit.toNat < (g.gateOffset g.attr.is386).toNat := by
    rw [offset]
    exact Nat.not_le.mp h
  have jumpFails {t : State} {e : Exc} (hx : farJumpGate sel g r = .error (.exc e) t) : jmp = s.raises t e :=
    hj.trans (runInstr_from_stop (gateJump.trans hx))
  have callFails {t : State} {e : Exc} (hx : farCallGate sel g r = .error (.exc e) t) : call = s.raises t e :=
    hc.trans (runInstr_from_stop (gateCall.trans hx))
  have stops {e : Exc} (hx : gateTarget sel g r = .error (.exc e) r) : fails e :=
    ⟨jumpFails (farGate_stop hx).1, callFails (farGate_stop hx).2⟩
  refine ⟨fun no => stops (gateTarget_closed no), fun yes absent => stops (gateTarget_gateAbsent yes absent),
    fun yes gp null => stops (gateTarget_null yes gp null), fun yes gp named gone => stops (gateTarget_missing yes gp hu named gone),
    fun yes gp named found => ⟨fun no => stops (gateTarget_denied yes gp hu named found no),
      fun tg absent => stops (gateTarget_absent yes gp hu named found tg absent), fun tg present same => ?_,
      fun tg present inner => ?_⟩⟩
  all_goals
    have goes := gateTarget_ok (sel := sel) yes gp hu named found tg present
    have level := sameLevel_iff (r := r) ((isCode_iff c.attr).mpr ⟨tg.1, tg.2.1⟩)
  · have same' := level.mpr same
    have callSame := gateCall.trans (farCallGate_same goes same')
    intro drawn
    have drawn_eq : r.gateDrawn g.attr 1 = drawn := gateDrawn_one r g.attr
    refine ⟨fun within => ?_, fun no => ?_, fun no => ?_, fun room => ⟨fun within => ?_, fun no => ?_⟩⟩
    · have done := farJumpGate_ok goes same' hu found (reach within)
      rw [offset] at done
      exact hj.trans (runInstr_from_ok (gateJump.trans done))
    · exact jumpFails (farJumpGate_beyond goes same' (beyond no))
    · have stop := farCallSame_noRoom (g := g) (c := c) hpr (size ▸ no)
      rw [drawn_eq] at stop
      exact hc.trans (runInstr_from_stop (callSame.trans stop))
    · obtain ⟨hi, b, done⟩ := farCallSame_ok (g := g) (c := c) hpr (size ▸ room) hu found (reach within)
      rw [drawn_eq, calledFrom_eq size (count := 2) rfl, offset, Nat.mul_comm] at done
      exact ⟨hi, b, hc.trans (runInstr_from_ok (callSame.trans done))⟩
    · have stop := farCallSame_beyond (g := g) (c := c) hpr (size ▸ room) (beyond no)
      rw [drawn_eq] at stop
      exact hc.trans (runInstr_from_stop (callSame.trans stop))
  · have inner' := eq_false_of_ne_true (mt level.mp inner)
    have callInner := gateCall.trans (farCallGate_inner goes inner')
    have fails' {t : State} {e : Exc} (hx : farCallInner g c r = .error (.exc e) t) : call = s.raises t e :=
      hc.trans (runInstr_from_stop (callInner.trans hx))
    intro l
    refine ⟨jumpFails (farJumpGate_inner goes inner'), fun none => fails' (farCallInner_stop (enterInnerStack_none none)),
      fun ssel ptr entry => ?_⟩
    have denied {e : Exc} (hx : checkStackSeg ssel l (.invalidTss 0) .invalidTss r = .error (.exc e) r) : call = s.raises r e :=
      fails' (farCallInner_stop (enterInnerStack_stop hu entry hx))
    intro stack d good
    refine ⟨fun null => denied (checkStackSeg_null null), fun n0 gone => denied (checkStackSeg_missing hu n0 gone),
      fun n0 stackAt => ⟨fun no => denied (checkStackSeg_denied hu n0 stackAt no),
        fun fit absent => denied (checkStackSeg_absent hu n0 stackAt fit absent), fun fit sp => ?_⟩⟩
    have onStack := enterInnerStack_ok hu entry hpr (checkStackSeg_ok hu n0 stackAt fit sp)
    intro u
    refine ⟨fun no => fails' (t := u) (farCallInner_noRoom hpr onStack (size ▸ no)), fun room => ?_⟩
    have room' : checkPushes (4 + g.wordCount) (gateSize g.attr).bytes (stackPtr u) u = .ok () u := size ▸ room
    refine ⟨fun no => fails' (t := u) (farCallInner_beyond onStack room' (beyond no)), fun within ⟨i, hi, no⟩ => ?_, fun within held => ?_⟩
    · obtain ⟨b, stop⟩ := farCallInner_noParams onStack room' hu (reach within) ⟨i, List.mem_range.mpr hi, size ▸ no⟩
      exact fails' (t := r.noted b) stop
    · intro params drawn
      have drawn_eq : u.gateDrawn g.attr 1 = drawn := gateDrawn_one u g.attr
      obtain ⟨hi, b, done⟩ := farCallInner_ok hpr onStack room' hu (reach within) found stackAt
        fun k hk => size ▸ held k (List.mem_range.mp hk)
      rw [size, drawn_eq] at done
      rw [calledFrom_eq size (callFrame_length g.wordCount _ _ _ _ _), offset] at done
      exact ⟨hi, b, hc.trans (runInstr_from_ok (callInner.trans done))⟩

end Sys2Proof.Machine
end


section
/-! The task switch: what the old task's TSS takes, and what the new task's TSS holds (spec/60_exceptions.md R795, R796). -/

namespace Sys2Proof.Machine

/-! ## Fields of a TSS -/

/-- A part of the bytes from a linear address. -/
theorem field_linearBytes (base : Dword) {n off k : Nat} (h : off + k ≤ n) :
    field (linearBytes base n) off k = linearBytes (base + BitVec.ofNat 32 off) k := by
  refine List.ext_getElem ?_ fun i h1 h2 => ?_
  · simp only [field, linearBytes, List.length_take, List.length_drop, List.length_map, List.length_range]
    omega
  · simp only [field, linearBytes, List.getElem_take, List.getElem_drop, List.getElem_map, List.getElem_range, BitVec.toNat_add,
      BitVec.toNat_ofNat]
    omega

/-- The values of a 386 TSS that a task is saved in, each with its offset and its bytes (R795). -/
def savedFields32 (s : State) (eip flags : Dword) : List (Nat × Nat × Dword) :=
  [(0x20, 4, eip), (0x24, 4, flags), (0x28, 4, s.regs.eax), (0x2C, 4, s.regs.ecx), (0x30, 4, s.regs.edx), (0x34, 4, s.regs.ebx),
   (0x38, 4, s.regs.esp), (0x3C, 4, s.regs.ebp), (0x40, 4, s.regs.esi), (0x44, 4, s.regs.edi),
   (0x48, 2, s.segs.es.sel.setWidth 32), (0x4C, 2, s.segs.cs.sel.setWidth 32), (0x50, 2, s.segs.ss.sel.setWidth 32),
   (0x54, 2, s.segs.ds.sel.setWidth 32), (0x58, 2, s.segs.fs.sel.setWidth 32), (0x5C, 2, s.segs.gs.sel.setWidth 32)]

/-- The values of a 286 TSS that a task is saved in (R796). -/
def savedFields16 (s : State) (eip flags : Dword) : List (Nat × Nat × Dword) :=
  [(0x0E, 2, eip), (0x10, 2, flags), (0x12, 2, s.regs.eax), (0x14, 2, s.regs.ecx), (0x16, 2, s.regs.edx), (0x18, 2, s.regs.ebx),
   (0x1A, 2, s.regs.esp), (0x1C, 2, s.regs.ebp), (0x1E, 2, s.regs.esi), (0x20, 2, s.regs.edi),
   (0x22, 2, s.segs.es.sel.setWidth 32), (0x24, 2, s.segs.cs.sel.setWidth 32), (0x26, 2, s.segs.ss.sel.setWidth 32),
   (0x28, 2, s.segs.ds.sel.setWidth 32)]

/-- Memory with fields of a TSS at `base` written one after the other. -/
def Memory.fields (m : Memory) (base : Dword) (l : List (Nat × Nat × Dword)) : Memory :=
  l.foldl (fun m v => m.store (linearBytes (base + BitVec.ofNat 32 v.1) v.2.1) v.2.2) m

theorem saveTask32_apply (base eip flags : Dword) (s : State) :
    saveTask32 (linearBytes (base + 0x20) 0x40) eip flags s =
      .ok () { s with mem := Memory.fields s.mem base (savedFields32 s eip flags) } := by
  have at_ {off k : Nat} (h : off + k ≤ 0x40) :
      field (linearBytes (base + 0x20) 0x40) off k = linearBytes (base + BitVec.ofNat 32 (0x20 + off)) k := by
    rw [field_linearBytes _ h, BitVec.add_assoc, BitVec.ofNat_add]
    rfl
  simp (disch := decide) only [saveTask32, tssRegs, tssSegs, List.zipIdx_cons, List.zipIdx_nil, exec_bind_apply, getState_apply, eachDo_cons, eachDo_nil,
    storeSpan_apply, at_, Regs.get, SegRegs.get, Memory.fields, savedFields32, List.foldl_cons, List.foldl_nil, Nat.reduceAdd,
    Nat.reduceMul]

theorem saveTask16_apply (base eip flags : Dword) (s : State) :
    saveTask16 (linearBytes (base + 0x0E) 0x1C) eip flags s =
      .ok () { s with mem := Memory.fields s.mem base (savedFields16 s eip flags) } := by
  have at_ {off k : Nat} (h : off + k ≤ 0x1C) :
      field (linearBytes (base + 0x0E) 0x1C) off k = linearBytes (base + BitVec.ofNat 32 (0x0E + off)) k := by
    rw [field_linearBytes _ h, BitVec.add_assoc, BitVec.ofNat_add]
    rfl
  simp (disch := decide) only [saveTask16, tssRegs, tssSegs16, List.zipIdx_cons, List.zipIdx_nil, exec_bind_apply, getState_apply, eachDo_cons,
    eachDo_nil, storeSpan_apply, at_, Regs.get, SegRegs.get, Memory.fields, savedFields16, List.foldl_cons, List.foldl_nil, Nat.reduceAdd,
    Nat.reduceMul]

/-- The image in a 386 TSS at `base` (R795). -/
def image32 (m : Memory) (base : Dword) : TaskImage :=
  let wide (k : Nat) : Dword := m.load (linearBytes (base + BitVec.ofNat 32 k) 4)
  let word (k : Nat) : Word := (m.load (linearBytes (base + BitVec.ofNat 32 k) 2)).setWidth 16
  { cr3 := some (wide 0x1C), eip := wide 0x20, flags := wide 0x24, ldt := word 0x60
    regs := [wide 0x28, wide 0x2C, wide 0x30, wide 0x34, wide 0x38, wide 0x3C, wide 0x40, wide 0x44]
    segs := [word 0x48, word 0x4C, word 0x50, word 0x54, word 0x58, word 0x5C]
    t := (m.load (linearBytes (base + BitVec.ofNat 32 0x64) 1)).getLsbD 0 }

/-- The image in a 286 TSS at `base` (R796). -/
def image16 (m : Memory) (base : Dword) : TaskImage :=
  let half (k : Nat) : Dword := m.load (linearBytes (base + BitVec.ofNat 32 k) 2)
  let word (k : Nat) : Word := (half k).setWidth 16
  { cr3 := none, eip := half 0x0E, flags := half 0x10, ldt := word 0x2A
    regs := [half 0x12, half 0x14, half 0x16, half 0x18, half 0x1A, half 0x1C, half 0x1E, half 0x20]
    segs := [word 0x22, word 0x24, word 0x26, word 0x28, 0, 0], t := false }

theorem loadImage32_apply (base : Dword) (s : State) :
    loadImage32 (linearBytes base 0x66) s = .ok (image32 s.mem base) s := by
  have at_ {off k : Nat} (h : off + k ≤ 0x66) :
      field (linearBytes base 0x66) off k = linearBytes (base + BitVec.ofNat 32 off) k := field_linearBytes _ h
  simp (disch := decide) only [loadImage32, eachGet, exec_bind_apply, exec_pure_apply, loadSpan_apply, at_, image32, low16, List.map_cons,
    List.map_nil, Nat.reduceAdd, Nat.reduceMul]

theorem loadImage16_apply (base : Dword) (s : State) :
    loadImage16 (linearBytes base 0x2C) s = .ok (image16 s.mem base) s := by
  have at_ {off k : Nat} (h : off + k ≤ 0x2C) :
      field (linearBytes base 0x2C) off k = linearBytes (base + BitVec.ofNat 32 off) k := field_linearBytes _ h
  simp (disch := decide) only [loadImage16, eachGet, exec_bind_apply, exec_pure_apply, loadSpan_apply, at_, image16, low16, List.map_cons,
    List.map_nil, List.cons_append, List.nil_append, Nat.reduceAdd, Nat.reduceMul]

/-! ## The busy bit of a TSS descriptor -/

/-- The rights byte of a descriptor that a state's tables hold. -/
def rightsBytes (s : State) (sel : Word) : List Nat :=
  match descAddr s sel with
  | none => []
  | some a => linearBytes (a + 5) 1

theorem rightsSpan_unpaged {s : State} (hu : s.unpaged) (changes : Bool) (sel : Word) :
    rightsSpan changes sel s = .ok (if changes then rightsBytes s sel else []) s := by
  rw [rightsBytes]
  cases found : descAddr s sel with
  | none => simp only [rightsSpan, exec_bind_apply, getState_apply, found, exec_pure_apply, ite_self]
  | some a =>
    cases changes
    · simp only [rightsSpan, exec_bind_apply, getState_apply, found, Bool.false_eq_true, if_false, exec_pure_apply]
    · simp only [rightsSpan, exec_bind_apply, getState_apply, found, if_true, linSpan_unpaged hu _ 1 (by decide)]

/-- Memory with the busy bit of a descriptor changed, if the tables of `s` hold it. -/
def busyChanged (s : State) (m : Memory) (sel : Word) (f : Dword → Dword) : Memory :=
  match descAddr s sel with
  | none => m
  | some a => m.store (linearBytes (a + 5) 1) (f (m.load (linearBytes (a + 5) 1)))

theorem writeBusy_apply (s t : State) (sel : Word) (busy : Bool) :
    writeBusy (rightsBytes s sel) busy t =
      .ok () { t with mem := busyChanged s t.mem sel fun v => if busy then v ||| 2 else v &&& 0xFD } := by
  rw [rightsBytes, busyChanged]
  cases descAddr s sel
  · rfl
  · simp only [writeBusy, exec_bind_apply, loadSpan_apply, storeSpan_apply]

/-! ## The switch -/

/-- Memory behind the saving of the old task. -/
def taskSaved (s : State) (kind : SwitchKind) (ret : Dword) : Memory :=
  let flags : Dword := { s.flags with nt := if kind = SwitchKind.iret then false else s.flags.nt }.image
  Memory.fields s.mem s.sys.tr.base (if s.sys.tr.attr.typ.getLsbD 3 then savedFields32 s ret flags else savedFields16 s ret flags)

/-- Memory behind the back link and the busy bits. -/
def taskLinked (s : State) (tsel : Word) (t : Desc) (kind : SwitchKind) (ret : Dword) : Memory :=
  let m := if kind = .call ∨ kind = .int then (taskSaved s kind ret).store (linearBytes (t.base + BitVec.ofNat 32 0) 2) (s.sys.tr.sel.setWidth 32)
    else busyChanged s (taskSaved s kind ret) s.sys.tr.sel fun v => v &&& 0xFD
  if kind = .iret then m else busyChanged s m tsel fun v => v ||| 2

/-- The state at the commit point of a task switch: the new task's TSS in TR, TS set (R795). -/
def State.switchedTo (s : State) (tsel : Word) (t : Desc) (kind : SwitchKind) (ret : Dword) : State :=
  { s with
    mem := taskLinked s tsel t kind ret
    sys := { s.sys with
      tr := { sel := tsel, base := t.base, limit := t.limit, attr := { t.attr with typ := t.attr.typ ||| 2 }, valid := true }
      cr0 := s.sys.cr0 ||| 8 } }

section Switch

variable {s : State} {tsel : Word} {t : Desc} {kind : SwitchKind} {ret : Dword}

theorem taskSwitch_short (h : t.limit.toNat < if t.attr.typ.getLsbD 3 then 0x65 else 0x2B) :
    taskSwitch tsel t kind ret s = .error (.exc (.invalidTss (tsel &&& 0xFFFC))) s := by
  have short : decide ((if t.attr.is386 then 0x65 else 0x2B) ≤ t.limit.toNat) = false := decide_eq_false (Nat.not_le.mpr h)
  simp only [taskSwitch, exec_bind_apply, getState_apply, short, require_false, selCode]

theorem notIret_iff (kind : SwitchKind) : (kind != .iret) = decide (¬kind = .iret) := by
  cases kind <;> rfl

/-- A task switch behind its one check is the resumption of the new task at the commit point. -/
theorem taskSwitch_commits (hu : s.unpaged) (h : (if t.attr.typ.getLsbD 3 then 0x65 else 0x2B) ≤ t.limit.toNat) :
    taskSwitch tsel t kind ret s =
      mapStop inNewTask (resumeTask
        (if t.attr.typ.getLsbD 3 then image32 (taskLinked s tsel t kind ret) t.base
          else image16 (taskLinked s tsel t kind ret) t.base) (t.attr.typ.getLsbD 3) kind) (s.switchedTo tsel t kind ret) := by
  have long : decide ((if t.attr.is386 then 0x65 else 0x2B) ≤ t.limit.toNat) = true := decide_eq_true h
  have small (wide : Bool) (a b : Nat) (ha : a ≤ 4096) (hb : b ≤ 4096) : (if wide then a else b) ≤ 4096 := by
    split
    · exact ha
    · exact hb
  have old := linSpan_unpaged hu (s.sys.tr.base + if s.sys.tr.attr.is386 then 0x20 else 0x0E) _
    (small s.sys.tr.attr.is386 0x40 0x1C (by decide) (by decide)) true false
  have link (write : Bool) := linSpan_unpaged hu t.base 2 (by decide) write false
  have new := linSpan_unpaged hu t.base _ (small t.attr.is386 0x66 0x2C (by decide) (by decide)) false false
  simp only [taskSwitch, exec_bind_apply, getState_apply, long, require_true, old, link, new, rightsSpan_unpaged hu,
    notIret_iff]
  cases oldWide : s.sys.tr.attr.typ.getLsbD 3 <;> cases newWide : t.attr.typ.getLsbD 3 <;>
    have oldKind : s.sys.tr.attr.is386 = _ := oldWide <;> have newKind : t.attr.is386 = _ := newWide <;>
    cases kind <;>
    simp only [oldKind, newKind, oldWide, SwitchKind.nests, reduceCtorEq, or_false, or_true, decide_true, decide_false,
      Bool.not_true, Bool.not_false, not_true_eq_false, not_false_eq_true, Bool.false_eq_true, if_true, if_false, exec_bind_apply,
      saveTask32_apply, saveTask16_apply, storeSpan_apply, writeBusy_apply, when_true, when_false, update_apply, loadImage32_apply,
      loadImage16_apply, Bool.and_true, Bool.and_false, BitVec.add_zero, State.switchedTo, taskLinked, taskSaved,
      systemOfDesc]

end Switch

end Sys2Proof.Machine
end


section
/-! The task switch behind its commit point: the new task's registers and segments (spec/60_exceptions.md R795 steps 5 to
8). -/

namespace Sys2Proof.Machine

/-! ## Registers and flags of the image -/

/-- A register of the new task; from a 286 TSS the upper half is the old one (R796). -/
def resumed (wide : Bool) (x y : Dword) : Dword := if wide then y else x.extractLsb' 16 16 ++ y.extractLsb' 0 16

theorem imageRegs_eq (g : Regs) (wide : Bool) (a c d b sp bp si di : Dword) :
    imageRegs g wide [a, c, d, b, sp, bp, si, di] =
      { eax := resumed wide g.eax a, ecx := resumed wide g.ecx c, edx := resumed wide g.edx d, ebx := resumed wide g.ebx b
        esp := resumed wide g.esp sp, ebp := resumed wide g.ebp bp, esi := resumed wide g.esi si, edi := resumed wide g.edi di } := by
  cases wide
  · simp only [imageRegs, tssRegs, List.zip_cons_cons, List.zip_nil_right, List.foldl_cons, List.foldl_nil, Bool.false_eq_true, if_false,
      putLow16_eq, low16_eq, resumed, Regs.set, Regs.get]
  · rfl

/-- A segment register with a selector of the image, not valid yet. -/
def unloaded (r : SegReg) (x : Word) : SegReg := { r with sel := x, valid := false }

theorem imageSels_eq (g : SegRegs) (es cs ss ds fs gs : Word) :
    imageSels g [es, cs, ss, ds, fs, gs] =
      { es := unloaded g.es es, cs := unloaded g.cs cs, ss := unloaded g.ss ss, ds := unloaded g.ds ds, fs := unloaded g.fs fs
        gs := unloaded g.gs gs } := rfl

/-- The flags of the image: NT of a task that another nests in (R797). -/
def TaskImage.eflags (img : TaskImage) (wide : Bool) : Flags := Flags.ofImage (if wide then img.flags else img.flags &&& 0xFFFF)

/-- CR3 of the new task. -/
def TaskImage.newCr3 (img : TaskImage) (old : Dword) : Dword :=
  match img.cr3 with
  | some x => x &&& 0xFFFFF000
  | none => old

/-- The state in which the descriptors of the new task are loaded. -/
def State.resuming (v : State) (img : TaskImage) (wide : Bool) (kind : SwitchKind) : State :=
  { v with
    eip := img.eip
    flags := { img.eflags wide with nt := (img.eflags wide).nt || (kind == .call || kind == .int) }
    regs := imageRegs v.regs wide img.regs
    segs := imageSels v.segs img.segs
    sys := { v.sys with cr3 := img.newCr3 v.sys.cr3, ldtr := unloaded v.sys.ldtr img.ldt
                        cpl := if (img.eflags wide).vm then 3 else v.sys.cpl }
    dregs := { v.dregs with dr7 := v.dregs.dr7 &&& 0xFFFFFEAA }
    paging := { v.paging with
      tlb := if img.newCr3 v.sys.cr3 = v.sys.cr3 then v.paging.tlb else v.paging.tlb.map fun e => { e with valid := false } }
    ctx := { v.ctx with nextEip := img.eip } }

/-- The trap of the new task's T bit (R825). -/
def taskTrap (img : TaskImage) : Exec Unit :=
  when_ img.t (update fun s => { s with events := { s.events with traps := { s.events.traps with bt := true } } })

/-- The loads of a task switch to V86 mode. -/
def resumeV86 (img : TaskImage) : Exec Unit := do
  loadTaskLdt img.ldt
  loadV86Segs img.segs
  taskTrap img

/-- The loads of a task switch within protected mode. -/
def resumeProt (img : TaskImage) : Exec Unit := do
  loadTaskLdt img.ldt
  loadTaskCode (img.segs.getD 1 0)
  let s ← getState
  loadStackSeg (img.segs.getD 2 0) s.sys.cpl (.invalidTss (selCode (img.segs.getD 2 0))) .invalidTss
  loadDataSeg .ds (img.segs.getD 3 0) .invalidTss
  loadDataSeg .es (img.segs.getD 0 0) .invalidTss
  loadDataSeg .fs (img.segs.getD 4 0) .invalidTss
  loadDataSeg .gs (img.segs.getD 5 0) .invalidTss
  taskTrap img

theorem nests_eq (kind : SwitchKind) : kind.nests = (kind == .call || kind == .int) := by
  cases kind <;> rfl

theorem resumeTask_resuming (img : TaskImage) (wide : Bool) (kind : SwitchKind) (v : State) :
    resumeTask img wide kind v = (if (img.eflags wide).vm then resumeV86 img else resumeProt img) (v.resuming img wide kind) := by
  cases vm : (img.eflags wide).vm <;> rw [TaskImage.eflags] at vm
  all_goals
    cases cr3 : img.cr3 with
    | none =>
      have kept : img.newCr3 v.sys.cr3 = v.sys.cr3 := by rw [TaskImage.newCr3, cr3]
      simp only [resumeTask, exec_bind_apply, getState_apply, update_apply, setNext_apply, cr3, vm, nests_eq, State.resuming, kept, if_true,
        TaskImage.eflags, Bool.false_eq_true, if_false, resumeV86, resumeProt]
      rfl
    | some x =>
      have new : img.newCr3 v.sys.cr3 = x &&& 0xFFFFF000 := by rw [TaskImage.newCr3, cr3]
      by_cases same : x &&& 0xFFFFF000 = v.sys.cr3
      · have kept : (x &&& 0xFFFFF000 != v.sys.cr3) = false := bne_eq_false_iff_eq.mpr same
        simp only [resumeTask, exec_bind_apply, getState_apply, update_apply, setNext_apply, cr3, kept, when_false, vm, nests_eq,
          State.resuming, new, if_pos same, TaskImage.eflags, Bool.false_eq_true, if_true, if_false, resumeV86, resumeProt]
        rfl
      · have flush : (x &&& 0xFFFFF000 != v.sys.cr3) = true := bne_iff_ne.mpr same
        simp only [resumeTask, exec_bind_apply, getState_apply, update_apply, setNext_apply, cr3, flush, when_true, tlbFlush, vm, nests_eq,
          State.resuming, new, if_neg same, TaskImage.eflags, Bool.false_eq_true, if_true, if_false, resumeV86, resumeProt]
        rfl

/-- The state with the trap of the new task's T bit. -/
def State.trapped (r : State) (img : TaskImage) : State :=
  { r with events := { r.events with traps := { r.events.traps with bt := r.events.traps.bt || img.t } } }

theorem taskTrap_apply (img : TaskImage) (r : State) : taskTrap img r = .ok () (r.trapped img) := by
  rw [taskTrap, State.trapped]
  cases img.t
  · rw [when_false, Bool.or_false]
  · rw [when_true, update_apply, Bool.or_true]

theorem loadV86Segs_six (es cs ss ds fs gs : Word) (r : State) :
    loadV86Segs [es, cs, ss, ds, fs, gs] r =
      .ok () { r with
        segs := { es := segV86 es, cs := segV86 cs, ss := segV86 ss, ds := segV86 ds, fs := segV86 fs, gs := segV86 gs }
        sys := { r.sys with cpl := 3 } } := by
  simp only [loadV86Segs, tssSegs, List.zip_cons_cons, List.zip_nil_right, exec_bind_apply, eachDo_cons, eachDo_nil, setSeg_apply,
    update_apply]
  rfl

section Resume

variable {v r1 : State} {img : TaskImage} {wide : Bool} {kind : SwitchKind} {es cs ss ds fs gs : Word}
  (segs : img.segs = [es, cs, ss, ds, fs, gs]) (ldt : loadTaskLdt img.ldt (v.resuming img wide kind) = .ok () r1)
include segs ldt

theorem resumeTask_v86 (vm : (img.eflags wide).vm = true) :
    resumeTask img wide kind v =
      .ok () (({ r1 with
        segs := { es := segV86 es, cs := segV86 cs, ss := segV86 ss, ds := segV86 ds, fs := segV86 fs, gs := segV86 gs }
        sys := { r1.sys with cpl := 3 } } : State).trapped img) := by
  rw [resumeTask_resuming, vm, if_pos rfl]
  simp only [resumeV86, exec_bind_apply, ldt, segs, loadV86Segs_six, taskTrap_apply]

theorem resumeTask_prot (vm : (img.eflags wide).vm = false) {r2 r3 r4 r5 r6 r7 : State} (code : loadTaskCode cs r1 = .ok () r2)
    (stack : loadStackSeg ss r2.sys.cpl (.invalidTss (ss &&& 0xFFFC)) .invalidTss r2 = .ok () r3)
    (hds : loadDataSeg .ds ds .invalidTss r3 = .ok () r4) (hes : loadDataSeg .es es .invalidTss r4 = .ok () r5)
    (hfs : loadDataSeg .fs fs .invalidTss r5 = .ok () r6) (hgs : loadDataSeg .gs gs .invalidTss r6 = .ok () r7) :
    resumeTask img wide kind v = .ok () (r7.trapped img) := by
  rw [resumeTask_resuming, vm, if_neg Bool.false_ne_true]
  simp only [resumeProt, exec_bind_apply, getState_apply, ldt, segs, List.getD_cons_zero, List.getD_cons_succ, code, selCode, stack, hds,
    hes, hfs, hgs, taskTrap_apply]

end Resume

/-! ## LDTR and CS of the new task -/

section TaskSegs

variable {r : State} {sel : Word} {at_ : Dword}

/-- The state in which CS of the new task is checked: CPL is the RPL of its selector (R795 step 7). -/
def State.atTaskLevel (r : State) (sel : Word) : State := { r with sys := { r.sys with cpl := sel.extractLsb' 0 2 } }

theorem loadTaskLdt_null (h : sel &&& 0xFFFC = 0) : loadTaskLdt sel r = .ok () r := by
  rw [loadTaskLdt, (isNull_iff sel).mpr h, if_pos rfl, exec_pure_apply]

theorem loadTaskCode_null (h : sel &&& 0xFFFC = 0) :
    loadTaskCode sel r = .error (.exc (.invalidTss (sel &&& 0xFFFC))) (r.atTaskLevel sel) := by
  simp only [loadTaskCode, exec_bind_apply, update_apply, (isNull_iff sel).mpr h, Bool.not_true, require_false, selCode,
    State.atTaskLevel]

variable (named : sel &&& 0xFFFC ≠ 0)
include named

theorem loadTaskLdt_local (h : sel.getLsbD 2 = true) :
    loadTaskLdt sel r = .error (.exc (.invalidTss (sel &&& 0xFFFC))) r := by
  simp only [loadTaskLdt, (isNull_eq_false sel).mpr named, Bool.false_eq_true, if_false, exec_bind_apply, inLdt, h, Bool.not_true,
    require_false, selCode]

variable (hu : r.unpaged)
include hu

theorem loadTaskLdt_missing (gone : descAddr r sel = none) :
    loadTaskLdt sel r = .error (.exc (.invalidTss (sel &&& 0xFFFC))) r := by
  cases h : sel.getLsbD 2
  · simp only [loadTaskLdt, (isNull_eq_false sel).mpr named, Bool.false_eq_true, if_false, exec_bind_apply, inLdt, h, Bool.not_false,
      require_true, readDesc_missing hu gone, selCode]
  · exact loadTaskLdt_local named h

theorem loadTaskCode_missing (gone : descAddr r sel = none) :
    loadTaskCode sel r = .error (.exc (.invalidTss (sel &&& 0xFFFC))) (r.atTaskLevel sel) := by
  have missing {e : Exc} := readDesc_missing (s := r.atTaskLevel sel) (bad := e) hu gone
  simp only [State.atTaskLevel] at missing
  simp only [loadTaskCode, exec_bind_apply, update_apply, (isNull_eq_false sel).mpr named, Bool.not_false, require_true, missing, selCode,
    State.atTaskLevel]

variable (found : descAddr r sel = some at_)
include found

theorem loadTaskLdt_denied (gdt : sel.getLsbD 2 = false)
    (no : ¬((descriptorAt r.mem at_).attr.s = false ∧ (descriptorAt r.mem at_).attr.typ = 2 ∧ (descriptorAt r.mem at_).attr.p = true)) :
    loadTaskLdt sel r = .error (.exc (.invalidTss (sel &&& 0xFFFC))) r := by
  have denied : ((descriptorAt r.mem at_).attr.isLdt && (descriptorAt r.mem at_).attr.p) = false := by
    refine eq_false_of_ne_true fun yes => no ?_
    obtain ⟨ldt, present⟩ := (Bool.and_eq_true _ _).mp yes
    obtain ⟨hs, ht⟩ := (isLdt_iff _).mp ldt
    exact ⟨hs, ht, present⟩
  simp only [loadTaskLdt, (isNull_eq_false sel).mpr named, Bool.false_eq_true, if_false, exec_bind_apply, inLdt, gdt, Bool.not_false,
    require_true, readDesc_found hu found, denied, require_false, selCode]

theorem loadTaskLdt_ok (gdt : sel.getLsbD 2 = false)
    (ldt : (descriptorAt r.mem at_).attr.s = false ∧ (descriptorAt r.mem at_).attr.typ = 2 ∧ (descriptorAt r.mem at_).attr.p = true) :
    loadTaskLdt sel r = .ok () { r with sys := { r.sys with ldtr := systemOfDesc sel (descriptorAt r.mem at_) } } := by
  obtain ⟨hs, ht, present⟩ := ldt
  simp only [loadTaskLdt, (isNull_eq_false sel).mpr named, Bool.false_eq_true, if_false, exec_bind_apply, inLdt, gdt, Bool.not_false,
    require_true, readDesc_found hu found, (isLdt_iff _).mpr ⟨hs, ht⟩, present, Bool.and_self, update_apply]

/-- A segment may be the code of a task at the level of its selector. -/
def Attr.taskCode (a : Attr) (l : BitVec 2) : Prop :=
  a.s = true ∧ a.typ.getLsbD 3 = true ∧ if a.typ.getLsbD 2 then a.dpl.toNat ≤ l.toNat else a.dpl = l

omit named hu found in
theorem taskCode_iff {a : Attr} (code : a.isCode = true) (l : BitVec 2) :
    (if a.conforming then decide (a.dpl.toNat ≤ l.toNat) else decide (a.dpl = l)) = true ↔ a.taskCode l := by
  obtain ⟨hs, hk⟩ := (isCode_iff a).mp code
  rw [conforming_eq code, Attr.taskCode]
  cases a.typ.getLsbD 2 <;> simp [hs, hk]

theorem loadTaskCode_found :
    loadTaskCode sel r = (do
      require (descriptorAt r.mem at_).attr.isCode (.invalidTss (sel &&& 0xFFFC))
      require (if (descriptorAt r.mem at_).attr.conforming then
          decide ((descriptorAt r.mem at_).attr.dpl.toNat ≤ (sel.extractLsb' 0 2).toNat)
        else decide ((descriptorAt r.mem at_).attr.dpl = sel.extractLsb' 0 2)) (.invalidTss (sel &&& 0xFFFC))
      require (descriptorAt r.mem at_).attr.p (.notPresent (sel &&& 0xFFFC))
      setAccessed sel (descriptorAt r.mem at_)
      setSeg .cs (segOfDesc sel (descriptorAt r.mem at_)) : Exec Unit) (r.atTaskLevel sel) := by
  have read {e : Exc} := readDesc_found (s := r.atTaskLevel sel) (bad := e) hu found
  simp only [State.atTaskLevel] at read
  simp only [loadTaskCode, exec_bind_apply, update_apply, (isNull_eq_false sel).mpr named, Bool.not_false, require_true, read, selCode,
    State.atTaskLevel]

theorem loadTaskCode_denied (no : ¬(descriptorAt r.mem at_).attr.taskCode (sel.extractLsb' 0 2)) :
    loadTaskCode sel r = .error (.exc (.invalidTss (sel &&& 0xFFFC))) (r.atTaskLevel sel) := by
  rw [loadTaskCode_found named hu found]
  cases code : (descriptorAt r.mem at_).attr.isCode
  · simp only [exec_bind_apply, require_false]
  · simp only [exec_bind_apply, require_true, eq_false_of_ne_true (mt (taskCode_iff code _).mp no), require_false]

variable (yes : (descriptorAt r.mem at_).attr.taskCode (sel.extractLsb' 0 2))
include yes

theorem loadTaskCode_absent (absent : (descriptorAt r.mem at_).attr.p = false) :
    loadTaskCode sel r = .error (.exc (.notPresent (sel &&& 0xFFFC))) (r.atTaskLevel sel) := by
  have code := (isCode_iff _).mpr ⟨yes.1, yes.2.1⟩
  rw [loadTaskCode_found named hu found]
  simp only [exec_bind_apply, code, require_true, (taskCode_iff code _).mpr yes, absent, require_false]

theorem loadTaskCode_ok (present : (descriptorAt r.mem at_).attr.p = true) :
    loadTaskCode sel r =
      .ok () { r.atTaskLevel sel with
        mem := markAccessed r.mem at_ (descriptorAt r.mem at_)
        segs := { r.segs with cs := segOfDesc sel (descriptorAt r.mem at_) } } := by
  have code := (isCode_iff _).mpr ⟨yes.1, yes.2.1⟩
  rw [loadTaskCode_found named hu found]
  simp only [exec_bind_apply, code, require_true, (taskCode_iff code _).mpr yes, present,
    setAccessed_unpaged (s := r.atTaskLevel sel) hu sel _ at_ found, setSeg_apply]
  rfl

end TaskSegs

end Sys2Proof.Machine
end


section
/-! Task switches by far JMP and CALL and by a delivery through a task gate, and the task switch settled
(spec/46_control_transfer.md R593; spec/60_exceptions.md R758, R795 to R798). -/

namespace Sys2Proof.Machine

/-! ## Far JMP and CALL to a task (R593) -/

section FarTask

variable {c : State} {sel : Word} {off : Dword} {d : Desc} {i : Instr} {kind : SwitchKind}

/-- A far JMP or CALL, with the kind of its task switch. -/
def farTo (kind : SwitchKind) (sel : Word) (off : Dword) : Exec Unit :=
  if kind = .jmp then farJump sel off else farCall sel off

theorem farTo_forms {s r : State} {jmp call : Instr} (h : s.farPointer r jmp call sel off)
    (form : (i, kind) ∈ [(jmp, SwitchKind.jmp), (call, .call)]) :
    (kind = .jmp ∨ kind = .call) ∧ exec i s = runInstr (fun _ => farTo kind sel off r) s := by
  obtain ⟨hj, hc⟩ := exec_farPointer h
  simp only [List.mem_cons, Prod.mk.injEq, List.not_mem_nil, or_false] at form
  obtain ⟨rfl, rfl⟩ | ⟨rfl, rfl⟩ := form
  · exact ⟨.inl rfl, hj⟩
  · exact ⟨.inr rfl, hc⟩

variable (hp : c.prot = true) (found : farDescriptor sel c = .ok d c) (hs : d.attr.s = false)
include hp found hs

theorem farTo_listed (hk : kind = .jmp ∨ kind = .call) (typ : d.attr.typ.toNat ∈ [1, 5, 9]) :
    farTo kind sel off c = farTask kind sel d c := by
  have code : d.attr.isCode = false := by rw [Attr.isCode, hs, Bool.false_and]
  have kinds : d.attr.typ = 1 ∨ d.attr.typ = 5 ∨ d.attr.typ = 9 := by
    simp only [List.mem_cons, List.not_mem_nil, or_false] at typ
    exact typ.imp (typ_eq_iff _ (by decide)).mpr (Or.imp (typ_eq_iff _ (by decide)).mpr (typ_eq_iff _ (by decide)).mpr)
  have gate : d.attr.callGate = false := by
    rw [Attr.callGate]
    obtain h | h | h := kinds <;> rw [h] <;> exact Bool.and_false _
  have task : (d.attr.taskGate || d.attr.availableTss) = true := by
    rw [Attr.taskGate, Attr.availableTss, hs]
    obtain h | h | h := kinds <;> rw [h] <;> rfl
  obtain rfl | rfl := hk
  · simp only [farTo, if_true, farJump, exec_bind_apply, getState_apply, hp, found, code, gate, task, Bool.false_eq_true, if_false]
  · simp only [farTo, reduceCtorEq, farCall, exec_bind_apply, getState_apply, hp, if_true, found, code, gate, task, Bool.false_eq_true, if_false]

theorem farTo_unlisted (hk : kind = .jmp ∨ kind = .call) (typ : d.attr.typ.toNat ∉ [1, 4, 5, 9, 12]) :
    farTo kind sel off c = .error (.exc (.protection (sel &&& 0xFFFC))) c := by
  have code : d.attr.isCode = false := by rw [Attr.isCode, hs, Bool.false_and]
  have other {n : Nat} (h : n ∈ [1, 4, 5, 9, 12]) (lt : n < 16) : d.attr.typ ≠ BitVec.ofNat 4 n := fun eq =>
    typ ((typ_eq_iff _ lt).mp eq ▸ h)
  have h1 : d.attr.typ ≠ 1 := other (by decide) (by decide)
  have h4 : d.attr.typ ≠ 4 := other (by decide) (by decide)
  have h5 : d.attr.typ ≠ 5 := other (by decide) (by decide)
  have h9 : d.attr.typ ≠ 9 := other (by decide) (by decide)
  have h12 : d.attr.typ ≠ 12 := other (by decide) (by decide)
  have gate : d.attr.callGate = false := by
    rw [Attr.callGate, hs, beq_eq_false_iff_ne.mpr h4, beq_eq_false_iff_ne.mpr h12]
    rfl
  have task : (d.attr.taskGate || d.attr.availableTss) = false := by
    rw [Attr.taskGate, Attr.availableTss, hs, beq_eq_false_iff_ne.mpr h1, beq_eq_false_iff_ne.mpr h5, beq_eq_false_iff_ne.mpr h9]
    rfl
  obtain rfl | rfl := hk
  · simp only [farTo, if_true, farJump, exec_bind_apply, getState_apply, hp, found, code, gate, task, Bool.false_eq_true, if_false]
    rfl
  · simp only [farTo, reduceCtorEq, farCall, exec_bind_apply, getState_apply, hp, if_true, found, code, gate, task, Bool.false_eq_true, if_false]
    rfl

end FarTask

section Switch

variable {r : State} {sel : Word} {d : Desc} {kind : SwitchKind}

theorem farTask_closed (no : ¬r.mayCall sel d) : farTask kind sel d r = .error (.exc (.protection (sel &&& 0xFFFC))) r := by
  simp only [farTask, exec_bind_apply, getState_apply, eq_false_of_ne_true (mt mayCall_iff.mp no), require_false, selCode]

variable (opened : r.mayCall sel d)
include opened

theorem farTask_absent (absent : d.attr.p = false) : farTask kind sel d r = .error (.exc (.notPresent (sel &&& 0xFFFC))) r := by
  simp only [farTask, exec_bind_apply, getState_apply, mayCall_iff.mpr opened, require_true, absent, require_false, selCode]

variable (present : d.attr.p = true)
include present

/-- A task switch, and what follows it in a far JMP or CALL. -/
def switchTask (kind : SwitchKind) (tsel : Word) (t : Desc) (ret : Dword) : Exec Unit := do
  taskSwitch tsel t kind ret
  checkNewTask
  setEnding .rfLoaded

theorem farTask_local (tss : d.attr.taskGate = false) (h : sel.getLsbD 2 = true) :
    farTask kind sel d r = .error (.exc (.protection (sel &&& 0xFFFC))) r := by
  simp only [farTask, exec_bind_apply, getState_apply, mayCall_iff.mpr opened, require_true, present, tss, Bool.false_eq_true, if_false,
    inLdt, h, Bool.not_true, require_false, selCode]

theorem farTask_tss (tss : d.attr.taskGate = false) (h : sel.getLsbD 2 = false) :
    farTask kind sel d r = switchTask kind sel d r.ctx.nextEip r := by
  simp only [farTask, exec_bind_apply, getState_apply, mayCall_iff.mpr opened, require_true, present, tss, Bool.false_eq_true, if_false,
    inLdt, h, Bool.not_false, switchTask]

variable (gate : d.attr.taskGate = true)
include gate

theorem farTask_stop {e : Exc} (h : readTaskTarget d.gateSel r = .error (.exc e) r) :
    farTask kind sel d r = .error (.exc e) r := by
  simp only [farTask, exec_bind_apply, getState_apply, mayCall_iff.mpr opened, require_true, present, gate, if_true, h]

theorem farTask_gate {t : Desc} (h : readTaskTarget d.gateSel r = .ok t r) :
    farTask kind sel d r = switchTask kind d.gateSel t r.ctx.nextEip r := by
  simp only [farTask, exec_bind_apply, getState_apply, mayCall_iff.mpr opened, require_true, present, gate, if_true, h, switchTask]

end Switch

section SwitchTask

variable {r u : State} {kind : SwitchKind} {tsel : Word} {t : Desc} {ret : Dword}

theorem switchTask_done (h : taskSwitch tsel t kind ret r = .ok () u) (within : u.eip.toNat ≤ u.segs.cs.limit.toNat) :
    switchTask kind tsel t ret r = .ok () { u with ctx := { u.ctx with ending := .rfLoaded } } := by
  simp only [switchTask, exec_bind_apply, h, checkNewTask_passes within, setEnding_apply]

theorem switchTask_beyond (h : taskSwitch tsel t kind ret r = .ok () u) (beyond : u.segs.cs.limit.toNat < u.eip.toNat) :
    switchTask kind tsel t ret r = .error (.excInNewTask (.protection 0)) u := by
  simp only [switchTask, exec_bind_apply, h, checkNewTask_fails beyond]

theorem switchTask_stop {x : Stop} (h : taskSwitch tsel t kind ret r = .error x u) :
    switchTask kind tsel t ret r = .error x u := by
  simp only [switchTask, exec_bind_apply, h]

end SwitchTask

/-! ## Delivery through a task gate (R758) -/

section DeliverTask

/-- The state in which a delivery through a task gate switches the task: with RF of the event (R755). -/
def State.withRf (s : State) (rf : Bool) : State := { s with flags := { s.flags with rf := rf } }

/-- The new task behind the switch: NMI clears IF there (R733). -/
def State.afterNmi (u : State) (nmi : Bool) : State := { u with flags := { u.flags with ie := u.flags.ie && !nmi } }

variable {s u : State} {ev : Event} {g t : Desc} (target : readTaskTarget g.gateSel s = .ok t s)
  (switched : taskSwitch g.gateSel t .int ev.retEip (s.withRf ev.rf) = .ok () u)

theorem when_nmi (nmi : Bool) (u : State) :
    when_ nmi (updateFlags fun f => { f with ie := false }) u = .ok () (u.afterNmi nmi) := by
  rw [State.afterNmi]
  cases nmi
  · rw [when_false, Bool.not_false, Bool.and_true]
  · rw [when_true, updateFlags_apply, Bool.not_true, Bool.and_false]

include target switched

/-- Behind the task switch a delivery pushes its error code and checks EIP of the new task. -/
theorem deliverTask_switched :
    deliverTask ev g s = (do
      let vals ← codeValues ev.code (gateSize t.attr)
      mapStop inNewTask do
        let slots ← claimSlots (gateSize t.attr).bytes vals
        fillSlots slots vals
      checkNewTask : Exec Unit) (u.afterNmi ev.nmi) := by
  have rf : taskSwitch g.gateSel t .int ev.retEip { s with flags := { s.flags with rf := ev.rf } } = .ok () u := switched
  simp only [deliverTask, exec_bind_apply, target, updateFlags_apply, rf, when_nmi]

variable (none : ev.code = none)

include none in
theorem deliverTask_noCode : deliverTask ev g s = checkNewTask (u.afterNmi ev.nmi) := by
  rw [deliverTask_switched target switched, none]
  rfl

omit none in
theorem deliverTask_code {c : Word} (code : ev.code = some c) {sp : List Nat} {x : State}
    (within : u.eip.toNat ≤ u.segs.cs.limit.toNat)
    (claimed : claimSlot (gateSize t.attr).bytes ((u.afterNmi ev.nmi).gateDrawn t.attr 1) = .ok sp x) :
    ∃ hi : Word, deliverTask ev g s = .ok () { x with mem := x.mem.store sp (hi ++ c) } := by
  obtain ⟨hi, slot⟩ := selectorSlot_gate t.attr (u.afterNmi ev.nmi) c
  refine ⟨hi, ?_⟩
  obtain ⟨v, -, acc, top⟩ := claimSlot_ok claimed
  obtain ⟨-, rfl⟩ := EStateM.Result.ok.inj ((setStackPtr_eq _ _).symm.trans top)
  obtain ⟨-, heip, -, hsegs, -⟩ := accessed_keeps acc
  have drawn := gateDrawn_draws (u.afterNmi ev.nmi) t.attr 1
  rw [deliverTask_switched target switched, code]
  simp only [codeValues, exec_bind_apply, slot, exec_pure_apply, mapStop_apply, claimSlots, claimed, fillSlots, storeSpan_apply]
  refine checkNewTask_passes ?_
  show v.eip.toNat ≤ v.segs.cs.limit.toNat
  rw [heip, hsegs, drawn]
  exact within

end DeliverTask

/-- A delivery that raises an exception in the task that it has switched to. -/
theorem delivery_newTask {s t : State} {ev : Event} {e : Exc} (nested : Bool) (hp : s.pe = true)
    (h : deliverProtected ev s = .error (.excInNewTask e) t) :
    deliver nested ev s = .error (.excInNewTask (withExt ev.source e)) (t.withMatches s) ∧
      ∀ i, s.interrupts i ev →
        exec i s = takeEvent (exceptionEvent (t.withMatches s) (withExt ev.source e)) (t.withMatches s) := by
  have stop (nested : Bool) : deliver nested ev s = .error (.excInNewTask (withExt ev.source e)) (t.withMatches s) := by
    simp only [deliver, exec_bind_apply, getState_apply, hp, if_true, unmatched_apply, mapStop_apply, h, addExt]
  exact ⟨stop nested, fun _ hi => (exec_interrupts hi).trans (runInstr_stop (stop false))⟩

/-! ## The obligation -/

/-- Settles O32: the switch up to its commit point, the new task's registers and segments behind it, and the three ways to
it. -/
theorem taskSwitchesSaveAndLoadTasks : Obligations.TaskSwitchesSaveAndLoadTasks := by
  unfold Obligations.TaskSwitchesSaveAndLoadTasks
  refine ⟨fun s tsel t kind ret hu => ?_, fun v r1 r2 r3 r4 r5 r6 r7 img wide kind a c d b sp bp si di es cs ss ds fs gs regs segs => ?_,
    fun r sel at_ hu => ?_, fun s r jmpFar callFar sel o da ta hp hus far named sf => ?_, fun s u x nested ev ta sp hp hu => ?_⟩
  · intro old newWide nests g flags sel field saved busy m1 m2 m3 word wide half img task v least
    refine ⟨fun short => taskSwitch_short short, fun long => (taskSwitch_commits hu long).trans ?_⟩
    rfl
  · intro f cr3 half g empty r0 trap v86 ldt
    have start : v.resuming img wide kind = r0 := by
      rw [State.resuming, regs, segs, imageRegs_eq]
      rfl
    rw [← start] at ldt
    refine ⟨fun vm => (resumeTask_v86 segs ldt vm).trans ?_, fun vm code stack hds hes hfs hgs =>
      resumeTask_prot segs ldt vm code stack hds hes hfs hgs⟩
    simp only [segV86, realBase_eq]
    rfl
  · intro code bad d ldt l u level good
    refine ⟨fun null => ⟨loadTaskLdt_null null, loadTaskCode_null null⟩, fun named here => loadTaskLdt_local named here,
      fun named gone => ⟨loadTaskLdt_missing named hu gone, loadTaskCode_missing named hu gone⟩, fun named found =>
      ⟨fun gdt no => loadTaskLdt_denied named hu found gdt no, fun gdt yes => loadTaskLdt_ok named hu found gdt yes,
        fun no => loadTaskCode_denied named hu found no, fun yes absent => loadTaskCode_absent named hu found yes absent,
        fun yes present => loadTaskCode_ok named hu found yes present⟩⟩
  · intro code d a tsel tnamed t hs i kind form fails open_ switches
    have mode := sameMode_accessed (accessed_farPointer far)
    have hpr : r.prot = true := (sameMode_prot mode).trans hp
    have hu : r.unpaged := sameMode_unpaged mode hus
    have desc := farDescriptor_found hu named sf
    obtain ⟨hk, run⟩ := farTo_forms far form
    have ends {body : Exec Unit} (h : farTo kind sel o r = body r) : exec i s = runInstr (fun _ => body r) s :=
      run.trans (runInstr_congr h)
    have stops {e : Exc} (h : farTo kind sel o r = .error (.exc e) r) : fails e := run.trans (runInstr_from_stop h)
    have switch {x : Word} {t : Desc} (h : farTo kind sel o r = switchTask kind x t r.ctx.nextEip r) : switches x t := by
      refine ⟨fun u done => ⟨fun within => ?_, fun beyond => ?_⟩, fun e u stop => ?_, fun e u stop => ?_⟩
      · exact (ends h).trans (runInstr_from_ok (switchTask_done done within))
      · exact (ends h).trans (runInstr_from_stop (switchTask_beyond done beyond))
      · exact (ends h).trans (runInstr_from_stop (switchTask_stop stop))
      · exact (ends h).trans (runInstr_from_stop (switchTask_stop stop))
    have listed (typ : a.typ.toNat ∈ [1, 5, 9]) := farTo_listed (off := o) hpr desc hs hk typ
    refine ⟨fun typ => stops (farTo_unlisted hpr desc hs hk typ), fun typ no => stops ((listed typ).trans (farTask_closed no)),
      fun typ opened absent => stops ((listed typ).trans (farTask_absent opened absent)), fun typ opened present => ?_,
      fun typ opened present => ?_⟩
    · have typ' : a.typ.toNat ∈ [1, 5, 9] := by
        simp only [List.mem_cons, List.not_mem_nil, or_false] at typ ⊢
        exact typ.imp id .inr
      have not5 : a.typ ≠ 5 := fun eq => by
        rw [eq] at typ
        exact absurd typ (by decide)
      have tss : a.taskGate = false := by
        rw [Attr.taskGate, beq_eq_false_iff_ne.mpr not5, Bool.and_false]
      exact ⟨fun ldt => stops ((listed typ').trans (farTask_local opened present tss ldt)),
        fun gdt => switch ((listed typ').trans (farTask_tss opened present tss gdt))⟩
    · have typ' : a.typ.toNat ∈ [1, 5, 9] := by
        rw [typ]
        decide
      have gate : a.taskGate = true := by
        rw [Attr.taskGate, typ, hs]
        rfl
      refine ⟨fun gone => stops ((listed typ').trans (farTask_stop opened present gate (readTaskTarget_missing hu gone))),
        fun gdt tn tf => ⟨fun no => ?_, fun yes absent => ?_, fun yes tp => ?_⟩⟩
      · have denied := eq_false_of_ne_true (mt (availableTss_mem _).mp no)
        exact stops ((listed typ').trans (farTask_stop opened present gate (readTaskTarget_denied hu gdt tn tf denied)))
      · have tss := (availableTss_mem _).mpr yes
        exact stops ((listed typ').trans (farTask_stop opened present gate (readTaskTarget_absent hu gdt tn tf tss absent)))
      · have tss := (availableTss_mem _).mpr yes
        exact switch ((listed typ').trans (farTask_gate opened present gate (readTaskTarget_ok hu gdt tn tf tss tp)))
  · intro g tsel t n w drawn kept done held gs gt opened gp tn gdt tf ts tt tp switched
    have listed : g.attr.s = false ∧ g.attr.typ.toNat ∈ [5, 6, 7, 14, 15] := ⟨gs, by rw [gt]; decide⟩
    have entered := deliverProtected_task hu held listed opened gp gt
    have target := readTaskTarget_ok hu gdt tn tf ((availableTss_mem t.attr).mpr ⟨ts, tt⟩) tp
    refine ⟨fun within => ⟨fun none => ?_, fun c code claimed => ?_⟩, fun beyond none => ?_⟩
    · exact delivery_completes nested hp (entered.trans ((deliverTask_noCode target switched none).trans (checkNewTask_passes within)))
    · have claimed' : claimSlot (gateSize t.attr).bytes ((u.afterNmi ev.nmi).gateDrawn t.attr 1) = .ok sp x := by
        rw [gateSize_bytes]
        exact claimed
      obtain ⟨hi, done⟩ := deliverTask_code target switched code within claimed'
      exact ⟨hi, (delivery_completes nested hp (entered.trans done)).1⟩
    · have stop := entered.trans ((deliverTask_noCode target switched none).trans (checkNewTask_fails beyond))
      have delivered := delivery_newTask nested hp stop
      have same : (u.afterNmi ev.nmi).withMatches s = kept w := rfl
      rw [withExt_protection, same] at delivered
      refine ⟨delivered.1, fun i hi => ?_⟩
      have soft : ev.source = .software := congrArg Event.source hi.1
      have code : ev.ext 0 = 0 := if_pos soft
      exact code ▸ delivered.2 i hi

end Sys2Proof.Machine
end

section
/-! Computations that do not look at the repeat prefix in effect (spec/30_encoding.md R252): what they do and how they end is the
same under another one. Each is followed along its sequence; only the repetition of the string instructions (R512) looks at it. -/

namespace Sys2Proof.Machine

/-! ## Blind computations -/

/-- An answer under another repeat prefix. -/
def answerUnder {α : Type} (k : Rep) : EStateM.Result Stop State α → EStateM.Result Stop State α
  | .ok a t => .ok a (withRepeat k t)
  | .error e t => .error e (withRepeat k t)

/-- A computation that does the same under another repeat prefix. -/
def Blind {α : Type} (x : Exec α) : Prop := ∀ k s, x (withRepeat k s) = answerUnder k (x s)

section
variable {α β : Type}

theorem blind_pure (a : α) : Blind (pure a : Exec α) := fun _ _ => rfl

theorem blind_bind {x : Exec α} {f : α → Exec β} (hx : Blind x) (hf : ∀ a, Blind (f a)) : Blind (x >>= f) := by
  intro k s
  rw [exec_bind_apply, exec_bind_apply, hx k s]
  cases x s with
  | ok a t => exact hf a k t
  | error e t => rfl

/-- A computation that reads the state goes on with other parts of it than the repeat prefix. -/
theorem blind_read {f : State → Exec α} (same : ∀ k s, f (withRepeat k s) = f s) (hf : ∀ s, Blind (f s)) :
    Blind (getState >>= f) := by
  intro k s
  show f (withRepeat k s) (withRepeat k s) = _
  rw [same, hf s k s]
  rfl

theorem blind_update {f : State → State} (h : ∀ k s, f (withRepeat k s) = withRepeat k (f s)) : Blind (update f) := by
  intro k s
  show EStateM.Result.ok () (f (withRepeat k s)) = _
  rw [h]
  rfl

theorem blind_stopWith (x : Stop) : Blind (stopWith x : Exec α) := fun _ _ => rfl

theorem blind_raise (e : Exc) : Blind (raise e : Exec α) := blind_stopWith _

theorem blind_ite (c : Prop) [Decidable c] {x y : Exec α} (hx : Blind x) (hy : Blind y) :
    Blind (if c then x else y) := by
  split
  · exact hx
  · exact hy

/-- Two branches, and what follows both. -/
theorem blind_branch (c : Prop) [Decidable c] {x y : Exec α} {f : α → Exec β} (hx : Blind x) (hy : Blind y)
    (hf : ∀ a, Blind (f a)) : Blind (if c then x >>= f else y >>= f) :=
  blind_ite c (blind_bind hx hf) (blind_bind hy hf)

theorem blind_require (c : Bool) (e : Exc) : Blind (require c e) := by
  cases c
  · exact blind_raise e
  · exact blind_pure ()

theorem blind_when (c : Bool) {x : Exec Unit} (hx : Blind x) : Blind (when_ c x) := by
  cases c
  · exact blind_pure ()
  · exact hx

theorem blind_mapStop (f : Stop → Stop) {x : Exec α} (h : Blind x) : Blind (mapStop f x) := by
  intro k s
  rw [mapStop_apply, mapStop_apply, h k s]
  cases x s <;> rfl

theorem blind_unmatched {x : Exec α} (h : Blind x) : Blind (unmatched x) := by
  intro k s
  rw [unmatched_apply, unmatched_apply, h k s]
  cases x s <;> rfl

theorem blind_eachDo {l : List α} {f : α → Exec Unit} (h : ∀ a, Blind (f a)) : Blind (eachDo l f) := by
  induction l with
  | nil => exact blind_pure ()
  | cons a rest ih => exact blind_bind (h a) fun _ => ih

theorem blind_eachGet {l : List α} {f : α → Exec β} (h : ∀ a, Blind (f a)) : Blind (eachGet l f) := by
  induction l with
  | nil => exact blind_pure _
  | cons a rest ih => exact blind_bind (h a) fun _ => blind_bind ih fun _ => blind_pure _

end

/-! ## The small operations -/

theorem blind_draw : Blind draw := fun _ _ => rfl

theorem blind_drawBit : Blind drawBit := fun _ _ => rfl

theorem blind_drawChoice : Blind drawChoice := fun _ _ => rfl

theorem blind_emit (e : BusEvent) : Blind (emit e) := blind_update fun _ _ => rfl

theorem blind_loadSpan (sp : List Nat) : Blind (loadSpan sp) := fun _ _ => rfl

theorem blind_storeSpan (sp : List Nat) (v : Dword) : Blind (storeSpan sp v) := blind_update fun _ _ => rfl

theorem blind_readReg (sz : Size) (r : Reg) : Blind (readReg sz r) := fun _ _ => rfl

theorem blind_writeReg (sz : Size) (r : Reg) (v : BitVec sz.bits) : Blind (writeReg sz r v) := blind_update fun _ _ => rfl

theorem blind_setSeg (sg : Seg) (v : SegReg) : Blind (setSeg sg v) := blind_update fun _ _ => rfl

theorem blind_updateFlags (f : Flags → Flags) : Blind (updateFlags f) := blind_update fun _ _ => rfl

theorem blind_setNext (eip : Dword) : Blind (setNext eip) := blind_update fun _ _ => rfl

theorem blind_setEnding (e : Ending) : Blind (setEnding e) := blind_update fun _ _ => rfl

theorem blind_undefined (l : List StatusFlag) : Blind (undefined l) :=
  blind_eachDo fun _ => blind_bind blind_drawBit fun _ => blind_updateFlags _

/-! ## Paging -/

theorem blind_setTlb (n : Nat) (e : TlbEntry) : Blind (setTlb n e) := blind_update fun _ _ => rfl

theorem blind_tlbFlush : Blind tlbFlush := blind_update fun _ _ => rfl

theorem blind_tlbVictim (tag : BitVec 20) : Blind (tlbVictim tag) := by
  refine blind_read (fun _ _ => rfl) fun s => ?_
  split
  · exact blind_pure _
  · exact blind_bind blind_draw fun _ => blind_pure _

theorem blind_tlbInsert (e : TlbEntry) : Blind (tlbInsert e) :=
  blind_bind blind_drawChoice fun _ => blind_bind (blind_tlbVictim _) fun _ => blind_when _ (blind_setTlb _ _)

theorem blind_pageFault {α : Type} (lin : Dword) (p w u : Bool) : Blind (pageFault lin p w u : Exec α) :=
  blind_bind (blind_update fun _ _ => rfl) fun _ => blind_raise _

theorem blind_updateEntry (a old new : Dword) : Blind (updateEntry a old new) :=
  blind_when _ (blind_storeSpan _ _)

theorem blind_walk (lin : Dword) (write user : Bool) : Blind (walk lin write user) := by
  refine blind_read (fun _ _ => rfl) fun s => blind_bind (blind_loadSpan _) fun pde =>
    blind_ite _ ?_ (blind_pageFault _ _ _ _)
  refine blind_bind (blind_updateEntry _ _ _) fun _ => blind_bind (blind_loadSpan _) fun pte =>
    blind_ite _ (blind_ite _ ?_ (blind_pageFault _ _ _ _)) (blind_pageFault _ _ _ _)
  exact blind_bind (blind_updateEntry _ _ _) fun _ =>
    blind_bind (blind_tlbInsert _) fun _ => blind_pure _

theorem blind_translate (lin : Dword) (write user : Bool) : Blind (translate lin write user) := by
  have walked : Blind (walk lin write user >>= fun e => pure (framed e lin)) :=
    blind_bind (blind_walk _ _ _) fun _ => blind_pure _
  refine blind_read (fun _ _ => rfl) fun s => blind_ite _ ?_ (blind_pure _)
  dsimp only
  split
  · refine blind_ite _ (blind_ite _ (blind_pure _) (blind_bind blind_drawChoice fun held => ?_)) walked
    exact blind_ite _ (blind_pure _) (blind_bind (blind_setTlb _ _) fun _ => walked)
  · exact walked

theorem blind_linSpan (lin : Dword) (n : Nat) (write user : Bool) : Blind (linSpan lin n write user) :=
  blind_bind (blind_translate _ _ _) fun _ => blind_ite _ (blind_pure _)
    (blind_bind (blind_translate _ _ _) fun _ => blind_pure _)

theorem blind_linRead (lin : Dword) (n : Nat) : Blind (linRead lin n) :=
  blind_bind (blind_linSpan _ _ _ _) fun _ => blind_loadSpan _

/-! ## Segments, operands and the stack -/

theorem blind_readDescAt (lin : Dword) : Blind (readDescAt lin) :=
  blind_bind (blind_linSpan _ _ _ _) fun _ => blind_bind (blind_loadSpan _) fun _ =>
    blind_bind (blind_loadSpan _) fun _ => blind_pure _

theorem blind_readDesc (sel : Word) (bad : Exc) : Blind (readDesc sel bad) := by
  refine blind_read (fun _ _ => rfl) fun s => ?_
  split
  · exact blind_readDescAt _
  · exact blind_raise _

theorem blind_writeRights (sel : Word) (f : Byte → Byte) : Blind (writeRights sel f) := by
  refine blind_read (fun _ _ => rfl) fun s => ?_
  split
  · exact blind_bind (blind_linSpan _ _ _ _) fun _ =>
      blind_bind (blind_loadSpan _) fun _ => blind_storeSpan _ _
  · exact blind_pure _

theorem blind_setAccessed (sel : Word) (d : Desc) : Blind (setAccessed sel d) :=
  blind_when _ (blind_writeRights _ _)

theorem blind_segLinear (sg : Seg) (off : Dword) (n : Nat) (write : Bool) : Blind (segLinear sg off n write) :=
  blind_read (fun _ _ => rfl) fun _ => blind_bind (blind_require _ _) fun _ => blind_pure _

theorem blind_noteAccess (lin : Dword) (n : Nat) (write : Bool) : Blind (noteAccess lin n write) :=
  blind_update fun _ _ => rfl

theorem blind_segSpan (sg : Seg) (off : Dword) (n : Nat) (write : Bool) : Blind (segSpan sg off n write) :=
  blind_bind (blind_segLinear _ _ _ _) fun _ => blind_read (fun _ _ => rfl) fun _ =>
    blind_bind (blind_linSpan _ _ _ _) fun _ =>
    blind_bind (blind_noteAccess _ _ _) fun _ => blind_pure _

theorem blind_memRead (sg : Seg) (off : Dword) (n : Nat) : Blind (memRead sg off n) :=
  blind_bind (blind_segSpan _ _ _ _) fun _ => blind_loadSpan _

theorem blind_loadDataSeg (sg : Seg) (sel : Word) (bad : Word → Exc) : Blind (loadDataSeg sg sel bad) :=
  blind_read (fun _ _ => rfl) fun _ => blind_ite _ (blind_setSeg _ _) <| blind_bind (blind_readDesc _ _) fun _ =>
    blind_bind (blind_require _ _) fun _ => blind_bind (blind_require _ _) fun _ =>
    blind_bind (blind_require _ _) fun _ => blind_bind (blind_setAccessed _ _) fun _ => blind_setSeg _ _

theorem blind_checkStackSeg (sel : Word) (l : BitVec 2) (badNull : Exc) (bad : Word → Exc) :
    Blind (checkStackSeg sel l badNull bad) :=
  blind_bind (blind_require _ _) fun _ => blind_bind (blind_readDesc _ _) fun _ =>
    blind_bind (blind_require _ _) fun _ => blind_bind (blind_require _ _) fun _ =>
    blind_bind (blind_require _ _) fun _ => blind_bind (blind_require _ _) fun _ => blind_pure _

theorem blind_loadStackSeg (sel : Word) (l : BitVec 2) (badNull : Exc) (bad : Word → Exc) :
    Blind (loadStackSeg sel l badNull bad) :=
  blind_bind (blind_checkStackSeg _ _ _ _) fun _ => blind_bind (blind_setAccessed _ _) fun _ => blind_setSeg _ _

theorem blind_loadSeg (sg : Seg) (sel : Word) : Blind (loadSeg sg sel) :=
  blind_read (fun _ _ => rfl) fun _ => blind_ite _ (blind_setSeg _ _) <| blind_ite _
    (blind_ite _ (blind_loadStackSeg _ _ _ _) (blind_loadDataSeg _ _ _)) (blind_setSeg _ _)

theorem blind_nullInnerSegs (cpl : BitVec 2) : Blind (nullInnerSegs cpl) := blind_update fun _ _ => rfl

theorem blind_effAddr (m : Mem) : Blind (effAddr m) :=
  blind_read (fun _ _ => rfl) fun _ => blind_bind (blind_when _ (blind_update fun _ _ => rfl)) fun _ =>
    blind_pure _

theorem blind_place (sz : Size) (rm : RM) (write : Bool) : Blind (place sz rm write) := by
  cases rm with
  | reg r => exact blind_pure _
  | mem m => exact blind_bind (blind_effAddr m) fun _ => blind_bind (blind_segSpan _ _ _ _) fun _ => blind_pure _

theorem blind_readPlace (sz : Size) (p : Place) : Blind (readPlace sz p) := by
  cases p with
  | reg r => exact blind_readReg sz r
  | mem sp => exact blind_bind (blind_loadSpan sp) fun _ => blind_pure _

theorem blind_writePlace (sz : Size) (p : Place) (v : BitVec sz.bits) : Blind (writePlace sz p v) := by
  cases p with
  | reg r => exact blind_writeReg sz r v
  | mem sp => exact blind_storeSpan _ _

theorem blind_readRM (sz : Size) (rm : RM) : Blind (readRM sz rm) :=
  blind_bind (blind_place _ _ _) fun _ => blind_readPlace _ _

theorem blind_writeRM (sz : Size) (rm : RM) (v : BitVec sz.bits) : Blind (writeRM sz rm v) :=
  blind_bind (blind_place _ _ _) fun _ => blind_writePlace _ _ _

theorem blind_countDown : Blind countDown := blind_update fun _ _ => rfl

theorem blind_setStackPtr (v : Dword) : Blind (setStackPtr v) := blind_update fun _ _ => rfl

theorem blind_pushPtr (ptr : Dword) (n : Nat) : Blind (pushPtr ptr n) :=
  blind_read (fun _ _ => rfl) fun _ => blind_ite _ (blind_ite _ (blind_raise _) (blind_stopWith _)) (blind_pure _)

theorem blind_checkPushes (count n : Nat) (ptr : Dword) : Blind (checkPushes count n ptr) := by
  induction count generalizing ptr with
  | zero => exact blind_pure _
  | succ c ih => exact blind_bind (blind_pushPtr _ _) fun _ => blind_bind (blind_segLinear _ _ _ _) fun _ => ih _

theorem blind_claimSlot (n : Nat) : Blind (claimSlot n) :=
  blind_read (fun _ _ => rfl) fun _ => blind_bind (blind_pushPtr _ _) fun _ => blind_bind (blind_segSpan _ _ _ _) fun _ =>
    blind_bind (blind_setStackPtr _) fun _ => blind_pure _

theorem blind_claimSlots (n : Nat) (values : List Dword) : Blind (claimSlots n values) := by
  induction values with
  | nil => exact blind_pure _
  | cons v rest ih => exact blind_bind (blind_claimSlot n) fun _ => blind_bind ih fun _ => blind_pure _

theorem blind_fillSlots (slots : List (List Nat)) (values : List Dword) : Blind (fillSlots slots values) := by
  induction slots generalizing values with
  | nil => exact blind_pure _
  | cons sp rest ih =>
    cases values with
    | nil => exact blind_pure _
    | cons v vs => exact blind_bind (blind_storeSpan _ v) fun _ => ih vs

theorem blind_push (sz : Size) (v : Dword) : Blind (push sz v) :=
  blind_bind (blind_claimSlot _) fun _ => blind_storeSpan _ _

theorem blind_requireStack (delta n : Nat) : Blind (requireStack delta n) := blind_read (fun _ _ => rfl) fun _ =>
  blind_require _ _

theorem blind_peek (delta n : Nat) : Blind (peek delta n) :=
  blind_bind (blind_requireStack _ _) fun _ => blind_read (fun _ _ => rfl) fun _ => blind_memRead _ _ _

theorem blind_stackRead (off : Dword) (n : Nat) : Blind (stackRead off n) :=
  blind_read (fun _ _ => rfl) fun _ => blind_bind (blind_require _ _) fun _ => blind_memRead _ _ _

theorem blind_checkFrame (n : Nat) : Blind (checkFrame n) :=
  blind_bind (blind_requireStack _ _) fun _ => blind_read (fun _ _ => rfl) fun _ =>
    blind_bind (blind_segLinear _ _ _ _) fun _ => blind_pure _

theorem blind_release (n : Nat) : Blind (release n) := blind_read (fun _ _ => rfl) fun _ => blind_setStackPtr _

theorem blind_checkPops (count n : Nat) (ptr : Dword) : Blind (checkPops count n ptr) := by
  induction count generalizing ptr with
  | zero => exact blind_pure _
  | succ c ih =>
    exact blind_read (fun _ _ => rfl) fun _ => blind_bind (blind_require _ _) fun _ =>
      blind_bind (blind_segLinear _ _ _ _) fun _ => ih _

theorem blind_pop (sz : Size) : Blind (pop sz) :=
  blind_bind (blind_peek _ _) fun _ => blind_bind (blind_release _) fun _ => blind_pure _

theorem blind_selectorSlot (sz : Size) (sel : Word) : Blind (selectorSlot sz sel) := by
  cases sz with
  | b | w => exact blind_pure _
  | d => exact blind_bind blind_draw fun _ => blind_pure _

end Sys2Proof.Machine
end

section
/-! The operations above the stack, and the meanings that the instructions share, are blind to the repeat prefix. -/

namespace Sys2Proof.Machine

/-! ## Loading CS, and deliveries in real mode -/

theorem blind_checkTarget (limit off : Dword) (e : Exc) : Blind (checkTarget limit off e) := blind_require _ _

theorem blind_loadCode (sel : Word) (l : BitVec 2) (d : Desc) : Blind (loadCode sel l d) :=
  blind_bind (blind_setAccessed _ _) fun _ => blind_setSeg _ _

theorem blind_loadCodeReal (sel : Word) : Blind (loadCodeReal sel) := blind_read (fun _ _ => rfl) fun _ => blind_setSeg _ _

theorem blind_deliverReal (nested : Bool) (ev : Event) : Blind (deliverReal nested ev) := by
  refine blind_read (fun _ _ => rfl) fun s => blind_ite _ (blind_ite _ (blind_stopWith _) (blind_raise _)) ?_
  exact blind_bind (blind_linRead _ _) fun _ => blind_bind (blind_checkPushes _ _ _) fun _ =>
    blind_bind (blind_claimSlots _ _) fun _ => blind_bind (blind_fillSlots _ _) fun _ =>
    blind_bind (blind_updateFlags _) fun _ => blind_bind (blind_loadCodeReal _) fun _ => blind_setNext _

theorem blind_codeValues (code : Option Word) (sz : Size) : Blind (codeValues code sz) := by
  cases code with
  | none => exact blind_pure _
  | some c => exact blind_bind (blind_selectorSlot _ _) fun _ => blind_pure _

theorem blind_v86Values (s : State) (sz : Size) : Blind (v86Values s sz) := blind_eachGet fun _ => blind_selectorSlot _ _

theorem blind_nullDataSegs : Blind nullDataSegs := blind_update fun _ _ => rfl

theorem blind_returnTarget (sel : Word) : Blind (returnTarget sel) :=
  blind_read (fun _ _ => rfl) fun _ => blind_bind (blind_require _ _) fun _ => blind_bind (blind_readDesc _ _) fun _ =>
    blind_bind (blind_require _ _) fun _ => blind_bind (blind_require _ _) fun _ =>
    blind_bind (blind_require _ _) fun _ => blind_bind (blind_require _ _) fun _ => blind_pure _

theorem blind_loadOuterStack (sz : Size) (sel : Word) (d : Desc) (ptr : Dword) : Blind (loadOuterStack sz sel d ptr) :=
  blind_bind (blind_setAccessed _ _) fun _ => blind_bind (blind_setSeg _ _) fun _ =>
    blind_update fun _ _ => rfl

theorem blind_iretReal : Blind iretReal :=
  blind_read (fun _ _ => rfl) fun _ => blind_bind (blind_checkFrame _) fun _ => blind_bind (blind_peek _ _) fun _ =>
    blind_bind (blind_peek _ _) fun _ => blind_bind (blind_peek _ _) fun _ => blind_bind (blind_checkTarget _ _ _) fun _ =>
    blind_bind (blind_release _) fun _ => blind_bind (blind_loadCodeReal _) fun _ =>
    blind_bind (blind_updateFlags _) fun _ => blind_setNext _

/-! ## Arithmetic and logic -/

theorem blind_aluFlags {n : Nat} (op : AluOp) (a b : BitVec n) : Blind (aluFlags op a b) :=
  blind_bind (blind_updateFlags _) fun _ => blind_when _ (blind_undefined _)

theorem blind_aluPlace (op : AluOp) (sz : Size) (p : Place) (b : BitVec sz.bits) :
    Blind (aluPlace op sz p b) :=
  blind_bind (blind_readPlace _ _) fun _ => blind_read (fun _ _ => rfl) fun _ => blind_bind (blind_writePlace _ _ _) fun _ =>
    blind_aluFlags _ _ _

theorem blind_aluRmReg (op : AluOp) (d w : Bool) (rm : RM) (r : Reg) : Blind (aluRmReg op d w rm r) :=
  blind_read (fun _ _ => rfl) fun _ => blind_ite _
    (blind_bind (blind_readRM _ _) fun _ => blind_aluPlace _ _ _ _)
    (blind_bind (blind_place _ _ _) fun _ => blind_bind (blind_readReg _ _) fun _ => blind_aluPlace _ _ _ _)

theorem blind_aluRmImm (op : AluOp) (w : Bool) (rm : RM) (imm : Imm) : Blind (aluRmImm op w rm imm) :=
  blind_read (fun _ _ => rfl) fun _ => blind_bind (blind_place _ _ _) fun _ => blind_aluPlace _ _ _ _

theorem blind_aluAccImm (op : AluOp) (w : Bool) (imm : Imm) : Blind (aluAccImm op w imm) :=
  blind_read (fun _ _ => rfl) fun _ => blind_aluPlace _ _ _ _

theorem blind_cmpRmReg (d w : Bool) (rm : RM) (r : Reg) : Blind (cmpRmReg d w rm r) :=
  blind_read (fun _ _ => rfl) fun _ => blind_bind (blind_readRM _ _) fun _ => blind_bind (blind_readReg _ _) fun _ =>
    blind_ite _ (blind_aluFlags _ _ _) (blind_aluFlags _ _ _)

theorem blind_cmpRmImm (w : Bool) (rm : RM) (imm : Imm) : Blind (cmpRmImm w rm imm) :=
  blind_read (fun _ _ => rfl) fun _ => blind_bind (blind_readRM _ _) fun _ => blind_aluFlags _ _ _

theorem blind_cmpAccImm (w : Bool) (imm : Imm) : Blind (cmpAccImm w imm) :=
  blind_read (fun _ _ => rfl) fun _ => blind_bind (blind_readReg _ _) fun _ => blind_aluFlags _ _ _

theorem blind_modifyRM (w : Bool) (rm : RM) (f : {n : Nat} → BitVec n → BitVec n)
    (g : {n : Nat} → BitVec n → Flags → Flags) : Blind (modifyRM w rm f g) :=
  blind_read (fun _ _ => rfl) fun _ => blind_bind (blind_place _ _ _) fun _ => blind_bind (blind_readPlace _ _) fun _ =>
    blind_bind (blind_writePlace _ _ _) fun _ => blind_updateFlags _

theorem blind_asciiAdjust (f : Byte → Byte → Byte) : Blind (asciiAdjust f) :=
  blind_read (fun _ _ => rfl) fun _ => blind_bind (blind_writeReg _ _ _) fun _ => blind_bind (blind_writeReg _ _ _) fun _ =>
    blind_bind (blind_updateFlags _) fun _ => blind_undefined _

theorem blind_writeWide (sz : Size) (hi lo : BitVec sz.bits) : Blind (writeWide sz hi lo) := by
  cases sz with
  | b | w | d => exact blind_bind (blind_writeReg _ _ _) fun _ => blind_writeReg _ _ _

theorem blind_readHigh (sz : Size) : Blind (readHigh sz) := by
  cases sz with
  | b | w | d => exact blind_readReg _ _

theorem blind_mulFlags (ovf : Bool) : Blind (mulFlags ovf) :=
  blind_bind (blind_updateFlags _) fun _ => blind_undefined _

theorem blind_imulTo (sz : Size) (r : Reg) (a b : BitVec sz.bits) : Blind (imulTo sz r a b) :=
  blind_bind (blind_writeReg _ _ _) fun _ => blind_mulFlags _

theorem blind_bitScan (r : Reg) (rm : RM) (index : {n : Nat} → BitVec n → Nat) : Blind (bitScan r rm index) :=
  blind_read (fun _ _ => rfl) fun _ => blind_bind (blind_readRM _ _) fun _ => blind_bind (blind_updateFlags _) fun _ =>
    blind_ite _ (blind_bind blind_draw fun _ => blind_bind (blind_writeReg _ _ _) fun _ => blind_undefined _)
      (blind_bind (blind_writeReg _ _ _) fun _ => blind_undefined _)

theorem blind_bitSelect (rm : RM) (r : Reg) (write : Bool) : Blind (bitSelect rm r write) := by
  cases rm with
  | reg x => exact blind_read (fun _ _ => rfl) fun _ => blind_bind (blind_readReg _ _) fun _ => blind_pure _
  | mem m =>
    exact blind_read (fun _ _ => rfl) fun _ => blind_bind (blind_readReg _ _) fun _ => blind_bind (blind_effAddr _) fun _ =>
      blind_bind (blind_segSpan _ _ _ _) fun _ => blind_pure _

theorem blind_bitSelectImm (rm : RM) (n : BitVec 8) (write : Bool) : Blind (bitSelectImm rm n write) :=
  blind_read (fun _ _ => rfl) fun _ => blind_bind (blind_place _ _ _) fun _ => blind_pure _

theorem blind_bitFlags (b : Bool) : Blind (bitFlags b) :=
  blind_bind (blind_updateFlags _) fun _ => blind_undefined _

theorem blind_bitTest {select : Exec (Place × Nat)} (h : Blind select) : Blind (bitTest select) :=
  blind_bind h fun _ => blind_read (fun _ _ => rfl) fun _ => blind_bind (blind_readPlace _ _) fun _ => blind_bitFlags _

theorem blind_bitChange {select : Exec (Place × Nat)} (h : Blind select) (f : Bool → Bool) :
    Blind (bitChange select f) :=
  blind_bind h fun _ => blind_read (fun _ _ => rfl) fun _ => blind_bind (blind_readPlace _ _) fun _ =>
    blind_bind (blind_writePlace _ _ _) fun _ => blind_bitFlags _

theorem blind_shiftFlags {n : Nat} (op : ShiftOp) (c : Nat) (r : Shifted n) : Blind (shiftFlags op c r) := by
  have rest : Blind (do
      if c = 1 then updateFlags fun f => { f with ov := r.ov } else undefined [.ov]
      when_ (!op.isRotate) (undefined [.af])) :=
    blind_ite _ (blind_bind (blind_updateFlags _) fun _ => blind_when _ (blind_undefined _))
      (blind_bind (blind_undefined _) fun _ => blind_when _ (blind_undefined _))
  refine blind_bind (blind_when _ (blind_updateFlags _)) fun _ => ?_
  dsimp only
  split
  · exact blind_bind (blind_updateFlags _) fun _ => rest
  · exact blind_bind (blind_undefined _) fun _ => rest

theorem blind_shiftRM (op : ShiftOp) (w : Bool) (rm : RM) (count : Nat) : Blind (shiftRM op w rm count) :=
  blind_read (fun _ _ => rfl) fun _ => blind_bind (blind_place _ _ _) fun _ => blind_bind (blind_readPlace _ _) fun _ =>
    blind_ite _ (blind_pure _) (blind_bind (blind_writePlace _ _ _) fun _ => blind_shiftFlags _ _ _)

theorem blind_shiftDouble (rm : RM) (reg : Reg) (count : Nat) (r : {n : Nat} → BitVec n → BitVec n → Nat → BitVec n)
    (cf : {n : Nat} → BitVec n → Nat → Bool) : Blind (shiftDouble rm reg count r cf) := by
  refine blind_ite _ (blind_pure _) (blind_read (fun _ _ => rfl) fun _ => blind_bind (blind_place _ _ _) fun _ =>
    blind_bind (blind_readPlace _ _) fun _ => blind_bind (blind_readReg _ _) fun _ => blind_ite _ ?above ?within)
  case above =>
    exact blind_bind blind_draw fun _ => blind_bind (blind_writePlace _ _ _) fun _ => blind_undefined _
  case within =>
    exact blind_bind (blind_writePlace _ _ _) fun _ => blind_bind (blind_updateFlags _) fun _ =>
      blind_ite _ (blind_bind (blind_updateFlags _) fun _ => blind_undefined _)
        (blind_bind (blind_undefined _) fun _ => blind_undefined _)

/-! ## Transfers of control that keep the level -/

theorem blind_jumpNear (t : Dword) : Blind (jumpNear t) :=
  blind_read (fun _ _ => rfl) fun _ => blind_bind (blind_checkTarget _ _ _) fun _ => blind_setNext _

theorem blind_jumpRelative (disp : Dword) : Blind (jumpRelative disp) := blind_read (fun _ _ => rfl) fun _ => blind_jumpNear _

theorem blind_callNear (t : Dword) : Blind (callNear t) :=
  blind_read (fun _ _ => rfl) fun _ => blind_bind (blind_checkTarget _ _ _) fun _ => blind_bind (blind_push _ _) fun _ =>
    blind_setNext _

theorem blind_returnNear (imm : Nat) : Blind (returnNear imm) :=
  blind_read (fun _ _ => rfl) fun _ => blind_bind (blind_peek _ _) fun _ => blind_bind (blind_checkTarget _ _ _) fun _ =>
    blind_bind (blind_release _) fun _ => blind_setNext _

theorem blind_jumpIf (c : Cond) (disp : Dword) : Blind (jumpIf c disp) :=
  blind_read (fun _ _ => rfl) fun _ => blind_when _ (blind_jumpRelative _)

theorem blind_loopWhile (more : Flags → Bool) (disp : BitVec 8) : Blind (loopWhile more disp) :=
  blind_bind blind_countDown fun _ => blind_read (fun _ _ => rfl) fun _ => blind_when _ (blind_jumpRelative _)

theorem blind_farJumpReal (sel : Word) (off : Dword) : Blind (farJumpReal sel off) :=
  blind_read (fun _ _ => rfl) fun _ => blind_bind (blind_checkTarget _ _ _) fun _ =>
    blind_bind (blind_loadCodeReal _) fun _ =>
    blind_setNext _

theorem blind_farCallReal (sel : Word) (off : Dword) : Blind (farCallReal sel off) :=
  blind_read (fun _ _ => rfl) fun _ => blind_bind (blind_checkTarget _ _ _) fun _ =>
    blind_bind (blind_selectorSlot _ _) fun _ =>
    blind_bind (blind_claimSlots _ _) fun _ => blind_bind (blind_fillSlots _ _) fun _ =>
    blind_bind (blind_loadCodeReal _) fun _ => blind_setNext _

theorem blind_farReturnReal (imm : Nat) : Blind (farReturnReal imm) :=
  blind_read (fun _ _ => rfl) fun _ => blind_bind (blind_peek _ _) fun _ => blind_bind (blind_peek _ _) fun _ =>
    blind_bind (blind_checkTarget _ _ _) fun _ => blind_bind (blind_release _) fun _ =>
    blind_bind (blind_loadCodeReal _) fun _ => blind_setNext _

theorem blind_checkCode (sel : Word) (d : Desc) : Blind (checkCode sel d) :=
  blind_read (fun _ _ => rfl) fun _ => blind_bind (blind_require _ _) fun _ => blind_require _ _

theorem blind_farJumpCode (sel : Word) (d : Desc) (off : Dword) : Blind (farJumpCode sel d off) :=
  blind_read (fun _ _ => rfl) fun _ => blind_bind (blind_checkCode _ _) fun _ => blind_bind (blind_checkTarget _ _ _) fun _ =>
    blind_bind (blind_loadCode _ _ _) fun _ => blind_setNext _

theorem blind_farCallCode (sel : Word) (d : Desc) (off : Dword) : Blind (farCallCode sel d off) :=
  blind_read (fun _ _ => rfl) fun _ => blind_bind (blind_checkCode _ _) fun _ => blind_bind (blind_checkTarget _ _ _) fun _ =>
    blind_bind (blind_selectorSlot _ _) fun _ => blind_bind (blind_checkPushes _ _ _) fun _ =>
    blind_bind (blind_claimSlots _ _) fun _ => blind_bind (blind_loadCode _ _ _) fun _ =>
    blind_bind (blind_fillSlots _ _) fun _ => blind_setNext _

theorem blind_gateTarget (sel : Word) (g : Desc) : Blind (gateTarget sel g) :=
  blind_read (fun _ _ => rfl) fun _ => blind_bind (blind_require _ _) fun _ => blind_bind (blind_require _ _) fun _ =>
    blind_bind (blind_require _ _) fun _ => blind_bind (blind_readDesc _ _) fun _ =>
    blind_bind (blind_require _ _) fun _ => blind_bind (blind_require _ _) fun _ =>
    blind_bind (blind_require _ _) fun _ => blind_pure _

theorem blind_farJumpGate (sel : Word) (g : Desc) : Blind (farJumpGate sel g) :=
  blind_read (fun _ _ => rfl) fun _ => blind_bind (blind_gateTarget _ _) fun _ => blind_bind (blind_require _ _) fun _ =>
    blind_bind (blind_checkTarget _ _ _) fun _ => blind_bind (blind_loadCode _ _ _) fun _ => blind_setNext _

theorem blind_farCallSame (g c : Desc) : Blind (farCallSame g c) :=
  blind_read (fun _ _ => rfl) fun _ => blind_bind (blind_selectorSlot _ _) fun _ =>
    blind_bind (blind_checkPushes _ _ _) fun _ =>
    blind_bind (blind_checkTarget _ _ _) fun _ => blind_bind (blind_claimSlots _ _) fun _ =>
    blind_bind (blind_loadCode _ _ _) fun _ => blind_bind (blind_fillSlots _ _) fun _ => blind_setNext _

theorem blind_farDescriptor (sel : Word) : Blind (farDescriptor sel) :=
  blind_bind (blind_require _ _) fun _ => blind_readDesc _ _

theorem blind_readFarPointer (m : Mem) : Blind (readFarPointer m) :=
  blind_read (fun _ _ => rfl) fun _ => blind_bind (blind_effAddr _) fun _ => blind_bind (blind_memRead _ _ _) fun _ =>
    blind_bind (blind_memRead _ _ _) fun _ => blind_pure _

/-! ## Ports -/

theorem blind_portPermitted (base port : Nat) : Blind (portPermitted base port) :=
  blind_read (fun _ _ => rfl) fun _ => blind_ite _ (blind_pure _) (blind_bind (blind_linRead _ _) fun _ => blind_pure _)

theorem blind_portsPermitted (base port n : Nat) : Blind (portsPermitted base port n) := by
  induction n generalizing port with
  | zero => exact blind_pure _
  | succ n ih => exact blind_bind (blind_portPermitted _ _) fun _ => blind_ite _ (ih _) (blind_pure _)

theorem blind_ioPermitted (port : Word) (n : Nat) : Blind (ioPermitted port n) :=
  blind_read (fun _ _ => rfl) fun _ => blind_ite _ (blind_pure _)
    (blind_bind (blind_linRead _ _) fun _ => blind_portsPermitted _ _ _)

theorem blind_ioCheck (port : Word) (n : Nat) : Blind (ioCheck port n) :=
  blind_read (fun _ _ => rfl) fun _ => blind_ite _ (blind_bind (blind_ioPermitted _ _) fun _ =>
    blind_require _ _) (blind_pure _)

theorem blind_portRange (port : Word) (n : Nat) : Blind (portRange port n) :=
  blind_ite _ (blind_stopWith _) (blind_pure _)

theorem blind_ioRead (port : Word) (sz : Size) : Blind (ioRead port sz) :=
  blind_bind (blind_portRange _ _) fun _ => blind_bind blind_draw fun _ => blind_bind (blind_emit _) fun _ =>
    blind_pure _

theorem blind_ioWrite (port : Word) (sz : Size) (v : BitVec sz.bits) : Blind (ioWrite port sz v) :=
  blind_bind (blind_portRange _ _) fun _ => blind_emit _

theorem blind_inputTo (sz : Size) (port : Word) : Blind (inputTo sz port) :=
  blind_bind (blind_ioCheck _ _) fun _ => blind_bind (blind_ioRead _ _) fun _ => blind_writeReg _ _ _

theorem blind_outputFrom (sz : Size) (port : Word) : Blind (outputFrom sz port) :=
  blind_bind (blind_ioCheck _ _) fun _ => blind_bind (blind_readReg _ _) fun _ => blind_ioWrite _ _ _

/-! ## Moves of segment registers and system words -/

theorem blind_inhibitAfterSs (sg : Seg) : Blind (inhibitAfterSs sg) :=
  blind_when _ (blind_update fun _ _ => rfl)

theorem blind_writeSystemWord (rm : RM) (v : Word) : Blind (writeSystemWord rm v) := by
  cases rm with
  | mem m => exact blind_writeRM _ _ _
  | reg r => exact blind_read (fun _ _ => rfl) fun _ => blind_ite _ (blind_bind blind_draw fun _ =>
    blind_writeReg _ _ _) (blind_writeReg _ _ _)

theorem blind_pushSegment (sg : Seg) : Blind (pushSegment sg) :=
  blind_read (fun _ _ => rfl) fun _ => blind_bind (blind_selectorSlot _ _) fun _ => blind_push _ _

theorem blind_popSegment (sg : Seg) : Blind (popSegment sg) :=
  blind_read (fun _ _ => rfl) fun _ => blind_bind (blind_peek _ _) fun _ => blind_bind (blind_loadSeg _ _) fun _ =>
    blind_bind (blind_update fun _ _ => rfl) fun _ => blind_inhibitAfterSs _

theorem blind_loadFarPointer (sg : Seg) (r : Reg) (m : Mem) : Blind (loadFarPointer sg r m) :=
  blind_read (fun _ _ => rfl) fun _ => blind_bind (blind_effAddr _) fun _ => blind_bind (blind_memRead _ _ _) fun _ =>
    blind_bind (blind_memRead _ _ _) fun _ => blind_bind (blind_loadSeg _ _) fun _ => blind_writeReg _ _ _

theorem blind_requireIo : Blind requireIo := blind_read (fun _ _ => rfl) fun _ => blind_require _ _

theorem blind_requirePrivilege : Blind requirePrivilege := blind_read (fun _ _ => rfl) fun _ => blind_require _ _

theorem blind_requireV86Iopl : Blind requireV86Iopl := blind_read (fun _ _ => rfl) fun _ => blind_require _ _

theorem blind_requireProtected : Blind requireProtected := blind_read (fun _ _ => rfl) fun _ => blind_require _ _

theorem blind_requireDebugAccess : Blind requireDebugAccess :=
  blind_read (fun _ _ => rfl) fun _ => blind_ite _
    (blind_bind (blind_update fun _ _ => rfl) fun _ => blind_raise _) (blind_pure _)

/-! ## Test registers and the coprocessor -/

theorem blind_testAttr (x nx : Bool) : Blind (testAttr x nx) := blind_ite _ blind_drawBit (blind_pure _)

theorem blind_tlbTestWrite (tr6 tr7 : Dword) : Blind (tlbTestWrite tr6 tr7) :=
  blind_bind (blind_testAttr _ _) fun _ => blind_bind (blind_testAttr _ _) fun _ =>
    blind_bind (blind_testAttr _ _) fun _ => blind_ite _
      (blind_bind (blind_pure _) fun _ => blind_setTlb _ _)
      (blind_bind (blind_bind blind_draw fun _ => blind_pure _) fun _ => blind_setTlb _ _)

theorem blind_tlbTestLookup (tr6 : Dword) : Blind (tlbTestLookup tr6) := by
  refine blind_read (fun _ _ => rfl) fun s => ?_
  dsimp only
  split
  all_goals exact blind_bind blind_draw fun _ => blind_bind blind_draw fun _ =>
    blind_update fun _ _ => rfl

theorem blind_writeTest (x : TReg) (v : Dword) : Blind (writeTest x v) := by
  cases x with
  | tr6 =>
    exact blind_bind (blind_update fun _ _ => rfl) fun _ => blind_read (fun _ _ => rfl) fun _ =>
      blind_ite _ (blind_tlbTestLookup _) (blind_tlbTestWrite _ _)
  | tr7 => exact blind_update fun _ _ => rfl

theorem blind_waitForCoprocessor : Blind waitForCoprocessor :=
  blind_read (fun _ _ => rfl) fun _ => blind_bind (blind_setNext _) fun _ => blind_setEnding _

theorem blind_transferSpans (sg : Seg) (et : Bool) (off : Dword) (l : List OperandRequest) :
    Blind (transferSpans sg et off l) := by
  induction l generalizing off with
  | nil => exact blind_pure _
  | cons r rest ih => exact blind_bind (blind_segSpan _ _ _ _) fun _ => blind_bind (ih _) fun _ => blind_pure _

theorem blind_transferOne (r : OperandRequest) (sp : List Nat) : Blind (transferOne r sp) := by
  cases r with
  | fromMemory _ => exact blind_bind (blind_loadSpan _) fun _ => blind_emit _
  | toMemory _ v => exact blind_bind (blind_storeSpan _ _) fun _ => blind_emit _

theorem blind_transferAll (l : List OperandRequest) (spans : List (List Nat)) : Blind (transferAll l spans) := by
  induction l generalizing spans with
  | nil => exact blind_pure _
  | cons r rest ih =>
    cases spans with
    | nil => exact blind_pure _
    | cons sp sps => exact blind_bind (blind_transferOne r sp) fun _ => ih sps

theorem blind_coprocAnswer (l : List OperandRequest) : Blind (coprocAnswer l) := by
  unfold coprocAnswer
  split
  · exact blind_pure _
  · exact blind_draw

theorem blind_statusToAx (v : Dword) : Blind (statusToAx v) := blind_bind (blind_emit _) fun _ => blind_writeReg _ _ _

theorem blind_escFitted (op sub : BitVec 3) (rm : RM) : Blind (escFitted op sub rm) := by
  have last : Blind (update fun t => { t with ext := { t.ext with requests := [] } }) :=
    blind_update fun _ _ => rfl
  refine blind_read (fun _ _ => rfl) fun s => ?_
  cases rm with
  | reg r =>
    exact blind_bind (blind_emit _) fun _ => blind_bind
      (blind_when _ (blind_bind (blind_coprocAnswer _) fun _ => blind_statusToAx _)) fun _ => last
  | mem m =>
    exact blind_bind (blind_effAddr _) fun _ => blind_bind (blind_segLinear _ _ _ _) fun _ =>
      blind_bind (blind_transferSpans _ _ _ _) fun _ =>
      blind_bind (blind_emit _) fun _ => blind_bind (blind_transferAll _ _) fun _ => last

theorem blind_escAbsent (op sub : BitVec 3) (rm : RM) : Blind (escAbsent op sub rm) := by
  refine blind_ite _ ?_ (blind_stopWith _)
  cases rm with
  | reg r =>
    exact blind_bind (blind_emit _) fun _ => blind_when _ (blind_bind blind_draw fun _ => blind_statusToAx _)
  | mem m =>
    exact blind_bind (blind_effAddr _) fun _ => blind_bind (blind_segSpan _ _ _ _) fun _ =>
      blind_bind (blind_emit _) fun _ => blind_bind blind_draw fun _ => blind_bind (blind_emit _) fun _ =>
      blind_storeSpan _ _

/-! ## Protection control -/

theorem blind_setZf (b : Bool) : Blind (setZf b) := blind_updateFlags _

theorem blind_adjustRpl (sel ref : Word) {write : Word → Exec Unit} (h : ∀ v, Blind (write v)) :
    Blind (adjustRpl sel ref write) :=
  blind_ite _ (blind_bind (h _) fun _ => blind_setZf _) (blind_setZf _)

theorem blind_probe (sel : Word) : Blind (probe sel) := by
  refine blind_read (fun _ _ => rfl) fun s => blind_ite _ (blind_pure _) ?_
  split
  · exact blind_pure _
  · exact blind_bind (blind_readDescAt _) fun _ => blind_ite _
      (blind_bind (blind_setAccessed _ _) fun _ => blind_pure _) (blind_pure _)

theorem blind_probeInto (r : Reg) (rm : RM) (valid : Attr → Bool) (value : Desc → Dword) :
    Blind (probeInto r rm valid value) := by
  refine blind_bind blind_requireProtected fun _ => blind_bind (blind_readRM _ _) fun _ =>
    blind_bind (blind_probe _) fun p => blind_read (fun _ _ => rfl) fun s => ?_
  cases p with
  | none => exact blind_setZf _
  | some d => exact blind_ite _ (blind_bind (blind_writeReg _ _ _) fun _ => blind_setZf _) (blind_setZf _)

theorem blind_verify (rm : RM) (usable : Attr → Bool) : Blind (verify rm usable) := by
  refine blind_bind blind_requireProtected fun _ => blind_bind (blind_readRM _ _) fun _ =>
    blind_bind (blind_probe _) fun p => ?_
  cases p with
  | none | some _ => exact blind_setZf _

theorem blind_readTableReg (m : Mem) : Blind (readTableReg m) :=
  blind_read (fun _ _ => rfl) fun _ => blind_bind (blind_effAddr _) fun _ => blind_bind (blind_memRead _ _ _) fun _ =>
    blind_bind (blind_memRead _ _ _) fun _ => blind_pure _

theorem blind_writeTableReg (m : Mem) (g : TableReg) : Blind (writeTableReg m g) :=
  blind_read (fun _ _ => rfl) fun _ => blind_bind (blind_effAddr _) fun _ => blind_bind (blind_segSpan _ _ _ _) fun _ =>
    blind_bind (blind_segSpan _ _ _ _) fun _ => blind_bind (blind_storeSpan _ _) fun _ =>
    blind_ite _ (blind_storeSpan _ _) (blind_bind blind_draw fun _ => blind_storeSpan _ _)

theorem blind_loadLdt (sel : Word) : Blind (loadLdt sel) :=
  blind_ite _ (blind_update fun _ _ => rfl) <|
    blind_bind (blind_require _ _) fun _ => blind_bind (blind_readDesc _ _) fun _ =>
    blind_bind (blind_require _ _) fun _ => blind_bind (blind_require _ _) fun _ =>
    blind_update fun _ _ => rfl

theorem blind_loadTaskRegister (sel : Word) : Blind (loadTaskRegister sel) :=
  blind_bind (blind_require _ _) fun _ => blind_bind (blind_readDesc _ _) fun _ =>
    blind_bind (blind_require _ _) fun _ => blind_bind (blind_require _ _) fun _ =>
    blind_bind (blind_writeRights _ _) fun _ => blind_update fun _ _ => rfl

/-! ## Frames -/

theorem blind_setByte (c : Cond) (rm : RM) : Blind (setByte c rm) := blind_read (fun _ _ => rfl) fun _ => blind_writeRM _ _ _

theorem blind_copyDisplay (sz : Size) (bp : Dword) (n : Nat) : Blind (copyDisplay sz bp n) := by
  induction n generalizing bp with
  | zero => exact blind_pure _
  | succ n ih =>
    exact blind_read (fun _ _ => rfl) fun _ => blind_bind (blind_stackRead _ _) fun _ => blind_bind (blind_push _ _) fun _ =>
      ih _

end Sys2Proof.Machine
end

section
/-! The changes of the level and of the task, the deliveries and the returns from them are blind to the repeat prefix, and what
an instruction ends in does not depend on it (spec/60_exceptions.md R740, R780). -/

namespace Sys2Proof.Machine

/-! ## Changes of the level -/

theorem blind_tssStack (l : BitVec 2) : Blind (tssStack l) :=
  blind_read (fun _ _ => rfl) fun _ => blind_ite _
    (blind_bind (blind_require _ _) fun _ => blind_bind (blind_linRead _ _) fun _ =>
      blind_bind (blind_linRead _ _) fun _ => blind_pure _)
    (blind_bind (blind_require _ _) fun _ => blind_bind (blind_linRead _ _) fun _ =>
      blind_bind (blind_linRead _ _) fun _ => blind_pure _)

theorem blind_enterInnerStack (l : BitVec 2) : Blind (enterInnerStack l) :=
  blind_bind (blind_tssStack l) fun _ => blind_bind (blind_checkStackSeg _ _ _ _) fun _ =>
    blind_bind (blind_setSeg _ _) fun _ => blind_bind (blind_update fun _ _ => rfl) fun _ =>
    blind_bind (blind_setStackPtr _) fun _ => blind_pure _

theorem blind_onStackOf {α : Type} (s : State) {x : Exec α} (h : Blind x) : Blind (onStackOf s x) :=
  blind_read (fun _ _ => rfl) fun _ => blind_bind (blind_update fun _ _ => rfl) fun _ => blind_bind h fun _ =>
    blind_bind (blind_update fun _ _ => rfl) fun _ => blind_pure _

theorem blind_farCallInner (g c : Desc) : Blind (farCallInner g c) :=
  blind_read (fun _ _ => rfl) fun s => blind_bind (blind_enterInnerStack _) fun _ => blind_read (fun _ _ => rfl) fun _ =>
    blind_bind (blind_checkPushes _ _ _) fun _ => blind_bind (blind_checkTarget _ _ _) fun _ =>
    blind_bind (blind_onStackOf s (blind_eachGet fun _ => blind_peek _ _)) fun _ =>
    blind_bind (blind_selectorSlot _ _) fun _ => blind_bind (blind_claimSlots _ _) fun _ =>
    blind_bind (blind_setAccessed _ _) fun _ => blind_bind (blind_loadCode _ _ _) fun _ =>
    blind_bind (blind_fillSlots _ _) fun _ => blind_setNext _

theorem blind_farCallGate (sel : Word) (g : Desc) : Blind (farCallGate sel g) :=
  blind_read (fun _ _ => rfl) fun _ => blind_bind (blind_gateTarget _ _) fun _ =>
    blind_ite _ (blind_farCallSame _ _) (blind_farCallInner _ _)

theorem blind_farReturnOuter (sel : Word) (off : Dword) (d : Desc) (imm : Nat) : Blind (farReturnOuter sel off d imm) :=
  blind_read (fun _ _ => rfl) fun _ => blind_bind (blind_checkFrame _) fun _ => blind_bind (blind_peek _ _) fun _ =>
    blind_bind (blind_peek _ _) fun _ => blind_bind (blind_checkStackSeg _ _ _ _) fun _ =>
    blind_bind (blind_checkTarget _ _ _) fun _ => blind_bind (blind_update fun _ _ => rfl) fun _ =>
    blind_bind (blind_loadCode _ _ _) fun _ => blind_bind (blind_loadOuterStack _ _ _ _) fun _ =>
    blind_bind (blind_release _) fun _ => blind_bind (blind_nullInnerSegs _) fun _ => blind_setNext _

theorem blind_farReturn (imm : Nat) : Blind (farReturn imm) := by
  refine blind_read (fun _ _ => rfl) fun s => blind_ite _ ?_ (blind_farReturnReal _)
  exact blind_bind (blind_checkFrame _) fun _ => blind_bind (blind_peek _ _) fun _ => blind_bind (blind_peek _ _) fun _ =>
    blind_bind (blind_returnTarget _) fun _ => blind_ite _
      (blind_bind (blind_checkTarget _ _ _) fun _ => blind_bind (blind_loadCode _ _ _) fun _ =>
        blind_bind (blind_release _) fun _ => blind_setNext _)
      (blind_farReturnOuter _ _ _ _)

/-! ## The task switch -/

theorem blind_rightsSpan (changes : Bool) (sel : Word) : Blind (rightsSpan changes sel) := by
  refine blind_read (fun _ _ => rfl) fun s => ?_
  split
  · exact blind_ite _ (blind_linSpan _ _ _ _) (blind_pure _)
  · exact blind_pure _

theorem blind_writeBusy (sp : List Nat) (busy : Bool) : Blind (writeBusy sp busy) :=
  blind_bind (blind_loadSpan _) fun _ => blind_storeSpan _ _

theorem blind_saveTask32 (sp : List Nat) (eip flags : Dword) : Blind (saveTask32 sp eip flags) :=
  blind_read (fun _ _ => rfl) fun _ => blind_bind (blind_storeSpan _ _) fun _ => blind_bind (blind_storeSpan _ _) fun _ =>
    blind_bind (blind_eachDo fun _ => blind_storeSpan _ _) fun _ => blind_eachDo fun _ => blind_storeSpan _ _

theorem blind_saveTask16 (sp : List Nat) (eip flags : Dword) : Blind (saveTask16 sp eip flags) :=
  blind_read (fun _ _ => rfl) fun _ => blind_bind (blind_storeSpan _ _) fun _ => blind_bind (blind_storeSpan _ _) fun _ =>
    blind_bind (blind_eachDo fun _ => blind_storeSpan _ _) fun _ => blind_eachDo fun _ => blind_storeSpan _ _

theorem blind_loadImage32 (sp : List Nat) : Blind (loadImage32 sp) :=
  blind_bind (blind_loadSpan _) fun _ => blind_bind (blind_loadSpan _) fun _ => blind_bind (blind_loadSpan _) fun _ =>
    blind_bind (blind_eachGet fun _ => blind_loadSpan _) fun _ =>
    blind_bind (blind_eachGet fun _ => blind_loadSpan _) fun _ =>
    blind_bind (blind_loadSpan _) fun _ => blind_bind (blind_loadSpan _) fun _ => blind_pure _

theorem blind_loadImage16 (sp : List Nat) : Blind (loadImage16 sp) :=
  blind_bind (blind_loadSpan _) fun _ => blind_bind (blind_loadSpan _) fun _ =>
    blind_bind (blind_eachGet fun _ => blind_loadSpan _) fun _ =>
    blind_bind (blind_eachGet fun _ => blind_loadSpan _) fun _ =>
    blind_bind (blind_loadSpan _) fun _ => blind_pure _

theorem blind_loadTaskLdt (sel : Word) : Blind (loadTaskLdt sel) :=
  blind_ite _ (blind_pure _) <| blind_bind (blind_require _ _) fun _ => blind_bind (blind_readDesc _ _) fun _ =>
    blind_bind (blind_require _ _) fun _ => blind_update fun _ _ => rfl

theorem blind_loadTaskCode (sel : Word) : Blind (loadTaskCode sel) :=
  blind_bind (blind_update fun _ _ => rfl) fun _ => blind_bind (blind_require _ _) fun _ =>
    blind_bind (blind_readDesc _ _) fun _ => blind_bind (blind_require _ _) fun _ => blind_bind (blind_require _ _) fun _ =>
    blind_bind (blind_require _ _) fun _ => blind_bind (blind_setAccessed _ _) fun _ => blind_setSeg _ _

theorem blind_loadV86Segs (l : List Word) : Blind (loadV86Segs l) :=
  blind_bind (blind_eachDo fun _ => blind_setSeg _ _) fun _ => blind_update fun _ _ => rfl

theorem blind_resumeTask_of_none {img : TaskImage} (noCr3 : img.cr3 = none) (wide : Bool) (kind : SwitchKind) :
    Blind (resumeTask img wide kind) := by
  have trap : Blind (when_ img.t
      (update fun s => { s with events := { s.events with traps := { s.events.traps with bt := true } } })) :=
    blind_when _ (blind_update fun _ _ => rfl)
  unfold resumeTask
  simp only [noCr3]
  refine blind_read (fun _ _ => rfl) fun s => blind_bind (blind_update fun _ _ => rfl) fun _ =>
    blind_bind (blind_setNext _) fun _ =>
    blind_bind (blind_loadTaskLdt _) fun _ => blind_ite _ (blind_bind (blind_loadV86Segs _) fun _ => trap) ?_
  exact blind_bind (blind_loadTaskCode _) fun _ => blind_read (fun _ _ => rfl) fun _ =>
    blind_bind (blind_loadStackSeg _ _ _ _) fun _ =>
    blind_bind (blind_loadDataSeg _ _ _) fun _ => blind_bind (blind_loadDataSeg _ _ _) fun _ =>
    blind_bind (blind_loadDataSeg _ _ _) fun _ => blind_bind (blind_loadDataSeg _ _ _) fun _ => trap

theorem blind_resumeTask (img : TaskImage) (wide : Bool) (kind : SwitchKind) : Blind (resumeTask img wide kind) := by
  cases cr3 : img.cr3 with
  | none => exact blind_resumeTask_of_none cr3 wide kind
  | some v =>
    rw [resumeTask_cr3 cr3]
    exact blind_read (fun _ _ => rfl) fun _ => blind_bind (blind_when _ blind_tlbFlush) fun _ =>
      blind_bind (blind_update fun _ _ => rfl) fun _ =>
      blind_resumeTask_of_none rfl wide kind

theorem blind_taskSwitch (tsel : Word) (t : Desc) (kind : SwitchKind) (retEip : Dword) :
    Blind (taskSwitch tsel t kind retEip) := by
  refine blind_read (fun _ _ => rfl) fun s => blind_bind (blind_require _ _) fun _ =>
    blind_bind (blind_linSpan _ _ _ _) fun _ =>
    blind_bind (blind_linSpan _ _ _ _) fun _ => blind_bind (blind_linSpan _ _ _ _) fun _ =>
    blind_bind (blind_rightsSpan _ _) fun _ => blind_bind (blind_rightsSpan _ _) fun _ => ?_
  refine blind_branch _ (blind_saveTask32 _ _ _) (blind_saveTask16 _ _ _) fun _ => ?_
  refine blind_branch _ (blind_storeSpan _ _) (blind_writeBusy _ _) fun _ =>
    blind_bind (blind_when _ (blind_writeBusy _ _)) fun _ =>
    blind_bind (blind_update fun _ _ => rfl) fun _ => ?_
  exact blind_branch _ (blind_loadImage32 _) (blind_loadImage16 _) fun _ => blind_mapStop _ (blind_resumeTask _ _ _)

theorem blind_readTaskTarget (tsel : Word) : Blind (readTaskTarget tsel) :=
  blind_bind (blind_require _ _) fun _ => blind_bind (blind_readDesc _ _) fun _ =>
    blind_bind (blind_require _ _) fun _ => blind_bind (blind_require _ _) fun _ => blind_pure _

theorem blind_checkNewTask : Blind checkNewTask := blind_read (fun _ _ => rfl) fun _ => blind_mapStop _ (blind_require _ _)

/-! ## Far transfers -/

theorem blind_farTask (kind : SwitchKind) (sel : Word) (d : Desc) : Blind (farTask kind sel d) := by
  have after : Blind (do checkNewTask; setEnding .rfLoaded) := blind_bind blind_checkNewTask fun _ => blind_setEnding _
  refine blind_read (fun _ _ => rfl) fun s => blind_bind (blind_require _ _) fun _ => blind_bind (blind_require _ _) fun _ =>
    blind_ite _ ?gate ?tss
  case gate => exact blind_bind (blind_readTaskTarget _) fun _ => blind_bind (blind_taskSwitch _ _ _ _) fun _ => after
  case tss => exact blind_bind (blind_require _ _) fun _ => blind_bind (blind_taskSwitch _ _ _ _) fun _ => after

theorem blind_farJump (sel : Word) (off : Dword) : Blind (farJump sel off) :=
  blind_read (fun _ _ => rfl) fun _ => blind_ite _
    (blind_bind (blind_farDescriptor _) fun _ => blind_ite _ (blind_farJumpCode _ _ _) <|
      blind_ite _ (blind_farJumpGate _ _) <| blind_ite _ (blind_farTask _ _ _) (blind_raise _))
    (blind_farJumpReal _ _)

theorem blind_farCall (sel : Word) (off : Dword) : Blind (farCall sel off) :=
  blind_read (fun _ _ => rfl) fun _ => blind_ite _
    (blind_bind (blind_farDescriptor _) fun _ => blind_ite _ (blind_farCallCode _ _ _) <|
      blind_ite _ (blind_farCallGate _ _) <| blind_ite _ (blind_farTask _ _ _) (blind_raise _))
    (blind_farCallReal _ _)

/-! ## Deliveries -/

theorem blind_deliverGate (ev : Event) (g : Desc) : Blind (deliverGate ev g) := by
  have enters (clearIe : Bool) (off : Dword) : Blind (do
      updateFlags fun f => { f with tf := false, nt := false, rf := false, vm := false, ie := f.ie && !clearIe }
      setNext off) := blind_bind (blind_updateFlags _) fun _ => blind_setNext _
  refine blind_read (fun _ _ => rfl) fun s => blind_bind (blind_require _ _) fun _ => blind_bind (blind_readDesc _ _) fun _ =>
    blind_bind (blind_require _ _) fun _ => blind_bind (blind_require _ _) fun _ => blind_bind (blind_require _ _) fun _ =>
    blind_bind (blind_selectorSlot _ _) fun _ => blind_bind (blind_codeValues _ _) fun _ => blind_ite _ ?inner ?same
  case inner =>
    refine blind_bind (blind_updateFlags _) fun _ => blind_bind (blind_enterInnerStack _) fun st => ?_
    exact blind_branch _ (blind_v86Values _ _) (blind_pure _) fun _ => blind_bind (blind_selectorSlot _ _) fun _ =>
      blind_read (fun _ _ => rfl) fun _ => blind_bind (blind_checkPushes _ _ _) fun _ =>
      blind_bind (blind_checkTarget _ _ _) fun _ =>
      blind_bind (blind_claimSlots _ _) fun _ => blind_bind (blind_setAccessed _ _) fun _ =>
      blind_bind (blind_loadCode _ _ _) fun _ => blind_bind (blind_fillSlots _ _) fun _ =>
      blind_bind (blind_when _ blind_nullDataSegs) fun _ => enters _ _
  case same =>
    exact blind_bind (blind_checkPushes _ _ _) fun _ => blind_bind (blind_checkTarget _ _ _) fun _ =>
      blind_bind (blind_claimSlots _ _) fun _ => blind_bind (blind_loadCode _ _ _) fun _ =>
      blind_bind (blind_fillSlots _ _) fun _ => enters _ _

theorem blind_deliverTask (ev : Event) (g : Desc) : Blind (deliverTask ev g) := by
  refine blind_bind (blind_readTaskTarget _) fun t => blind_bind (blind_updateFlags _) fun _ =>
    blind_bind (blind_taskSwitch _ _ _ _) fun _ => blind_bind (blind_when _ (blind_updateFlags _)) fun _ =>
    blind_bind (blind_codeValues _ _) fun _ => blind_bind (blind_mapStop _ ?_) fun _ => blind_checkNewTask
  exact blind_bind (blind_claimSlots _ _) fun _ => blind_fillSlots _ _

theorem blind_deliverProtected (ev : Event) : Blind (deliverProtected ev) :=
  blind_read (fun _ _ => rfl) fun _ => blind_bind (blind_require _ _) fun _ => blind_bind (blind_readDescAt _) fun _ =>
    blind_bind (blind_require _ _) fun _ => blind_bind (blind_require _ _) fun _ => blind_bind (blind_require _ _) fun _ =>
    blind_ite _ (blind_deliverTask _ _) (blind_deliverGate _ _)

theorem blind_deliver (nested : Bool) (ev : Event) : Blind (deliver nested ev) :=
  blind_read (fun _ _ => rfl) fun _ => blind_bind
    (blind_unmatched (blind_mapStop _ (blind_ite _ (blind_deliverProtected _) (blind_deliverReal _ _))))
    fun _ => blind_setEnding _

theorem blind_softwareInterrupt (vector : Byte) : Blind (softwareInterrupt vector) := blind_read (fun _ _ => rfl) fun _ =>
  blind_deliver _ _

/-! ## Returns from an interrupt -/

theorem blind_iretToV86 (off img : Dword) (sel : Word) : Blind (iretToV86 off img sel) :=
  blind_bind (blind_checkFrame _) fun _ => blind_bind (blind_peek _ _) fun _ => blind_bind (blind_peek _ _) fun _ =>
    blind_bind (blind_peek _ _) fun _ => blind_bind (blind_peek _ _) fun _ => blind_bind (blind_peek _ _) fun _ =>
    blind_bind (blind_peek _ _) fun _ => blind_bind (blind_loadV86Segs _) fun _ =>
    blind_bind (blind_update fun _ _ => rfl) fun _ => blind_setNext _

theorem blind_iretProtected : Blind iretProtected := by
  refine blind_read (fun _ _ => rfl) fun s => blind_bind (blind_checkFrame _) fun _ => blind_bind (blind_peek _ _) fun _ =>
    blind_bind (blind_peek _ _) fun _ => blind_bind (blind_peek _ _) fun _ => blind_ite _ (blind_iretToV86 _ _ _) ?_
  refine blind_bind (blind_returnTarget _) fun _ => blind_ite _ ?same ?outer
  case same =>
    exact blind_bind (blind_checkTarget _ _ _) fun _ => blind_bind (blind_loadCode _ _ _) fun _ =>
      blind_bind (blind_updateFlags _) fun _ => blind_bind (blind_release _) fun _ => blind_setNext _
  case outer =>
    exact blind_bind (blind_checkFrame _) fun _ => blind_bind (blind_peek _ _) fun _ => blind_bind (blind_peek _ _) fun _ =>
      blind_bind (blind_checkStackSeg _ _ _ _) fun _ => blind_bind (blind_checkTarget _ _ _) fun _ =>
      blind_bind (blind_updateFlags _) fun _ => blind_bind (blind_update fun _ _ => rfl) fun _ =>
      blind_bind (blind_loadCode _ _ _) fun _ => blind_bind (blind_loadOuterStack _ _ _ _) fun _ =>
      blind_bind (blind_nullInnerSegs _) fun _ => blind_setNext _

theorem blind_iretTask : Blind iretTask :=
  blind_read (fun _ _ => rfl) fun _ => blind_bind (blind_linRead _ _) fun _ => blind_bind (blind_require _ _) fun _ =>
    blind_bind (blind_readDesc _ _) fun _ => blind_bind (blind_require _ _) fun _ => blind_bind (blind_require _ _) fun _ =>
    blind_bind (blind_taskSwitch _ _ _ _) fun _ => blind_checkNewTask

theorem blind_interruptReturn : Blind interruptReturn := by
  have done : Blind (do
      update fun s => { s with events := { s.events with nmiInService := false } }
      setEnding .rfLoaded) := blind_bind (blind_update fun _ _ => rfl) fun _ => blind_setEnding _
  exact blind_read (fun _ _ => rfl) fun _ => blind_bind (blind_require _ _) fun _ =>
    blind_ite _ (blind_bind blind_iretReal fun _ => done) <|
    blind_ite _ (blind_bind blind_iretTask fun _ => done) (blind_bind blind_iretProtected fun _ => done)

/-! ## Control registers -/

theorem blind_setCr0 (v : Dword) : Blind (setCr0 v) := blind_update fun _ _ => rfl

theorem blind_writeControl (x : CReg) (v : Dword) : Blind (writeControl x v) := by
  cases x with
  | cr0 => exact blind_bind (blind_require _ _) fun _ => blind_setCr0 v
  | cr2 => exact blind_update fun _ _ => rfl
  | cr3 => exact blind_bind (blind_update fun _ _ => rfl) fun _ => blind_tlbFlush

/-! ## How instructions and deliveries end -/

/-- Between two instructions no repeat prefix is in effect: what a chain of deliveries ends in does not depend on the one at its
beginning (R780). -/
theorem deliverChain_withRepeat (fuel : Nat) (nested again : Bool) (ev : Event) (k : Rep) (s : State) :
    deliverChain fuel nested again ev (withRepeat k s) = deliverChain fuel nested again ev s := by
  induction fuel generalizing nested again ev s with
  | zero => rfl
  | succ n ih =>
    have next (e : Exc) (t : State) :
        deliverChain n true (decide (ev.vector = 14 ∧ ev.source = .exception)) (exceptionEvent (withRepeat k t) e) (withRepeat k t) =
          deliverChain n true (decide (ev.vector = 14 ∧ ev.source = .exception)) (exceptionEvent t e) t := ih _ _ _ _
    rw [deliverChain, deliverChain, blind_deliver nested ev k s]
    cases deliver nested ev s with
    | ok a t => rfl
    | error e t =>
      cases e with
      | exc e =>
        dsimp only [answerUnder]
        cases secondException ev e again with
        | none => rfl
        | some e' => exact next e' (rollback s t)
      | excInNewTask e =>
        dsimp only [answerUnder]
        cases secondException ev e again with
        | none => rfl
        | some e' => exact next e' t
      | shutdown | fault | refuse => rfl

theorem takeEvent_withRepeat (ev : Event) (k : Rep) (s : State) : takeEvent ev (withRepeat k s) = takeEvent ev s :=
  deliverChain_withRepeat _ _ _ _ _ _

/-- The state that an instruction began with is gone back to without its context. -/
theorem afterStop_beginWithRepeat (k : Rep) (s : State) (x : Stop) (t : State) :
    afterStop (withRepeat k s) x t = afterStop s x t := by
  cases x with
  | exc e => exact takeEvent_withRepeat _ k (rollback s t)
  | excInNewTask | shutdown | fault | refuse => rfl

/-- An instruction that stops ends in a delivery or in a shutdown, which leave no repeat prefix in effect. -/
theorem afterStop_endWithRepeat (k : Rep) (s : State) (x : Stop) (t : State) :
    afterStop s x (withRepeat k t) = afterStop s x t := by
  cases x with
  | excInNewTask e => exact takeEvent_withRepeat _ k t
  | exc | shutdown | fault | refuse => rfl

end Sys2Proof.Machine
end

section
/-! No instruction but the string instructions looks at the repeat prefix (spec/30_encoding.md R252): one lemma for each that is
not one shared operation. -/

namespace Sys2Proof.Machine

/-- The meaning of an instruction that does not look at the repeat prefix in effect. -/
def IgnoresRepeat (f : State → Host.Outcome State Fault Refusal) : Prop := ∀ k s, f (withRepeat k s) = f s

/-- A blind instruction ends as under any other repeat prefix. -/
theorem Blind.ignoresRepeat {body : Exec Unit} (h : Blind body) : IgnoresRepeat (runInstr body) := by
  intro k s
  rw [runInstr, runInstr, h k s]
  cases body s with
  | ok a t => rfl
  | error x t => exact (afterStop_beginWithRepeat k s x _).trans (afterStop_endWithRepeat k s x t)

/-- An instruction that a repeat prefix is part of has its own in effect (R512). -/
theorem ignoresRepeat_withRep (r : Rep) (x : Exec Unit) : IgnoresRepeat (runInstr (withRep r x)) := by
  intro k s
  have own : withRep r x (withRepeat k s) = withRep r x s := rfl
  rw [runInstr, runInstr, own]
  cases withRep r x s with
  | ok a t => rfl
  | error y t => exact afterStop_beginWithRepeat k s y t

theorem ignoresRepeat_execTestRmReg (w : Bool) (rm : RM) (r : Reg) : IgnoresRepeat (execTestRmReg w rm r) :=
  Blind.ignoresRepeat (blind_read (fun _ _ => rfl) fun _ => blind_bind (blind_readRM _ rm) fun _ =>
    blind_bind (blind_readReg _ r) fun _ =>
    blind_aluFlags .and _ _)

theorem ignoresRepeat_execTestRmImm (w : Bool) (rm : RM) (imm : Imm) : IgnoresRepeat (execTestRmImm w rm imm) :=
  Blind.ignoresRepeat (blind_read (fun _ _ => rfl) fun _ => blind_bind (blind_readRM _ rm) fun _ => blind_aluFlags .and _ _)

theorem ignoresRepeat_execTestAccImm (w : Bool) (imm : Imm) : IgnoresRepeat (execTestAccImm w imm) :=
  Blind.ignoresRepeat (blind_read (fun _ _ => rfl) fun _ => blind_bind (blind_readReg _ _) fun _ => blind_aluFlags .and _ _)

theorem ignoresRepeat_execNotRm (w : Bool) (rm : RM) : IgnoresRepeat (execNotRm w rm) :=
  Blind.ignoresRepeat (blind_modifyRM _ _ _ _)

theorem ignoresRepeat_execNegRm (w : Bool) (rm : RM) : IgnoresRepeat (execNegRm w rm) :=
  Blind.ignoresRepeat (blind_modifyRM _ _ _ _)

theorem ignoresRepeat_execIncRm (w : Bool) (rm : RM) : IgnoresRepeat (execIncRm w rm) :=
  Blind.ignoresRepeat (blind_modifyRM _ _ _ _)

theorem ignoresRepeat_execIncReg (r : Reg) : IgnoresRepeat (execIncReg r) := Blind.ignoresRepeat (blind_modifyRM _ _ _ _)

theorem ignoresRepeat_execDecRm (w : Bool) (rm : RM) : IgnoresRepeat (execDecRm w rm) :=
  Blind.ignoresRepeat (blind_modifyRM _ _ _ _)

theorem ignoresRepeat_execDecReg (r : Reg) : IgnoresRepeat (execDecReg r) := Blind.ignoresRepeat (blind_modifyRM _ _ _ _)

theorem ignoresRepeat_execMulRm (w : Bool) (rm : RM) : IgnoresRepeat (execMulRm w rm) :=
  Blind.ignoresRepeat (blind_read (fun _ _ => rfl) fun _ => blind_bind (blind_readRM _ rm) fun _ =>
    blind_bind (blind_readReg _ _) fun _ =>
    blind_bind (blind_writeWide _ _ _) fun _ => blind_mulFlags _)

theorem ignoresRepeat_execImulRm (w : Bool) (rm : RM) : IgnoresRepeat (execImulRm w rm) :=
  Blind.ignoresRepeat (blind_read (fun _ _ => rfl) fun _ => blind_bind (blind_readRM _ rm) fun _ =>
    blind_bind (blind_readReg _ _) fun _ =>
    blind_bind (blind_writeWide _ _ _) fun _ => blind_mulFlags _)

theorem ignoresRepeat_execImulRegRm (r : Reg) (rm : RM) : IgnoresRepeat (execImulRegRm r rm) :=
  Blind.ignoresRepeat (blind_read (fun _ _ => rfl) fun _ => blind_bind (blind_readRM _ rm) fun _ =>
    blind_bind (blind_readReg _ r) fun _ =>
    blind_imulTo _ r _ _)

theorem ignoresRepeat_execImulRegRmImm (sx : Bool) (r : Reg) (rm : RM) (imm : Imm) : IgnoresRepeat (execImulRegRmImm sx r rm imm) :=
  Blind.ignoresRepeat (blind_read (fun _ _ => rfl) fun _ => blind_bind (blind_readRM _ rm) fun _ => blind_imulTo _ r _ _)

theorem ignoresRepeat_execDivRm (w : Bool) (rm : RM) : IgnoresRepeat (execDivRm w rm) :=
  Blind.ignoresRepeat (blind_read (fun _ _ => rfl) fun _ => blind_bind (blind_readRM _ rm) fun _ =>
    blind_bind (blind_readReg _ _) fun _ =>
    blind_bind (blind_readHigh _) fun _ => blind_bind (blind_require _ _) fun _ => blind_bind (blind_writeWide _ _ _) fun _
    => blind_undefined _)

theorem ignoresRepeat_execIdivRm (w : Bool) (rm : RM) : IgnoresRepeat (execIdivRm w rm) :=
  Blind.ignoresRepeat (blind_read (fun _ _ => rfl) fun _ => blind_bind (blind_readRM _ rm) fun _ =>
    blind_bind (blind_readReg _ _) fun _ =>
    blind_bind (blind_readHigh _) fun _ => blind_bind (blind_require _ _) fun _ => blind_bind (blind_writeWide _ _ _) fun _
    => blind_undefined _)

theorem ignoresRepeat_execDaa : IgnoresRepeat execDaa :=
  Blind.ignoresRepeat (blind_read (fun _ _ => rfl) fun _ => blind_bind (blind_writeReg _ _ _) fun _ =>
    blind_bind (blind_updateFlags _) fun _
    => blind_undefined _)

theorem ignoresRepeat_execDas : IgnoresRepeat execDas :=
  Blind.ignoresRepeat (blind_read (fun _ _ => rfl) fun _ => blind_bind (blind_writeReg _ _ _) fun _ =>
    blind_bind (blind_updateFlags _) fun _
    => blind_undefined _)

theorem ignoresRepeat_execAad : IgnoresRepeat execAad :=
  Blind.ignoresRepeat (blind_read (fun _ _ => rfl) fun _ => blind_bind (blind_writeReg _ _ _) fun _ =>
    blind_bind (blind_updateFlags _) fun _
    => blind_undefined _)

theorem ignoresRepeat_execAam : IgnoresRepeat execAam :=
  Blind.ignoresRepeat (blind_read (fun _ _ => rfl) fun _ => blind_bind (blind_writeReg _ _ _) fun _ =>
    blind_bind (blind_writeReg _ _ _) fun _
    => blind_bind (blind_updateFlags _) fun _ => blind_undefined _)

theorem ignoresRepeat_execCbw : IgnoresRepeat execCbw :=
  Blind.ignoresRepeat (blind_read (fun _ _ => rfl) fun _ => blind_ite _ (blind_writeReg _ _ _) (blind_writeReg _ _ _))

theorem ignoresRepeat_execCwd : IgnoresRepeat execCwd :=
  Blind.ignoresRepeat (blind_read (fun _ _ => rfl) fun _ => blind_ite _ (blind_writeReg _ _ _) (blind_writeReg _ _ _))

theorem ignoresRepeat_execMovRmReg (w : Bool) (rm : RM) (r : Reg) : IgnoresRepeat (execMovRmReg w rm r) :=
  Blind.ignoresRepeat (blind_read (fun _ _ => rfl) fun _ => blind_bind (blind_place _ _ _) fun _ =>
    blind_bind (blind_readReg _ r) fun _ =>
    blind_writePlace _ _ _)

theorem ignoresRepeat_execMovRegRm (w : Bool) (r : Reg) (rm : RM) : IgnoresRepeat (execMovRegRm w r rm) :=
  Blind.ignoresRepeat (blind_read (fun _ _ => rfl) fun _ => blind_bind (blind_readRM _ rm) fun _ => blind_writeReg _ r _)

theorem ignoresRepeat_execMovRmImm (w : Bool) (rm : RM) (imm : Imm) : IgnoresRepeat (execMovRmImm w rm imm) :=
  Blind.ignoresRepeat (blind_read (fun _ _ => rfl) fun _ => blind_writeRM _ rm _)

theorem ignoresRepeat_execMovRegImm (w : Bool) (r : Reg) (imm : Imm) : IgnoresRepeat (execMovRegImm w r imm) :=
  Blind.ignoresRepeat (blind_read (fun _ _ => rfl) fun _ => blind_writeReg _ r _)

theorem ignoresRepeat_execMovAccMoffs (w : Bool) (off : Full) : IgnoresRepeat (execMovAccMoffs w off) :=
  Blind.ignoresRepeat (blind_read (fun _ _ => rfl) fun _ => blind_bind (blind_memRead _ _ _) fun _ => blind_writeReg _ _ _)

theorem ignoresRepeat_execMovMoffsAcc (w : Bool) (off : Full) : IgnoresRepeat (execMovMoffsAcc w off) :=
  Blind.ignoresRepeat (blind_read (fun _ _ => rfl) fun _ => blind_bind (blind_segSpan _ _ _ _) fun _ =>
    blind_bind (blind_readReg _ _) fun _
    => blind_storeSpan _ _)

theorem ignoresRepeat_execMovSegRm (sg : Seg) (rm : RM) : IgnoresRepeat (execMovSegRm sg rm) :=
  Blind.ignoresRepeat (blind_bind (blind_readRM _ rm) fun _ => blind_bind (blind_require _ _) fun _ => blind_bind
    (blind_loadSeg sg _) fun _ => blind_inhibitAfterSs sg)

theorem ignoresRepeat_execMovRmSeg (rm : RM) (sg : Seg) : IgnoresRepeat (execMovRmSeg rm sg) :=
  Blind.ignoresRepeat (blind_read (fun _ _ => rfl) fun _ => blind_writeSystemWord rm _)

theorem ignoresRepeat_execMovsx (w : Bool) (r : Reg) (rm : RM) : IgnoresRepeat (execMovsx w r rm) :=
  Blind.ignoresRepeat (blind_read (fun _ _ => rfl) fun _ => blind_bind (blind_readRM _ rm) fun _ => blind_writeReg _ r _)

theorem ignoresRepeat_execMovzx (w : Bool) (r : Reg) (rm : RM) : IgnoresRepeat (execMovzx w r rm) :=
  Blind.ignoresRepeat (blind_read (fun _ _ => rfl) fun _ => blind_bind (blind_readRM _ rm) fun _ => blind_writeReg _ r _)

theorem ignoresRepeat_execPushRm (rm : RM) : IgnoresRepeat (execPushRm rm) :=
  Blind.ignoresRepeat (blind_read (fun _ _ => rfl) fun _ => blind_bind (blind_readRM _ rm) fun _ => blind_push _ _)

theorem ignoresRepeat_execPushReg (r : Reg) : IgnoresRepeat (execPushReg r) :=
  Blind.ignoresRepeat (blind_read (fun _ _ => rfl) fun _ => blind_bind (blind_readReg _ r) fun _ => blind_push _ _)

theorem ignoresRepeat_execPushImm (sx : Bool) (imm : Imm) : IgnoresRepeat (execPushImm sx imm) :=
  Blind.ignoresRepeat (blind_read (fun _ _ => rfl) fun _ => blind_push _ _)

theorem ignoresRepeat_execPopRm (rm : RM) : IgnoresRepeat (execPopRm rm) :=
  Blind.ignoresRepeat (blind_read (fun _ _ => rfl) fun _ => blind_bind (blind_pop _) fun _ => blind_writeRM _ rm _)

theorem ignoresRepeat_execPopReg (r : Reg) : IgnoresRepeat (execPopReg r) :=
  Blind.ignoresRepeat (blind_read (fun _ _ => rfl) fun _ => blind_bind (blind_pop _) fun _ => blind_writeReg _ r _)

theorem ignoresRepeat_execPusha : IgnoresRepeat execPusha :=
  Blind.ignoresRepeat (blind_read (fun _ _ => rfl) fun _ => blind_bind (blind_checkPushes _ _ _) fun _ =>
    blind_bind (blind_claimSlots _ _)
    fun _ => blind_fillSlots _ _)

theorem ignoresRepeat_execPopa : IgnoresRepeat execPopa :=
  Blind.ignoresRepeat (blind_read (fun _ _ => rfl) fun _ => blind_bind (blind_checkPops _ _ _) fun _ =>
    blind_bind (blind_eachGet fun _ =>
    blind_memRead _ _ _) fun _ => blind_bind (blind_eachDo fun _ => blind_when _ (blind_writeReg _ _ _)) fun _ =>
    blind_release _)

theorem ignoresRepeat_execXchgRmReg (w : Bool) (rm : RM) (r : Reg) : IgnoresRepeat (execXchgRmReg w rm r) :=
  Blind.ignoresRepeat (blind_read (fun _ _ => rfl) fun _ => blind_bind (blind_place _ _ _) fun _ =>
    blind_bind (blind_readPlace _ _) fun _ =>
    blind_bind (blind_readReg _ r) fun _ => blind_bind (blind_writePlace _ _ _) fun _ => blind_writeReg _ r _)

theorem ignoresRepeat_execXchgAcc (r : Reg) : IgnoresRepeat (execXchgAcc r) :=
  Blind.ignoresRepeat (blind_read (fun _ _ => rfl) fun _ => blind_bind (blind_readReg _ _) fun _ =>
    blind_bind (blind_readReg _ r) fun _ =>
    blind_bind (blind_writeReg _ _ _) fun _ => blind_writeReg _ r _)

theorem ignoresRepeat_execInImm (w : Bool) (port : BitVec 8) : IgnoresRepeat (execInImm w port) :=
  Blind.ignoresRepeat (blind_read (fun _ _ => rfl) fun _ => blind_inputTo _ _)

theorem ignoresRepeat_execInDx (w : Bool) : IgnoresRepeat (execInDx w) :=
  Blind.ignoresRepeat (blind_read (fun _ _ => rfl) fun _ => blind_inputTo _ _)

theorem ignoresRepeat_execOutImm (w : Bool) (port : BitVec 8) : IgnoresRepeat (execOutImm w port) :=
  Blind.ignoresRepeat (blind_read (fun _ _ => rfl) fun _ => blind_outputFrom _ _)

theorem ignoresRepeat_execOutDx (w : Bool) : IgnoresRepeat (execOutDx w) :=
  Blind.ignoresRepeat (blind_read (fun _ _ => rfl) fun _ => blind_outputFrom _ _)

theorem ignoresRepeat_execLea (r : Reg) (m : Mem) : IgnoresRepeat (execLea r m) :=
  Blind.ignoresRepeat (blind_bind (blind_effAddr m) fun _ => blind_read (fun _ _ => rfl) fun _ => blind_writeReg _ r _)

theorem ignoresRepeat_execRolCl (w : Bool) (rm : RM) : IgnoresRepeat (execRolCl w rm) :=
  Blind.ignoresRepeat (blind_read (fun _ _ => rfl) fun _ => blind_shiftRM _ w rm _)

theorem ignoresRepeat_execRorCl (w : Bool) (rm : RM) : IgnoresRepeat (execRorCl w rm) :=
  Blind.ignoresRepeat (blind_read (fun _ _ => rfl) fun _ => blind_shiftRM _ w rm _)

theorem ignoresRepeat_execRclCl (w : Bool) (rm : RM) : IgnoresRepeat (execRclCl w rm) :=
  Blind.ignoresRepeat (blind_read (fun _ _ => rfl) fun _ => blind_shiftRM _ w rm _)

theorem ignoresRepeat_execRcrCl (w : Bool) (rm : RM) : IgnoresRepeat (execRcrCl w rm) :=
  Blind.ignoresRepeat (blind_read (fun _ _ => rfl) fun _ => blind_shiftRM _ w rm _)

theorem ignoresRepeat_execShlCl (w : Bool) (rm : RM) : IgnoresRepeat (execShlCl w rm) :=
  Blind.ignoresRepeat (blind_read (fun _ _ => rfl) fun _ => blind_shiftRM _ w rm _)

theorem ignoresRepeat_execShrCl (w : Bool) (rm : RM) : IgnoresRepeat (execShrCl w rm) :=
  Blind.ignoresRepeat (blind_read (fun _ _ => rfl) fun _ => blind_shiftRM _ w rm _)

theorem ignoresRepeat_execSarCl (w : Bool) (rm : RM) : IgnoresRepeat (execSarCl w rm) :=
  Blind.ignoresRepeat (blind_read (fun _ _ => rfl) fun _ => blind_shiftRM _ w rm _)

theorem ignoresRepeat_execShldCl (rm : RM) (r : Reg) : IgnoresRepeat (execShldCl rm r) :=
  Blind.ignoresRepeat (blind_read (fun _ _ => rfl) fun _ => blind_shiftDouble rm r _ _ _)

theorem ignoresRepeat_execShrdCl (rm : RM) (r : Reg) : IgnoresRepeat (execShrdCl rm r) :=
  Blind.ignoresRepeat (blind_read (fun _ _ => rfl) fun _ => blind_shiftDouble rm r _ _ _)

theorem ignoresRepeat_execJmpRm (rm : RM) : IgnoresRepeat (execJmpRm rm) :=
  Blind.ignoresRepeat (blind_read (fun _ _ => rfl) fun _ => blind_bind (blind_readRM _ rm) fun _ => blind_jumpNear _)

theorem ignoresRepeat_execCallRm (rm : RM) : IgnoresRepeat (execCallRm rm) :=
  Blind.ignoresRepeat (blind_read (fun _ _ => rfl) fun _ => blind_bind (blind_readRM _ rm) fun _ => blind_callNear _)

theorem ignoresRepeat_execCallNear (disp : Full) : IgnoresRepeat (execCallNear disp) :=
  Blind.ignoresRepeat (blind_read (fun _ _ => rfl) fun _ => blind_callNear _)

theorem ignoresRepeat_execJmpFarMem (m : Mem) : IgnoresRepeat (execJmpFarMem m) :=
  Blind.ignoresRepeat (blind_bind (blind_readFarPointer _) fun _ => blind_farJump _ _)

theorem ignoresRepeat_execCallFarMem (m : Mem) : IgnoresRepeat (execCallFarMem m) :=
  Blind.ignoresRepeat (blind_bind (blind_readFarPointer _) fun _ => blind_farCall _ _)

theorem ignoresRepeat_execJcxz (disp : BitVec 8) : IgnoresRepeat (execJcxz disp) :=
  Blind.ignoresRepeat (blind_read (fun _ _ => rfl) fun _ => blind_when _ (blind_jumpRelative _))

theorem ignoresRepeat_execEnter (n : BitVec 16) (level : BitVec 8) : IgnoresRepeat (execEnter n level) :=
  Blind.ignoresRepeat (blind_read (fun _ _ => rfl) fun _ => blind_bind (blind_push _ _) fun _ =>
    blind_read (fun _ _ => rfl) fun _ => blind_bind (blind_when _
    (blind_bind (blind_copyDisplay _ _ _) fun _ => blind_push _ _)) fun _ => blind_bind (blind_writeReg _ _ _) fun _ =>
    blind_read (fun _ _ => rfl) fun _ => blind_setStackPtr _)

theorem ignoresRepeat_execLeave : IgnoresRepeat execLeave :=
  Blind.ignoresRepeat (blind_read (fun _ _ => rfl) fun _ => blind_bind (blind_stackRead _ _) fun _ =>
    blind_bind (blind_setStackPtr _) fun _
    => blind_writeReg _ _ _)

theorem ignoresRepeat_execInt (n : BitVec 8) : IgnoresRepeat (execInt n) :=
  Blind.ignoresRepeat (blind_bind blind_requireV86Iopl fun _ => blind_softwareInterrupt _)

theorem ignoresRepeat_execInto : IgnoresRepeat execInto :=
  Blind.ignoresRepeat (blind_read (fun _ _ => rfl) fun _ => blind_when _ (blind_softwareInterrupt _))

theorem ignoresRepeat_execBound (r : Reg) (m : Mem) : IgnoresRepeat (execBound r m) :=
  Blind.ignoresRepeat (blind_read (fun _ _ => rfl) fun _ => blind_bind (blind_readReg _ r) fun _ =>
    blind_bind (blind_effAddr m) fun _ =>
    blind_bind (blind_memRead _ _ _) fun _ => blind_bind (blind_memRead _ _ _) fun _ => blind_require _ _)

theorem ignoresRepeat_execMovCrReg (x : CReg) (r : Reg) : IgnoresRepeat (execMovCrReg x r) :=
  Blind.ignoresRepeat (blind_bind blind_requirePrivilege fun _ => blind_bind (blind_readReg _ _) fun _ => blind_bind
    (blind_writeControl _ _) fun _ => blind_undefined _)

theorem ignoresRepeat_execMovRegCr (r : Reg) (x : CReg) : IgnoresRepeat (execMovRegCr r x) :=
  Blind.ignoresRepeat (blind_bind blind_requirePrivilege fun _ => blind_read (fun _ _ => rfl) fun _ =>
    blind_bind (blind_writeReg _ r _) fun _
    => blind_undefined _)

theorem ignoresRepeat_execMovRegTr (r : Reg) (x : TReg) : IgnoresRepeat (execMovRegTr r x) :=
  Blind.ignoresRepeat (blind_bind blind_requirePrivilege fun _ => blind_read (fun _ _ => rfl) fun _ =>
    blind_bind (blind_writeReg _ r _) fun _
    => blind_undefined _)

theorem ignoresRepeat_execMovDrReg (x : DReg) (r : Reg) : IgnoresRepeat (execMovDrReg x r) :=
  Blind.ignoresRepeat (blind_bind blind_requirePrivilege fun _ => blind_bind blind_requireDebugAccess fun _ => blind_bind
    (blind_readReg _ r) fun _ => blind_bind (blind_update fun _ _ => rfl) fun _ => blind_undefined _)

theorem ignoresRepeat_execMovRegDr (r : Reg) (x : DReg) : IgnoresRepeat (execMovRegDr r x) :=
  Blind.ignoresRepeat (blind_bind blind_requirePrivilege fun _ => blind_bind blind_requireDebugAccess fun _ =>
    blind_read (fun _ _ => rfl) fun
    _ => blind_bind (blind_writeReg _ r _) fun _ => blind_undefined _)

theorem ignoresRepeat_execMovTrReg (x : TReg) (r : Reg) : IgnoresRepeat (execMovTrReg x r) :=
  Blind.ignoresRepeat (blind_bind blind_requirePrivilege fun _ => blind_bind (blind_readReg _ r) fun _ => blind_bind
    (blind_writeTest x _) fun _ => blind_undefined _)

theorem ignoresRepeat_execEsc (op sub : BitVec 3) (rm : RM) : IgnoresRepeat (execEsc op sub rm) :=
  Blind.ignoresRepeat (blind_read (fun _ _ => rfl) fun _ => blind_bind (blind_require _ _) fun _ =>
    blind_ite _ blind_waitForCoprocessor <|
    blind_bind (blind_require _ _) fun _ => blind_ite _ (blind_escFitted op sub rm) (blind_escAbsent op sub rm))

theorem ignoresRepeat_execWait : IgnoresRepeat execWait :=
  Blind.ignoresRepeat (blind_read (fun _ _ => rfl) fun _ => blind_bind (blind_require _ _) fun _ =>
    blind_ite _ blind_waitForCoprocessor
    (blind_require _ _))

theorem ignoresRepeat_execArpl (rm : RM) (r : Reg) : IgnoresRepeat (execArpl rm r) := by
  refine Blind.ignoresRepeat (blind_bind blind_requireProtected fun _ => blind_bind (blind_readReg _ _) fun _ => ?_)
  cases rm with
  | reg x => exact blind_bind (blind_readReg _ _) fun _ => blind_adjustRpl _ _ fun _ => blind_writeReg _ _ _
  | mem m =>
    exact blind_bind (blind_effAddr _) fun _ => blind_bind (blind_memRead _ _ _) fun _ => blind_adjustRpl _ _ fun _ =>
      blind_bind (blind_segSpan _ _ _ _) fun _ => blind_storeSpan _ _

theorem ignoresRepeat_execSldt (rm : RM) : IgnoresRepeat (execSldt rm) :=
  Blind.ignoresRepeat (blind_bind blind_requireProtected fun _ => blind_read (fun _ _ => rfl) fun _ =>
    blind_writeSystemWord rm _)

theorem ignoresRepeat_execStr (rm : RM) : IgnoresRepeat (execStr rm) :=
  Blind.ignoresRepeat (blind_bind blind_requireProtected fun _ => blind_read (fun _ _ => rfl) fun _ =>
    blind_writeSystemWord rm _)

theorem ignoresRepeat_execSmsw (rm : RM) : IgnoresRepeat (execSmsw rm) :=
  Blind.ignoresRepeat (blind_read (fun _ _ => rfl) fun _ => blind_writeSystemWord rm _)

theorem ignoresRepeat_execLldt (rm : RM) : IgnoresRepeat (execLldt rm) :=
  Blind.ignoresRepeat (blind_bind blind_requireProtected fun _ => blind_bind blind_requirePrivilege fun _ => blind_bind
    (blind_readRM _ rm) fun _ => blind_loadLdt _)

theorem ignoresRepeat_execLtr (rm : RM) : IgnoresRepeat (execLtr rm) :=
  Blind.ignoresRepeat (blind_bind blind_requireProtected fun _ => blind_bind blind_requirePrivilege fun _ => blind_bind
    (blind_readRM _ rm) fun _ => blind_loadTaskRegister _)

theorem ignoresRepeat_execSgdt (m : Mem) : IgnoresRepeat (execSgdt m) :=
  Blind.ignoresRepeat (blind_read (fun _ _ => rfl) fun _ => blind_writeTableReg m _)

theorem ignoresRepeat_execSidt (m : Mem) : IgnoresRepeat (execSidt m) :=
  Blind.ignoresRepeat (blind_read (fun _ _ => rfl) fun _ => blind_writeTableReg m _)

theorem ignoresRepeat_execLgdt (m : Mem) : IgnoresRepeat (execLgdt m) :=
  Blind.ignoresRepeat (blind_bind blind_requirePrivilege fun _ => blind_bind (blind_readTableReg m) fun _ => blind_update fun
    _ _ => rfl)

theorem ignoresRepeat_execLidt (m : Mem) : IgnoresRepeat (execLidt m) :=
  Blind.ignoresRepeat (blind_bind blind_requirePrivilege fun _ => blind_bind (blind_readTableReg m) fun _ => blind_update fun
    _ _ => rfl)

theorem ignoresRepeat_execClc : IgnoresRepeat execClc := Blind.ignoresRepeat (blind_updateFlags _)

theorem ignoresRepeat_execCld : IgnoresRepeat execCld := Blind.ignoresRepeat (blind_updateFlags _)

theorem ignoresRepeat_execCmc : IgnoresRepeat execCmc := Blind.ignoresRepeat (blind_updateFlags _)

theorem ignoresRepeat_execStc : IgnoresRepeat execStc := Blind.ignoresRepeat (blind_updateFlags _)

theorem ignoresRepeat_execStd : IgnoresRepeat execStd := Blind.ignoresRepeat (blind_updateFlags _)

theorem ignoresRepeat_execSahf : IgnoresRepeat execSahf := Blind.ignoresRepeat (blind_read (fun _ _ => rfl) fun _ =>
  blind_updateFlags _)

theorem ignoresRepeat_execCli : IgnoresRepeat execCli :=
  Blind.ignoresRepeat (blind_bind blind_requireIo fun _ => blind_updateFlags _)

theorem ignoresRepeat_execSti : IgnoresRepeat execSti :=
  Blind.ignoresRepeat (blind_bind blind_requireIo fun _ => blind_read (fun _ _ => rfl) fun _ =>
    blind_bind (blind_when _ (blind_update fun _ _
    => rfl)) fun _ => blind_updateFlags _)

theorem ignoresRepeat_execClts : IgnoresRepeat execClts :=
  Blind.ignoresRepeat (blind_bind blind_requirePrivilege fun _ => blind_update fun _ _ => rfl)

theorem ignoresRepeat_execLahf : IgnoresRepeat execLahf := Blind.ignoresRepeat (blind_read (fun _ _ => rfl) fun _ =>
  blind_writeReg _ _ _)

theorem ignoresRepeat_execPushf : IgnoresRepeat execPushf :=
  Blind.ignoresRepeat (blind_bind blind_requireV86Iopl fun _ => blind_read (fun _ _ => rfl) fun _ => blind_push _ _)

theorem ignoresRepeat_execPopf : IgnoresRepeat execPopf :=
  Blind.ignoresRepeat (blind_bind blind_requireV86Iopl fun _ => blind_read (fun _ _ => rfl) fun _ =>
    blind_bind (blind_pop _) fun _ =>
    blind_bind (blind_updateFlags _) fun _ => blind_when _ (blind_setEnding _))

theorem ignoresRepeat_execXlat : IgnoresRepeat execXlat :=
  Blind.ignoresRepeat (blind_read (fun _ _ => rfl) fun _ => blind_bind (blind_memRead _ _ _) fun _ => blind_writeReg _ _ _)

theorem ignoresRepeat_execHlt : IgnoresRepeat execHlt :=
  Blind.ignoresRepeat (blind_bind blind_requirePrivilege fun _ => blind_bind (blind_update fun _ _ => rfl) fun _ =>
    blind_emit _)

end Sys2Proof.Machine
end

section
/-! A repeat prefix before an instruction that is no string instruction changes nothing (spec/30_encoding.md R252). -/

namespace Sys2Proof.Machine

/-- No instruction but a string instruction looks at the repeat prefix: each row by the operations that it runs. -/
theorem ignoresRepeat_exec {i : Instr} (noString : ∀ w, i ∉ [Instr.cmps w, .ins w, .lods w, .movs w, .outs w, .scas w, .stos w])
    (noPrefix : ∀ f j, f ∈ prefixes → i ≠ f j) : IgnoresRepeat (exec i) := by
  intro k s
  cases i with
  | addRmReg d w rm r | orRmReg d w rm r | adcRmReg d w rm r | sbbRmReg d w rm r | andRmReg d w rm r
  | subRmReg d w rm r | xorRmReg d w rm r =>
    dsimp only [exec, execAddRmReg, execOrRmReg, execAdcRmReg, execSbbRmReg, execAndRmReg, execSubRmReg, execXorRmReg]
    exact (blind_aluRmReg _ d w rm r).ignoresRepeat k s
  | addRmImm sx w rm imm | orRmImm sx w rm imm | adcRmImm sx w rm imm | sbbRmImm sx w rm imm | andRmImm sx w rm imm
  | subRmImm sx w rm imm | xorRmImm sx w rm imm =>
    dsimp only [exec, execAddRmImm, execOrRmImm, execAdcRmImm, execSbbRmImm, execAndRmImm, execSubRmImm, execXorRmImm]
    exact (blind_aluRmImm _ w rm imm).ignoresRepeat k s
  | addAccImm w imm | orAccImm w imm | adcAccImm w imm | sbbAccImm w imm | andAccImm w imm | subAccImm w imm
  | xorAccImm w imm =>
    dsimp only [exec, execAddAccImm, execOrAccImm, execAdcAccImm, execSbbAccImm, execAndAccImm, execSubAccImm,
      execXorAccImm]
    exact (blind_aluAccImm _ w imm).ignoresRepeat k s
  | cmpRmReg d w rm r =>
    dsimp only [exec, execCmpRmReg]
    exact (blind_cmpRmReg d w rm r).ignoresRepeat k s
  | cmpRmImm sx w rm imm =>
    dsimp only [exec, execCmpRmImm]
    exact (blind_cmpRmImm w rm imm).ignoresRepeat k s
  | cmpAccImm w imm =>
    dsimp only [exec, execCmpAccImm]
    exact (blind_cmpAccImm w imm).ignoresRepeat k s
  | testRmReg w rm r => exact ignoresRepeat_execTestRmReg w rm r k s
  | testRmImm w rm imm => exact ignoresRepeat_execTestRmImm w rm imm k s
  | testAccImm w imm => exact ignoresRepeat_execTestAccImm w imm k s
  | notRm w rm => exact ignoresRepeat_execNotRm w rm k s
  | negRm w rm => exact ignoresRepeat_execNegRm w rm k s
  | incRm w rm => exact ignoresRepeat_execIncRm w rm k s
  | incReg r => exact ignoresRepeat_execIncReg r k s
  | decRm w rm => exact ignoresRepeat_execDecRm w rm k s
  | decReg r => exact ignoresRepeat_execDecReg r k s
  | mulRm w rm => exact ignoresRepeat_execMulRm w rm k s
  | imulRm w rm => exact ignoresRepeat_execImulRm w rm k s
  | imulRegRm r rm => exact ignoresRepeat_execImulRegRm r rm k s
  | imulRegRmImm sx r rm imm => exact ignoresRepeat_execImulRegRmImm sx r rm imm k s
  | divRm w rm => exact ignoresRepeat_execDivRm w rm k s
  | idivRm w rm => exact ignoresRepeat_execIdivRm w rm k s
  | aaa | aas =>
    dsimp only [exec, execAaa, execAas]
    exact (blind_asciiAdjust _).ignoresRepeat k s
  | daa => exact ignoresRepeat_execDaa k s
  | das => exact ignoresRepeat_execDas k s
  | aad => exact ignoresRepeat_execAad k s
  | aam => exact ignoresRepeat_execAam k s
  | cbw => exact ignoresRepeat_execCbw k s
  | cwd => exact ignoresRepeat_execCwd k s
  | movRmReg w rm r => exact ignoresRepeat_execMovRmReg w rm r k s
  | movRegRm w r rm => exact ignoresRepeat_execMovRegRm w r rm k s
  | movRmImm w rm imm => exact ignoresRepeat_execMovRmImm w rm imm k s
  | movRegImm w r imm => exact ignoresRepeat_execMovRegImm w r imm k s
  | movAccMoffs w off => exact ignoresRepeat_execMovAccMoffs w off k s
  | movMoffsAcc w off => exact ignoresRepeat_execMovMoffsAcc w off k s
  | movSegRm sg rm => exact ignoresRepeat_execMovSegRm sg rm k s
  | movRmSeg rm sg => exact ignoresRepeat_execMovRmSeg rm sg k s
  | movsx w r rm => exact ignoresRepeat_execMovsx w r rm k s
  | movzx w r rm => exact ignoresRepeat_execMovzx w r rm k s
  | pushRm rm => exact ignoresRepeat_execPushRm rm k s
  | pushReg r => exact ignoresRepeat_execPushReg r k s
  | pushImm sx imm => exact ignoresRepeat_execPushImm sx imm k s
  | pushSeg sg =>
    dsimp only [exec, execPushSeg]
    exact (blind_pushSegment sg).ignoresRepeat k s
  | pushFs | pushGs =>
    dsimp only [exec, execPushFs, execPushGs]
    exact (blind_pushSegment _).ignoresRepeat k s
  | popRm rm => exact ignoresRepeat_execPopRm rm k s
  | popReg r => exact ignoresRepeat_execPopReg r k s
  | popEs | popSs | popDs | popFs | popGs =>
    dsimp only [exec, execPopEs, execPopSs, execPopDs, execPopFs, execPopGs]
    exact (blind_popSegment _).ignoresRepeat k s
  | pusha => exact ignoresRepeat_execPusha k s
  | popa => exact ignoresRepeat_execPopa k s
  | xchgRmReg w rm r => exact ignoresRepeat_execXchgRmReg w rm r k s
  | xchgAcc r => exact ignoresRepeat_execXchgAcc r k s
  | inImm w port => exact ignoresRepeat_execInImm w port k s
  | inDx w => exact ignoresRepeat_execInDx w k s
  | outImm w port => exact ignoresRepeat_execOutImm w port k s
  | outDx w => exact ignoresRepeat_execOutDx w k s
  | lea r m => exact ignoresRepeat_execLea r m k s
  | lds r m | les r m | lfs r m | lgs r m | lss r m =>
    dsimp only [exec, execLds, execLes, execLfs, execLgs, execLss]
    exact (blind_loadFarPointer _ r m).ignoresRepeat k s
  | rolOne w rm | rorOne w rm | rclOne w rm | rcrOne w rm | shlOne w rm | shrOne w rm | sarOne w rm =>
    dsimp only [exec, execRolOne, execRorOne, execRclOne, execRcrOne, execShlOne, execShrOne, execSarOne]
    exact (blind_shiftRM _ w rm 1).ignoresRepeat k s
  | rolCl w rm => exact ignoresRepeat_execRolCl w rm k s
  | rorCl w rm => exact ignoresRepeat_execRorCl w rm k s
  | rclCl w rm => exact ignoresRepeat_execRclCl w rm k s
  | rcrCl w rm => exact ignoresRepeat_execRcrCl w rm k s
  | shlCl w rm => exact ignoresRepeat_execShlCl w rm k s
  | shrCl w rm => exact ignoresRepeat_execShrCl w rm k s
  | sarCl w rm => exact ignoresRepeat_execSarCl w rm k s
  | rolImm w rm n | rorImm w rm n | rclImm w rm n | rcrImm w rm n | shlImm w rm n | shrImm w rm n | sarImm w rm n =>
    dsimp only [exec, execRolImm, execRorImm, execRclImm, execRcrImm, execShlImm, execShrImm, execSarImm]
    exact (blind_shiftRM _ w rm n.toNat).ignoresRepeat k s
  | shldImm rm r n | shrdImm rm r n =>
    dsimp only [exec, execShldImm, execShrdImm]
    exact (blind_shiftDouble rm r n.toNat _ _).ignoresRepeat k s
  | shldCl rm r => exact ignoresRepeat_execShldCl rm r k s
  | shrdCl rm r => exact ignoresRepeat_execShrdCl rm r k s
  | bsf r rm | bsr r rm =>
    dsimp only [exec, execBsf, execBsr]
    exact (blind_bitScan r rm _).ignoresRepeat k s
  | btImm rm n =>
    dsimp only [exec, execBtImm]
    exact (blind_bitTest (blind_bitSelectImm rm n _)).ignoresRepeat k s
  | btReg rm r =>
    dsimp only [exec, execBtReg]
    exact (blind_bitTest (blind_bitSelect rm r _)).ignoresRepeat k s
  | btcImm rm n | btrImm rm n | btsImm rm n =>
    dsimp only [exec, execBtcImm, execBtrImm, execBtsImm]
    exact (blind_bitChange (blind_bitSelectImm rm n _) _).ignoresRepeat k s
  | btcReg rm r | btrReg rm r | btsReg rm r =>
    dsimp only [exec, execBtcReg, execBtrReg, execBtsReg]
    exact (blind_bitChange (blind_bitSelect rm r _) _).ignoresRepeat k s
  | jmpShort disp | jmpNear disp =>
    dsimp only [exec, execJmpShort, execJmpNear]
    exact (blind_jumpRelative _).ignoresRepeat k s
  | jmpRm rm => exact ignoresRepeat_execJmpRm rm k s
  | callRm rm => exact ignoresRepeat_execCallRm rm k s
  | callNear disp => exact ignoresRepeat_execCallNear disp k s
  | jmpFar p =>
    dsimp only [exec, execJmpFar]
    exact (blind_farJump _ _).ignoresRepeat k s
  | callFar p =>
    dsimp only [exec, execCallFar]
    exact (blind_farCall _ _).ignoresRepeat k s
  | jmpFarMem m => exact ignoresRepeat_execJmpFarMem m k s
  | callFarMem m => exact ignoresRepeat_execCallFarMem m k s
  | retNear =>
    dsimp only [exec, execRetNear]
    exact (blind_returnNear 0).ignoresRepeat k s
  | retNearImm n =>
    dsimp only [exec, execRetNearImm]
    exact (blind_returnNear n.toNat).ignoresRepeat k s
  | retFar =>
    dsimp only [exec, execRetFar]
    exact (blind_farReturn 0).ignoresRepeat k s
  | retFarImm n =>
    dsimp only [exec, execRetFarImm]
    exact (blind_farReturn n.toNat).ignoresRepeat k s
  | joShort disp | jnoShort disp | jbShort disp | jnbShort disp | jeShort disp | jneShort disp | jbeShort disp
  | jnbeShort disp | jsShort disp | jnsShort disp | jpShort disp | jnpShort disp | jlShort disp | jnlShort disp
  | jleShort disp | jnleShort disp | joNear disp | jnoNear disp | jbNear disp | jnbNear disp | jeNear disp
  | jneNear disp | jbeNear disp | jnbeNear disp | jsNear disp | jnsNear disp | jpNear disp | jnpNear disp
  | jlNear disp | jnlNear disp | jleNear disp | jnleNear disp =>
    dsimp only [exec, execJoShort, execJnoShort, execJbShort, execJnbShort, execJeShort, execJneShort, execJbeShort,
      execJnbeShort, execJsShort, execJnsShort, execJpShort, execJnpShort, execJlShort, execJnlShort, execJleShort,
      execJnleShort, execJoNear, execJnoNear, execJbNear, execJnbNear, execJeNear, execJneNear, execJbeNear,
      execJnbeNear, execJsNear, execJnsNear, execJpNear, execJnpNear, execJlNear, execJnlNear, execJleNear,
      execJnleNear]
    exact (blind_jumpIf _ _).ignoresRepeat k s
  | seto rm | setno rm | setb rm | setnb rm | sete rm | setne rm | setbe rm | setnbe rm | sets rm | setns rm | setp rm
  | setnp rm | setl rm | setnl rm | setle rm | setnle rm =>
    dsimp only [exec, execSeto, execSetno, execSetb, execSetnb, execSete, execSetne, execSetbe, execSetnbe, execSets,
      execSetns, execSetp, execSetnp, execSetl, execSetnl, execSetle, execSetnle]
    exact (blind_setByte _ rm).ignoresRepeat k s
  | jcxz disp => exact ignoresRepeat_execJcxz disp k s
  | loop disp | loopz disp | loopnz disp =>
    dsimp only [exec, execLoop, execLoopz, execLoopnz]
    exact (blind_loopWhile _ disp).ignoresRepeat k s
  | enter n level => exact ignoresRepeat_execEnter n level k s
  | leave => exact ignoresRepeat_execLeave k s
  | int n => exact ignoresRepeat_execInt n k s
  | int3 =>
    dsimp only [exec, execInt3]
    exact (blind_softwareInterrupt 3).ignoresRepeat k s
  | into => exact ignoresRepeat_execInto k s
  | bound r m => exact ignoresRepeat_execBound r m k s
  | iret =>
    dsimp only [exec, execIret]
    exact blind_interruptReturn.ignoresRepeat k s
  | movCrReg x r => exact ignoresRepeat_execMovCrReg x r k s
  | movRegCr r x => exact ignoresRepeat_execMovRegCr r x k s
  | movRegTr r x => exact ignoresRepeat_execMovRegTr r x k s
  | movDrReg x r => exact ignoresRepeat_execMovDrReg x r k s
  | movRegDr r x => exact ignoresRepeat_execMovRegDr r x k s
  | movTrReg x r => exact ignoresRepeat_execMovTrReg x r k s
  | esc op sub rm => exact ignoresRepeat_execEsc op sub rm k s
  | wait => exact ignoresRepeat_execWait k s
  | arpl rm r => exact ignoresRepeat_execArpl rm r k s
  | lar r rm | lsl r rm =>
    dsimp only [exec, execLar, execLsl]
    exact (blind_probeInto r rm _ _).ignoresRepeat k s
  | verr rm | verw rm =>
    dsimp only [exec, execVerr, execVerw]
    exact (blind_verify rm _).ignoresRepeat k s
  | sldt rm => exact ignoresRepeat_execSldt rm k s
  | str rm => exact ignoresRepeat_execStr rm k s
  | smsw rm => exact ignoresRepeat_execSmsw rm k s
  | lldt rm => exact ignoresRepeat_execLldt rm k s
  | ltr rm => exact ignoresRepeat_execLtr rm k s
  | sgdt m => exact ignoresRepeat_execSgdt m k s
  | sidt m => exact ignoresRepeat_execSidt m k s
  | lgdt m => exact ignoresRepeat_execLgdt m k s
  | lidt m => exact ignoresRepeat_execLidt m k s
  | lmsw rm =>
    dsimp only [exec, execLmsw]
    exact Blind.ignoresRepeat (blind_bind blind_requirePrivilege fun _ => blind_bind (blind_readRM _ _) fun _ =>
      blind_read (fun _ _ => rfl) fun _ => blind_setCr0 _) k s
  | clc => exact ignoresRepeat_execClc k s
  | cld => exact ignoresRepeat_execCld k s
  | cmc => exact ignoresRepeat_execCmc k s
  | stc => exact ignoresRepeat_execStc k s
  | std => exact ignoresRepeat_execStd k s
  | sahf => exact ignoresRepeat_execSahf k s
  | cli => exact ignoresRepeat_execCli k s
  | sti => exact ignoresRepeat_execSti k s
  | clts => exact ignoresRepeat_execClts k s
  | lahf => exact ignoresRepeat_execLahf k s
  | pushf => exact ignoresRepeat_execPushf k s
  | popf => exact ignoresRepeat_execPopf k s
  | xlat => exact ignoresRepeat_execXlat k s
  | nop =>
    dsimp only [exec, execNop]
    exact (blind_pure ()).ignoresRepeat k s
  | hlt => exact ignoresRepeat_execHlt k s
  | repInsF3 w | repInsF2 w | repLodsF3 w | repLodsF2 w | repMovsF3 w | repMovsF2 w | repOutsF3 w | repOutsF2 w
  | repStosF3 w | repStosF2 w | repeCmps w | repneCmps w | repeScas w | repneScas w =>
    dsimp only [exec, execRepInsF3, execRepInsF2, execRepLodsF3, execRepLodsF2, execRepMovsF3, execRepMovsF2, execRepOutsF3,
      execRepOutsF2, execRepStosF3, execRepStosF2, execRepeCmps, execRepneCmps, execRepeScas, execRepneScas]
    exact ignoresRepeat_withRep _ _ k s
  | cmps w | ins w | lods w | movs w | outs w | scas w | stos w => exact absurd (by simp) (noString w)
  | lockPrefix j | csPrefix j | dsPrefix j | esPrefix j | fsPrefix j | gsPrefix j | ssPrefix j | opSizePrefix j
  | addrSizePrefix j | repPrefix j | repnePrefix j => exact absurd rfl (noPrefix _ j (by simp [prefixes]))

/-- Behind a prefix that changes another part of the context the repeat prefix matters as little as without it. -/
theorem IgnoresRepeat.behindContext {i j : Instr} {change : State → State} (h : IgnoresRepeat (exec i))
    (runs : ∀ s, exec j s = exec i (change s)) (apart : ∀ k s, change (withRepeat k s) = withRepeat k (change s)) :
    IgnoresRepeat (exec j) := by
  intro k s
  rw [runs, runs, apart, h]

/-- Behind a repeat prefix an earlier one is no longer in effect. -/
theorem ignoresRepeat_behindRepeat {i j : Instr} {r : Rep} (runs : ∀ s, exec j s = exec i (withRepeat r s)) :
    IgnoresRepeat (exec j) := by
  intro k s
  have own : withRepeat r (withRepeat k s) = withRepeat r s := rfl
  rw [runs, runs, own]

theorem IgnoresRepeat.behindLock {i : Instr} (h : IgnoresRepeat (exec i)) : IgnoresRepeat (exec (.lockPrefix i)) := by
  intro k s
  cases allowed : lockable i with
  | true => rw [exec_lockPrefix allowed, exec_lockPrefix allowed, h]
  | false => rw [exec_lockPrefix_of_not allowed, exec_lockPrefix_of_not allowed, (blind_raise _).ignoresRepeat]

theorem IgnoresRepeat.behindPrefix {i : Instr} (h : IgnoresRepeat (exec i)) {f : Instr → Instr} (hf : f ∈ prefixes) :
    IgnoresRepeat (exec (f i)) := by
  simp only [prefixes, List.mem_cons, List.not_mem_nil, or_false] at hf
  rcases hf with rfl | rfl | rfl | rfl | rfl | rfl | rfl | rfl | rfl | rfl | rfl
  · exact h.behindLock
  · exact h.behindContext (exec_csPrefix i) fun _ _ => rfl
  · exact h.behindContext (exec_dsPrefix i) fun _ _ => rfl
  · exact h.behindContext (exec_esPrefix i) fun _ _ => rfl
  · exact h.behindContext (exec_fsPrefix i) fun _ _ => rfl
  · exact h.behindContext (exec_gsPrefix i) fun _ _ => rfl
  · exact h.behindContext (exec_ssPrefix i) fun _ _ => rfl
  · exact h.behindContext (exec_opSizePrefix i) fun _ _ => rfl
  · exact h.behindContext (exec_addrSizePrefix i) fun _ _ => rfl
  · exact ignoresRepeat_behindRepeat (exec_repPrefix i)
  · exact ignoresRepeat_behindRepeat (exec_repnePrefix i)

theorem IgnoresRepeat.behind {i : Instr} (h : IgnoresRepeat (exec i)) {l : List (Instr → Instr)}
    (hl : ∀ f, f ∈ l → f ∈ prefixes) : IgnoresRepeat (exec (Machine.behind l i)) := by
  induction l with
  | nil => exact h
  | cons f rest ih =>
    obtain ⟨first, others⟩ := List.forall_mem_cons.mp hl
    exact (ih others).behindPrefix first

/-- The prefixes in the order of the obligation, in which LOCK stands before the repeat prefixes. -/
theorem mem_prefixes {f : Instr → Instr} :
    f ∈ [Instr.csPrefix, .dsPrefix, .esPrefix, .fsPrefix, .gsPrefix, .ssPrefix, .opSizePrefix, .addrSizePrefix, .lockPrefix,
         .repPrefix, .repnePrefix] ↔ f ∈ prefixes :=
  (List.perm_middle (l₁ := [Instr.csPrefix, .dsPrefix, .esPrefix, .fsPrefix, .gsPrefix, .ssPrefix, .opSizePrefix,
    .addrSizePrefix])).mem_iff

/-- Settles O50: no computation behind the prefixes looks at the repeat prefix in effect, wherever it ends. -/
theorem repeatPrefixesAreIgnoredElsewhere : Obligations.RepeatPrefixesAreIgnoredElsewhere := by
  intro s l i onlyPrefixes noString noPrefix
  have alone : IgnoresRepeat (exec i) := ignoresRepeat_exec noString fun f j hf => noPrefix f j (mem_prefixes.mpr hf)
  have ignores : IgnoresRepeat (exec (behind l i)) := alone.behind fun f hf => mem_prefixes.mp (onlyPrefixes f hf)
  exact ⟨(exec_repPrefix _ s).trans (ignores .rep s), (exec_repnePrefix _ s).trans (ignores .repne s)⟩

end Sys2Proof.Machine
end
